-- ==== Sys2Proof/Word.lean ====
section
/-! DEFINITION. The words of the part: action times, bytes, indexes and sets. -/

namespace Sys2Proof

/-- An action time, R1: a 32-bit count of microseconds that wraps. -/
abbrev Time := BitVec 32
/-- A byte of a console link frame, of a journal record or of the EEPROM image. -/
abbrev Byte := BitVec 8
/-- A word of the sample memory (11.4). -/
abbrev SampleWord := BitVec 16

/-- A key index, 0 to 87 (Conventions). -/
abbrev KeyIx := Fin 88
/-- A pedal channel, 0 DAMPER, 1 SOSTENUTO, 2 UNA_CORDA (Conventions). -/
abbrev PedalIx := Fin 3
/-- A track of the take store (R133). -/
abbrev TrackIx := Fin 4
/-- A voice of the voice table (R89). -/
abbrev VoiceIx := Fin 48
/-- A depth reading, 0 to 1023 (Conventions). -/
abbrev Depth := Fin 1024

/-- A key set: the 88-bit value of R219, bit k set when key k is in the set. -/
abbrev KeySet := BitVec 88
/-- A condition set: the 16-bit value of R218. -/
abbrev CondSet := BitVec 16

end Sys2Proof
end

