-- ==== Sys2Proof/Syntax.lean ====
section
/-! DEFINITION. The commands of the part: one constructor for every row of spec/opcode_table.json, with the
operands the row's rule gives it. -/

namespace Sys2Proof

/-- A console link, port A or port B. -/
inductive Link where
  | a
  | b
  deriving DecidableEq, Repr

/-- A headphone jack, J1 or J2. -/
inductive JackIx where
  | j1
  | j2
  deriving DecidableEq, Repr

/-- The contacts of a jack that one event concerns; `both` is the one change of R128 in which both turn at once. -/
inductive Contacts where
  | tip
  | sleeve
  | both
  deriving DecidableEq, Repr

/-- An end switch of the rail (chapter 4): the park switch or the stop switch. -/
inductive EndSwitch where
  | park
  | stop
  deriving DecidableEq, Repr

/-- A direction of the rail: inward to the stop or outward to the park position. -/
inductive Travel where
  | inward
  | outward
  deriving DecidableEq, Repr

/-- The two straps, as the inputs stand when a reset reads them (R208). -/
structure Straps where
  /-- The link that SEAT_DEFAULT names. -/
  seatDefault : Link
  /-- HOLD_START set: start-up holds in HELD. -/
  holdStart : Bool
  deriving DecidableEq, Repr

/-- What stands on the frame board when power comes on: the straps, and the contents of the two attached memories where
they were changed while the power was off (`none`: as the part left them). -/
structure Board where
  straps : Straps
  /-- The contents of the calibration EEPROM. -/
  eeprom : Option (List Byte)
  /-- The sample memory, as pairs of a word address and the word there; every other word reads FFFFh. -/
  samples : Option (List (Nat × SampleWord))
  deriving DecidableEq, Repr

/-- The commands. `t` is the action time at which a command arrives; `l` is the link a request arrives on and `p` its
payload bytes, as clocked in. -/
inductive Instr where
  | powerOnReset (t : Time) (board : Board)
  | warmReset (t : Time) (straps : Straps)
  | calibrationLoad (t : Time)
  | loadNoAnswer (t : Time)
  | sampleHeaderCheck (t : Time)
  | startUpDecision (t : Time)
  | keyDepthReading (t : Time) (key : KeyIx) (reading : Depth)
  | pedalDepthReading (t : Time) (channel : PedalIx) (reading : Depth)
  | leverRawChange (t : Time) (silent : Bool)
  | leverDebounced (t : Time)
  | encoderEdge (t : Time) (sense : Travel)
  | indexPulse (t : Time)
  | endSwitchRawChange (t : Time) (switch : EndSwitch) (closed : Bool)
  | endSwitchDebounced (t : Time) (switch : EndSwitch)
  | quietEvent (t : Time)
  | waitingNotice (t : Time)
  | stall (t : Time)
  | timeout (t : Time)
  | envelopeStep (t : Time)
  | outputFrame (t : Time)
  | rampStep (t : Time)
  | jackContactRawChange (t : Time) (jack : JackIx) (contacts : Contacts) (closed : Bool)
  | jackContactDebounced (t : Time) (jack : JackIx) (contacts : Contacts)
  | supplyGoodAsserted (t : Time)
  | supplyGoodDropped (t : Time)
  | riseTimeout (t : Time)
  | clickBurstEnd (t : Time)
  | toneRunEnd (t : Time)
  | clockStep (t : Time)
  | locateWalkComplete (t : Time)
  | commitPageAck (t : Time)
  | commitPageTimeout (t : Time)
  | eepromReadbackDone (t : Time)
  | eepromReadbackNoAnswer (t : Time)
  | presentRawChange (t : Time) (l : Link) (asserted : Bool)
  | linkJudgedPresent (t : Time) (l : Link)
  | linkJudgedAbsent (t : Time) (l : Link)
  | selectAsserted (t : Time) (l : Link)
  | selectDeasserted (t : Time) (l : Link)
  | unknownRequest (t : Time) (l : Link) (code length : Byte) (p : List Byte)
  | poll (t : Time) (l : Link) (p : List Byte)
  | readConditions (t : Time) (l : Link) (p : List Byte)
  | ackConditions (t : Time) (l : Link) (p : List Byte)
  | forceCondition (t : Time) (l : Link) (p : List Byte)
  | setAttention (t : Time) (l : Link) (p : List Byte)
  | linkReset (t : Time) (l : Link) (p : List Byte)
  | readStatus (t : Time) (l : Link) (p : List Byte)
  | seatClaim (t : Time) (l : Link) (p : List Byte)
  | seatYield (t : Time) (l : Link) (p : List Byte)
  | seatPass (t : Time) (l : Link) (p : List Byte)
  | readJournal (t : Time) (l : Link) (p : List Byte)
  | relay (t : Time) (l : Link) (p : List Byte)
  | startRelease (t : Time) (l : Link) (p : List Byte)
  | voteSilent (t : Time) (l : Link) (p : List Byte)
  | setVolume (t : Time) (l : Link) (p : List Byte)
  | panic (t : Time) (l : Link) (p : List Byte)
  | setLayer (t : Time) (l : Link) (p : List Byte)
  | play (t : Time) (l : Link) (p : List Byte)
  | record (t : Time) (l : Link) (p : List Byte)
  | stop (t : Time) (l : Link) (p : List Byte)
  | pause (t : Time) (l : Link) (p : List Byte)
  | locate (t : Time) (l : Link) (p : List Byte)
  | setTempo (t : Time) (l : Link) (p : List Byte)
  | setScale (t : Time) (l : Link) (p : List Byte)
  | setTrackMode (t : Time) (l : Link) (p : List Byte)
  | eraseTrack (t : Time) (l : Link) (p : List Byte)
  | setLoop (t : Time) (l : Link) (p : List Byte)
  | setMetronome (t : Time) (l : Link) (p : List Byte)
  | loadBegin (t : Time) (l : Link) (p : List Byte)
  | loadAppend (t : Time) (l : Link) (p : List Byte)
  | loadEnd (t : Time) (l : Link) (p : List Byte)
  | readTake (t : Time) (l : Link) (p : List Byte)
  | readTransport (t : Time) (l : Link) (p : List Byte)
  | readKey (t : Time) (l : Link) (p : List Byte)
  | readTouch (t : Time) (l : Link) (p : List Byte)
  | readPedals (t : Time) (l : Link) (p : List Byte)
  | readRail (t : Time) (l : Link) (p : List Byte)
  | readVoices (t : Time) (l : Link) (p : List Byte)
  | readWindows (t : Time) (l : Link) (p : List Byte)
  | readStartup (t : Time) (l : Link) (p : List Byte)
  | writeKeyCal (t : Time) (l : Link) (p : List Byte)
  | writePedalCal (t : Time) (l : Link) (p : List Byte)
  | writeTouch (t : Time) (l : Link) (p : List Byte)
  | writeCurve (t : Time) (l : Link) (p : List Byte)
  | selectCurve (t : Time) (l : Link) (p : List Byte)
  | writeRailCal (t : Time) (l : Link) (p : List Byte)
  | commit (t : Time) (l : Link) (p : List Byte)
  | learnBegin (t : Time) (l : Link) (p : List Byte)
  | learnEnd (t : Time) (l : Link) (p : List Byte)
  | railRecover (t : Time) (l : Link) (p : List Byte)
  | runTest (t : Time) (l : Link) (p : List Byte)
  | stopTest (t : Time) (l : Link) (p : List Byte)
  | responseShiftedOut (t : Time) (l : Link)
  deriving DecidableEq, Repr

end Sys2Proof
end

