-- ==== Sys2Proof/Config.lean ====
section
/-! DEFINITION. The fixed numbers of the part, and its free values: the results the manual leaves open.
A free value is an opaque constant applied to a counter of State, so that nothing can be proved of it. -/

namespace Sys2Proof.Config

/-- FREE VALUE (log entry 6): a byte of an EEPROM page whose write was cut short, "in an unknown state" (R207). -/
opaque freePageByte : Nat → Byte
/-- FREE VALUE (log entry 7): the position after a tick from 2^31 - 1, which a signed 32-bit count (R136) cannot hold. -/
opaque freePosition : Nat → BitVec 32

/-- Records the journal ring holds (R169). -/
def journalSize : Nat := 512
/-- The saturation of gap counts, absent counts and passes done (R158, R175). -/
def byteMax : Nat := 255
/-- Slots of the take store's pool (R133). -/
def poolSize : Nat := 8192
/-- The voice budget (R97, R115). -/
def budget : Nat := 96
/-- The widest payload of a request or a response (R187, R188). -/
def maxPayload : Nat := 60
/-- Windows the sample header may name (R111). -/
def maxWindows : Nat := 24
/-- Words of one window entry (11.4). -/
def entryWords : Nat := 11
/-- The last word address of the sample memory (6.1). -/
def lastWord : Nat := 0xFFFFFF
/-- Bytes of the calibration image (11.5) and of one commit page (R207). -/
def imageBytes : Nat := 832
def pageBytes : Nat := 16
/-- The last page of a commit (R207). -/
def lastPage : Nat := 51

/-- Debounce times, in microseconds: mode lever (R61), end switches (R67), jack contacts (R119), PRESENT (R189). -/
def leverHold : Nat := 10000
def switchHold : Nat := 5000
def contactHold : Nat := 20000
def presentHold : Nat := 10000
/-- The start-up decision's delay (R86), the EEPROM's answer (R205, R207) and the supply's rise (R125). -/
def decisionDelay : Nat := 5000
def eepromAnswer : Nat := 20000
def supplyRise : Nat := 50000
/-- The rail's timers: stall and segment (R74), waiting notice (R71). -/
def stallTime : Nat := 40000
def segmentTime : Nat := 1500000
def waitingTime : Nat := 8000000
/-- The run of full readings that disconnects a pedal (R51). -/
def disconnectTime : Nat := 500000
/-- A time difference this large is too old (R1). -/
def tooOld : Nat := 2147483648

/-- Implausible readings in a row that fault a key (R20), readings that recover it (R21), the least usable span (R4). -/
def faultRun : Nat := 16
def recoverRun : Nat := 256
def leastSpan : Int := 200
/-- The margin of plausibility (R6). -/
def plausibleMargin : Int := 64
/-- The margin of overtravel (R75). -/
def overtravel : Int := 200
/-- The damper level above which released notes sound on (R58, R100). -/
def damperHolds : Nat := 100
/-- Pedal switch thresholds (R49). -/
def switchOn : Nat := 64
def switchOff : Nat := 48
/-- The unit of a Q15 gain: a full envelope (R89). -/
def fullEnvelope : Nat := 32767
/-- Frames of a click burst (R123) and of a tone run (R124), and the tone's amplitude. -/
def clickFrames : Nat := 576
def toneFrames : Nat := 96000
def toneAmplitude : Int := 8192
/-- The accumulator's tick and the ticks of a beat (R137). -/
def tickUnit : Nat := 125000000
def beatTicks : Nat := 480
/-- The greatest delta of a take record (R134) and the greatest position (R136). -/
def maxDelta : Nat := 65535
def maxPosition : Int := 2147483647
/-- Keys the guide wait set holds at most (R149). -/
def maxWait : Nat := 10
/-- The latched release level of a forced release (R141) and of a voice before its note-off (R89). -/
def forcedRelease : Nat := 64

end Sys2Proof.Config
end

