-- ==== Sys2Proof/Machine/Arith.lean ====
section
/-! DEFINITION. The manual's arithmetic (R1, R2): floors, clamps, differences of action times, key sets, saturating
counts, and the per-link and per-index tables. -/

namespace Sys2Proof.Machine

/-- Floor of a quotient, toward minus infinity (R2). -/
def floorDiv (a b : Int) : Int := Int.fdiv a b

/-- Clamp into lo to hi (R2). Where a loaded calibration makes the range empty, the lower bound is tested first. -/
def clamp (lo hi x : Int) : Int := if x < lo then lo else if hi < x then hi else x

/-- Clamp of a whole number that is not negative. -/
def clampNat (lo hi x : Nat) : Nat := if x < lo then lo else if hi < x then hi else x

/-- `t - t0` modulo 2^32, in microseconds (R1). -/
def elapsed (t0 t : Time) : Nat := (t - t0).toNat

/-- The action time has reached `t0` plus `d` microseconds. -/
def reached (t0 : Time) (d : Nat) (t : Time) : Bool := d ≤ elapsed t0 t

/-- An action time moved on by a whole number of microseconds, modulo 2^32 (R8). -/
def later (t : Time) (d : Int) : Time := t + BitVec.ofInt 32 d

/-- Add to a count that saturates. -/
def satAdd (most n k : Nat) : Nat := min most (n + k)

/-- A two's complement reading of the low bits of a number. -/
def signedOf (w n : Nat) : Int := (BitVec.ofNat w n).toInt

/-- The bit of a key in a key set (R219). -/
def keyBit (k : KeyIx) : KeySet := BitVec.ofNat 88 1 <<< k.val
def KeySet.has (m : KeySet) (k : KeyIx) : Bool := m.getLsbD k.val
def KeySet.add (m : KeySet) (k : KeyIx) : KeySet := m ||| keyBit k
def KeySet.drop (m : KeySet) (k : KeyIx) : KeySet := m &&& ~~~ keyBit k
/-- The keys of a set in index order. -/
def KeySet.keys (m : KeySet) : List KeyIx := (List.finRange 88).filter (fun k => KeySet.has m k)
def KeySet.count (m : KeySet) : Nat := (KeySet.keys m).length
/-- The set of the keys that satisfy a test. -/
def KeySet.ofPred (f : KeyIx → Bool) : KeySet :=
  (List.finRange 88).foldl (fun m k => if f k then KeySet.add m k else m) 0#88

/-- A key index read from a byte or a field. -/
def keyOfNat (n : Nat) : Option KeyIx := if h : n < 88 then some ⟨n, h⟩ else none
def trackOfNat (n : Nat) : Option TrackIx := if h : n < 4 then some ⟨n, h⟩ else none
def pedalOfNat (n : Nat) : Option PedalIx := if h : n < 3 then some ⟨n, h⟩ else none
def voiceOfNat (n : Nat) : Option VoiceIx := if h : n < 48 then some ⟨n, h⟩ else none

/-- Every entry of a table changed alike. -/
def tableMap {α β : Type} {n : Nat} (f : α → β) (v : Vector α n) : Vector β n :=
  ⟨⟨v.toList.map f⟩, by simp⟩

/-- A table given entry by entry. -/
def tableOf {α : Type} {n : Nat} (f : Fin n → α) : Vector α n :=
  ⟨⟨(List.finRange n).map f⟩, by simp⟩

/-- One entry of a table replaced. -/
def tablePut {α : Type} {n : Nat} (v : Vector α n) (i : Fin n) (x : α) : Vector α n := v.set i.val x i.isLt

/-- Sum of a list of whole numbers. -/
def sumNat (l : List Nat) : Nat := l.foldr (· + ·) 0

end Sys2Proof.Machine
end

