-- ==== Sys2Proof/Machine/Types.lean ====
section
/-! DEFINITION. The records of the part's blocks: the data State is made of. Where the manual says that a field is
present in certain states only, the state's constructor carries it, so that leaving the state clears it. -/

namespace Sys2Proof.Machine

/-! ### Key sense array (chapter 1) -/

/-- The stroke of a key in ONSET (R10): timed from onset or from rearm. -/
inductive Stroke where
  | fresh
  | short
  deriving DecidableEq, Repr

/-- Why a key is FAULTY (R10). -/
inductive FaultCause where
  | readings
  | span
  deriving DecidableEq, Repr

/-- The tracker states of R10, with the fields each state holds: the start crossing, the last upward rearm crossing,
the learn minimum and maximum, the fault cause. -/
inductive KeyState where
  | rest
  | onset (stroke : Stroke) (tStart : Time)
  | down
  | rearmed (tUp : Time)
  | restrike (tStart tUp : Time)
  | returning
  | learn (seen : Option (Nat × Nat))
  | faulty (cause : FaultCause)
  deriving DecidableEq, Repr

/-- The calibration of one key (R4): rest depth, bottom depth, physical dip, trim. -/
structure KeyCal where
  r : Nat
  b : Nat
  d : Nat
  g : Nat
  deriving DecidableEq, Repr

/-- A tracker record (R10). `evaluated`: its start-up evaluation reading has come (R22). -/
structure Tracker where
  state : KeyState
  last : Option (Nat × Time)
  implausible : Nat
  recovery : Nat
  pendingCal : Option KeyCal
  learnWaiting : Bool
  evaluated : Bool
  deriving DecidableEq, Repr

/-- The learn state while a learn is active (1.10). -/
structure Learn where
  lo : Nat
  hi : Nat
  link : Link
  deriving DecidableEq, Repr

/-! ### The calibration working copy (R204) -/

/-- Where a key's calibration came from (R204). -/
inductive Origin where
  | default
  | written
  | learned
  deriving DecidableEq, Repr

/-- A breakpoint of a velocity curve: speed and level (R35). -/
structure Breakpoint where
  v : Nat
  l : Nat
  deriving DecidableEq, Repr

/-- The calibration of a pedal channel (R45). -/
structure PedalCal where
  rest : Nat
  full : Nat
  deriving DecidableEq, Repr

/-- The four global fractions, the hysteresis and the quiet time in ms (R5, R42). -/
structure Touch where
  fOn : Nat
  fRel : Nat
  fRa : Nat
  fSt : Nat
  hyst : Nat
  quietMs : Nat
  deriving DecidableEq, Repr

/-- The working copy: what every block reads and COMMIT writes (R204). -/
structure WorkingCopy where
  keys : Vector KeyCal 88
  origins : Vector Origin 88
  touch : Touch
  curves : Vector (Vector Breakpoint 8) 4
  activeCurve : Nat
  pedals : Vector PedalCal 3
  cEng : Nat
  deriving DecidableEq, Repr

/-- A commit in progress (R206): the page sent last, the image formed, the count it writes, when the page was sent,
and whether the working copy changed since the commit was taken (R207). -/
structure Commit where
  page : Nat
  image : List Byte
  count : Nat
  sentAt : Time
  changed : Bool
  deriving DecidableEq, Repr

/-! ### Start-up (10.3) -/

inductive Phase where
  | loading
  | checking
  | samples
  | held
  | running
  deriving DecidableEq, Repr

inductive ResetKind where
  | powerOn
  | warm
  deriving DecidableEq, Repr

/-- The ground on which a calibration image is refused (R205). -/
inductive Ground where
  | noAnswer
  | signature
  | length
  | sum
  deriving DecidableEq, Repr

inductive CalSource where
  | stored
  | defaults (ground : Ground)
  deriving DecidableEq, Repr

inductive SamplesOutcome where
  | present (count : Nat)
  | absent
  deriving DecidableEq, Repr

inductive TakeStoreOutcome where
  | preserved
  | cleared
  deriving DecidableEq, Repr

/-! ### Pedal unit (chapter 3) -/

/-- A channel of the LIVE group (R46). -/
structure LiveChannel where
  level : Nat
  published : Nat
  switch : Bool
  connected : Bool
  atFull : Option Time
  evaluated : Bool
  deriving DecidableEq, Repr

/-- A channel of the PLAYBACK group (R53). -/
structure PlayChannel where
  level : Nat
  switch : Bool
  deriving DecidableEq, Repr

/-- The two pedal groups and note sources. -/
inductive Group where
  | live
  | playback
  deriving DecidableEq, Repr

/-! ### Rail controller (chapter 4) -/

/-- The rail's fault causes (R65). -/
inductive RailFault where
  | stall
  | timeout
  | overtravel
  | switches
  deriving DecidableEq, Repr

/-- The rail states of R65 with the fields each holds: pending-since and its waiting-notice mark, the test phase and
both test travel times in microseconds, the fault cause. -/
inductive RailState where
  | parked
  | pendingIn (since : Time) (noticed : Bool)
  | movingIn
  | pausedIn
  | engaged
  | pendingOut (since : Time) (noticed : Bool)
  | movingOut
  | pausedOut
  | homing
  | testing (phase : Travel) (tIn tOut : Nat)
  | fault (cause : RailFault)
  deriving DecidableEq, Repr

/-- The rail states by name, in the order of their codes (11.2). -/
inductive RailName where
  | parked
  | pendingIn
  | movingIn
  | pausedIn
  | engaged
  | pendingOut
  | movingOut
  | pausedOut
  | homing
  | testing
  | fault
  deriving DecidableEq, Repr

/-- The causes a RAIL record carries (R173), in the order of their codes. -/
inductive RailCause where
  | none
  | stall
  | timeout
  | overtravel
  | switches
  | waiting
  deriving DecidableEq, Repr

/-- A segment of drive (R68): its direction, its start and the latest encoder edge. -/
structure Segment where
  dir : Travel
  start : Time
  lastEdge : Time
  deriving DecidableEq, Repr

/-- The silent vote set (R61). `lever` is the debounced lever position. -/
structure Votes where
  lever : Bool
  a : Bool
  b : Bool
  deriving DecidableEq, Repr

/-- A raw input and the time since which it has held. -/
structure RawInput where
  on : Bool
  since : Time
  deriving DecidableEq, Repr

/-- The quiet record (R63). -/
structure Quiet where
  notAtRest : Nat
  start : Option Time
  quiet : Bool
  deriving DecidableEq, Repr

/-- The rail record (R65) with the end-switch and lever inputs. The motor is OFF when there is no segment. -/
structure Rail where
  state : RailState
  decided : Bool
  drive : Option Segment
  count : Int
  segCount : Option Nat
  park : Bool
  stop : Bool
  parkRaw : RawInput
  stopRaw : RawInput
  leverRaw : RawInput
  votes : Votes
  quiet : Quiet
  deriving DecidableEq, Repr

/-! ### Voice engine and sample fetch (chapters 5 and 6) -/

inductive VoiceState where
  | sounding
  | releasing
  | damping
  deriving DecidableEq, Repr

/-- Where a note comes from: the sensors, or a track of the transport. -/
inductive Source where
  | live
  | playback (track : TrackIx)
  deriving DecidableEq, Repr

/-- A voice out of FREE (R89). -/
structure Voice where
  state : VoiceState
  source : Source
  key : KeyIx
  level : Nat
  release : Nat
  held : Bool
  window : Nat
  position : Nat
  env : Nat
  start : Time
  cost : Nat
  deriving DecidableEq, Repr

/-- A window entry of the sample header (R112). -/
structure Window where
  keyLo : Nat
  keyHi : Nat
  levelLo : Nat
  levelHi : Nat
  base : Nat
  stride : Nat
  length : Nat
  loop : Option Nat
  cost : Nat
  deriving DecidableEq, Repr

/-! ### Headphone output (6.3 to 6.8) -/

inductive JackState where
  | empty
  | partly
  | seated
  deriving DecidableEq, Repr

/-- A gain ramp (R119, R121). -/
structure Ramp where
  first : Nat
  last : Nat
  total : Nat
  done : Nat
  deriving DecidableEq, Repr

/-- A jack record (R119), with its raw contacts. -/
structure Jack where
  tip : Bool
  sleeve : Bool
  tipRaw : RawInput
  sleeveRaw : RawInput
  state : JackState
  volume : Nat
  target : Nat
  gain : Nat
  ramp : Option Ramp
  enabled : Bool
  clip : Bool
  deriving DecidableEq, Repr

inductive SupplyFail where
  | riseTimeout
  | lost
  deriving DecidableEq, Repr

/-- The supply record (R125): the rise start is present in RISING, the fail cause in FAILED. -/
inductive Supply where
  | off
  | rising (start : Time)
  | good
  | failed (cause : SupplyFail)
  deriving DecidableEq, Repr

/-- The supply states by name, in the order of their codes (11.2). -/
inductive SupplyName where
  | off
  | rising
  | good
  | failed
  deriving DecidableEq, Repr

/-- A click burst (R123). -/
structure Click where
  done : Nat
  period : Nat
  amplitude : Nat
  deriving DecidableEq, Repr

/-- The samples one jack puts out in a frame (R118). -/
structure Stereo where
  left : Int
  right : Int
  deriving DecidableEq, Repr

/-! ### Transport (chapter 7) -/

/-- What a take record holds beside its delta (R134). -/
inductive TakeBody where
  | noteOn (key : KeyIx) (level : Nat)
  | noteOff (key : KeyIx) (level : Nat)
  | pedal (channel : PedalIx) (level : Nat)
  | wait
  | endMark
  deriving DecidableEq, Repr

/-- A take record (R134). -/
structure TakeRec where
  body : TakeBody
  delta : Nat
  deriving DecidableEq, Repr

inductive TrackMode where
  | play
  | mute
  | guide
  deriving DecidableEq, Repr

/-- A track: its records, its reserved slot while recorded or loaded (R133), its mode, its cursor and its open-note set
(R136). -/
structure Track where
  recs : List TakeRec
  reserved : Bool
  mode : TrackMode
  cursor : Nat
  cursorPos : Int
  opened : KeySet
  deriving DecidableEq, Repr

/-- The state a walk returns to (R147). A walk from PAUSED returns to PAUSED from PLAYING. -/
inductive WalkReturn where
  | idle
  | playing
  | paused
  deriving DecidableEq, Repr

inductive PausedFrom where
  | playing
  | waiting
  | recording
  deriving DecidableEq, Repr

/-- The transport states of R136, with the walk of LOCATING and the paused-from of PAUSED. -/
inductive TransportState where
  | idle
  | locating (target : Int) (ret : WalkReturn)
  | countIn
  | recording
  | playing
  | waiting
  | paused (source : PausedFrom)
  deriving DecidableEq, Repr

/-- The transport states by name, in the order of their codes (11.2). -/
inductive TransportName where
  | idle
  | locating
  | countIn
  | recording
  | playing
  | waiting
  | paused
  deriving DecidableEq, Repr

/-- A recording (R136): its track, its owner and the position of the last record appended. -/
structure Recording where
  track : TrackIx
  owner : Link
  lastPos : Int
  deriving DecidableEq, Repr

/-- An open load (R136). -/
structure Load where
  track : TrackIx
  link : Link
  deriving DecidableEq, Repr

/-- The loop record (R158). -/
structure Loop where
  active : Bool
  a : Int
  b : Int
  n : Nat
  passes : Nat
  deriving DecidableEq, Repr

/-- The metronome settings (R160). -/
structure Metronome where
  on : Bool
  beats : Nat
  level : Nat
  deriving DecidableEq, Repr

/-- The transport record (R136) with the take store (R133). -/
structure Transport where
  state : TransportState
  position : Int
  acc : Nat
  tempo : Nat
  scale : Nat
  recording : Option Recording
  placed : Bool
  tracks : Vector Track 4
  guideSet : KeySet
  load : Option Load
  loop : Loop
  metronome : Metronome
  deriving DecidableEq, Repr

/-! ### Service tests (10.5) -/

inductive TestKind where
  | sensorScan
  | railCycle
  | tone
  | readback
  deriving DecidableEq, Repr

/-- The run in progress (R216): the keys judged and those failing; nothing kept here for a rail cycle or a tone run,
whose blocks hold it; the image a readback compares with and when its read began. -/
inductive TestRun where
  | sensorScan (judged failing : KeySet)
  | railCycle
  | tone
  | readback (expected : List Byte) (since : Time)
  deriving DecidableEq, Repr

/-- A running service test (R214). -/
structure Test where
  continuous : Bool
  run : TestRun
  deriving DecidableEq, Repr

/-- The measurements kept of a run (R216). -/
inductive Measure where
  | none
  | scan (failing : Nat) (first : Option KeyIx)
  | travel (inMs outMs : Nat)
  | offset (byte : Nat)
  deriving DecidableEq, Repr

/-- The last result (R214). -/
structure TestResult where
  kind : TestKind
  code : Nat
  detail : Nat
  measure : Measure
  deriving DecidableEq, Repr

/-! ### Action journal (chapter 8) -/

inductive OffCause where
  | played
  | fault
  deriving DecidableEq, Repr

inductive SeatCause where
  | claim
  | yieldSeat
  | pass
  | absent
  | startUp
  deriving DecidableEq, Repr

inductive LoadAbort where
  | linkAbsent
  | poolFull
  deriving DecidableEq, Repr

/-- A journal record's kind and parameters (R171 to R174). -/
inductive JournalBody where
  | keyOn (key : KeyIx) (level : Nat) (rep voiced : Bool)
  | keyOff (key : KeyIx) (level : Nat) (cause : OffCause)
  | trackOn (track : TrackIx) (key : KeyIx) (level : Nat) (voiced : Bool)
  | trackOff (track : TrackIx) (key : KeyIx) (level : Nat)
  | pedal (group : Group) (channel : PedalIx) (level : Nat) (switch connected : Bool)
  | rail (state : RailName) (phase : Option Travel) (cause : RailCause) (votes : Votes)
  | jack (jack : JackIx) (state : JackState) (tip sleeve : Bool)
  | supply (state : SupplyName) (cause : Option SupplyFail)
  | transport (state : TransportName) (beats : Int)
  | guideWait (keys dropped : Nat)
  | guideMet
  | guideMiss (key : KeyIx) (level : Nat)
  | loop (passes n : Nat)
  | keyFault (key : KeyIx) (recovered : Bool) (cause : FaultCause)
  | calLearnDone (accepted rejected : Nat)
  | calCommitDone
  | calCommitFailed (page : Nat)
  | calDefaults (ground : Ground)
  | seat (after before : Option Link) (cause : SeatCause)
  | takeFull (track : TrackIx)
  | takeLoadAborted (track : TrackIx) (cause : LoadAbort)
  | test (kind : TestKind) (code detail : Nat)
  | relay (link : Link) (b1 b2 b3 : Byte)
  deriving DecidableEq, Repr

/-- A journal record (R170). -/
structure JournalRec where
  body : JournalBody
  time : Time
  deriving DecidableEq, Repr

/-- A link's view of the journal (R175), which is also its judged presence: a cursor, as a place in the ring counted
from the oldest record (the newest end is the ring's length), and a gap count while present; a count while absent. -/
inductive View where
  | present (cursor gap : Nat)
  | absent (count : Nat)
  deriving DecidableEq, Repr

/-! ### Link unit (chapter 9) -/

/-- The thirteen conditions, in the order of their bits (R218). -/
inductive Condition where
  | gap
  | rail
  | jack
  | supply
  | transport
  | guide
  | seat
  | take
  | cal
  | keyFault
  | test
  | startup
  | journal
  deriving DecidableEq, Repr

/-- The status codes of a response (Console link frames). -/
inductive Status where
  | ok
  | notReady
  | busy
  | noSeat
  | badCode
  | badLength
  | badValue
  | wrongState
  deriving DecidableEq, Repr

/-- The transaction record (R186): its phase, the request bytes, and the response once formed. -/
inductive Transaction where
  | idle
  | receiving (request : List Byte)
  | answering (request response : List Byte)
  | discarding
  deriving DecidableEq, Repr

/-- A link record: its select and PRESENT lines, its transaction, its journal view and its attention fields (R186, R189,
R190). The clear mode is ON_ACK when `onAck`. -/
structure LinkRec where
  select : Bool
  presentRaw : RawInput
  transaction : Transaction
  view : View
  latched : CondSet
  mask : CondSet
  onAck : Bool
  watermark : Nat
  deriving DecidableEq, Repr

/-- One value for each console link. -/
structure PerLink (α : Type) where
  a : α
  b : α
  deriving DecidableEq, Repr

/-- One value for each jack. -/
structure PerJack (α : Type) where
  j1 : α
  j2 : α
  deriving DecidableEq, Repr

/-- What the status LED shows (R213). -/
inductive Led where
  | dark
  | steady
  | code (n : Nat)
  deriving DecidableEq, Repr

end Sys2Proof.Machine
end

