-- ==== Sys2Proof/Machine/ResetValues.lean ====
section
/-! DEFINITION. The value of each block's state after either reset, and the calibration defaults. -/

namespace Sys2Proof.Machine

/-- Default key calibration (R4). -/
def defaultKeyCal : KeyCal := { r := 100, b := 900, d := 10000, g := 64 }

/-- Default fractions, hysteresis and quiet time (R5, R63). -/
def defaultTouch : Touch := { fOn := 38, fRel := 77, fRa := 128, fSt := 205, hyst := 6, quietMs := 120 }

def defaultPedalCal : PedalCal := { rest := 60, full := 960 }

/-- A curve given by its speeds and levels. -/
def curveOf (l : List (Nat × Nat)) : Vector Breakpoint 8 :=
  tableOf (fun i => { v := (l.getD i.val (0, 0)).1, l := (l.getD i.val (0, 0)).2 })

/-- The default curves LIGHT, NORMAL, HEAVY and FIXED (2.7). -/
def defaultCurveRows : List (List (Nat × Nat)) :=
  [[(0, 1), (30, 10), (90, 30), (200, 52), (380, 74), (650, 96), (1000, 116), (1500, 127)],
   [(0, 1), (40, 8), (120, 24), (250, 44), (450, 66), (750, 90), (1200, 112), (1800, 127)],
   [(0, 1), (60, 4), (180, 16), (350, 34), (600, 56), (950, 80), (1500, 104), (2400, 127)],
   [(0, 80), (500, 80), (1000, 80), (1500, 80), (2000, 80), (2500, 80), (3000, 80), (3500, 80)]]

def defaultCurve (c : Fin 4) : Vector Breakpoint 8 := curveOf (defaultCurveRows.getD c.val [])

def defaultActiveCurve : Nat := 1
def defaultCEng : Nat := 1800

/-- The working copy a refused image leaves (R205). -/
def defaultWorkingCopy : WorkingCopy :=
  { keys := Vector.replicate 88 defaultKeyCal
    origins := Vector.replicate 88 .default
    touch := defaultTouch
    curves := tableOf defaultCurve
    activeCurve := defaultActiveCurve
    pedals := Vector.replicate 3 defaultPedalCal
    cEng := defaultCEng }

/-- A tracker after either reset (R10). -/
def resetTracker : Tracker :=
  { state := .rest, last := none, implausible := 0, recovery := 0, pendingCal := none, learnWaiting := false,
    evaluated := false }

/-- A LIVE channel after either reset (R46). -/
def resetLiveChannel : LiveChannel :=
  { level := 0, published := 0, switch := false, connected := true, atFull := none, evaluated := false }

/-- A PLAYBACK channel after either reset (R53). -/
def resetPlayChannel : PlayChannel := { level := 0, switch := false }

/-- A raw input keeps its level through a reset, and its debounce runs from the reset (R61, R85, R119, R189). -/
def RawInput.from (i : RawInput) (t : Time) : RawInput := { on := i.on, since := t }

/-- The quiet record after either reset (R63). -/
def resetQuiet : Quiet := { notAtRest := 0, start := none, quiet := false }

/-- The rail record after either reset (R61, R65, R85), with its raw inputs as they stand. -/
def resetRail (r : Rail) (t : Time) : Rail :=
  { state := .homing, decided := false, drive := none, count := 0, segCount := none, park := false, stop := false,
    parkRaw := r.parkRaw.from t, stopRaw := r.stopRaw.from t, leverRaw := r.leverRaw.from t,
    votes := { lever := false, a := false, b := false }, quiet := resetQuiet }

/-- The velocity gain of a level, and the gain of a volume (R116, R119): floor(x^2 * 32767 / 16129). -/
def squareGain (x : Nat) : Nat := x * x * 32767 / 16129

/-- A jack after either reset (R119), with its raw contacts as they stand. -/
def resetJack (j : Jack) (t : Time) : Jack :=
  { tip := false, sleeve := false, tipRaw := j.tipRaw.from t, sleeveRaw := j.sleeveRaw.from t, state := .empty,
    volume := 80, target := squareGain 80, gain := 0, ramp := none, enabled := false, clip := false }

/-- An empty track is its END alone (R133). -/
def endOnly (delta : Nat) : List TakeRec := [{ body := .endMark, delta := delta }]

/-- A track after power-on reset (R133, R136). -/
def resetTrack : Track :=
  { recs := endOnly 0, reserved := false, mode := .play, cursor := 0, cursorPos := 0, opened := 0#88 }

def resetLoop : Loop := { active := false, a := 0, b := 0, n := 0, passes := 0 }
def resetMetronome : Metronome := { on := false, beats := 4, level := 64 }

/-- The transport after power-on reset (R136, R158, R160), over given tracks. -/
def resetTransport (tracks : Vector Track 4) : Transport :=
  { state := .idle, position := 0, acc := 0, tempo := 1200, scale := 100, recording := none, placed := true,
    tracks := tracks, guideSet := 0#88, load := none, loop := resetLoop, metronome := resetMetronome }

/-- The mask after reset: {STARTUP, JOURNAL} (R190). -/
def defaultMask : CondSet := 0x1800#16

/-- A link record after either reset (R175, R186, R190), with its lines as they stand. -/
def resetLink (l : LinkRec) (t : Time) : LinkRec :=
  { select := l.select, presentRaw := l.presentRaw.from t,
    transaction := if l.select then .discarding else .idle,
    view := .absent 0, latched := 0#16, mask := defaultMask, onAck := true, watermark := 1 }

end Sys2Proof.Machine
end

