-- ==== Sys2Proof/Machine/State.lean ====
section
/-! DEFINITION. The state of the part, the reasons a step can stop, and the state right after power-on reset. -/

namespace Sys2Proof.Machine

/-- The reasons a command stops with a fault. -/
inductive Fault where
  /-- Raised by OUTPUT_FRAME when a voice's sample word has no address: its window index names no window, or the word
  lies beyond FFFFFFh, the end of the sample memory (6.1, R114). No run from reset reaches it, since R112 keeps every
  sample inside the memory. Safe: the machine stops where the manual gives no word. -/
  | sampleAddress
  deriving DecidableEq, Repr

/-- The reasons a command is refused. -/
inductive Refusal where
  /-- Raised by the dispatch of a command that has no meaning yet, with its mnemonic. Safe: the machine stops. -/
  | notModelled (mnemonic : String)
  deriving DecidableEq, Repr

/-- Start-up: the phase and when it began, the straps as read at the reset (R208), and the start-up result (R211).
`foundFaulty`: the keys the evaluation has made FAULTY so far, which the report of R22 makes the list. -/
structure StartUp where
  phase : Phase
  phaseSince : Time
  straps : Straps
  resetKind : ResetKind
  calSource : Option CalSource
  foundFaulty : KeySet
  faultyKeys : Option KeySet
  disconnected : Option (List PedalIx)
  railOutcome : Option (RailName × RailCause)
  samples : Option SamplesOutcome
  takeStore : TakeStoreOutcome
  deriving DecidableEq, Repr

/-- The whole state of the part (the blocks' table of 00_scope.md). -/
structure State where
  /-- The action time of the latest command (R1). -/
  now : Time
  /-- Key sense array: the trackers (R10) and the learn state (1.10). -/
  keys : Vector Tracker 88
  learn : Option Learn
  /-- Calibration store: working copy, commit count and saved mark (R204), EEPROM image, commit (R206). -/
  cal : WorkingCopy
  commitCount : Nat
  saved : Bool
  eeprom : List Byte
  commit : Option Commit
  /-- A commit has ended as done since the reset (R213). -/
  committed : Bool
  startUp : StartUp
  /-- Service tests (R214). -/
  test : Option Test
  runs : Nat
  lastResult : Option TestResult
  /-- Pedal unit: both groups and both capture sets (chapter 3). -/
  live : Vector LiveChannel 3
  play : Vector PlayChannel 3
  liveCapture : KeySet
  playCapture : KeySet
  /-- Rail controller (chapter 4). -/
  rail : Rail
  /-- Voice engine: the voice table, `none` for a FREE voice, and the layer setting (chapter 5). -/
  voices : Vector (Option Voice) 48
  layer : Bool
  /-- Sample fetch: the window table (R113) and the attached memory's words. -/
  windows : List Window
  sampleMem : List (Nat × SampleWord)
  /-- Headphone output (chapter 6). -/
  jacks : PerJack Jack
  supply : Supply
  supplyGood : Bool
  click : Option Click
  tone : Option Nat
  output : PerJack Stereo
  /-- Transport (chapter 7). -/
  transport : Transport
  /-- Action journal: the ring, oldest record first (R169). -/
  journal : List JournalRec
  /-- Link unit: the link records and the seat (chapter 9). -/
  links : PerLink LinkRec
  seat : Option Link
  /-- Status LED: what it shows and since when (R213). -/
  led : Led
  ledSince : Time
  /-- The model's own: how many free values have been drawn (log entries 6 and 7). -/
  drawn : Nat
  /-- The model's own: the commands that are waiting, first in first out. -/
  pending : List Instr
  deriving DecidableEq, Repr

/-- What a command answers. -/
abbrev Result := Host.Outcome State Fault Refusal

/-- A raw input at its inactive level (log entry 4). -/
def rawOff : RawInput := { on := false, since := 0#32 }

/-- The part right after power-on reset at action time 0 (R212), with its inputs inactive, HOLD_START clear, an erased
EEPROM and no sample memory attached (log entries 4 and 5). -/
def State.reset : State :=
  { now := 0#32
    keys := Vector.replicate 88 resetTracker
    learn := none
    cal := defaultWorkingCopy
    commitCount := 0
    saved := false
    eeprom := List.replicate Config.imageBytes 0xFF#8
    commit := none
    committed := false
    startUp :=
      { phase := .loading, phaseSince := 0#32, straps := { seatDefault := .a, holdStart := false },
        resetKind := .powerOn, calSource := none, foundFaulty := 0#88, faultyKeys := none, disconnected := none,
        railOutcome := none, samples := none, takeStore := .cleared }
    test := none
    runs := 0
    lastResult := none
    live := Vector.replicate 3 resetLiveChannel
    play := Vector.replicate 3 resetPlayChannel
    liveCapture := 0#88
    playCapture := 0#88
    rail :=
      { state := .homing, decided := false, drive := none, count := 0, segCount := none, park := false, stop := false,
        parkRaw := rawOff, stopRaw := rawOff, leverRaw := rawOff,
        votes := { lever := false, a := false, b := false }, quiet := resetQuiet }
    voices := Vector.replicate 48 none
    layer := false
    windows := []
    sampleMem := []
    jacks :=
      let j : Jack :=
        { tip := false, sleeve := false, tipRaw := rawOff, sleeveRaw := rawOff, state := .empty, volume := 80,
          target := squareGain 80, gain := 0, ramp := none, enabled := false, clip := false }
      { j1 := j, j2 := j }
    supply := .off
    supplyGood := false
    click := none
    tone := none
    output := { j1 := { left := 0, right := 0 }, j2 := { left := 0, right := 0 } }
    transport := resetTransport (Vector.replicate 4 resetTrack)
    journal := []
    links :=
      let l : LinkRec :=
        { select := false, presentRaw := rawOff, transaction := .idle, view := .absent 0, latched := 0#16,
          mask := defaultMask, onAck := true, watermark := 1 }
      { a := l, b := l }
    seat := none
    led := .dark
    ledSince := 0#32
    drawn := 0
    pending := [] }

end Sys2Proof.Machine
end

