-- ==== Sys2Proof/Machine/Ops.lean ====
section
/-! DEFINITION. The named operations on the part's records: links, tables, memories, the action journal. -/

namespace Sys2Proof.Machine

/-! ### Time and the two-valued tables -/

/-- A command arrives: the action time becomes its time. -/
def State.stamp (s : State) (t : Time) : State := { s with now := t }

def PerLink.get {α : Type} (p : PerLink α) (l : Link) : α :=
  match l with
  | .a => p.a
  | .b => p.b

def PerLink.put {α : Type} (p : PerLink α) (l : Link) (x : α) : PerLink α :=
  match l with
  | .a => { p with a := x }
  | .b => { p with b := x }

def PerLink.map {α : Type} (f : α → α) (p : PerLink α) : PerLink α := { a := f p.a, b := f p.b }

def PerJack.get {α : Type} (p : PerJack α) (j : JackIx) : α :=
  match j with
  | .j1 => p.j1
  | .j2 => p.j2

def PerJack.put {α : Type} (p : PerJack α) (j : JackIx) (x : α) : PerJack α :=
  match j with
  | .j1 => { p with j1 := x }
  | .j2 => { p with j2 := x }

def PerJack.map {α : Type} (f : α → α) (p : PerJack α) : PerJack α := { j1 := f p.j1, j2 := f p.j2 }

def otherLink (l : Link) : Link :=
  match l with
  | .a => .b
  | .b => .a

def State.link (s : State) (l : Link) : LinkRec := s.links.get l
def State.setLink (s : State) (l : Link) (r : LinkRec) : State := { s with links := s.links.put l r }

def View.isPresent : View → Bool
  | .present _ _ => true
  | .absent _ => false

/-- The link is judged present (R189). -/
def State.linkPresent (s : State) (l : Link) : Bool := (s.link l).view.isPresent

/-- The requesting link holds the seat (R198). -/
def State.holds (s : State) (l : Link) : Bool := s.seat == some l

/-! ### Trackers and the working copy -/

def State.key (s : State) (k : KeyIx) : Tracker := s.keys[k]
def State.setKey (s : State) (k : KeyIx) (x : Tracker) : State := { s with keys := tablePut s.keys k x }

/-- The active calibration of a key (R4). -/
def State.keyCal (s : State) (k : KeyIx) : KeyCal := s.cal.keys[k]

/-- The working copy changes: the saved mark becomes UNSAVED, and a commit in progress knows of it (R204, R207). -/
def State.calChanged (s : State) : State :=
  { s with saved := false, commit := s.commit.map (fun c => { c with changed := true }) }

/-- A key's active calibration and origin are replaced (R24, R25, R28). -/
def State.setKeyCal (s : State) (k : KeyIx) (c : KeyCal) (o : Origin) : State :=
  { s with cal := { s.cal with keys := tablePut s.cal.keys k c, origins := tablePut s.cal.origins k o } }

/-- A key is at rest in REST and in FAULTY (R19). -/
def KeyState.atRest : KeyState → Bool
  | .rest => true
  | .faulty _ => true
  | _ => false

/-- A key's note is on in DOWN, REARMED and RESTRIKE (1.5). -/
def KeyState.noteOn : KeyState → Bool
  | .down => true
  | .rearmed _ => true
  | .restrike _ _ => true
  | _ => false

/-! ### Free values -/

/-- A free value is drawn: the counter moves on. -/
def State.draw (s : State) (n : Nat) : State := { s with drawn := s.drawn + n }

/-! ### The sample memory (6.1, 11.4): words at 24-bit addresses, an unlisted word reading FFFFh (R221) -/

/-- What a word that is not listed reads as: the FFFFh of a missing memory (R221). -/
def unlistedWord : SampleWord := 0xFFFF#16

/-- The canonical form: addresses strictly rising and within the memory, no entry equal to an unlisted word. -/
def Memory.wf : List (Nat × SampleWord) → Bool
  | [] => true
  | [(a, w)] => a ≤ Config.lastWord && w != unlistedWord
  | (a, w) :: (b, v) :: rest => decide (a < b) && w != unlistedWord && Memory.wf ((b, v) :: rest)

/-- The word at an address. -/
def Memory.read : List (Nat × SampleWord) → Nat → SampleWord
  | [], _ => unlistedWord
  | (b, w) :: rest, a => if a = b then w else Memory.read rest a

/-- An entry placed before the listed ones it precedes, or left out where it equals an unlisted word. -/
def Memory.cons (a : Nat) (w : SampleWord) (rest : List (Nat × SampleWord)) : List (Nat × SampleWord) :=
  if w = unlistedWord then rest else (a, w) :: rest

/-- A word written at an address, keeping the canonical form. -/
def Memory.write : List (Nat × SampleWord) → Nat → SampleWord → List (Nat × SampleWord)
  | [], a, w => Memory.cons a w []
  | (b, v) :: rest, a, w =>
    if a < b then Memory.cons a w ((b, v) :: rest)
    else if a = b then Memory.cons a w rest
    else (b, v) :: Memory.write rest a w

/-- The memory that a list of writes makes, in order; addresses beyond the memory are not there to be written. -/
def Memory.ofWords (ws : List (Nat × SampleWord)) : List (Nat × SampleWord) :=
  ws.foldl (fun m x => if x.1 ≤ Config.lastWord then Memory.write m x.1 x.2 else m) []

/-! ### The EEPROM image (11.5) -/

/-- An image of exactly 832 bytes: cut short, or filled with the FFh of erased bytes. -/
def fitImage (bytes : List Byte) : List Byte :=
  (bytes ++ List.replicate Config.imageBytes 0xFF#8).take Config.imageBytes

/-- Page p of an image: bytes 16p to 16p + 15 (11.5). -/
def pageOf (image : List Byte) (page : Nat) : List Byte :=
  (image.drop (Config.pageBytes * page)).take Config.pageBytes

/-- An image with one page replaced. -/
def putPage (image : List Byte) (page : Nat) (bytes : List Byte) : List Byte :=
  image.take (Config.pageBytes * page) ++ bytes ++ image.drop (Config.pageBytes * (page + 1))

/-- A page whose write was cut short: its bytes are in an unknown state (R207), each a free value. -/
def State.spoilPage (s : State) (page : Nat) : State :=
  { s with
    eeprom := putPage s.eeprom page
      ((List.range Config.pageBytes).map (fun i => Config.freePageByte (s.drawn + i)))
    drawn := s.drawn + Config.pageBytes }

/-! ### The action journal (chapter 8) -/

/-- A link's unread count (R175). -/
def unreadOf (ring : Nat) : View → Nat
  | .present cursor _ => ring - cursor
  | .absent _ => 0

def State.unread (s : State) (l : Link) : Nat := unreadOf s.journal.length (s.link l).view

/-- The gap count of a present link (R175). -/
def View.gapCount : View → Nat
  | .present _ gap => gap
  | .absent _ => 0

/-- Step 1 of R176 on one link: the oldest record leaves a full ring. -/
def View.loseOldest : View → View
  | .present 0 gap => .present 0 (satAdd Config.byteMax gap 1)
  | .present (c + 1) gap => .present c gap
  | .absent n => .absent n

/-- The link's cursor stands on the oldest record, which the overflow takes from it (R176). -/
def View.losesRecord : View → Bool
  | .present 0 _ => true
  | _ => false

/-- Step 3 of R176 on one link. -/
def View.countAbsent : View → View
  | .absent n => .absent (satAdd Config.byteMax n 1)
  | v => v

/-- The bit of a condition in a condition set (R218). -/
def Condition.bit : Condition → Nat
  | .gap => 0
  | .rail => 1
  | .jack => 2
  | .supply => 3
  | .transport => 4
  | .guide => 5
  | .seat => 6
  | .take => 7
  | .cal => 8
  | .keyFault => 9
  | .test => 10
  | .startup => 11
  | .journal => 12

def Condition.mask (c : Condition) : CondSet := BitVec.ofNat 16 1 <<< c.bit

/-- A latched condition is raised on a link record; one already set stays set (R190). -/
def LinkRec.raise (r : LinkRec) (c : Condition) : LinkRec := { r with latched := r.latched ||| c.mask }

/-- Raised on both links, present or absent (R190). -/
def State.raise (s : State) (c : Condition) : State := { s with links := s.links.map (fun r => r.raise c) }

/-- Raised on one link alone. -/
def State.raiseOn (s : State) (l : Link) (c : Condition) : State := s.setLink l ((s.link l).raise c)

/-- A link record when a full ring loses its oldest record: GAP is raised on a link that had not read it (R176). -/
def LinkRec.loseOldest (r : LinkRec) : LinkRec :=
  let r' := if r.view.losesRecord then r.raise .gap else r
  { r' with view := r.view.loseOldest }

/-- A link record when a record is appended. -/
def LinkRec.onAppend (full : Bool) (r : LinkRec) : LinkRec :=
  let r' := if full then r.loseOldest else r
  { r' with view := r'.view.countAbsent }

/-- Append one record to the journal (R169, R176). -/
def State.append (s : State) (body : JournalBody) (time : Time) : State :=
  let full := decide (Config.journalSize ≤ s.journal.length)
  { s with
    journal := (if full then s.journal.tail else s.journal) ++ [{ body := body, time := time }]
    links := s.links.map (LinkRec.onAppend full) }

/-- The oldest cursor of the present links (R177). -/
def State.oldestCursor (s : State) : Option Nat :=
  match s.links.a.view, s.links.b.view with
  | .present c _, .present d _ => some (min c d)
  | .present c _, .absent _ => some c
  | .absent _, .present d _ => some d
  | .absent _, .absent _ => none

def View.back (n : Nat) : View → View
  | .present c gap => .present (c - n) gap
  | .absent k => .absent k

/-- Removal is judged (R177): the records every present link has read leave the ring. -/
def State.judgeRemoval (s : State) : State :=
  match s.oldestCursor with
  | none => s
  | some n =>
    { s with
      journal := s.journal.drop n
      links := s.links.map (fun r => { r with view := r.view.back n }) }

/-- A link's view is replaced. -/
def State.setView (s : State) (l : Link) (v : View) : State := s.setLink l { s.link l with view := v }

end Sys2Proof.Machine
end

