-- ==== Sys2Proof/Machine/Operands.lean ====
section
/-! DEFINITION. The operand forms of chapter 11: how payload bytes are read (R218) and how the fields of a response are
sent (R219). The choices that R219 leaves to be inferred are log entry 15. -/

namespace Sys2Proof.Machine

/-! ### Reading a payload (R218): most significant byte first -/

def byteAt (p : List Byte) (i : Nat) : Nat := (p.getD i 0#8).toNat
def be2At (p : List Byte) (i : Nat) : Nat := byteAt p i * 256 + byteAt p (i + 1)
def be4At (p : List Byte) (i : Nat) : Nat := be2At p i * 65536 + be2At p (i + 2)
def signed4At (p : List Byte) (i : Nat) : Int := signedOf 32 (be4At p i)
/-- A 32-bit point read from its low 31 bits (R218). -/
def pointAt (p : List Byte) (i : Nat) : Int := (be4At p i % 2147483648 : Nat)
/-- A condition set (R218). -/
def condsAt (p : List Byte) (i : Nat) : CondSet := BitVec.ofNat 16 (be2At p i)

/-- A set that names a position holding no condition: a bit of 13 to 15 (R218). -/
def CondSet.named (c : CondSet) : Bool := (c &&& 0xE000#16) == 0#16
/-- A set that names JOURNAL. -/
def CondSet.namesJournal (c : CondSet) : Bool := c.getLsbD 12
/-- The latched conditions of a set: all but JOURNAL. -/
def CondSet.latchedPart (c : CondSet) : CondSet := c &&& 0x0FFF#16

/-! ### Sending fields (R219) -/

def byteOf (n : Nat) : Byte := BitVec.ofNat 8 n
def u1 (n : Nat) : List Byte := [byteOf n]
def u2 (n : Nat) : List Byte := [byteOf (n / 256), byteOf n]
def u4 (n : Nat) : List Byte := [byteOf (n / 16777216), byteOf (n / 65536), byteOf (n / 256), byteOf n]
/-- Two's complement fields (R218). -/
def s2 (x : Int) : List Byte := u2 (BitVec.ofInt 16 x).toNat
def s4 (x : Int) : List Byte := u4 (BitVec.ofInt 32 x).toNat
def timeField (t : Time) : List Byte := u4 t.toNat
/-- A yes or no value: 1 for yes. -/
def yesNo (b : Bool) : List Byte := u1 (if b then 1 else 0)
/-- An optional field of a given width: a presence byte, then the field, all zero when absent. -/
def optional (width : Nat) : Option (List Byte) → List Byte
  | some f => 1#8 :: f
  | none => 0#8 :: List.replicate width 0#8
/-- A key set: 11 bytes, most significant first. -/
def keySetField (m : KeySet) : List Byte :=
  (List.range 11).map (fun i => BitVec.ofNat 8 (m.toNat / 256 ^ (10 - i)))
def condSetField (c : CondSet) : List Byte := u2 c.toNat

/-! ### Named values and their codes -/

def Status.code : Status → Nat
  | .ok => 0
  | .notReady => 1
  | .busy => 2
  | .noSeat => 3
  | .badCode => 4
  | .badLength => 5
  | .badValue => 6
  | .wrongState => 7

/-- A link in a field: the holder codes 1 A and 2 B, with 0 NONE (11.2). -/
def linkCode : Link → Nat
  | .a => 1
  | .b => 2
def holderCode : Option Link → Nat
  | none => 0
  | some l => linkCode l

def travelCode : Travel → Nat
  | .inward => 0
  | .outward => 1

def RailName.code : RailName → Nat
  | .parked => 0
  | .pendingIn => 1
  | .movingIn => 2
  | .pausedIn => 3
  | .engaged => 4
  | .pendingOut => 5
  | .movingOut => 6
  | .pausedOut => 7
  | .homing => 8
  | .testing => 9
  | .fault => 10

def RailCause.code : RailCause → Nat
  | .none => 0
  | .stall => 1
  | .timeout => 2
  | .overtravel => 3
  | .switches => 4
  | .waiting => 5

def TransportName.code : TransportName → Nat
  | .idle => 0
  | .locating => 1
  | .countIn => 2
  | .recording => 3
  | .playing => 4
  | .waiting => 5
  | .paused => 6

def SupplyName.code : SupplyName → Nat
  | .off => 0
  | .rising => 1
  | .good => 2
  | .failed => 3

def SupplyFail.code : SupplyFail → Nat
  | .riseTimeout => 1
  | .lost => 2

def JackState.code : JackState → Nat
  | .empty => 0
  | .partly => 1
  | .seated => 2

def jackCode : JackIx → Nat
  | .j1 => 0
  | .j2 => 1

def TestKind.code : TestKind → Nat
  | .sensorScan => 0
  | .railCycle => 1
  | .tone => 2
  | .readback => 3

def TrackMode.code : TrackMode → Nat
  | .play => 0
  | .mute => 1
  | .guide => 2

def Phase.code : Phase → Nat
  | .loading => 0
  | .checking => 1
  | .samples => 2
  | .held => 3
  | .running => 4

def Ground.code : Ground → Nat
  | .noAnswer => 0
  | .signature => 1
  | .length => 2
  | .sum => 3

def FaultCause.code : FaultCause → Nat
  | .readings => 0
  | .span => 1

def SeatCause.code : SeatCause → Nat
  | .claim => 0
  | .yieldSeat => 1
  | .pass => 2
  | .absent => 3
  | .startUp => 4

def Stroke.code : Stroke → Nat
  | .fresh => 0
  | .short => 1

/-- The key tracker states by their place in R10's list. -/
def KeyState.code : KeyState → Nat
  | .rest => 0
  | .onset _ _ => 1
  | .down => 2
  | .rearmed _ => 3
  | .restrike _ _ => 4
  | .returning => 5
  | .learn _ => 6
  | .faulty _ => 7

def Origin.code : Origin → Nat
  | .default => 0
  | .written => 1
  | .learned => 2

/-- A vote set: bit 0 LEVER, bit 1 A, bit 2 B (11.2). -/
def Votes.code (v : Votes) : Nat :=
  (if v.lever then 1 else 0) + (if v.a then 2 else 0) + (if v.b then 4 else 0)

/-- The vote set is nonempty: someone asks for silent play (R61). -/
def Votes.any (v : Votes) : Bool := v.lever || v.a || v.b

def RailState.name : RailState → RailName
  | .parked => .parked
  | .pendingIn _ _ => .pendingIn
  | .movingIn => .movingIn
  | .pausedIn => .pausedIn
  | .engaged => .engaged
  | .pendingOut _ _ => .pendingOut
  | .movingOut => .movingOut
  | .pausedOut => .pausedOut
  | .homing => .homing
  | .testing _ _ _ => .testing
  | .fault _ => .fault

def RailFault.cause : RailFault → RailCause
  | .stall => .stall
  | .timeout => .timeout
  | .overtravel => .overtravel
  | .switches => .switches

/-- The fault cause of R65: NONE out of FAULT. -/
def RailState.cause : RailState → RailCause
  | .fault c => c.cause
  | _ => .none

/-- The test phase, present in TESTING. -/
def RailState.testPhase : RailState → Option Travel
  | .testing p _ _ => some p
  | _ => none

/-- The motor: OFF, INWARD or OUTWARD (R65). -/
def Rail.motor (r : Rail) : Option Travel := r.drive.map (fun g => g.dir)

/-- The target, the end sought (R65): `inward` for STOP, `outward` for PARK. -/
def Rail.target (r : Rail) : Option Travel :=
  match r.state with
  | .pendingIn _ _ => some .inward
  | .movingIn => some .inward
  | .pausedIn => some .inward
  | .pendingOut _ _ => some .outward
  | .movingOut => some .outward
  | .pausedOut => some .outward
  | .homing => if r.decided then some .outward else none
  | .testing p _ _ => some p
  | .parked => none
  | .engaged => none
  | .fault _ => none

def TransportState.name : TransportState → TransportName
  | .idle => .idle
  | .locating _ _ => .locating
  | .countIn => .countIn
  | .recording => .recording
  | .playing => .playing
  | .waiting => .waiting
  | .paused _ => .paused

/-- Paused-from, coded as the transport state it names (11.2). -/
def PausedFrom.code : PausedFrom → Nat
  | .playing => 4
  | .waiting => 5
  | .recording => 3

def Supply.name : Supply → SupplyName
  | .off => .off
  | .rising _ => .rising
  | .good => .good
  | .failed _ => .failed

def Supply.fail : Supply → Option SupplyFail
  | .failed c => some c
  | _ => none

/-- A transport mode, test, test mode, jack selection or ON and OFF value given by its code. -/
def modeOfCode : Nat → Option TrackMode
  | 0 => some .play
  | 1 => some .mute
  | 2 => some .guide
  | _ => none

def testOfCode : Nat → Option TestKind
  | 0 => some .sensorScan
  | 1 => some .railCycle
  | 2 => some .tone
  | 3 => some .readback
  | _ => none

/-- A two-valued code: 0 no, OFF or SINGLE; 1 yes, ON or CONTINUOUS; any other is not assigned. -/
def flagOfCode : Nat → Option Bool
  | 0 => some false
  | 1 => some true
  | _ => none

/-- The jacks of a selection: J1, J2 or BOTH (R218). -/
def jacksOfCode : Nat → Option (List JackIx)
  | 0 => some [.j1]
  | 1 => some [.j2]
  | 2 => some [.j1, .j2]
  | _ => none

end Sys2Proof.Machine
end

