-- ==== Sys2Proof/Machine/Flags.lean ====
section
/-! DEFINITION. What is judged from the state: silent effective and the live route, the JOURNAL condition and ATTN, the
POLL status byte, the status LED, and the records that raise a condition as they are appended. -/

namespace Sys2Proof.Machine

/-- Silent effective (R82): ENGAGED, or FAULT with the stop switch MADE. -/
def State.silentEffective (s : State) : Bool :=
  match s.rail.state with
  | .engaged => true
  | .fault _ => s.rail.stop
  | _ => false

/-- The live route is open (R91). -/
def State.liveRoute (s : State) : Bool := s.silentEffective || s.layer

/-- The JOURNAL condition of a link (R184). -/
def State.journalCondition (s : State) (l : Link) : Bool :=
  s.linkPresent l && decide ((s.link l).watermark ≤ s.unread l)

/-- The ATTN line of a link is driven low (R191). -/
def State.attn (s : State) (l : Link) : Bool :=
  ((s.link l).latched &&& (s.link l).mask) != 0#16 || ((s.link l).mask.getLsbD 12 && s.journalCondition l)

/-- The part is in RUNNING. -/
def State.running (s : State) : Bool := s.startUp.phase == .running

/-- The part is in HELD or RUNNING: the phases in which calibration writes and votes are taken (R210). -/
def State.heldOrRunning (s : State) : Bool := s.startUp.phase == .held || s.startUp.phase == .running

/-- The rail summary of POLL (R82, 11.1). -/
def railSummary : RailState → Nat
  | .parked => 0
  | .engaged => 1
  | .fault _ => 3
  | _ => 2

/-- The transport summary of POLL (R196). -/
def transportSummary : TransportState → Nat
  | .idle => 0
  | .waiting => 2
  | .paused _ => 3
  | _ => 1

/-- The POLL status byte (R196, 11.1). -/
def State.statusByte (s : State) (l : Link) : Nat :=
  (if s.attn l then 1 else 0) + (if s.holds l then 2 else 0) + 4 * railSummary s.rail.state +
    16 * transportSummary s.transport.state + (if s.unread l = 0 then 0 else 64) + (if s.running then 128 else 0)

/-- The codes of the status LED that apply, lowest first (R213). -/
def State.ledCodes (s : State) : List Nat :=
  (match s.startUp.calSource with
    | some (.defaults _) => if s.committed then [] else [1]
    | _ => []) ++
  (match s.rail.state with
    | .fault _ => [2]
    | _ => []) ++
  (if s.startUp.samples = some .absent then [3] else []) ++
  (match s.supply with
    | .failed _ => [4]
    | _ => [])

/-- What the status LED is to show (R213). -/
def State.ledShows (s : State) : Led :=
  match s.ledCodes with
  | n :: _ => .code n
  | [] => if s.running then .steady else .dark

/-- The LED is judged: a change of what it shows starts the new pattern at once (R213). -/
def State.judgeLed (s : State) : State :=
  if s.ledShows = s.led then s else { s with led := s.ledShows, ledSince := s.now }

/-- The LED is lit at an action time: n flashes of 200 ms on and 200 ms off, then 1 s off, repeated (R213). The
pattern's place is the difference modulo 2^32 from its start, so it jumps as 2^32 µs pass (DESIGN CHOICE, log entry 39). -/
def State.ledLit (s : State) (t : Time) : Bool :=
  match s.led with
  | .dark => false
  | .steady => true
  | .code n =>
    let at' := elapsed s.ledSince t % (n * 400000 + 1000000)
    decide (at' < n * 400000) && decide (at' % 400000 < 200000)

/-! ### Records that raise a condition on both links (9.3) -/

/-- Append a record timed now, and raise its condition on both links. -/
def State.report (s : State) (body : JournalBody) (c : Condition) : State := (s.append body s.now).raise c

/-- Each RAIL record raises RAIL (R83). `waiting`: the waiting notice of R71. -/
def State.railRecord (s : State) (waiting : Bool) : State :=
  s.report (.rail s.rail.state.name s.rail.state.testPhase
    (if waiting then .waiting else s.rail.state.cause) s.rail.votes) .rail

/-- The position in beats of a TRANSPORT record (R166, R172). -/
def beatsOf (position : Int) : Int := clamp (-1048576) 1048575 (floorDiv position Config.beatTicks)

/-- Each TRANSPORT record raises TRANSPORT (R166). Its time is the action time at which the event arrived, for a live note
the reading's and not its crossing's (DESIGN CHOICE, log entry 42). -/
def State.transportRecord (s : State) : State :=
  s.report (.transport s.transport.state.name (beatsOf s.transport.position)) .transport

/-! ### Phase changes -/

/-- The start-up phase changes, and the LED is judged (R208, R213). -/
def State.setPhase (s : State) (p : Phase) : State :=
  State.judgeLed { s with startUp := { s.startUp with phase := p, phaseSince := s.now } }

end Sys2Proof.Machine
end

