-- ==== Sys2Proof/Machine/Formats.lean ====
section
/-! DEFINITION. The layouts of chapter 11: journal records (11.2), take records (11.3), the sample memory header (11.4)
and the calibration image (11.5). -/

namespace Sys2Proof.Machine

/-! ### Journal records (11.2) -/

def flagBit (b : Bool) (n : Nat) : Nat := if b then n else 0

/-- Kind and parameters P1 to P3 of a record, as the table of 11.2 places them. -/
def JournalBody.params : JournalBody → Nat × Nat × Nat × Nat
  | .keyOn k l r v => (0x01, k.val, l, flagBit r 1 + flagBit v 2)
  | .keyOff k l c => (0x02, k.val, l, match c with | .played => 0 | .fault => 1)
  | .trackOn t k l v => (0x03, t.val + flagBit v 128, k.val, l)
  | .trackOff t k l => (0x04, t.val, k.val, l)
  | .pedal g c l sw conn =>
    (0x05, (match g with | .live => 0 | .playback => 1) + 2 * c.val + flagBit sw 8 + flagBit (!conn) 16, l, 0)
  | .rail st ph c v =>
    (0x06, st.code + (match ph with | some .outward => 16 | _ => 0), c.code, v.code)
  | .jack j st tip sl => (0x07, jackCode j, st.code, flagBit tip 1 + flagBit sl 2)
  | .supply st c => (0x08, st.code, (match c with | some f => f.code | none => 0), 0)
  | .transport st beats =>
    let v := st.code * 2097152 + (BitVec.ofInt 21 beats).toNat
    (0x09, v / 65536, v / 256 % 256, v % 256)
  | .guideWait n d => (0x0A, 0, n, d)
  | .guideMet => (0x0A, 1, 0, 0)
  | .guideMiss k l => (0x0B, k.val, l, 0)
  | .loop p n => (0x0C, p, n, 0)
  | .keyFault k rec c => (0x0D, k.val, flagBit rec 1, c.code)
  | .calLearnDone acc rej => (0x0E, 0, acc, rej)
  | .calCommitDone => (0x0E, 1, 0, 0)
  | .calCommitFailed p => (0x0E, 2, p, 0)
  | .calDefaults g => (0x0E, 3, g.code, 0)
  | .seat after before c => (0x0F, holderCode after, holderCode before, c.code)
  | .takeFull t => (0x10, 0, t.val, 0)
  | .takeLoadAborted t c => (0x10, 1, t.val, match c with | .linkAbsent => 1 | .poolFull => 2)
  | .test k c d => (0x11, k.code, c, d)
  | .relay .a b1 b2 b3 => (0x12, b1.toNat, b2.toNat, b3.toNat)
  | .relay .b b1 b2 b3 => (0x13, b1.toNat, b2.toNat, b3.toNat)

/-- The 8 bytes of a journal record (11.2). -/
def JournalRec.bytes (r : JournalRec) : List Byte :=
  let (k, p1, p2, p3) := r.body.params
  [byteOf k, byteOf p1, byteOf p2, byteOf p3] ++ timeField r.time

/-- The GAP record formed for one reader (R174, R181). -/
def gapBytes (count : Nat) (time : Time) : List Byte :=
  [0x20#8, byteOf count, 0#8, 0#8] ++ timeField time

/-! ### Take records (11.3) -/

def takeWordOf (cls sub level delta : Nat) : Nat := cls * 1073741824 + sub * 8388608 + level * 65536 + delta

/-- The 32-bit word of a take record (R220). -/
def TakeRec.word (r : TakeRec) : Nat :=
  match r.body with
  | .noteOn k l => takeWordOf 0 k.val l r.delta
  | .noteOff k l => takeWordOf 1 k.val l r.delta
  | .pedal c l => takeWordOf 2 c.val l r.delta
  | .wait => takeWordOf 3 0 0 r.delta
  | .endMark => takeWordOf 3 1 0 r.delta

/-- A take record read from its word; `none` where R220 makes it invalid or malformed. -/
def takeOfWord (w : Nat) : Option TakeRec :=
  let sub := w / 8388608 % 128
  let level := w / 65536 % 128
  let delta := w % 65536
  match w / 1073741824 % 4 with
  | 0 => if level = 0 then none else (keyOfNat sub).map (fun k => { body := .noteOn k level, delta := delta })
  | 1 => if level = 0 then none else (keyOfNat sub).map (fun k => { body := .noteOff k level, delta := delta })
  | 2 => (pedalOfNat sub).map (fun c => { body := .pedal c level, delta := delta })
  | _ =>
    if level = 0 then
      if sub = 0 then some { body := .wait, delta := delta }
      else if sub = 1 then some { body := .endMark, delta := delta }
      else none
    else none

/-- The take records of a LOAD_APPEND payload, its count byte first; `none` if one is invalid or an END (R162, R220). -/
def takesOfPayload (p : List Byte) (count : Nat) : Option (List TakeRec) :=
  (List.range count).foldr
    (fun i acc =>
      match takeOfWord (be4At p (1 + 4 * i)), acc with
      | some r, some rest => if r.body = .endMark then none else some (r :: rest)
      | _, _ => none)
    (some [])

/-! ### The sample memory header (11.4) -/

def wordAt (m : List (Nat × SampleWord)) (a : Nat) : Nat := (Memory.read m a).toNat

/-- A 24-bit quantity in two words, or `none` where the upper byte of its high word is not 00h (R221). -/
def pairAt (m : List (Nat × SampleWord)) (a : Nat) : Option Nat :=
  if wordAt m a < 256 then some (wordAt m a * 65536 + wordAt m (a + 1)) else none

/-- The loop start: present, or absent with a zero offset; `none` where its encoding fails (R221). -/
def loopAt (m : List (Nat × SampleWord)) (a : Nat) : Option (Option Nat) :=
  if wordAt m a < 256 then some (some (wordAt m a * 65536 + wordAt m (a + 1)))
  else if wordAt m a = 0x8000 ∧ wordAt m (a + 1) = 0 then some none
  else none

/-- The conditions of R112 on an entry, with the last word of the header. -/
def Window.valid (w : Window) (headerEnd : Nat) : Bool :=
  decide (w.keyLo ≤ w.keyHi) && decide (w.keyHi ≤ 87) &&
  decide (1 ≤ w.levelLo) && decide (w.levelLo ≤ w.levelHi) && decide (w.levelHi ≤ 127) &&
  decide (w.length ≤ w.stride) && w.length % 2 == 0 && decide (2 ≤ w.length) &&
  (match w.loop with
    | some o => o % 2 == 0 && decide (o < w.length)
    | none => true) &&
  decide (1 ≤ w.cost) && decide (w.cost ≤ 3) &&
  decide (w.base + (w.keyHi - w.keyLo) * w.stride + w.length - 1 ≤ Config.lastWord) &&
  decide (headerEnd < w.base)

/-- Entry e of the header, decoded and checked (R112, R221). -/
def entryAt (m : List (Nat × SampleWord)) (e headerEnd : Nat) : Option Window :=
  let a := 5 + Config.entryWords * e
  match pairAt m (a + 2), pairAt m (a + 4), pairAt m (a + 6), loopAt m (a + 8) with
  | some base, some stride, some length, some lp =>
    let w : Window :=
      { keyLo := wordAt m a / 256, keyHi := wordAt m a % 256, levelLo := wordAt m (a + 1) / 256,
        levelHi := wordAt m (a + 1) % 256, base := base, stride := stride, length := length, loop := lp,
        cost := wordAt m (a + 10) }
    if w.valid headerEnd then some w else none
  | _, _, _, _ => none

/-- The window table that the header makes, or `none` for a header refused (R111, R112). -/
def headerWindows (m : List (Nat × SampleWord)) : Option (List Window) :=
  let count := wordAt m 4
  if wordAt m 0 = 0x4B41 ∧ wordAt m 1 = 0x3838 ∧ wordAt m 2 = 0x534D ∧ wordAt m 3 = 0x0001 ∧
      1 ≤ count ∧ count ≤ Config.maxWindows then
    (List.range count).foldr
      (fun e acc =>
        match entryAt m e (5 + Config.entryWords * count - 1), acc with
        | some w, some rest => some (w :: rest)
        | _, _ => none)
      (some [])
  else none

/-! ### The calibration image (11.5, R222) -/

def curveBytes (c : Vector Breakpoint 8) : List Byte := c.toList.flatMap (fun p => u2 p.v ++ u1 p.l)

def keyCalBytes (c : KeyCal) : List Byte := u2 c.r ++ u2 c.b ++ u2 c.d ++ u1 c.g

/-- Bytes 0 to 829 of the image of a working copy with a commit count. -/
def imageBody (w : WorkingCopy) (count : Nat) : List Byte :=
  [0x48#8, 0x4B#8, 0x43#8, 0x31#8, 1#8] ++ u1 count ++ u2 Config.imageBytes ++
  u1 w.touch.fOn ++ u1 w.touch.fRel ++ u1 w.touch.fRa ++ u1 w.touch.fSt ++ u1 w.touch.hyst ++ u2 w.touch.quietMs ++
  u1 w.activeCurve ++ w.curves.toList.flatMap curveBytes ++
  (List.finRange 88).flatMap (fun k => keyCalBytes w.keys[k] ++ u1 w.origins[k].code) ++
  w.pedals.toList.flatMap (fun p => u2 p.rest ++ u2 p.full) ++ u2 w.cEng

/-- The check: the sum of bytes modulo 65536. -/
def checkOf (bytes : List Byte) : Nat := sumNat (bytes.map (fun b => b.toNat)) % 65536

/-- The image that COMMIT forms (R206, R222). -/
def imageOf (w : WorkingCopy) (count : Nat) : List Byte :=
  imageBody w count ++ u2 (checkOf (imageBody w count))

/-- The ground on which an image is refused, if it is (R205). -/
def imageGround (im : List Byte) : Option Ground :=
  if im.take 4 ≠ [0x48#8, 0x4B#8, 0x43#8, 0x31#8] ∨ byteAt im 4 ≠ 1 then some .signature
  else if be2At im 6 ≠ Config.imageBytes then some .length
  else if checkOf (im.take 830) ≠ be2At im 830 then some .sum
  else none

def originOf (flags : Nat) : Origin :=
  match flags % 4 with
  | 0 => .default
  | 2 => .learned
  | _ => .written

/-- The fields of an image as read, before any repair (R205). -/
def imageFields (im : List Byte) : WorkingCopy :=
  { keys := tableOf (fun k =>
      let a := 112 + 8 * k.val
      { r := be2At im a, b := be2At im (a + 2), d := be2At im (a + 4), g := byteAt im (a + 6) })
    origins := tableOf (fun k => originOf (byteAt im (119 + 8 * k.val)))
    touch :=
      { fOn := byteAt im 8, fRel := byteAt im 9, fRa := byteAt im 10, fSt := byteAt im 11, hyst := byteAt im 12,
        quietMs := be2At im 13 }
    curves := tableOf (fun c => tableOf (fun i =>
      { v := be2At im (16 + 24 * c.val + 3 * i.val), l := byteAt im (18 + 24 * c.val + 3 * i.val) }))
    activeCurve := byteAt im 15
    pedals := tableOf (fun c => { rest := be2At im (816 + 4 * c.val), full := be2At im (818 + 4 * c.val) })
    cEng := be2At im 828 }

/-- The conditions of R35 on a curve. -/
def curveValid (cv : Vector Breakpoint 8) : Bool :=
  cv[(0 : Fin 8)].v == 0 && decide (cv[(7 : Fin 8)].v ≤ 4000) &&
  cv.toList.all (fun p => decide (1 ≤ p.l) && decide (p.l ≤ 127)) &&
  (List.finRange 7).all (fun i =>
    decide (cv[i.castSucc].v < cv[i.succ].v) && decide (cv[i.castSucc].l ≤ cv[i.succ].l))

/-- The conditions WRITE_TOUCH enforces on the fractions (R42). -/
def fractionsValid (fOn fRel fRa fSt : Nat) : Bool :=
  decide (16 ≤ fOn) && decide (fOn + 16 ≤ fRel) && decide (fRel + 16 ≤ fRa) && decide (fRa + 16 ≤ fSt) &&
  decide (fSt ≤ 240)

/-- The repairs of the touch block (R39). -/
def repairTouch (t : Touch) : Touch :=
  let d := defaultTouch
  let t' := if fractionsValid t.fOn t.fRel t.fRa t.fSt then t
    else { t with fOn := d.fOn, fRel := d.fRel, fRa := d.fRa, fSt := d.fSt }
  { t' with hyst := clampNat 2 32 t.hyst, quietMs := clampNat 40 500 t.quietMs }

/-- The repair of a pedal pair (R45). -/
def repairPedal (p : PedalCal) : PedalCal :=
  let q : PedalCal := { rest := clampNat 0 1023 p.rest, full := clampNat 0 1023 p.full }
  if q.full < q.rest + 200 then defaultPedalCal else q

/-- The repairs of a loaded image, part by part (R39, R45, R65, R205). -/
def repairCopy (w : WorkingCopy) : WorkingCopy :=
  { keys := tableMap (fun (c : KeyCal) => { c with r := clampNat 0 1023 c.r, b := clampNat 0 1023 c.b }) w.keys
    origins := w.origins
    touch := repairTouch w.touch
    curves := tableOf (fun c => if curveValid w.curves[c] then w.curves[c] else defaultCurve c)
    activeCurve := if 3 < w.activeCurve then defaultActiveCurve else w.activeCurve
    pedals := tableMap repairPedal w.pedals
    cEng := clampNat 400 4000 w.cEng }

end Sys2Proof.Machine
end

