-- ==== Sys2Proof/Machine/Touch.lean ====
section
/-! DEFINITION. Touch arithmetic (chapter 2) and the threshold levels of a key (1.2 to 1.4). -/

namespace Sys2Proof.Machine

/-! ### Threshold levels and crossings -/

/-- The span S of a key, bottom depth minus rest depth (R4). -/
def KeyCal.span (c : KeyCal) : Int := (c.b : Int) - c.r

/-- The level for a fraction (R5). -/
def KeyCal.level (c : KeyCal) (f : Nat) : Int := (c.r : Int) + floorDiv (c.span * f) 256

/-- The upward crossing point of a level (R5). -/
def KeyCal.upPoint (c : KeyCal) (t : Touch) (f : Nat) : Int := max (c.level f - t.hyst) ((c.r : Int) + 1)

/-- A reading is plausible under a calibration (R6). -/
def KeyCal.plausible (c : KeyCal) (reading : Nat) : Bool :=
  decide ((c.r : Int) - Config.plausibleMargin ≤ reading) && decide ((reading : Int) ≤ c.b + Config.plausibleMargin)

/-- A reading clamped to R to B (R6). -/
def KeyCal.clamped (c : KeyCal) (reading : Nat) : Nat := (clamp c.r c.b reading).toNat

/-- One reading as a tracker compares it (R7, R8): its time, its clamped value, and the last reading unless there is
none or it is too old. -/
structure Reading where
  time : Time
  value : Int
  last : Option (Int × Time)
  deriving DecidableEq, Repr

/-- The reading of a tracker, with the last reading that R7 lets it use. -/
def Reading.of (tr : Tracker) (c : KeyCal) (t : Time) (raw : Nat) : Reading :=
  { time := t
    value := c.clamped raw
    last := match tr.last with
      | some (v, t0) => if elapsed t0 t < Config.tooOld then some ((v : Int), t0) else none
      | none => none }

/-- The crossing time of a downward crossing of level L, if the reading makes one (R7, R8). -/
def Reading.crossDown (x : Reading) (level : Int) : Option Time :=
  match x.last with
  | none => if level ≤ x.value then some x.time else none
  | some (rp, tp) =>
    if rp < level ∧ level ≤ x.value then
      some (later tp (floorDiv ((elapsed tp x.time : Int) * (level - rp)) (x.value - rp)))
    else none

/-- The crossing time of an upward crossing with crossing point L', if the reading makes one (R7, R8). -/
def Reading.crossUp (x : Reading) (point : Int) : Option Time :=
  match x.last with
  | none => none
  | some (rp, tp) =>
    if x.value < point ∧ point ≤ rp then
      some (later tp (floorDiv ((elapsed tp x.time : Int) * (rp - point)) (rp - x.value)))
    else none

/-! ### Velocity and release levels -/

/-- A span in micrometres between two fractions (R32). -/
def spanBetween (d fLo fHi : Nat) : Int := floorDiv ((d : Int) * ((fHi : Int) - fLo)) 256

/-- The travel time of R33: too old is 250,000, then clamped into 250 to 250,000. -/
def travelTime (t0 t1 : Time) : Nat :=
  clampNat 250 250000 (if elapsed t0 t1 < Config.tooOld then elapsed t0 t1 else 250000)

/-- The speed of R34 and R38, in millimetres per second. -/
def speedOf (span : Int) (time : Nat) : Int := clamp 0 4000 (floorDiv (span * 1000) time)

/-- The level of a speed within segment i of a curve (R36). -/
def segmentLevel (p q : Breakpoint) (v : Int) : Int :=
  let w : Int := (q.v : Int) - p.v
  (p.l : Int) + floorDiv ((v - p.v) * ((q.l : Int) - p.l) + floorDiv w 2) w

/-- The curve level of a speed (R36). -/
def curveLevel (cv : Vector Breakpoint 8) (v : Int) : Int :=
  if (cv[(7 : Fin 8)].v : Int) ≤ v then cv[(7 : Fin 8)].l
  else match (List.finRange 7).find? (fun i =>
      decide ((cv[i.castSucc].v : Int) ≤ v) && decide (v < (cv[i.succ].v : Int))) with
    | some i => segmentLevel cv[i.castSucc] cv[i.succ] v
    | none => cv[(7 : Fin 8)].l

/-- The active curve (R35). -/
def WorkingCopy.curve (w : WorkingCopy) : Vector Breakpoint 8 :=
  if h : w.activeCurve < 4 then w.curves[w.activeCurve] else w.curves[(0 : Fin 4)]

/-- Step 4, key trim (R37). -/
def trimLevel (l : Int) (g : Nat) : Int := floorDiv (l * g + 32) 64
/-- Step 5, una corda (R37). -/
def unaCordaLevel (l : Int) (on : Bool) : Int := if on then floorDiv (l * 7 + 4) 8 else l

/-- The velocity level of a strike (R31 to R37). -/
def strikeLevel (w : WorkingCopy) (k : KeyIx) (stroke : Stroke) (ta tb : Time) (unaCorda : Bool) : Nat :=
  let from' := match stroke with
    | .fresh => w.touch.fOn
    | .short => w.touch.fRa
  let v := speedOf (spanBetween w.keys[k].d from' w.touch.fSt) (travelTime ta tb)
  (clamp 1 127 (unaCordaLevel (trimLevel (curveLevel w.curve v) w.keys[k].g) unaCorda)).toNat

/-- The release level (R38). -/
def releaseLevel (w : WorkingCopy) (k : KeyIx) (tUp tOff : Time) : Nat :=
  let v := speedOf (spanBetween w.keys[k].d w.touch.fRel w.touch.fRa) (travelTime tUp tOff)
  (clamp 1 127 (floorDiv (v + 8) 16)).toNat

end Sys2Proof.Machine
end

