-- ==== Sys2Proof/Machine/VoiceOps.lean ====
section
/-! DEFINITION. The voice engine's shared operations (chapter 5): note-on, stealing and shedding, note-off, pedal
effects, envelopes. -/

namespace Sys2Proof.Machine

def Source.group : Source → Group
  | .live => .live
  | .playback _ => .playback

/-- A voice record by index; `none` is FREE. -/
def State.voice (s : State) (i : VoiceIx) : Option Voice := s.voices[i]

def State.setVoice (s : State) (i : VoiceIx) (v : Option Voice) : State := { s with voices := tablePut s.voices i v }

/-- Every voice out of FREE changed alike. -/
def State.mapVoices (s : State) (f : Voice → Voice) : State :=
  { s with voices := tableMap (fun v => v.map f) s.voices }

/-- Voices out of FREE, and the sum of their costs (R89). -/
def State.voicesUsed (s : State) : Nat := (s.voices.toList.filter (fun v => v.isSome)).length
def costOf (v : Option Voice) : Nat :=
  match v with
  | some x => x.cost
  | none => 0
def State.costSum (s : State) : Nat := sumNat (s.voices.toList.map costOf)

/-- The current damper level of a group (R58). -/
def State.damper (s : State) : Group → Nat
  | .live => s.live[(0 : Fin 3)].level
  | .playback => s.play[(0 : Fin 3)].level

/-- The sostenuto capture set of a group (R56). -/
def State.capture (s : State) : Group → KeySet
  | .live => s.liveCapture
  | .playback => s.playCapture

/-! ### Note-on (5.3) -/

/-- A voice enters DAMPING; its key_held becomes no (R90). -/
def Voice.damp (v : Voice) : Voice := { v with state := .damping, held := false }

/-- The first step, re-strike damping (R93). -/
def State.dampKey (s : State) (g : Group) (k : KeyIx) : State :=
  s.mapVoices (fun v => if v.source.group = g ∧ v.key = k ∧ v.state ≠ .damping then v.damp else v)

/-- The window serves a key and a level (R94). -/
def Window.matches (w : Window) (k : KeyIx) (level : Nat) : Bool :=
  decide (w.keyLo ≤ k.val) && decide (k.val ≤ w.keyHi) && decide (w.levelLo ≤ level) && decide (level ≤ w.levelHi)

/-- The lowest-index matching window, with its index (R94). -/
def findWindow (ws : List Window) (k : KeyIx) (level : Nat) : Option (Nat × Window) :=
  ws.zipIdx.findSome? (fun x => if x.1.matches k level then some (x.2, x.1) else none)

/-- The place of a voice in the steal order (R95): the class first, then E for classes 1 to 3 and youth for class 4. -/
def stealRank (now : Time) (v : Voice) : Nat :=
  let cls (n m : Nat) := n * 8589934592 + m
  match v.state, v.held with
  | .damping, _ => cls 1 v.env
  | .releasing, _ => cls 2 v.env
  | .sounding, false => cls 3 v.env
  | .sounding, true => cls 4 (4294967296 - elapsed v.start now)

/-- The better of a victim so far and a candidate: the lower rank, and the lower index at equal ranks (R95). -/
def betterVictim (now : Time) (best : Option (VoiceIx × Voice)) (i : VoiceIx) (v : Voice) : Option (VoiceIx × Voice) :=
  match best with
  | none => some (i, v)
  | some (j, u) => if stealRank now v < stealRank now u then some (i, v) else some (j, u)

/-- The first voice of the steal order among the voices out of FREE other than `but` (R95, R97). -/
def State.stealVictim (s : State) (but : Option VoiceIx) : Option VoiceIx :=
  ((List.finRange 48).foldl
    (fun best i =>
      match s.voice i with
      | some v => if but = some i then best else betterVictim s.now best i v
      | none => best)
    none).map (fun x => x.1)

/-- The FREE voice of lowest index (R95). -/
def State.freeVoice (s : State) : Option VoiceIx := (List.finRange 48).find? (fun i => (s.voice i).isNone)

/-- The third step: the FREE voice of lowest index, or else the one to steal (R95). -/
def State.chooseVoice (s : State) : VoiceIx :=
  match s.freeVoice with
  | some i => i
  | none => (s.stealVictim none).getD 0

/-- The costs of every voice out of FREE other than one (R97). -/
def State.costBut (s : State) (i : VoiceIx) : Nat :=
  sumNat ((List.finRange 48).map (fun j => if j = i then 0 else costOf (s.voice j)))

/-- The fourth step: while the sum exceeds the budget, shed the first voice of the steal order (R97). -/
def State.shed (s : State) (i : VoiceIx) (cost : Nat) : Nat → State
  | 0 => s
  | fuel + 1 =>
    if s.costBut i + cost ≤ Config.budget then s
    else match s.stealVictim (some i) with
      | some j => State.shed (s.setVoice j none) i cost fuel
      | none => s

/-- The voice that a note-on starts (R98). -/
def startedVoice (src : Source) (k : KeyIx) (level window cost : Nat) (now : Time) : Voice :=
  { state := .sounding, source := src, key := k, level := level, release := Config.forcedRelease, held := true,
    window := window, position := 0, env := Config.fullEnvelope, start := now, cost := cost }

/-- A note-on, taken whole (R93 to R98). It answers the sender with voiced and the voice's index, or not voiced. -/
def State.noteOn (s : State) (src : Source) (k : KeyIx) (level : Nat) : State × Option VoiceIx :=
  let s1 := s.dampKey src.group k
  match findWindow s1.windows k level with
  | none => (s1, none)
  | some (w, win) =>
    let i := s1.chooseVoice
    let s2 := s1.shed i win.cost 48
    (s2.setVoice i (some (startedVoice src k level w win.cost s2.now)), some i)

/-! ### Note-off and pedal effects (5.4, 5.5) -/

/-- The note-off reaches this voice: its source, key and key_held (R100). -/
def Voice.reachedBy (v : Voice) (src : Source) (k : KeyIx) : Bool := v.held && v.source == src && v.key == k

/-- A note-off (R100). -/
def State.noteOff (s : State) (src : Source) (k : KeyIx) (level : Nat) : State :=
  let heldByPedal := decide (Config.damperHolds ≤ s.damper src.group) || KeySet.has (s.capture src.group) k
  s.mapVoices (fun v =>
    if v.reachedBy src k then
      { v with held := false, release := level, state := if heldByPedal then v.state else .releasing }
    else v)

/-- The notice DAMPER_UP (R101). -/
def State.damperUp (s : State) (g : Group) : State :=
  s.mapVoices (fun v => if v.source.group = g ∧ v.state = .releasing then { v with state := .sounding } else v)

/-- The notice DAMPER_DOWN (R102). -/
def State.damperDown (s : State) (g : Group) : State :=
  let cap := s.capture g
  s.mapVoices (fun v =>
    if v.source.group = g ∧ v.state = .sounding ∧ v.held = false ∧ KeySet.has cap v.key = false then
      { v with state := .releasing }
    else v)

/-- A capture set let go: the voice engine takes its keys (R103). -/
def State.sostenutoRelease (s : State) (g : Group) (keys : KeySet) : State :=
  if Config.damperHolds ≤ s.damper g then s
  else s.mapVoices (fun v =>
    if v.source.group = g ∧ v.state = .sounding ∧ v.held = false ∧ KeySet.has keys v.key = true then
      { v with state := .releasing }
    else v)

/-- The notice a damper movement gives, if it passes 100 (R58). -/
def State.damperNotice (s : State) (g : Group) (before after : Nat) : State :=
  if before < Config.damperHolds ∧ Config.damperHolds ≤ after then s.damperUp g
  else if Config.damperHolds ≤ before ∧ after < Config.damperHolds then s.damperDown g
  else s

/-! ### The envelope (5.6) -/

/-- The string rate of a key (R105). -/
def stringRate (k : KeyIx) : Nat := 2 + k.val * 30 / 87

/-- The rate of a voice at a step, with its group's damper level (R105). -/
def envelopeRate (v : Voice) (d : Nat) : Nat :=
  let b := 600 + 4 * v.release
  match v.state with
  | .sounding => stringRate v.key
  | .damping => 16384
  | .releasing =>
    if d ≤ 20 then b
    else if d < Config.damperHolds then max (stringRate v.key) (b * (100 - d) / 80)
    else stringRate v.key

/-- The envelope after a step at rate r (R104). -/
def stepEnvelope (e r : Nat) : Nat := e - e * r / 65536 - 1

/-- One voice at an envelope step: freed when its envelope reaches 0 (R104, R99). -/
def stepVoice (damper : Group → Nat) (v : Option Voice) : Option Voice :=
  match v with
  | none => none
  | some x =>
    let e := stepEnvelope x.env (envelopeRate x (damper x.source.group))
    if e = 0 then none else some { x with env := e }

end Sys2Proof.Machine
end

