-- ==== Sys2Proof/Machine/PedalOps.lean ====
section
/-! DEFINITION. The pedal unit's shared operations (chapter 3): levels, switches, capture sets, the PLAYBACK group. -/

namespace Sys2Proof.Machine

/-- The damper and sostenuto channels (Conventions). -/
def damperIx : PedalIx := 0
def sostenutoIx : PedalIx := 1
def unaCordaIx : PedalIx := 2

/-- The level of a reading (R48). -/
def pedalLevel (c : PedalCal) (reading : Nat) : Nat :=
  (clamp 0 127 (floorDiv (((reading : Int) - c.rest) * 127) ((c.full : Int) - c.rest))).toNat

/-- A switch judged against a level (R49). -/
def judgeSwitch (on : Bool) (level : Nat) : Bool :=
  if on then decide (Config.switchOff ≤ level) else decide (Config.switchOn ≤ level)

def State.liveChannel (s : State) (i : PedalIx) : LiveChannel := s.live[i]
def State.setLive (s : State) (i : PedalIx) (x : LiveChannel) : State := { s with live := tablePut s.live i x }
def State.playChannel (s : State) (i : PedalIx) : PlayChannel := s.play[i]
def State.setPlay (s : State) (i : PedalIx) (x : PlayChannel) : State := { s with play := tablePut s.play i x }

def State.setCapture (s : State) (g : Group) (m : KeySet) : State :=
  match g with
  | .live => { s with liveCapture := m }
  | .playback => { s with playCapture := m }

/-- The keys whose note is on in a group (R56). -/
def State.keysOn (s : State) : Group → KeySet
  | .live => KeySet.ofPred (fun k => (s.key k).state.noteOn)
  | .playback => s.transport.tracks.toList.foldl (fun m x => m ||| x.opened) 0#88

/-- A change of a sostenuto switch takes the capture set or lets it go (R56, R57). -/
def State.sostenutoChange (s : State) (g : Group) (before after : Bool) : State :=
  match before, after with
  | false, true => s.setCapture g (s.keysOn g)
  | true, false => (s.sostenutoRelease g (s.capture g)).setCapture g 0#88
  | _, _ => s

/-- The effects of a channel's movement on its group: capture or letting go, then the damper notice (R58). -/
def State.pedalEffects (s : State) (g : Group) (i : PedalIx) (sw sw' : Bool) (lv lv' : Nat) : State :=
  if i = sostenutoIx then s.sostenutoChange g sw sw'
  else if i = damperIx then s.damperNotice g lv lv'
  else s

/-- A PLAYBACK PEDAL record of a channel as it stands (R54, R171). -/
def State.playRecord (s : State) (i : PedalIx) : State :=
  s.append (.pedal .playback i (s.playChannel i).level (s.playChannel i).switch true) s.now

/-- A PEDAL take record dispatched to the PLAYBACK group (R54). -/
def State.playbackPedal (s : State) (i : PedalIx) (level : Nat) : State :=
  let old := s.playChannel i
  let sw := judgeSwitch old.switch level
  let s1 := s.setPlay i { level := level, switch := sw }
  let s2 := if old.level = level then s1 else s1.playRecord i
  s2.pedalEffects .playback i old.switch sw old.level level

/-- All three PLAYBACK levels set together: every switch is judged, then the capture set, then the damper notice (R55,
R58). -/
def State.playbackLevels (s : State) (levels : PedalIx → Nat) : State :=
  let s1 := { s with play := tableOf (fun i =>
    { level := levels i, switch := judgeSwitch (s.playChannel i).switch (levels i) }) }
  let s2 := s1.sostenutoChange .playback (s.playChannel sostenutoIx).switch (s1.playChannel sostenutoIx).switch
  s2.damperNotice .playback (s.playChannel damperIx).level (levels damperIx)

/-- One PEDAL record for each channel whose level differs from the level it had (R55), in channel order (DESIGN CHOICE, log
entry 14). -/
def State.playRecords (s : State) (before : State) : State :=
  (List.finRange 3).foldl
    (fun x i => if (x.playChannel i).level = (before.playChannel i).level then x else x.playRecord i) s

/-- The reset of the PLAYBACK group at STOP (R55). -/
def State.playbackReset (s : State) : State := (s.playbackLevels (fun _ => 0)).playRecords s

/-- The reset and the reconstruction of one LOCATE, taken together (R55). -/
def State.playbackLocate (s : State) (levels : PedalIx → Nat) : State :=
  ((s.playbackLevels (fun _ => 0)).playbackLevels levels).playRecords s

end Sys2Proof.Machine
end

