-- ==== Sys2Proof/Machine/TransportOps.lean ====
section
/-! DEFINITION. The transport's shared operations (chapter 7): the pool, dispatch, the guide wait, walks, recording, the
natural end and STOP. -/

namespace Sys2Proof.Machine

/-! ### The take store (7.1) -/

def State.track (s : State) (i : TrackIx) : Track := s.transport.tracks[i]
def State.setTransport (s : State) (x : Transport) : State := { s with transport := x }
def State.setTrack (s : State) (i : TrackIx) (x : Track) : State :=
  s.setTransport { s.transport with tracks := tablePut s.transport.tracks i x }

/-- Slots a track uses, its reserved slot among them (R133). -/
def Track.slots (x : Track) : Nat := x.recs.length + (if x.reserved then 1 else 0)
def Transport.used (x : Transport) : Nat := sumNat (x.tracks.toList.map Track.slots)
/-- Free slots of the pool (R133). -/
def State.freeSlots (s : State) : Nat := Config.poolSize - s.transport.used

/-- A track erased, its END's slot becoming its reserved slot (R152, R161). -/
def Track.erased (x : Track) : Track := { x with recs := [], reserved := true }

/-- The state changes, and a TRANSPORT record tells it (R166). -/
def State.setTransportState (s : State) (st : TransportState) : State :=
  let s' := s.setTransport { s.transport with state := st }
  if st.name = s.transport.state.name then s' else s'.transportRecord

/-- The clock runs in COUNT_IN, RECORDING and PLAYING (R137). -/
def TransportState.clockRuns : TransportState → Bool
  | .countIn => true
  | .recording => true
  | .playing => true
  | _ => false

/-- The WAIT records that bridge a gap, and the delta that is left (R135). -/
def gapWaits (gap : Nat) : Nat := (gap - 1) / Config.maxDelta
def waitRecs (n : Nat) : List TakeRec := List.replicate n { body := .wait, delta := Config.maxDelta }

/-! ### Open notes (R141) -/

/-- One key leaves a track's open-note set: its note-off and its TRACK_OFF record. -/
def State.endNote (s : State) (i : TrackIx) (k : KeyIx) (level : Nat) : State :=
  let s1 := s.setTrack i { s.track i with opened := KeySet.drop (s.track i).opened k }
  (s1.noteOff (.playback i) k level).append (.trackOff i k level) s.now

/-- A track's open notes are released, in index order (R141). -/
def State.releaseTrack (s : State) (i : TrackIx) : State :=
  (KeySet.keys (s.track i).opened).foldl (fun x k => x.endNote i k Config.forcedRelease) s

/-- The open notes of all tracks are released (R141). -/
def State.releaseAll (s : State) : State := (List.finRange 4).foldl (fun x i => x.releaseTrack i) s

/-! ### Dispatch (R139, R140) -/

/-- A record of a track in mode PLAY acts (R140). -/
def State.playTake (s : State) (i : TrackIx) (r : TakeRec) : State :=
  match r.body with
  | .noteOn k l =>
    let s1 := s.setTrack i { s.track i with opened := KeySet.add (s.track i).opened k }
    let (s2, voice) := s1.noteOn (.playback i) k l
    s2.append (.trackOn i k l voice.isSome) s.now
  | .noteOff k l => if KeySet.has (s.track i).opened k then s.endNote i k l else s
  | .pedal c l => s.playbackPedal c l
  | .wait => s
  | .endMark => s.releaseTrack i

/-- The cursor moves past a record at a position, and the record acts by its track's mode (R140). -/
def State.dispatch (s : State) (i : TrackIx) (r : TakeRec) (pos : Int) : State :=
  let s1 := s.setTrack i { s.track i with cursor := (s.track i).cursor + 1, cursorPos := pos }
  match (s.track i).mode with
  | .play => s1.playTake i r
  | .mute => s1
  | .guide => s1

/-- Every record of a track at a position or before that its cursor has not passed, in list order (R139). -/
def State.dispatchTrack (s : State) (i : TrackIx) (pos : Int) : Nat → State
  | 0 => s
  | fuel + 1 =>
    match (s.track i).recs[(s.track i).cursor]? with
    | some r =>
      if (s.track i).cursorPos + r.delta ≤ pos then
        State.dispatchTrack (s.dispatch i r ((s.track i).cursorPos + r.delta)) i pos fuel
      else s
    | none => s

/-- The track is the one being recorded. -/
def State.recordedTrack (s : State) (i : TrackIx) : Bool :=
  match s.transport.recording with
  | some r => r.track == i
  | none => false

/-- Step 5 of R139: tracks in order 0 to 3, the recorded track apart. -/
def State.dispatchAll (s : State) : State :=
  (List.finRange 4).foldl
    (fun x i => if x.recordedTrack i then x else x.dispatchTrack i s.transport.position (x.track i).recs.length) s

/-! ### Recording closed, STOP and the natural end -/

/-- The recording is closed with its END in the reserved slot (R155). -/
def State.closeRecording (s : State) : State :=
  match s.transport.recording with
  | none => s
  | some r =>
    let gap := (max s.transport.position 0 - r.lastPos).toNat
    let waits := min (gapWaits gap) s.freeSlots
    let x := s.track r.track
    let s1 := s.setTrack r.track
      { x with
        recs := x.recs ++ waitRecs waits ++
          endOnly (min Config.maxDelta (gap - waits * Config.maxDelta))
        reserved := false }
    s1.setTransport { s1.transport with recording := none, placed := false }

/-- Step 2 of STOP: a walk is abandoned at its target (R146). -/
def State.abandonWalk (s : State) : State :=
  match s.transport.state with
  | .locating target _ => s.setTransport { s.transport with position := target, placed := false }
  | _ => s

/-- STOP from its step 2 on (R146, R156). -/
def State.stopTail (s : State) : State :=
  let s1 := s.abandonWalk.releaseAll.playbackReset
  let s2 := s1.setTransport { s1.transport with guideSet := 0#88, acc := 0 }
  s2.setTransportState .idle

/-- STOP (R146). -/
def State.stopTransport (s : State) : State := s.closeRecording.stopTail

/-- The track's cursor has reached its END (R136). -/
def Track.ended (x : Track) : Bool := decide (x.recs.length ≤ x.cursor)

/-- The natural end, judged in PLAYING (R142). -/
def State.naturalEnd (s : State) : State :=
  if s.transport.state = .playing ∧
      s.transport.tracks.toList.all (fun x => x.mode == .mute || x.ended) = true then
    s.stopTransport
  else s

/-! ### The guide wait (7.7) -/

/-- The keys of the NOTE_ONs at a position among records from a position on, in list order. -/
def notesAt (pos : Int) : Int → List TakeRec → List KeyIx
  | _, [] => []
  | before, r :: rest =>
    let here := before + r.delta
    match r.body with
    | .noteOn k _ => if here = pos then k :: notesAt pos here rest else notesAt pos here rest
    | _ => notesAt pos here rest

/-- The keys of the GUIDE tracks' NOTE_ONs at the position that their cursors have not passed, in track order (R149). -/
def State.guideKeys (s : State) : List KeyIx :=
  s.transport.tracks.toList.flatMap (fun x =>
    if x.mode = .guide then notesAt s.transport.position x.cursorPos (x.recs.drop x.cursor) else [])

/-- One key gathered: into the wait set, or among the dropped when the set holds 10 (R149). -/
def gatherKey (acc : KeySet × KeySet) (k : KeyIx) : KeySet × KeySet :=
  if KeySet.has acc.1 k then acc
  else if KeySet.count acc.1 < Config.maxWait then (KeySet.add acc.1 k, acc.2)
  else (acc.1, KeySet.add acc.2 k)

/-- Entry to WAITING with the keys gathered (R149). -/
def State.enterWaiting (s : State) (keys : List KeyIx) : State :=
  let g := keys.foldl gatherKey (0#88, 0#88)
  let s1 := s.setTransport { s.transport with guideSet := g.1, acc := 0 }
  (s1.setTransportState .waiting).report
    (.guideWait (KeySet.count g.1) (min Config.byteMax (KeySet.count g.2))) .guide

/-- The position taken from step 4 of R139 on: guide, dispatch, end. -/
def State.takePosition (s : State) : State :=
  if s.transport.state = .playing ∧ s.guideKeys ≠ [] then s.enterWaiting s.guideKeys
  else s.dispatchAll.naturalEnd

/-- The wait is released: GUIDE MET, the records at the position, PLAYING, the natural end (R150). -/
def State.releaseWait (s : State) : State :=
  ((s.report .guideMet .guide).dispatchAll.setTransportState .playing).naturalEnd

/-- A live KEY_ON meets the guide wait set (R150). -/
def State.guideStrike (s : State) (k : KeyIx) (level : Nat) : State :=
  if KeySet.has s.transport.guideSet k then
    let s1 := s.setTransport { s.transport with guideSet := KeySet.drop s.transport.guideSet k }
    if s1.transport.guideSet = 0#88 then s1.releaseWait else s1
  else s.append (.guideMiss k level) s.now

/-! ### Walks (7.6) -/

/-- The walk along one track: the first record at the target or after it, and the position before that record (R148). -/
def walkTo (target : Int) : Nat → Int → List TakeRec → Nat × Int
  | i, pos, [] => (i, pos)
  | i, pos, r :: rest => if target ≤ pos + r.delta then (i, pos) else walkTo target (i + 1) (pos + r.delta) rest

/-- The last PEDAL record of a channel below the target in one track, as its position and level. -/
def lastPedal (target : Int) (c : PedalIx) : Int → Option (Int × Nat) → List TakeRec → Option (Int × Nat)
  | _, best, [] => best
  | pos, best, r :: rest =>
    let here := pos + r.delta
    if target ≤ here then best
    else match r.body with
      | .pedal c' l => lastPedal target c here (if c' = c then some (here, l) else best) rest
      | _ => lastPedal target c here best rest

/-- The level a channel has at the target: the last in dispatch order of the PLAY tracks' records (R148). -/
def State.walkLevel (s : State) (target : Int) (c : PedalIx) : Nat :=
  let best := s.transport.tracks.toList.foldl
    (fun (acc : Option (Int × Nat)) x =>
      match (if x.mode = .play then lastPedal target c 0 none x.recs else none), acc with
      | some n, some o => if o.1 ≤ n.1 then some n else some o
      | some n, none => some n
      | none, o => o)
    none
  match best with
  | some (_, l) => l
  | none => 0

/-- The records a walk reads: in each track those whose position lies below the target (R148, log entry 10). -/
def State.walkReads (s : State) (target : Int) : Nat :=
  sumNat (s.transport.tracks.toList.map (fun x => (walkTo target 0 0 x.recs).1))

/-- A track with its cursor where the walk leaves it. -/
def Track.walked (target : Int) (x : Track) : Track :=
  { x with cursor := (walkTo target 0 0 x.recs).1, cursorPos := (walkTo target 0 0 x.recs).2 }

/-- A walk's completion (R148): cursors, position, PLAYBACK pedals, return state. -/
def State.completeWalk (s : State) (target : Int) (ret : WalkReturn) : State :=
  let s1 := s.setTransport
    { s.transport with tracks := tableMap (Track.walked target) s.transport.tracks, placed := true, position := target }
  let s2 := s1.playbackLocate (fun c => s.walkLevel target c)
  match ret with
  | .idle => s2.setTransportState .idle
  | .playing => (s2.setTransportState .playing).takePosition
  | .paused => s2.setTransportState (.paused .playing)

/-- A walk begins; one that reads no record completes at once (R147, R148). -/
def State.beginWalk (s : State) (target : Int) (ret : WalkReturn) : State :=
  let s1 := s.setTransportState (.locating target ret)
  if s.walkReads target = 0 then s1.completeWalk target ret else s1

/-- A LOCATE taken outside LOCATING (R147). -/
def State.locateTo (s : State) (target : Int) (ret : WalkReturn) : State :=
  let s1 := State.releaseAll (s.setTransport { s.transport with guideSet := 0#88 })
  (s1.setTransport { s1.transport with acc := 0 }).beginWalk target ret

/-! ### Live events (7.8) -/

/-- The recording is closed by a full pool (R156). -/
def State.poolFull (s : State) (track : TrackIx) : State :=
  (s.closeRecording.report (.takeFull track) .take).stopTail

/-- A live event is appended to the recorded track, whole, or the pool is full (R153, R154, R156). -/
def State.recordEvent (s : State) (body : TakeBody) : State :=
  match s.transport.recording with
  | none => s
  | some r =>
    let pos : Int := if s.transport.state = .countIn then 0 else s.transport.position
    let gap := (pos - r.lastPos).toNat
    let waits := gapWaits gap
    if waits + 1 ≤ s.freeSlots then
      let x := s.track r.track
      let s1 := s.setTrack r.track
        { x with recs := x.recs ++ waitRecs waits ++ [{ body := body, delta := gap - waits * Config.maxDelta }] }
      s1.setTransport { s1.transport with recording := some { r with lastPos := pos } }
    else s.poolFull r.track

/-- The transport receives a live KEY_ON (R17, R150, R153, R154). -/
def State.transportKeyOn (s : State) (k : KeyIx) (level : Nat) : State :=
  match s.transport.state with
  | .countIn => s.recordEvent (.noteOn k level)
  | .recording => s.recordEvent (.noteOn k level)
  | .waiting => s.guideStrike k level
  | _ => s

/-- The transport receives a KEY_OFF (R18, R153, R154). -/
def State.transportKeyOff (s : State) (k : KeyIx) (level : Nat) : State :=
  match s.transport.state with
  | .recording => s.recordEvent (.noteOff k level)
  | _ => s

/-- The transport receives a LIVE pedal publication (R50, R153, R154). -/
def State.transportPedal (s : State) (c : PedalIx) (level : Nat) : State :=
  match s.transport.state with
  | .countIn => s.recordEvent (.pedal c level)
  | .recording => s.recordEvent (.pedal c level)
  | _ => s

/-! ### The tick clock (7.3, 7.4) -/

/-- A click request of the metronome (R123): a new burst from frame 0. -/
def State.clickRequest (s : State) (accent : Bool) : State :=
  { s with click := some { done := 0, period := if accent then 32 else 48,
                           amplitude := squareGain s.transport.metronome.level / 4 } }

/-- Step 1 of R139: a click at a beat boundary, accented at the first beat of a bar (R160). -/
def State.clickAt (s : State) (began : TransportState) : State :=
  let pos := s.transport.position
  if Int.emod pos Config.beatTicks = 0 ∧ (began = .countIn ∨ s.transport.metronome.on = true) then
    s.clickRequest (decide (Int.emod pos (s.transport.metronome.beats * Config.beatTicks : Nat) = 0))
  else s

/-- The position after one more tick; beyond a signed 32-bit count it is a free value (log entry 7). -/
def State.advancePosition (s : State) : State :=
  if s.transport.position < Config.maxPosition then
    s.setTransport { s.transport with position := s.transport.position + 1 }
  else
    (s.setTransport { s.transport with position := (Config.freePosition s.drawn).toInt }).draw 1

/-- The loop jumps at this position (R159). -/
def State.loopJumps (s : State) : Bool :=
  decide (s.transport.state = .playing) && s.transport.loop.active && decide (s.transport.position = s.transport.loop.b) &&
    (s.transport.loop.n == 0 || decide (s.transport.loop.passes < s.transport.loop.n))

/-- The jump of a loop (R159). -/
def State.loopJump (s : State) : State :=
  let s1 := s.releaseAll
  let passes := satAdd Config.byteMax s1.transport.loop.passes 1
  let s2 := s1.setTransport { s1.transport with loop := { s1.transport.loop with passes := passes } }
  (s2.append (.loop passes s2.transport.loop.n) s2.now).locateTo s2.transport.loop.a .playing

/-- One tick position, taken whole (R139); answers whether the step goes on to its next tick. -/
def State.tick (s : State) (began : TransportState) : State × Bool :=
  let s1 := s.advancePosition.clickAt began
  if s1.loopJumps then (s1.loopJump, false)
  else
    let s2 := if s1.transport.state = .countIn ∧ s1.transport.position = 0 then s1.setTransportState .recording else s1
    let s3 := s2.takePosition
    (s3, s3.transport.state.clockRuns)

/-- The ticks of a clock step, one at a time. -/
def State.ticks (s : State) (began : TransportState) : Nat → State
  | 0 => s
  | n + 1 =>
    let (s', go) := s.tick began
    if go then State.ticks s' began n else s'

/-- The clock step (R137). -/
def State.clockStep (s : State) : State :=
  if s.transport.state.clockRuns then
    let a := s.transport.acc + 1000 * s.transport.tempo * s.transport.scale
    (s.setTransport { s.transport with acc := a % Config.tickUnit }).ticks s.transport.state (a / Config.tickUnit)
  else s

/-! ### Loads (7.11) -/

/-- A load is aborted (R163). -/
def State.abortLoad (s : State) (cause : LoadAbort) : State :=
  match s.transport.load with
  | none => s
  | some x =>
    let s1 := s.setTrack x.track { s.track x.track with recs := endOnly 0, reserved := false }
    (s1.setTransport { s1.transport with load := none }).report (.takeLoadAborted x.track cause) .take

/-! ### What a warm reset keeps (R167) -/

/-- A track after warm reset: a recording closed at its tail without WAIT records, a load left as its END alone. -/
def Transport.keptTrack (x : Transport) (i : TrackIx) : Track :=
  let recs :=
    match x.recording, x.load with
    | some r, _ =>
      if r.track = i then
        x.tracks[i].recs ++ endOnly (min Config.maxDelta (max x.position 0 - r.lastPos).toNat)
      else x.tracks[i].recs
    | none, some y => if y.track = i then endOnly 0 else x.tracks[i].recs
    | none, none => x.tracks[i].recs
  { resetTrack with recs := recs }

end Sys2Proof.Machine
end

