-- ==== Sys2Proof/Machine/RailOps.lean ====
section
/-! DEFINITION. The rail controller's shared operations (chapter 4): segments, entries to states, quiet, the vote set. -/

namespace Sys2Proof.Machine

def State.setRail (s : State) (r : Rail) : State := { s with rail := r }

/-! ### Segments (R68) -/

/-- A segment begins: its start and last edge are now, and C_eng is latched (R68). -/
def State.startSegment (s : State) (dir : Travel) : State :=
  s.setRail { s.rail with
    drive := some { dir := dir, start := s.now, lastEdge := s.now }, segCount := some s.cal.cEng }

/-- The driven time of a test segment goes to its phase's travel time (R80). -/
def RailState.addDriven (st : RailState) (us : Nat) : RailState :=
  match st with
  | .testing .inward a b => .testing .inward (a + us) b
  | .testing .outward a b => .testing .outward a (b + us)
  | st => st

/-- The motor is switched OFF and the segment ends (R68, R80). -/
def State.endSegment (s : State) : State :=
  match s.rail.drive with
  | none => s
  | some g => s.setRail { s.rail with drive := none, state := s.rail.state.addDriven (elapsed g.start s.now) }

/-! ### Entries to states -/

/-- A state is entered: its RAIL record is appended and the LED judged (R83, R213). -/
def State.enterRail (s : State) (st : RailState) : State :=
  ((s.setRail { s.rail with state := st }).railRecord false).judgeLed

/-- A move inward or outward begins or resumes (R70). -/
def State.beginMove (s : State) (dir : Travel) : State :=
  (s.startSegment dir).enterRail (match dir with | .inward => .movingIn | .outward => .movingOut)

/-- The rail arrives in: motor OFF, count set to the segment engaged count, ENGAGED (R72, R81). With no segment begun there
is no such count, and the count stays as it was (DESIGN CHOICE, log entry 40). -/
def State.arriveEngaged (s : State) : State :=
  let s1 := s.endSegment
  (s1.setRail { s1.rail with
    count := (match s1.rail.segCount with | some c => (c : Int) | none => s1.rail.count), segCount := none }).enterRail
    .engaged

/-- The rail arrives out: motor OFF, count 0, PARKED (R72, R78). -/
def State.arriveParked (s : State) : State :=
  let s1 := s.endSegment
  (s1.setRail { s1.rail with count := 0, segCount := none }).enterRail .parked

/-- One rule of a state just entered or whose quiet has come: the vote table at the ends of travel (R69), the start of
drive (R70, R78, R80), the end switch already MADE (R72). `none` where no rule acts. -/
def State.railRule (s : State) : Option State :=
  let r := s.rail
  match r.state with
  | .parked => if r.votes.any then some (s.enterRail (.pendingIn s.now false)) else none
  | .engaged => if r.votes.any then none else some (s.enterRail (.pendingOut s.now false))
  | .pendingIn _ _ => if r.quiet.quiet then some (s.beginMove .inward) else none
  | .pausedIn => if r.quiet.quiet then some (s.beginMove .inward) else none
  | .pendingOut _ _ => if r.quiet.quiet then some (s.beginMove .outward) else none
  | .pausedOut => if r.quiet.quiet then some (s.beginMove .outward) else none
  | .movingIn => if r.stop then some s.arriveEngaged else none
  | .movingOut => if r.park then some s.arriveParked else none
  | .homing => if r.decided && r.quiet.quiet && r.drive.isNone then some (s.startSegment .outward) else none
  | .testing p _ _ => if r.quiet.quiet && r.drive.isNone then some (s.startSegment p) else none
  | .fault _ => none

/-- The rules of the states entered, one after another, until none acts. -/
def State.settleFor : Nat → State → State
  | 0, s => s
  | n + 1, s =>
    match s.railRule with
    | some s' => State.settleFor n s'
    | none => s

/-- A chain of entries is at most eight long: the vote set does not change within it. -/
def State.settle (s : State) : State := State.settleFor 8 s

/-! ### Quiet (4.2) -/

def State.setQuiet (s : State) (q : Quiet) : State := s.setRail { s.rail with quiet := q }

/-- Quiet is lost: a driven motor is stopped at once (R64). -/
def State.loseQuiet (s : State) : State :=
  match s.rail.state with
  | .movingIn => s.endSegment.enterRail .pausedIn
  | .movingOut => s.endSegment.enterRail .pausedOut
  | .homing => s.endSegment
  | .testing _ _ _ => s.endSegment
  | _ => s

/-- Quiet becomes no, with a new count of keys not at rest. -/
def State.endQuiet (s : State) (n : Nat) : State :=
  let s' := s.setQuiet { notAtRest := n, start := none, quiet := false }
  if s.rail.quiet.quiet then s'.loseQuiet else s'

/-- A key has left rest (R63). -/
def State.keyLeft (s : State) : State := s.endQuiet (s.rail.quiet.notAtRest + 1)

/-- A key has returned (R63). While a learn is active the quiet start is held absent. -/
def State.keyReturned (s : State) : State :=
  let n := s.rail.quiet.notAtRest - 1
  s.setQuiet { s.rail.quiet with
    notAtRest := n, start := if n = 0 ∧ s.learn = none then some s.now else s.rail.quiet.start }

/-- A learn withholds quiet (R26, R63). -/
def State.withholdQuiet (s : State) : State := s.endQuiet s.rail.quiet.notAtRest

/-- A learn has ended: with the count at 0 the quiet start is set (R63). -/
def State.quietAfterLearn (s : State) : State :=
  if s.rail.quiet.notAtRest = 0 then s.setQuiet { s.rail.quiet with start := some s.now } else s

/-- The quiet timer has run out by now (R63). -/
def State.quietDue (s : State) : Bool :=
  match s.rail.quiet.start with
  | some q => reached q (1000 * s.cal.touch.quietMs) s.now
  | none => false

/-- The quiet event: quiet becomes yes and the rail acts (R63, R70). -/
def State.quietArrives (s : State) : State :=
  (s.setQuiet { s.rail.quiet with start := none, quiet := true }).settle

/-- The quiet timer is judged: where it has run out, quiet arrives (R63). -/
def State.judgeQuiet (s : State) : State := if s.quietDue then s.quietArrives else s

/-! ### The vote set (4.1, R69, R73) -/

/-- A move is turned round with its motor driven (R73). -/
def State.reverse (s : State) (dir : Travel) : State := s.endSegment.beginMove dir

/-- The rail acts on a change of the vote set (R69, R73, R76, R78, R80, R83, R85). -/
def State.votesChanged (s : State) : State :=
  if s.rail.decided then
    match s.rail.state, s.rail.votes.any with
    | .parked, true => s.settle
    | .engaged, false => s.settle
    | .pendingIn _ _, false => (s.enterRail .parked).settle
    | .pendingOut _ _, true => (s.enterRail .engaged).settle
    | .movingIn, false => (s.reverse .outward).settle
    | .movingOut, true => (s.reverse .inward).settle
    | .pausedIn, false => (s.enterRail .pausedOut).settle
    | .pausedOut, true => (s.enterRail .pausedIn).settle
    | _, _ => s.railRecord false
  else s

/-- The vote set becomes another set, or stays as it is with no change (R61, R62). -/
def State.setVotes (s : State) (v : Votes) : State :=
  if v = s.rail.votes then s else (s.setRail { s.rail with votes := v }).votesChanged

def Votes.put (v : Votes) (l : Link) (on : Bool) : Votes :=
  match l with
  | .a => { v with a := on }
  | .b => { v with b := on }

/-! ### The rail in a service test (4.8) -/

/-- The rail takes a cycle if it is PARKED with an empty vote set (R79). -/
def State.takeCycle (s : State) : Option State :=
  if s.rail.state = .parked ∧ s.rail.votes.any = false then some (s.enterRail (.testing .inward 0 0)).settle else none

/-- A cycle is aborted: the rail leaves TESTING by the switches and the vote set (R81). -/
def State.abortCycle (s : State) : State :=
  match s.rail.state with
  | .testing _ _ _ =>
    if s.rail.park then s.arriveParked.settle
    else if s.rail.stop then s.arriveEngaged.settle
    else if s.rail.votes.any then (s.endSegment.enterRail .pausedIn).settle
    else (s.endSegment.enterRail .pausedOut).settle
  | _ => s

end Sys2Proof.Machine
end

