-- ==== Sys2Proof/Machine/TestOps.lean ====
section
/-! DEFINITION. The service tests (10.5), and the events at the rail that a test is told of (R76, R80). -/

namespace Sys2Proof.Machine

def TestRun.kind : TestRun → TestKind
  | .sensorScan _ _ => .sensorScan
  | .railCycle => .railCycle
  | .tone => .tone
  | .readback _ _ => .readback

/-- A run ends: its TEST record, the TEST condition and the last result (R215). `completed`: it counts among the runs
completed. A failure in either mode, and any end in SINGLE, makes the test state inactive (R217). `m`: the measurements the
last result holds, none for an aborted run and for a faulted or BLOCKED cycle (DESIGN CHOICE, log entry 45). -/
def State.finishRun (s : State) (code detail : Nat) (m : Measure) (completed : Bool) : State :=
  match s.test with
  | none => s
  | some x =>
    let s1 := s.report (.test x.run.kind code detail) .test
    { s1 with
      runs := if completed then satAdd 65535 s1.runs 1 else s1.runs
      lastResult := some { kind := x.run.kind, code := code, detail := detail, measure := m }
      test := if code = 0 ∧ x.continuous = true then some x else none }

/-- The first state of a run (R216): a tone run begins at frame 0, a readback forms its image from the working copy. -/
def State.beginRun (s : State) (kind : TestKind) (continuous : Bool) : State :=
  match kind with
  | .sensorScan => { s with test := some { continuous := continuous, run := .sensorScan 0#88 0#88 } }
  | .railCycle => { s with test := some { continuous := continuous, run := .railCycle } }
  | .tone => { s with test := some { continuous := continuous, run := .tone }, tone := some 0 }
  | .readback =>
    { s with test := some { continuous := continuous, run := .readback (imageOf s.cal s.commitCount) s.now } }

/-- In mode CONTINUOUS a run that passed is followed by the next at once; a rail that refuses the next cycle ends that run
with code 5 BLOCKED (R216, R217), with no measurements (DESIGN CHOICE, log entry 45). -/
def State.nextRun (s : State) : State :=
  match s.test with
  | none => s
  | some x =>
    match x.run.kind with
    | .railCycle =>
      match s.takeCycle with
      | some s' => s'
      | none => s.finishRun 5 0 .none false
    | k => s.beginRun k x.continuous

/-- A run ends by its own end, and the next follows where R217 gives one. -/
def State.endRun (s : State) (code detail : Nat) (m : Measure) : State := (s.finishRun code detail m true).nextRun

/-- A running test is aborted: detail 1 for STOP_TEST, 2 for the seat (R217). The last result keeps no measurements of the
run (DESIGN CHOICE, log entry 45). -/
def State.abortTest (s : State) (detail : Nat) : State :=
  match s.test with
  | none => s
  | some x =>
    let s1 :=
      match x.run with
      | .railCycle => s.abortCycle
      | .tone => { s with tone := none }
      | _ => s
    s1.finishRun 255 detail .none false

/-- The SENSOR_SCAN judgement of a key's reading (R216), against the calibration the reading was taken under. -/
def State.scanReading (s : State) (k : KeyIx) (c : KeyCal) (raw : Nat) : State :=
  match s.test with
  | some { continuous := cont, run := .sensorScan judged failing } =>
    if KeySet.has judged k then s
    else
      let judged' := KeySet.add judged k
      let failing' :=
        if c.span < Config.leastSpan ∨ c.plausible raw = false then KeySet.add failing k else failing
      let s1 := { s with test := some { continuous := cont, run := .sensorScan judged' failing' } }
      if judged' = BitVec.allOnes 88 then
        let first := (KeySet.keys failing').head?
        s1.endRun (KeySet.count failing') ((first.map (fun x => x.val)).getD 0) (.scan (KeySet.count failing') first)
      else s1
  | _ => s

/-- The offset of the first byte in which two images differ. -/
def firstDifference (a b : List Byte) : Option Nat :=
  (List.range Config.imageBytes).find? (fun i => a.getD i 0#8 != b.getD i 0#8)

/-! ### Faults, and the end of a test's phases -/

/-- The result code of a cycle's fault (R216). -/
def RailFault.code : RailFault → Nat
  | .stall => 1
  | .timeout => 2
  | .overtravel => 3
  | .switches => 4

/-- A fault is taken at once (R76); a test cycle ends with the fault's code, and with no measurements (DESIGN CHOICE, log
entry 45). -/
def State.railFault (s : State) (cause : RailFault) : State :=
  let s1 := s.endSegment
  let s2 := (s1.setRail { s1.rail with segCount := none }).enterRail (.fault cause)
  match s.rail.state with
  | .testing p _ _ => s2.endRun cause.code (match p with | .inward => 1 | .outward => 2) .none
  | _ => s2

/-- The inward phase completes at the stop switch (R80). Before any segment of the cycle the count stays as it was (DESIGN
CHOICE, log entry 40). -/
def State.testInwardDone (s : State) : State :=
  let s1 := s.endSegment
  let s2 := s1.setRail { s1.rail with
    count := match s1.rail.segCount with | some c => (c : Int) | none => s1.rail.count }
  match s2.rail.state with
  | .testing _ a b => (s2.enterRail (.testing .outward a b)).settle
  | _ => s2

/-- The outward phase completes at the park switch or the index: PARKED, the run's TEST record, the vote set followed,
then the next cycle of a continuous test (R80, R217). -/
def State.testOutwardDone (s : State) : State :=
  match s.endSegment.rail.state with
  | .testing _ a b =>
    (s.arriveParked.finishRun 0 0 (.travel (a / 1000) (b / 1000)) true).settle.nextRun
  | _ => s

/-- A debounced end switch has changed (R67, R72, R78, R80). -/
def State.switchChanged (s : State) (switch : EndSwitch) (made : Bool) : State :=
  if s.rail.decided then
    match s.rail.state with
    | .fault _ => s
    | st =>
      if s.rail.park && s.rail.stop then s.railFault .switches
      else match st, switch, made with
        | .movingIn, .stop, true => s.arriveEngaged.settle
        | .pausedIn, .stop, true => s.arriveEngaged.settle
        | .movingOut, .park, true => s.arriveParked.settle
        | .pausedOut, .park, true => s.arriveParked.settle
        | .homing, .park, true => s.arriveParked.settle
        | .testing .inward _ _, .stop, true => s.testInwardDone
        | .testing .outward _ _, .park, true => s.testOutwardDone
        | _, _, _ => s
  else s

/-- The index pulse: the count is 0, and an outward move, homing or outward test phase completes (R66, R72, R78, R80). -/
def State.indexSeen (s : State) : State :=
  let s1 := s.setRail { s.rail with count := 0 }
  if s1.rail.decided then
    match s1.rail.state with
    | .movingOut => s1.arriveParked.settle
    | .pausedOut => s1.arriveParked.settle
    | .homing => s1.arriveParked.settle
    | .testing .outward _ _ => s1.testOutwardDone
    | _ => s1
  else s1

/-- The count after an edge, held within its bounds (R66). -/
def countEdge (count : Int) (sense : Travel) : Int :=
  clamp (-32768) 32767 (count + match sense with | .inward => 1 | .outward => -1)

/-- OVERTRAVEL is judged in MOVING_IN, MOVING_OUT and TESTING (R75). -/
def RailState.judgesTravel : RailState → Bool
  | .movingIn => true
  | .movingOut => true
  | .testing _ _ _ => true
  | _ => false

/-- The count stands beyond a limit with the switch of that end OPEN (R75). -/
def Rail.overtravelled (r : Rail) : Bool :=
  (match r.segCount with
    | some c => decide ((c : Int) + Config.overtravel < r.count) && !r.stop
    | none => false) ||
  (decide (r.count < -Config.overtravel) && !r.park)

/-- An encoder edge (R66, R74, R75). -/
def State.edgeSeen (s : State) (sense : Travel) : State :=
  let s1 := s.setRail { s.rail with
    count := countEdge s.rail.count sense, drive := s.rail.drive.map (fun g => { g with lastEdge := s.now }) }
  if s1.rail.drive.isSome && s1.rail.state.judgesTravel && s1.rail.overtravelled then s1.railFault .overtravel else s1

end Sys2Proof.Machine
end

