-- ==== Sys2Proof/Machine/KeyOps.lean ====
section
/-! DEFINITION. The key sense array's shared operations (chapter 1): crossings and transitions, what a tracker hands on,
faulty keys, start-up evaluation, pending calibration, LEARN. -/

namespace Sys2Proof.Machine

/-! ### Pending calibration and entry into REST (1.9, 1.10) -/

/-- A record becomes a key's active calibration, and the stored last reading is clamped anew (R24, R25). -/
def State.applyCal (s : State) (k : KeyIx) (c : KeyCal) : State :=
  let s1 := (s.setKeyCal k c .written).calChanged
  let x := s1.key k
  s1.setKey k { x with last := x.last.map (fun p => (c.clamped p.1, p.2)) }

/-- A pending calibration record is applied, if one is held (R25). -/
def State.applyPending (s : State) (k : KeyIx) : State :=
  match (s.key k).pendingCal with
  | none => s
  | some c => (s.setKey k { s.key k with pendingCal := none }).applyCal k c

/-- A tracker that enters LEARN: no depths yet, and both runs 0, where R27 has them stay (log entry 37). -/
def Tracker.intoLearn (x : Tracker) : Tracker := { x with state := .learn none, implausible := 0, recovery := 0 }

/-- A learn-waiting key that is in REST enters LEARN (R11, R26). -/
def State.passToLearn (s : State) (k : KeyIx) : State :=
  if (s.key k).learnWaiting then s.setKey k { (s.key k).intoLearn with learnWaiting := false } else s

/-- A key enters REST: pending calibration, then LEARN if it is waiting (R11, R25, R26). -/
def State.enterRest (s : State) (k : KeyIx) : State :=
  ((s.setKey k { s.key k with state := .rest }).applyPending k).passToLearn k

/-! ### What a tracker hands on (1.6) -/

/-- KEY_ON (R17). -/
def State.keyOn (s : State) (k : KeyIx) (stroke : Stroke) (ta tb : Time) (rep : Bool) : State :=
  let level := strikeLevel s.cal k stroke ta tb s.live[(2 : Fin 3)].switch
  let (s1, voice) := if s.liveRoute then s.noteOn .live k level else (s, none)
  (s1.append (.keyOn k level rep voice.isSome) tb).transportKeyOn k level

/-- KEY_OFF (R18). -/
def State.keyOff (s : State) (k : KeyIx) (level : Nat) (cause : OffCause) (time : Time) : State :=
  ((s.noteOff .live k level).append (.keyOff k level cause) time).transportKeyOff k level

/-! ### Transitions (1.5) -/

def State.setKeyState (s : State) (k : KeyIx) (st : KeyState) : State := s.setKey k { s.key k with state := st }

/-- One transition that a reading makes the tracker take, by the levels of a calibration (R11 to R16). The flag says that
the key entered REARMED from DOWN on this same reading (R14). `none`: the state watches no crossing the reading makes. -/
def State.transition (s : State) (k : KeyIx) (c : KeyCal) (x : Reading) (fromDown : Bool) : Option (State × Bool) :=
  let t := s.cal.touch
  match (s.key k).state with
  | .rest =>
    (x.crossDown (c.level t.fOn)).map (fun tc =>
      (s.setKeyState k (if s.running then .onset .fresh tc else .returning), false))
  | .onset stroke tStart =>
    match x.crossDown (c.level t.fSt) with
    | some tc => some ((s.setKeyState k .down).keyOn k stroke tStart tc false, false)
    | none =>
      match stroke with
      | .fresh => (x.crossUp (c.upPoint t t.fOn)).map (fun _ => (s.enterRest k, false))
      | .short => (x.crossUp (c.upPoint t t.fRa)).map (fun _ => (s.setKeyState k .returning, false))
  | .down => (x.crossUp (c.upPoint t t.fRa)).map (fun tc => (s.setKeyState k (.rearmed tc), true))
  | .rearmed tUp =>
    match x.crossDown (c.level t.fRa) with
    | some tc => some (s.setKeyState k (.restrike tc tUp), false)
    | none =>
      (x.crossUp (c.upPoint t t.fRel)).map (fun tc =>
        ((s.setKeyState k .returning).keyOff k
          (releaseLevel s.cal k (if fromDown then tc else tUp) tc) .played tc, false))
  | .restrike tStart _ =>
    match x.crossDown (c.level t.fSt) with
    | some tc => some ((s.setKeyState k .down).keyOn k .short tStart tc true, false)
    | none => (x.crossUp (c.upPoint t t.fRa)).map (fun tc => (s.setKeyState k (.rearmed tc), false))
  | .returning =>
    match (if s.running then x.crossDown (c.level t.fRa) else none) with
    | some tc => some (s.setKeyState k (.onset .short tc), false)
    | none => (x.crossUp (c.upPoint t t.fOn)).map (fun _ => (s.enterRest k, false))
  | .learn _ => none
  | .faulty _ => none

/-- The series of transitions of one reading (R9). -/
def State.transitions (s : State) (k : KeyIx) (c : KeyCal) (x : Reading) (fromDown : Bool) : Nat → State
  | 0 => s
  | n + 1 =>
    match s.transition k c x fromDown with
    | some (s', f) => State.transitions s' k c x f n
    | none => s

/-! ### Faulty keys (1.7) -/

/-- A KEY_FAULT record raises KEY_FAULT on both links (R20, R21). -/
def State.keyFaultRecord (s : State) (k : KeyIx) (recovered : Bool) (cause : FaultCause) : State :=
  s.report (.keyFault k recovered cause) .keyFault

/-- The implausible run has reached 16: the key enters FAULTY (R20). -/
def State.enterFaulty (s : State) (k : KeyIx) (stored : Nat) : State :=
  let s1 := if (s.key k).state.noteOn then s.keyOff k 1 .fault s.now else s
  let s2 := s1.setKey k
    { s1.key k with
      state := .faulty .readings, last := some (stored, s.now), implausible := Config.faultRun, recovery := 0 }
  s2.keyFaultRecord k false .readings

/-- The calibration of usable span a FAULTY key is judged against (R21). -/
def State.usableCal (s : State) (k : KeyIx) : Option KeyCal :=
  if Config.leastSpan ≤ (s.keyCal k).span then some (s.keyCal k) else (s.key k).pendingCal

/-- A FAULTY key recovers (R21). -/
def State.recoverKey (s : State) (k : KeyIx) (cause : FaultCause) : State :=
  let s1 := s.applyPending k
  let s2 := s1.setKey k { s1.key k with state := .rest, last := none, implausible := 0, recovery := 0 }
  (s2.keyFaultRecord k true cause).passToLearn k

/-- A reading of a FAULTY key (R21). -/
def State.faultyReading (s : State) (k : KeyIx) (cause : FaultCause) (raw : Nat) : State :=
  let x := s.key k
  match s.usableCal k with
  | none => s.setKey k { x with last := some ((s.keyCal k).clamped raw, s.now), recovery := 0 }
  | some c =>
    let counts := c.plausible raw && decide ((c.clamped raw : Int) < c.level s.cal.touch.fOn)
    let run := if counts then x.recovery + 1 else 0
    let s1 := s.setKey k { x with last := some (c.clamped raw, s.now), recovery := run }
    if Config.recoverRun ≤ run then s1.recoverKey k cause else s1

/-! ### A reading after evaluation (R6, R9, R27) -/

/-- The learn minimum and maximum after a raw reading (R27). -/
def widen (seen : Option (Nat × Nat)) (raw : Nat) : Nat × Nat :=
  match seen with
  | none => (raw, raw)
  | some (lo, hi) => (min lo raw, max hi raw)

/-- The handling of a reading by a tracker out of LEARN and FAULTY (R6 to R9, R20). -/
def State.playedReading (s : State) (k : KeyIx) (raw : Nat) : State :=
  let c := s.keyCal k
  let run := if c.plausible raw then 0 else (s.key k).implausible + 1
  if Config.faultRun ≤ run then s.enterFaulty k (c.clamped raw)
  else
    let s1 := (s.setKey k { s.key k with implausible := run }).transitions k c (Reading.of (s.key k) c s.now raw) false 8
    s1.setKey k { s1.key k with last := some ((s1.keyCal k).clamped (c.clamped raw), s.now) }

/-- A tracker handles a reading (R3). -/
def State.trackerReading (s : State) (k : KeyIx) (raw : Nat) : State :=
  match (s.key k).state with
  | .learn seen =>
    s.setKey k { s.key k with state := .learn (some (widen seen raw)), last := some (raw, s.now) }
  | .faulty cause => s.faultyReading k cause raw
  | _ => s.playedReading k raw

/-! ### Start-up evaluation (1.8) and the end of CHECKING (R208) -/

/-- The state the evaluation reading gives a key, and its implausible run (R22). -/
def evaluatedState (c : KeyCal) (t : Touch) (raw : Nat) : KeyState × Nat :=
  if c.span < Config.leastSpan then (.faulty .span, 0)
  else if c.plausible raw = false then (.faulty .readings, Config.faultRun)
  else if c.level t.fOn ≤ (c.clamped raw : Int) then (.returning, 0)
  else (.rest, 0)

def State.allKeysEvaluated (s : State) : Bool := s.keys.toList.all (fun x => x.evaluated)
def State.allPedalsEvaluated (s : State) : Bool := s.live.toList.all (fun x => x.evaluated)

/-- CHECKING ends at the last of its three reports (R208). -/
def State.judgeChecking (s : State) : State :=
  if s.startUp.phase = .checking ∧ s.allKeysEvaluated = true ∧ s.allPedalsEvaluated = true ∧ s.rail.decided = true then
    s.setPhase .samples
  else s

def KeyState.isFaulty : KeyState → Bool
  | .faulty _ => true
  | _ => false

/-- A key that its evaluation made FAULTY joins the keys found so (R22). -/
def State.findFaulty (s : State) (k : KeyIx) (faulty : Bool) : State :=
  { s with startUp := { s.startUp with
      foundFaulty := if faulty then KeySet.add s.startUp.foundFaulty k else s.startUp.foundFaulty } }

/-- A key's evaluation reading (R22). -/
def State.evaluateKey (s : State) (k : KeyIx) (raw : Nat) : State :=
  let c := s.keyCal k
  let (st, run) := evaluatedState c s.cal.touch raw
  (s.setKey k
    { s.key k with
      state := st, last := some (c.clamped raw, s.now), implausible := run, evaluated := true }).findFaulty k st.isFaulty

/-- Sensor evaluation is complete: the keys it made FAULTY are the faulty key list of the start-up result, whatever later
readings have made of them (R22, R211). -/
def State.reportSensors (s : State) : State :=
  if s.allKeysEvaluated then
    State.judgeChecking { s with startUp := { s.startUp with faultyKeys := some s.startUp.foundFaulty } }
  else s

/-- The key's rest state is reported to the rail controller when the handling changed it (R19). -/
def State.restReport (s : State) (before after : Bool) : State :=
  match before, after with
  | true, false => s.keyLeft
  | false, true => s.keyReturned
  | _, _ => s

/-- A depth reading of a key, handled whole (R3). -/
def State.keyReading (s : State) (k : KeyIx) (raw : Nat) : State :=
  if s.startUp.phase = .loading then s
  else
    let evaluates := decide (s.startUp.phase = .checking) && !(s.key k).evaluated
    let s1 := if evaluates then s.evaluateKey k raw else s.trackerReading k raw
    let s2 := s1.restReport (s.key k).state.atRest (s1.key k).state.atRest
    let s3 := if evaluates then s2.reportSensors else s2
    s3.scanReading k (s.keyCal k) raw

/-! ### LEARN (1.10) -/

/-- A key of the range at LEARN_BEGIN: into LEARN from REST, or marked learn-waiting (R26). -/
def State.beginLearnKey (s : State) (k : KeyIx) : State :=
  match (s.key k).state with
  | .rest => (s.setKey k (s.key k).intoLearn).keyLeft
  | _ => s.setKey k { s.key k with learnWaiting := true }

/-- The keys of a range. -/
def keysFrom (lo hi : Nat) : List KeyIx := (List.finRange 88).filter (fun k => decide (lo ≤ k.val) && decide (k.val ≤ hi))

/-- A learn begins (R26, R63). -/
def State.beginLearn (s : State) (lo hi : Nat) (l : Link) : State :=
  let s1 := State.withholdQuiet { s with learn := some { lo := lo, hi := hi, link := l } }
  (keysFrom lo hi).foldl (fun x k => x.beginLearnKey k) s1

/-- A key's learned depths are taken (R28): the learn minimum and maximum lie 200 or more apart. -/
def learnAccepted (seen : Option (Nat × Nat)) : Bool :=
  match seen with
  | some (lo, hi) => decide (lo + 200 ≤ hi)
  | none => false

/-- One key at the end of a learn (R25, R28). -/
def State.endLearnKey (s : State) (k : KeyIx) : State :=
  match (s.key k).state with
  | .learn seen =>
    let s1 :=
      match seen with
      | some (lo, hi) =>
        if lo + 200 ≤ hi then (s.setKeyCal k { s.keyCal k with r := lo, b := hi } .learned).calChanged else s
      | none => s
    ((s1.setKey k { s1.key k with state := .rest, last := none, learnWaiting := false }).applyPending k).keyReturned
  | _ => s.setKey k { s.key k with learnWaiting := false }

/-- The keys in LEARN that a judgement picks. -/
def State.learnCount (s : State) (f : Option (Nat × Nat) → Bool) : Nat :=
  ((List.finRange 88).filter (fun k =>
    match (s.key k).state with
    | .learn seen => f seen
    | _ => false)).length

/-- Keys accepted and rejected at the end of a learn (R28). -/
def State.learnAcceptedCount (s : State) : Nat := s.learnCount learnAccepted
def State.learnRejectedCount (s : State) : Nat := s.learnCount (fun seen => !learnAccepted seen)

/-- The end of a learn (R28, R29): every key in LEARN is judged and enters REST, and the CAL record is appended. -/
def State.endLearn (s : State) : State :=
  let s1 := (List.finRange 88).foldl (fun x k => x.endLearnKey k) { s with learn := none }
  s1.quietAfterLearn.report (.calLearnDone s.learnAcceptedCount s.learnRejectedCount) .cal

end Sys2Proof.Machine
end

