-- ==== Sys2Proof/Machine/LinkOps.lean ====
section
/-! DEFINITION. The link unit's shared operations (chapter 9): taking a request and answering it, the seat, presence; and
the entry to RUNNING (R209). -/

namespace Sys2Proof.Machine

/-! ### Requests and responses (9.1) -/

/-- What a request's rule answers: a status, and the payload of an OK response. -/
structure Reply where
  status : Status
  payload : List Byte
  deriving DecidableEq, Repr

/-- An OK reply, and a refusal: a response with any other status carries length 0 (R188). -/
def Reply.ok (payload : List Byte) : Reply := { status := .ok, payload := payload }
def Reply.no (status : Status) : Reply := { status := status, payload := [] }

/-- The bytes of a response: status, length, payload (R188). -/
def Reply.bytes (r : Reply) : List Byte := byteOf r.status.code :: byteOf r.payload.length :: r.payload

/-- The bytes of a request: code, length, payload (R187). -/
def requestBytes (code : Nat) (p : List Byte) : List Byte := byteOf code :: byteOf p.length :: p

/-- The response is formed and the phase becomes ANSWERING (R187). -/
def State.answer (s : State) (l : Link) (request : List Byte) (r : Reply) : State :=
  s.setLink l { s.link l with transaction := .answering request r.bytes }

/-- The link can complete a request: its transaction is in RECEIVING (R186). -/
def State.receiving (s : State) (l : Link) : Bool :=
  match (s.link l).transaction with
  | .receiving _ => true
  | _ => false

/-- A complete request of a known code is taken at once and whole (R187): the link unit's own length check, then the rule
of the request. Out of RECEIVING the bytes are not taken (R186). -/
def State.request (s : State) (t : Time) (l : Link) (code : Nat) (p : List Byte) (rule : State → State × Reply) :
    Result :=
  let s0 := s.stamp t
  if s0.receiving l then
    let (s1, r) := if Config.maxPayload < p.length then (s0, Reply.no .badLength) else rule s0
    .next (s1.answer l (requestBytes code p) r)
  else .next s0

/-- The first check that fails gives the response; a request that passes them all takes effect. -/
def State.checked (s : State) (checks : List (Bool × Status)) (effect : State × Reply) : State × Reply :=
  match checks.find? (fun x => x.1) with
  | some (_, st) => (s, Reply.no st)
  | none => effect

/-- Checks that many rules share. -/
def State.beforeRunning (s : State) : Bool × Status := (!s.running, .notReady)
def State.beforeHeld (s : State) : Bool × Status := (!s.heldOrRunning, .notReady)
def State.noSeat (s : State) (l : Link) : Bool × Status := (!s.holds l, .noSeat)
def lengthNot (p : List Byte) (n : Nat) : Bool × Status := (p.length != n, .badLength)
def State.commitBusy (s : State) : Bool × Status := (s.commit.isSome, .busy)

/-- The request codes the part knows (11.1). -/
def knownCodes : List Nat :=
  (List.range 10).map (· + 0x01) ++ [0x10, 0x11, 0x18, 0x20, 0x21, 0x22, 0x23] ++ (List.range 16).map (· + 0x30) ++
  (List.range 7).map (· + 0x40) ++ (List.range 10).map (· + 0x50) ++ [0x60, 0x61]

/-! ### The seat (9.5) -/

/-- A change of the seat holder and what it hands on: the SEAT record, a learn ended, a test aborted (R201). -/
def State.seatChange (s : State) (after : Option Link) (cause : SeatCause) : State :=
  let before := s.seat
  let s1 := State.report { s with seat := after } (.seat after before cause) .seat
  let s2 :=
    match s1.learn with
    | some x => if before = some x.link then s1.endLearn else s1
    | none => s1
  s2.abortTest 2

/-- The seat judged by SEAT_DEFAULT at the entry to RUNNING (R198). -/
def State.judgeSeatDefault (s : State) : State :=
  if s.seat = none ∧ s.linkPresent s.startUp.straps.seatDefault = true then
    s.seatChange (some s.startUp.straps.seatDefault) .startUp
  else s

/-- The part enters RUNNING (R209). -/
def State.enterRunning (s : State) : State :=
  let s1 := s.setPhase .running
  let s2 :=
    match s1.startUp.calSource with
    | some (.defaults g) => s1.report (.calDefaults g) .cal
    | _ => s1
  (s2.judgeSeatDefault.raise .startup).judgeLed

/-! ### Presence (9.2, 9.6) -/

/-- A link is judged present: its cursor at the newest end, its absent count its gap count (R179, R202). -/
def State.judgePresent (s : State) (l : Link) : State :=
  match (s.link l).view with
  | .present _ _ => s
  | .absent n =>
    let s1 := s.setView l (.present s.journal.length n)
    let s2 := if n = 0 then s1 else s1.raiseOn l .gap
    s2.judgeRemoval

/-- The recording a link owns is stopped (R157). -/
def State.ownerAbsent (s : State) (l : Link) : State :=
  match s.transport.recording with
  | some r => if r.owner = l then s.stopTransport else s
  | none => s

/-- The load a link has open is aborted (R163). -/
def State.loaderAbsent (s : State) (l : Link) : State :=
  match s.transport.load with
  | some x => if x.link = l then s.abortLoad .linkAbsent else s
  | none => s

/-- A link is judged absent: the departure handed on in order (R178, R202). -/
def State.judgeAbsent (s : State) (l : Link) : State :=
  match (s.link l).view with
  | .absent _ => s
  | .present _ _ =>
    let s1 := (s.setView l (.absent 0)).judgeRemoval
    let s2 := if s1.seat = some l then s1.seatChange none .absent else s1
    (s2.ownerAbsent l).loaderAbsent l

/-- A link record after LINK_RESET, and the journal's placing of the link (R179, R195). -/
def State.linkResetOn (s : State) (l : Link) : State :=
  let r := s.link l
  let view :=
    match r.view with
    | .present _ _ => .present s.journal.length 0
    | .absent _ => .absent 0
  (s.setLink l { r with latched := 0#16, mask := defaultMask, onAck := true, watermark := 1, view := view }).judgeRemoval

/-! ### The byte the part shifts out (R186, R188) -/

/-- The byte shifted out as the n-th clocked in a phase: none in IDLE; A5h in RECEIVING and DISCARDING; in ANSWERING the
response after a number of filler bytes that the manual does not fix (log entry 28). -/
def Transaction.shiftsOut (x : Transaction) (fillers n : Nat) : Option Byte :=
  match x with
  | .idle => none
  | .receiving _ => some 0xA5#8
  | .answering _ response => some (if n < fillers then 0xA5#8 else response.getD (n - fillers) 0xA5#8)
  | .discarding => some 0xA5#8

end Sys2Proof.Machine
end

