-- ==== Sys2Proof/Machine/LivePedalOps.lean ====
section
/-! DEFINITION. The LIVE pedal group's shared operations (3.2 to 3.4): evaluation, publication, disconnection. -/

namespace Sys2Proof.Machine

/-- A channel publishes: its PEDAL record, its last published level, the transport (R50, R51, R52). -/
def State.publish (s : State) (i : PedalIx) : State :=
  let x := s.liveChannel i
  let s1 := s.append (.pedal .live i x.level x.switch x.connected) s.now
  (s1.setLive i { x with published := x.level }).transportPedal i x.level

/-- The level of a CONNECTED channel is worth a record (R50). -/
def LiveChannel.publishes (x : LiveChannel) : Bool :=
  (x.level != x.published) &&
    (decide (x.published + 2 ≤ x.level) || decide (x.level + 2 ≤ x.published) || x.level == 0 || x.level == 127)

/-- The evaluation reading of a channel (R47). -/
def evaluatedChannel (c : PedalCal) (raw : Nat) : LiveChannel :=
  let level := if raw = 1023 then 0 else pedalLevel c raw
  { level := level, published := level, switch := decide (Config.switchOn ≤ level), connected := decide (raw ≠ 1023),
    atFull := none, evaluated := true }

/-- The run of readings of 1023 after a reading (R51). -/
def LiveChannel.fullRun (x : LiveChannel) (raw : Nat) (now : Time) : Option Time :=
  if raw = 1023 then some (x.atFull.getD now) else none

/-- The disconnection test of a CONNECTED channel (R51). -/
def LiveChannel.pulled (x : LiveChannel) (raw : Nat) (now : Time) : Bool :=
  match x.fullRun raw now with
  | some t0 => reached t0 Config.disconnectTime now
  | none => false

/-- A channel with a new level and its switch judged (R48, R49). -/
def LiveChannel.atLevel (x : LiveChannel) (level : Nat) : LiveChannel :=
  { x with level := level, switch := judgeSwitch x.switch level }

/-- What a reading makes of a channel, and whether it publishes (R48 to R52); `none` for a reading discarded. -/
def LiveChannel.read (x : LiveChannel) (c : PedalCal) (raw : Nat) (now : Time) : Option (LiveChannel × Bool) :=
  if x.connected then
    if x.pulled raw now then some ({ x with atFull := none, connected := false }.atLevel 0, true)
    else
      let y := { x with atFull := x.fullRun raw now }.atLevel (pedalLevel c raw)
      some (y, y.publishes)
  else if 1000 ≤ raw then none
  else some ({ x with connected := true }.atLevel (pedalLevel c raw), true)

/-- All three channels are evaluated: the disconnected pedals of the start-up result (R47, R211). -/
def State.reportPedals (s : State) : State :=
  if s.allPedalsEvaluated then
    State.judgeChecking
      { s with startUp := { s.startUp with
          disconnected := some ((List.finRange 3).filter (fun i => !(s.liveChannel i).connected)) } }
  else s

/-- A reading after the channel's evaluation, in the order of R58: disconnection test, level, switch, publication, capture
or letting go, damper notice. -/
def State.pedalReadingAfter (s : State) (i : PedalIx) (raw : Nat) : State :=
  let x := s.liveChannel i
  match x.read s.cal.pedals[i] raw s.now with
  | none => s
  | some (y, publishes) =>
    let s1 := s.setLive i y
    let s2 := if publishes then s1.publish i else s1
    s2.pedalEffects .live i x.switch y.switch x.level y.level

/-- A depth reading of a pedal channel, handled whole (R47). -/
def State.pedalReading (s : State) (i : PedalIx) (raw : Nat) : State :=
  if s.startUp.phase = .loading then s
  else if s.startUp.phase = .checking ∧ (s.liveChannel i).evaluated = false then
    (s.setLive i (evaluatedChannel s.cal.pedals[i] raw)).reportPedals
  else s.pedalReadingAfter i raw

end Sys2Proof.Machine
end

