-- ==== Sys2Proof/Machine/OutputOps.lean ====
section
/-! DEFINITION. The shared operations of sample fetch and of the headphone output (chapter 6): jacks, the supply, gain
ramps, the mix of a frame. -/

namespace Sys2Proof.Machine

/-! ### Gains and ramps (6.4, 6.5) -/

/-- A ramp begins from the present gain (R121). -/
def Jack.rampTo (j : Jack) (target total : Nat) : Jack :=
  { j with ramp := some { first := j.gain, last := target, total := total, done := 0 } }

/-- The gain of a ramp after its steps done (R121). -/
def Ramp.gain (r : Ramp) : Nat :=
  if r.total ≤ r.done then r.last
  else ((r.first : Int) + floorDiv (((r.last : Int) - r.first) * r.done) r.total).toNat

/-- A ramp step on one jack (R121). -/
def Jack.rampStep (j : Jack) : Jack :=
  match j.ramp with
  | none => j
  | some r =>
    let r' := { r with done := r.done + 1 }
    { j with gain := r'.gain, ramp := if r'.total ≤ r'.done then none else some r' }

/-- The enabled condition: SEATED, the supply GOOD, both raw contacts MADE (R120). -/
def Jack.mayEnable (j : Jack) (good : Bool) : Bool := j.state == .seated && good && j.tipRaw.on && j.sleeveRaw.on

/-- The gain is 0 at once and any ramp removed (R120). -/
def Jack.mute (j : Jack) : Jack := { j with gain := 0, ramp := none }

/-- Enabled is judged anew (R120). -/
def Jack.judge (good : Bool) (j : Jack) : Jack :=
  match j.enabled, j.mayEnable good with
  | false, true => Jack.rampTo { j with enabled := true } j.target 32
  | true, false =>
    if good then Jack.rampTo { j with enabled := false } 0 4 else Jack.mute { j with enabled := false }
  | _, _ => j

def State.jack (s : State) (i : JackIx) : Jack := s.jacks.get i
def State.setJack (s : State) (i : JackIx) (j : Jack) : State := { s with jacks := s.jacks.put i j }

/-- Both jacks' enabled are judged. -/
def State.judgeEnabled (s : State) : State := { s with jacks := s.jacks.map (Jack.judge (decide (s.supply = .good))) }

/-! ### The supply (6.7) -/

/-- The supply switch: on in RISING and GOOD, off in OFF and FAILED (R125 to R127, log entry 33). -/
def Supply.switchOn : Supply → Bool
  | .off => false
  | .rising _ => true
  | .good => true
  | .failed _ => false

/-- The supply switch as it stands. -/
def State.supplySwitch (s : State) : Bool := s.supply.switchOn

/-- The supply state changes, and the switch with it: leaving GOOD sets every gain to 0, enabled is judged, a SUPPLY record is
appended (R120, R126, R129), and the LED is judged (R213). -/
def State.setSupply (s : State) (x : Supply) : State :=
  let s1 := { s with supply := x, jacks := if s.supply = Supply.good ∧ x ≠ Supply.good then s.jacks.map Jack.mute else s.jacks }
  (s1.judgeEnabled.report (.supply x.name x.fail) .supply).judgeLed

/-- The supply is requested while any jack is SEATED (R125). -/
def State.anySeated (s : State) : Bool := s.jacks.j1.state == .seated || s.jacks.j2.state == .seated

/-- The supply follows its request (R125, R126, R127). -/
def State.judgeSupply (s : State) : State :=
  match s.supply, s.anySeated with
  | .off, true =>
    let s1 := s.setSupply (.rising s.now)
    if s1.supplyGood then s1.setSupply .good else s1
  | .rising _, false => s.setSupply .off
  | .good, false => s.setSupply .off
  | .failed _, false => s.setSupply .off
  | _, _ => s

/-! ### Contacts (R119) -/

/-- A raw input takes a level; holding the level it had, it is as it was. -/
def RawInput.turn (i : RawInput) (on : Bool) (now : Time) : RawInput :=
  if i.on = on then i else { on := on, since := now }

/-- A raw input has held a level other than the debounced one for a time. -/
def RawInput.due (i : RawInput) (debounced : Bool) (hold : Nat) (now : Time) : Bool :=
  i.on != debounced && reached i.since hold now

/-- The selection names the tip, and the sleeve. -/
def namesTip : Contacts → Bool
  | .tip => true
  | .sleeve => false
  | .both => true
def namesSleeve : Contacts → Bool
  | .tip => false
  | .sleeve => true
  | .both => true

/-- The raw contacts of a selection change (R119). -/
def Jack.turn (j : Jack) (c : Contacts) (closed : Bool) (now : Time) : Jack :=
  { j with
    tipRaw := if namesTip c then j.tipRaw.turn closed now else j.tipRaw
    sleeveRaw := if namesSleeve c then j.sleeveRaw.turn closed now else j.sleeveRaw }

/-- The state that the debounced contacts make (R119). -/
def jackStateOf (tip sleeve : Bool) : JackState :=
  match tip, sleeve with
  | true, true => .seated
  | false, false => .empty
  | _, _ => .partly

/-- The contacts of a selection that are due change, and the state with them (R119). -/
def Jack.debounce (j : Jack) (c : Contacts) (now : Time) : Jack :=
  let tip := if namesTip c && j.tipRaw.due j.tip Config.contactHold now then j.tipRaw.on else j.tip
  let sleeve :=
    if namesSleeve c && j.sleeveRaw.due j.sleeve Config.contactHold now then j.sleeveRaw.on else j.sleeve
  { j with tip := tip, sleeve := sleeve, state := jackStateOf tip sleeve }

/-- A jack's debounced contacts have changed: the JACK record on a change of state, then enabled and the supply (R120, R125,
R128). -/
def State.debounceJack (s : State) (i : JackIx) (c : Contacts) : State :=
  let j := (s.jack i).debounce c s.now
  let s1 := s.setJack i j
  let s2 := if j.state = (s.jack i).state then s1 else s1.report (.jack i j.state j.tip j.sleeve) .jack
  s2.judgeEnabled.judgeSupply

/-! ### The mix (6.2, 6.3) -/

/-- The address of a voice's sample word: the sample of its key, and the position in it (R114). -/
def Voice.address (v : Voice) (w : Window) : Nat := w.base + (v.key.val - w.keyLo) * w.stride + v.position

/-- The word pair of a voice; `none` where it has no address in the sample memory. The words are those recorded there,
whatever the window's wait class: the model has no regions (DESIGN CHOICE, log entry 41). -/
def State.voiceWords (s : State) (v : Voice) : Option (Int × Int) :=
  match s.windows[v.window]? with
  | none => none
  | some w =>
    if v.address w + 1 ≤ Config.lastWord then
      some ((Memory.read s.sampleMem (v.address w)).toInt, (Memory.read s.sampleMem (v.address w + 1)).toInt)
    else none

/-- The voice gain Gv (R116). -/
def Voice.gain (v : Voice) : Nat := squareGain v.level * v.env / 32768

/-- The contribution of a word (R116). -/
def contribution (word : Int) (gain : Nat) : Int := floorDiv (word * gain) 32768

/-- The sum of the voices, left and right (R117). -/
def State.voiceSum (s : State) : Option (Int × Int) :=
  s.voices.toList.foldl
    (fun acc v =>
      match acc, v with
      | some (l, r), some x =>
        (s.voiceWords x).map (fun w => (l + contribution w.1 x.gain, r + contribution w.2 x.gain))
      | acc, _ => acc)
    (some (0, 0))

/-- The click value of a frame (R123). -/
def Click.value (c : Click) : Int :=
  if c.done < Config.clickFrames then
    if c.done % c.period < c.period / 2 then (c.amplitude : Int) else -(c.amplitude : Int)
  else 0

def State.clickValue (s : State) : Int :=
  match s.click with
  | some c => c.value
  | none => 0

/-- The tone value of a frame, while the run has frames left (R124). -/
def State.toneValue (s : State) : Option Int :=
  match s.tone with
  | some n =>
    if n < Config.toneFrames then
      some (if n % 48 < 24 then Config.toneAmplitude else -Config.toneAmplitude)
    else none
  | none => none

/-- S of each channel (R117). -/
def State.mix (s : State) (sum : Int × Int) : Stereo :=
  match s.toneValue with
  | some x => { left := x, right := x }
  | none => { left := sum.1 + s.clickValue, right := sum.2 + s.clickValue }

/-- The output of a gain before the clamp (R118). -/
def scaled (x : Int) (gain : Nat) : Int := floorDiv (x * gain) 256
def clamp24 (x : Int) : Int := clamp (-8388608) 8388607 x

/-- What a jack puts out, and whether the clamp changed it (R118). -/
def Jack.plays (j : Jack) (m : Stereo) : Stereo × Bool :=
  let l := scaled m.left j.gain
  let r := scaled m.right j.gain
  ({ left := clamp24 l, right := clamp24 r }, clamp24 l != l || clamp24 r != r)

/-- A voice after its word pair has been read (R114, R106). -/
def advanceVoice (ws : List Window) (v : Option Voice) : Option Voice :=
  match v with
  | none => none
  | some x =>
    match ws[x.window]? with
    | none => some x
    | some w =>
      if x.position + 2 = w.length then w.loop.map (fun o => { x with position := o })
      else some { x with position := x.position + 2 }

/-- The click burst after a frame, and the tone run (R123, R124). -/
def Click.next (c : Click) : Click := { c with done := min Config.clickFrames (c.done + 1) }

/-- An output frame on a sum of the voices (R114 to R118): the jacks' samples and clip latches, then the sources' frames and
the position advances. -/
def State.frame (s : State) (sum : Int × Int) : State :=
  let m := s.mix sum
  { s with
    output := { j1 := (s.jacks.j1.plays m).1, j2 := (s.jacks.j2.plays m).1 }
    jacks := s.jacks.map (fun j => { j with clip := j.clip || (j.plays m).2 })
    click := s.click.map Click.next
    tone := s.tone.map (fun n => min Config.toneFrames (n + 1))
    voices := tableMap (advanceVoice s.windows) s.voices }

end Sys2Proof.Machine
end

