-- ==== Sys2Proof/Machine/ResetOps.lean ====
section
/-! DEFINITION. The two resets and the shared operations of start-up (10.3, 10.4). -/

namespace Sys2Proof.Machine

/-! ### The resets (R212) -/

/-- A commit in progress ends with no record, its page in an unknown state (R207). -/
def State.cutCommit (s : State) : State :=
  match s.commit with
  | some c => { s.spoilPage c.page with commit := none }
  | none => s

/-- Every block of the part at its state after a reset (R212), over the tracks the reset leaves. The raw inputs, the attached
memories and the commands that wait are kept; the working copy stands until the load (log entry 21). -/
def State.resetBlocks (s : State) (kind : ResetKind) (straps : Straps) (tracks : Vector Track 4)
    (store : TakeStoreOutcome) : State :=
  State.judgeLed
    { s with
      keys := Vector.replicate 88 resetTracker
      learn := none
      committed := false
      startUp :=
        { phase := .loading, phaseSince := s.now, straps := straps, resetKind := kind, calSource := none,
          foundFaulty := 0#88, faultyKeys := none, disconnected := none, railOutcome := none, samples := none,
          takeStore := store }
      test := none
      runs := 0
      lastResult := none
      live := Vector.replicate 3 resetLiveChannel
      play := Vector.replicate 3 resetPlayChannel
      liveCapture := 0#88
      playCapture := 0#88
      rail := resetRail s.rail s.now
      voices := Vector.replicate 48 none
      layer := false
      windows := []
      jacks := s.jacks.map (fun j => resetJack j s.now)
      supply := .off
      click := none
      tone := none
      output := { j1 := { left := 0, right := 0 }, j2 := { left := 0, right := 0 } }
      transport := resetTransport tracks
      journal := []
      links := s.links.map (fun r => resetLink r s.now)
      seat := none }

/-- The attached memories as the board gives them at power-on (log entry 5). -/
def State.attach (s : State) (b : Board) : State :=
  { s with
    eeprom := (match b.eeprom with | some im => fitImage im | none => s.eeprom)
    sampleMem := (match b.samples with | some ws => Memory.ofWords ws | none => s.sampleMem) }

/-- Power-on reset (R212): the take store is cleared (R133, R167). -/
def State.powerOn (s : State) (b : Board) : State :=
  (s.cutCommit.attach b).resetBlocks .powerOn b.straps (Vector.replicate 4 resetTrack) .cleared

/-- Warm reset (R212): the take store is kept (R167). -/
def State.warm (s : State) (straps : Straps) : State :=
  s.cutCommit.resetBlocks .warm straps (tableOf s.transport.keptTrack) .preserved

/-! ### The load (R205) -/

def State.setCalSource (s : State) (c : CalSource) : State :=
  { s with startUp := { s.startUp with calSource := some c } }

/-- The load ends LOADING; as CHECKING begins the quiet start is set (R63, R205, R208). -/
def State.endLoad (s : State) : State :=
  let s1 := s.setPhase .checking
  s1.setQuiet { s1.rail.quiet with start := some s1.now }

/-- The image is refused on a ground (R205). -/
def State.loadRefused (s : State) (g : Ground) : State :=
  (State.setCalSource { s with cal := defaultWorkingCopy, commitCount := 0, saved := false } (.defaults g)).endLoad

/-- The image is taken and its parts repaired (R205). A key origin read as WRITTEN for want of another is no repair (log
entry 43). -/
def State.loadTaken (s : State) (image : List Byte) : State :=
  let raw := imageFields image
  let copy := repairCopy raw
  (State.setCalSource { s with cal := copy, commitCount := byteAt image 5, saved := decide (copy = raw) } .stored).endLoad

/-- The image read from the EEPROM is judged (R205). -/
def State.loadImage (s : State) : State :=
  match imageGround s.eeprom with
  | some g => s.loadRefused g
  | none => s.loadTaken s.eeprom

/-! ### The header check and the rail's decision -/

/-- Sample fetch reports the header check, which ends the phase SAMPLES (R111, R113, R208). -/
def State.checkHeader (s : State) : State :=
  let ws := headerWindows s.sampleMem
  let outcome : SamplesOutcome := match ws with
    | some l => .present l.length
    | none => .absent
  let s1 := { s with windows := ws.getD [], startUp := { s.startUp with samples := some outcome } }
  if s1.startUp.straps.holdStart then s1.setPhase .held else s1.enterRunning

/-- The state and the count of the start-up decision, by the park and stop switches (R86). -/
def railDecision (park stop : Bool) (cEng : Nat) : RailState × Int :=
  match park, stop with
  | true, false => (.parked, 0)
  | false, true => (.engaged, cEng)
  | false, false => (.homing, 0)
  | true, true => (.fault .switches, 0)

/-- The start-up decision, its report, and the rail going on by the rules of the chapter (R86). -/
def State.decideRail (s : State) : State :=
  let d := railDecision s.rail.park s.rail.stop s.cal.cEng
  let s1 := (s.setRail { s.rail with decided := true, count := d.2 }).enterRail d.1
  (State.judgeChecking
    { s1 with startUp := { s1.startUp with railOutcome := some (d.1.name, d.1.cause) } }).settle

/-- A timed event that is due acts; one that is not leaves the part as it was (log entry 2). -/
def State.whenDue (s : State) (due : Bool) (effect : State) : Result := .next (if due then effect else s)

end Sys2Proof.Machine
end

