-- ==== Sys2Proof/Machine/CalibrationCommit.lean ====
section
/-! DEFINITION. The meanings of COMMIT and of the EEPROM's answers to it (10.2). -/

namespace Sys2Proof.Machine

/-- The EEPROM_READBACK test is running (R206). -/
def State.readbackRuns (s : State) : Bool :=
  match s.test with
  | some x => x.run.kind == .readback
  | none => false

/-- The count a commit writes (R206). -/
def State.nextCount (s : State) : Nat := (s.commitCount + 1) % 256

/-- The commit record with its image formed and page 0 sent (R206). -/
def State.newCommit (s : State) : Commit :=
  { page := 0, image := imageOf s.cal s.nextCount, count := s.nextCount, sentAt := s.now, changed := false }

/-- A commit begins (R206). -/
def State.beginCommit (s : State) : State := { s with commit := some s.newCommit }

/-- The rule of COMMIT (R206). -/
def ruleCommit (l : Link) (p : List Byte) (s : State) : State × Reply :=
  s.checked
    [s.beforeHeld, s.noSeat l, lengthNot p 0, (s.commit.isSome || s.learn.isSome || s.readbackRuns, .busy)]
    (s.beginCommit, .ok (u1 s.nextCount ++ u2 (checkOf (imageBody s.cal s.nextCount))))

/-- COMMIT (R206). -/
def execCommit (t : Time) (l : Link) (p : List Byte) (s : State) : Result := s.request t l 0x56 p (ruleCommit l p)

/-- A commit ends as done (R207). -/
def State.commitDone (s : State) (c : Commit) : State :=
  ((State.report
    { s with commit := none, commitCount := c.count, saved := if c.changed then s.saved else true, committed := true }
    .calCommitDone .cal)).judgeLed

/-- The page sent last is acknowledged: it stands in the EEPROM, and the next is sent or the commit is done (R207). -/
def State.pageDone (s : State) : State :=
  match s.commit with
  | none => s
  | some c =>
    let s1 := { s with eeprom := putPage s.eeprom c.page (pageOf c.image c.page) }
    if c.page < Config.lastPage then { s1 with commit := some { c with page := c.page + 1, sentAt := s.now } }
    else s1.commitDone c

/-- COMMIT_PAGE_ACK (R207). -/
def execCommitPageAck (t : Time) (s : State) : Result := .next (s.stamp t).pageDone

/-- A commit ends as failed at its page, which is left in an unknown state (R207). -/
def State.commitFailed (s : State) (c : Commit) : State :=
  State.report { s.spoilPage c.page with commit := none, saved := false } (.calCommitFailed c.page) .cal

/-- A page not acknowledged within 20 ms of its sending (R207). -/
def State.pageExpires (s : State) : State :=
  match s.commit with
  | none => s
  | some c => if reached c.sentAt Config.eepromAnswer s.now then s.commitFailed c else s

/-- COMMIT_PAGE_TIMEOUT (R207). -/
def execCommitPageTimeout (t : Time) (s : State) : Result := .next (s.stamp t).pageExpires

end Sys2Proof.Machine
end

