-- ==== Sys2Proof/Machine/Journal.lean ====
section
/-! DEFINITION. The meanings of the journal's requests (8.5, 8.6). -/

namespace Sys2Proof.Machine

/-- A pending gap gives the first entry (R180). -/
def gapEntry (gap most : Nat) : Bool := decide (0 < gap) && decide (1 ≤ most)

/-- The records a read returns: the unread ones, oldest first, as many as there is room for (R180). -/
def State.readRecords (s : State) (cursor gap most : Nat) : List JournalRec :=
  (s.journal.drop cursor).take (most - if gapEntry gap most then 1 else 0)

/-- A read taken: the cursor moves past the records returned, a reported gap is 0, removal is judged (R177, R180). -/
def State.readOn (s : State) (l : Link) (cursor gap most : Nat) : State :=
  let n := (s.readRecords cursor gap most).length
  let s1 := s.setView l (.present (cursor + n) (if gapEntry gap most then 0 else gap))
  if n = 0 then s1 else s1.judgeRemoval

/-- The entries of a read: a pending gap first (R180, R181). -/
def State.readEntries (s : State) (cursor gap most : Nat) : List Byte :=
  (if gapEntry gap most then gapBytes gap s.now else []) ++
  (s.readRecords cursor gap most).flatMap JournalRec.bytes

/-- The rule of READ_JOURNAL (R180). -/
def ruleReadJournal (l : Link) (p : List Byte) (s : State) : State × Reply :=
  let most := byteAt p 0
  s.checked [s.beforeRunning, lengthNot p 1, (decide (7 < most), .badValue)]
    (match (s.link l).view with
      | .absent _ => (s, .no .wrongState)
      | .present cursor gap =>
        let s1 := s.readOn l cursor gap most
        (s1, .ok (s.readEntries cursor gap most ++ u2 (s1.unread l) ++ u1 (s1.link l).view.gapCount)))

/-- READ_JOURNAL (R180). -/
def execReadJournal (t : Time) (l : Link) (p : List Byte) (s : State) : Result :=
  s.request t l 0x10 p (ruleReadJournal l p)

/-- A relay is appended with its three bytes unchanged (R183). -/
def State.relayed (s : State) (l : Link) (p : List Byte) : State :=
  s.append (.relay l (p.getD 0 0#8) (p.getD 1 0#8) (p.getD 2 0#8)) s.now

/-- The rule of RELAY (R183). -/
def ruleRelay (l : Link) (p : List Byte) (s : State) : State × Reply :=
  s.checked [s.beforeRunning, lengthNot p 3, (!s.linkPresent l, .wrongState)]
    (s.relayed l p, .ok (timeField s.now ++ u2 ((s.relayed l p).unread l)))

/-- RELAY (R183). -/
def execRelay (t : Time) (l : Link) (p : List Byte) (s : State) : Result := s.request t l 0x11 p (ruleRelay l p)

end Sys2Proof.Machine
end

