-- ==== Sys2Proof/Machine/Keys.lean ====
section
/-! DEFINITION. The meanings of the key commands (chapter 1): the depth reading, READ_KEY, WRITE_KEY_CAL, LEARN. -/

namespace Sys2Proof.Machine

/-- KEY_DEPTH_READING (R3). -/
def execKeyDepthReading (t : Time) (key : KeyIx) (reading : Depth) (s : State) : Result :=
  .next ((s.stamp t).keyReading key reading.val)

/-! ### READ_KEY (R30) -/

def calField (c : KeyCal) : List Byte := u2 c.r ++ u2 c.b ++ u2 c.d ++ u1 c.g

/-- Stroke, t_start, t_up, fault cause, learn minimum and maximum: each where the state has it (R10). -/
def KeyState.strokeOf : KeyState → Option Stroke
  | .onset st _ => some st
  | _ => none
def KeyState.startOf : KeyState → Option Time
  | .onset _ ts => some ts
  | .restrike ts _ => some ts
  | _ => none
def KeyState.upOf : KeyState → Option Time
  | .rearmed tu => some tu
  | .restrike _ tu => some tu
  | _ => none
def KeyState.causeOf : KeyState → Option FaultCause
  | .faulty c => some c
  | _ => none
def KeyState.seenOf : KeyState → Option (Nat × Nat)
  | .learn seen => seen
  | _ => none

/-- The OK payload of READ_KEY (R30). -/
def State.keyPayload (s : State) (k : KeyIx) : List Byte :=
  let x := s.key k
  let c := s.keyCal k
  let f := s.cal.touch
  u1 x.state.code ++
  optional 6 (x.last.map (fun r => u2 r.1 ++ timeField r.2)) ++
  optional 1 (x.state.strokeOf.map (fun st => u1 st.code)) ++
  optional 4 (x.state.startOf.map timeField) ++ optional 4 (x.state.upOf.map timeField) ++
  u1 x.implausible ++ u2 x.recovery ++
  optional 1 (x.state.causeOf.map (fun e => u1 e.code)) ++
  calField c ++
  s2 (c.level f.fOn) ++ s2 (c.level f.fRel) ++ s2 (c.level f.fRa) ++ s2 (c.level f.fSt) ++
  optional 7 (x.pendingCal.map calField) ++ yesNo x.learnWaiting ++
  optional 4 (x.state.seenOf.map (fun m => u2 m.1 ++ u2 m.2))

/-- The rule of READ_KEY (R30). -/
def ruleReadKey (p : List Byte) (s : State) : State × Reply :=
  s.checked [s.beforeRunning, lengthNot p 1]
    (match keyOfNat (byteAt p 0) with
      | some k => (s, .ok (s.keyPayload k))
      | none => (s, .no .badValue))

/-- READ_KEY (R30). -/
def execReadKey (t : Time) (l : Link) (p : List Byte) (s : State) : Result := s.request t l 0x40 p (ruleReadKey p)

/-! ### WRITE_KEY_CAL (R24) -/

/-- The clamped record of a write (R24). -/
def writtenCal (p : List Byte) : KeyCal :=
  { r := clampNat 0 400 (be2At p 1), b := clampNat 600 1023 (be2At p 3), d := clampNat 8000 12000 (be2At p 5),
    g := clampNat 32 96 (byteAt p 7) }

/-- A write taken: applied at once in REST, held as pending in any other state; the saved mark becomes UNSAVED (R24,
R204). -/
def State.writeCal (s : State) (k : KeyIx) (c : KeyCal) : State :=
  match (s.key k).state with
  | .rest => s.applyCal k c
  | _ => (s.setKey k { s.key k with pendingCal := some c }).calChanged

/-- The disposition: 0 APPLIED, 1 PENDING (R24). -/
def KeyState.disposition : KeyState → Nat
  | .rest => 0
  | _ => 1

/-- The rule of WRITE_KEY_CAL (R24). -/
def ruleWriteKeyCal (l : Link) (p : List Byte) (s : State) : State × Reply :=
  s.checked
    [s.beforeHeld, s.noSeat l, lengthNot p 8, (decide (87 < byteAt p 0), .badValue), s.commitBusy]
    (match keyOfNat (byteAt p 0) with
      | some k =>
        let x := s.key k
        (s.writeCal k (writtenCal p),
          .ok (calField (writtenCal p) ++ u1 x.state.disposition ++ yesNo x.pendingCal.isSome))
      | none => (s, .no .badValue))

/-- WRITE_KEY_CAL (R24). -/
def execWriteKeyCal (t : Time) (l : Link) (p : List Byte) (s : State) : Result :=
  s.request t l 0x50 p (ruleWriteKeyCal l p)

/-! ### LEARN (R26, R28) -/

/-- Keys of a range in REST, which enter LEARN at once (R26). -/
def State.restIn (s : State) (lo hi : Nat) : Nat :=
  ((keysFrom lo hi).filter (fun k => (s.key k).state == .rest)).length

/-- The rule of LEARN_BEGIN (R26). -/
def ruleLearnBegin (l : Link) (p : List Byte) (s : State) : State × Reply :=
  let lo := byteAt p 0
  let hi := byteAt p 1
  s.checked
    [s.beforeHeld, s.noSeat l, lengthNot p 2, (decide (87 < hi) || decide (hi < lo), .badValue),
      (s.learn.isSome || s.commit.isSome, .busy)]
    (s.beginLearn lo hi l, .ok (u1 (s.restIn lo hi) ++ u1 ((keysFrom lo hi).length - s.restIn lo hi)))

/-- LEARN_BEGIN (R26). -/
def execLearnBegin (t : Time) (l : Link) (p : List Byte) (s : State) : Result :=
  s.request t l 0x57 p (ruleLearnBegin l p)

/-- The rule of LEARN_END (R28). That BUSY is tested before WRONG_STATE is log entry 8. -/
def ruleLearnEnd (l : Link) (p : List Byte) (s : State) : State × Reply :=
  s.checked [s.beforeHeld, s.noSeat l, lengthNot p 0, s.commitBusy, (s.learn.isNone, .wrongState)]
    (s.endLearn, .ok (u1 s.learnAcceptedCount ++ u1 s.learnRejectedCount))

/-- LEARN_END (R28). -/
def execLearnEnd (t : Time) (l : Link) (p : List Byte) (s : State) : Result :=
  s.request t l 0x58 p (ruleLearnEnd l p)

end Sys2Proof.Machine
end

