-- ==== Sys2Proof/Machine/Links.lean ====
section
/-! DEFINITION. The meanings of the link unit's commands (9.1 to 9.4): the lines, the transaction, attention, POLL and
READ_STATUS. -/

namespace Sys2Proof.Machine

/-! ### PRESENT and presence (R189, R202) -/

/-- PRESENT_RAW_CHANGE (R189). -/
def execPresentRawChange (t : Time) (l : Link) (asserted : Bool) (s : State) : Result :=
  let s0 := s.stamp t
  .next (s0.setLink l { s0.link l with presentRaw := (s0.link l).presentRaw.turn asserted t })

/-- LINK_JUDGED_PRESENT (R189). -/
def execLinkJudgedPresent (t : Time) (l : Link) (s : State) : Result :=
  let s0 := s.stamp t
  s0.whenDue ((s0.link l).presentRaw.on && (s0.link l).presentRaw.due (s0.linkPresent l) Config.presentHold t)
    (s0.judgePresent l)

/-- LINK_JUDGED_ABSENT (R202). -/
def execLinkJudgedAbsent (t : Time) (l : Link) (s : State) : Result :=
  let s0 := s.stamp t
  s0.whenDue (!(s0.link l).presentRaw.on && (s0.link l).presentRaw.due (s0.linkPresent l) Config.presentHold t)
    (s0.judgeAbsent l)

/-! ### The transaction (R186 to R188) -/

/-- The phase on the assertion of the select line: RECEIVING out of IDLE (R186). -/
def Transaction.selected : Transaction → Transaction
  | .idle => .receiving []
  | x => x

/-- SELECT_ASSERTED (R186). -/
def execSelectAsserted (t : Time) (l : Link) (s : State) : Result :=
  let s0 := s.stamp t
  .next (s0.setLink l { s0.link l with select := true, transaction := (s0.link l).transaction.selected })

/-- SELECT_DEASSERTED (R186). -/
def execSelectDeasserted (t : Time) (l : Link) (s : State) : Result :=
  let s0 := s.stamp t
  .next (s0.setLink l { s0.link l with select := false, transaction := .idle })

/-- The phase once the last byte of a response has been shifted out (R188). -/
def Transaction.shifted : Transaction → Transaction
  | .answering _ _ => .discarding
  | x => x

/-- RESPONSE_SHIFTED_OUT (R188). -/
def execResponseShiftedOut (t : Time) (l : Link) (s : State) : Result :=
  let s0 := s.stamp t
  .next (s0.setLink l { s0.link l with transaction := (s0.link l).transaction.shifted })

/-- A frame that the link unit refuses by its own checks (R187); a frame that passes both is not one of these. -/
def State.refuseFrame (s : State) (l : Link) (code length : Byte) (p : List Byte) : State :=
  if Config.maxPayload < length.toNat then s.answer l [code, length] (.no .badLength)
  else if code.toNat ∈ knownCodes then s
  else s.answer l (code :: length :: p) (.no .badCode)

/-- UNKNOWN_REQUEST (R187). -/
def execUnknownRequest (t : Time) (l : Link) (code length : Byte) (p : List Byte) (s : State) : Result :=
  let s0 := s.stamp t
  s0.whenDue (s0.receiving l) (s0.refuseFrame l code length p)

/-! ### POLL (R196) -/

/-- The rule of POLL (R196). -/
def rulePoll (l : Link) (p : List Byte) (s : State) : State × Reply :=
  s.checked [lengthNot p 0] (s, .ok (u1 (s.statusByte l)))

/-- POLL (R196). -/
def execPoll (t : Time) (l : Link) (p : List Byte) (s : State) : Result := s.request t l 0x01 p (rulePoll l p)

/-! ### Conditions (R192 to R195) -/

/-- A link's latched conditions are replaced. -/
def State.setLatched (s : State) (l : Link) (c : CondSet) : State := s.setLink l { s.link l with latched := c }

/-- The OK payload of READ_CONDITIONS (R192). -/
def State.conditionsPayload (s : State) (l : Link) : List Byte :=
  let r := s.link l
  condSetField r.latched ++ yesNo (s.journalCondition l) ++ condSetField r.mask ++ yesNo r.onAck ++
  u2 r.watermark ++ u2 (s.unread l)

/-- The rule of READ_CONDITIONS: in ON_READ the latched conditions reported are cleared (R192). -/
def ruleReadConditions (l : Link) (p : List Byte) (s : State) : State × Reply :=
  s.checked [lengthNot p 0]
    (if (s.link l).onAck then s else s.setLatched l 0#16, .ok (s.conditionsPayload l))

/-- READ_CONDITIONS (R192). -/
def execReadConditions (t : Time) (l : Link) (p : List Byte) (s : State) : Result :=
  s.request t l 0x02 p (ruleReadConditions l p)

/-- The latched conditions of a link once a set is cleared, and once a set is raised (R193). -/
def LinkRec.cleared (r : LinkRec) (c : CondSet) : CondSet := r.latched &&& ~~~ CondSet.latchedPart c
def LinkRec.raised (r : LinkRec) (c : CondSet) : CondSet := r.latched ||| CondSet.latchedPart c

/-- The rule of ACK_CONDITIONS (R193). -/
def ruleAckConditions (l : Link) (p : List Byte) (s : State) : State × Reply :=
  let c := condsAt p 0
  s.checked [lengthNot p 2, (!CondSet.named c, .badValue)]
    (s.setLatched l ((s.link l).cleared c), .ok (condSetField ((s.link l).cleared c)))

/-- ACK_CONDITIONS (R193). -/
def execAckConditions (t : Time) (l : Link) (p : List Byte) (s : State) : Result :=
  s.request t l 0x03 p (ruleAckConditions l p)

/-- The rule of FORCE_CONDITION (R193). -/
def ruleForceCondition (l : Link) (p : List Byte) (s : State) : State × Reply :=
  let c := condsAt p 0
  s.checked [s.beforeRunning, lengthNot p 2, (!CondSet.named c || CondSet.namesJournal c, .badValue)]
    (s.setLatched l ((s.link l).raised c), .ok (condSetField ((s.link l).raised c)))

/-- FORCE_CONDITION (R193). -/
def execForceCondition (t : Time) (l : Link) (p : List Byte) (s : State) : Result :=
  s.request t l 0x04 p (ruleForceCondition l p)

/-- A link's attention settings are replaced (R194). -/
def State.setSettings (s : State) (l : Link) (mask : CondSet) (onAck : Bool) (watermark : Nat) : State :=
  s.setLink l { s.link l with mask := mask, onAck := onAck, watermark := watermark }

/-- The rule of SET_ATTENTION (R194). -/
def ruleSetAttention (l : Link) (p : List Byte) (s : State) : State × Reply :=
  let mask := condsAt p 0
  let watermark := clampNat 1 256 (be2At p 3)
  s.checked [lengthNot p 5, (!CondSet.named mask, .badValue)]
    (match flagOfCode (byteAt p 2) with
      | some onAck =>
        (s.setSettings l mask onAck watermark, .ok (condSetField mask ++ yesNo onAck ++ u2 watermark))
      | none => (s, .no .badValue))

/-- SET_ATTENTION (R194). -/
def execSetAttention (t : Time) (l : Link) (p : List Byte) (s : State) : Result :=
  s.request t l 0x05 p (ruleSetAttention l p)

/-- The rule of LINK_RESET (R195). -/
def ruleLinkReset (l : Link) (p : List Byte) (s : State) : State × Reply :=
  s.checked [lengthNot p 0] (s.linkResetOn l, .ok (u2 ((s.linkResetOn l).unread l)))

/-- LINK_RESET (R195). -/
def execLinkReset (t : Time) (l : Link) (p : List Byte) (s : State) : Result := s.request t l 0x06 p (ruleLinkReset l p)

/-! ### READ_STATUS (R197) -/

/-- A clip latch: 0 SET, 1 CLEAR (R119, R219). -/
def jackField (j : Jack) : List Byte := u1 j.state.code ++ yesNo (!j.clip)

/-- The OK payload of READ_STATUS (R197). -/
def State.statusPayload (s : State) : List Byte :=
  let r := s.rail
  u1 r.state.name.code ++ optional 1 (r.state.testPhase.map (fun p => u1 (travelCode p))) ++ u1 r.state.cause.code ++
  yesNo s.silentEffective ++ u1 r.votes.code ++
  jackField s.jacks.j1 ++ jackField s.jacks.j2 ++
  u1 s.supply.name.code ++ optional 1 (s.supply.fail.map (fun f => u1 f.code)) ++
  u1 s.transport.state.name.code ++ s4 s.transport.position ++
  u1 s.voicesUsed ++ u1 s.costSum ++ u1 (holderCode s.seat) ++ u1 s.startUp.phase.code

/-- Both clip latches are cleared (R118, R197). -/
def State.clearClips (s : State) : State := { s with jacks := s.jacks.map (fun j => { j with clip := false }) }

/-- The rule of READ_STATUS (R197). -/
def ruleReadStatus (p : List Byte) (s : State) : State × Reply :=
  s.checked [lengthNot p 0] (s.clearClips, .ok s.statusPayload)

/-- READ_STATUS (R197). -/
def execReadStatus (t : Time) (l : Link) (p : List Byte) (s : State) : Result :=
  s.request t l 0x07 p (ruleReadStatus p)

end Sys2Proof.Machine
end

