-- ==== Sys2Proof/Machine/Output.lean ====
section
/-! DEFINITION. The meanings of the commands of sample fetch and of the headphone output (chapter 6). -/

namespace Sys2Proof.Machine

/-- OUTPUT_FRAME (R117). A voice whose word has no address in the memory stops the machine (log entry 25). -/
def execOutputFrame (t : Time) (s : State) : Result :=
  let s0 := s.stamp t
  match s0.voiceSum with
  | some sum => .next (s0.frame sum)
  | none => .fault .sampleAddress

/-- RAMP_STEP (R121). -/
def execRampStep (t : Time) (s : State) : Result :=
  let s0 := s.stamp t
  .next { s0 with jacks := s0.jacks.map Jack.rampStep }

/-- JACK_CONTACT_RAW_CHANGE (R120). -/
def execJackContactRawChange (t : Time) (jack : JackIx) (contacts : Contacts) (closed : Bool) (s : State) : Result :=
  let s0 := s.stamp t
  .next (s0.setJack jack ((s0.jack jack).turn contacts closed t)).judgeEnabled

/-- JACK_CONTACT_DEBOUNCED (R119). -/
def execJackContactDebounced (t : Time) (jack : JackIx) (contacts : Contacts) (s : State) : Result :=
  .next ((s.stamp t).debounceJack jack contacts)

/-! ### The supply (6.7) -/

/-- The supply-good input asserts: a RISING supply becomes GOOD (R125). -/
def State.supplyAsserts (s : State) : State :=
  let s1 := { s with supplyGood := true }
  match s1.supply with
  | .rising _ => s1.setSupply .good
  | _ => s1

/-- SUPPLY_GOOD_ASSERTED (R125). -/
def execSupplyGoodAsserted (t : Time) (s : State) : Result := .next (s.stamp t).supplyAsserts

/-- The supply-good input goes unasserted: a GOOD supply has FAILED (R126). -/
def State.supplyDrops (s : State) : State :=
  let s1 := { s with supplyGood := false }
  match s1.supply with
  | .good => s1.setSupply (.failed .lost)
  | _ => s1

/-- SUPPLY_GOOD_DROPPED (R126). -/
def execSupplyGoodDropped (t : Time) (s : State) : Result := .next (s.stamp t).supplyDrops

/-- A RISING supply whose 50 ms have passed has FAILED (R126). -/
def State.riseExpires (s : State) : State :=
  match s.supply with
  | .rising start =>
    if reached start Config.supplyRise s.now ∧ s.supplyGood = false then s.setSupply (.failed .riseTimeout) else s
  | _ => s

/-- RISE_TIMEOUT (R126). -/
def execRiseTimeout (t : Time) (s : State) : Result := .next (s.stamp t).riseExpires

/-! ### The sources' ends -/

/-- CLICK_BURST_END (R123). -/
def execClickBurstEnd (t : Time) (s : State) : Result :=
  let s0 := s.stamp t
  .next { s0 with click := s0.click.filter (fun c => decide (c.done < Config.clickFrames)) }

/-- The tone run is complete: it is removed and the test block is told (R124, R216). -/
def State.toneDone (s : State) : State :=
  let s1 := { s with tone := none }
  match s1.test with
  | some x => if x.run = .tone then s1.endRun 0 0 .none else s1
  | none => s1

/-- TONE_RUN_END (R124). -/
def execToneRunEnd (t : Time) (s : State) : Result :=
  let s0 := s.stamp t
  s0.whenDue (s0.tone == some Config.toneFrames) s0.toneDone

/-! ### Requests -/

/-- A ramp stands at another end than the target, or the gain does (R122). -/
def Jack.movesTo (j : Jack) (target : Nat) : Bool :=
  j.gain != target || (match j.ramp with | some r => r.last != target | none => false)

/-- A volume taken by one jack (R122). -/
def Jack.setVolume (j : Jack) (volume : Nat) : Jack :=
  let target := squareGain volume
  let j' := { j with volume := volume, target := target }
  if j.enabled && j.movesTo target then j'.rampTo target 32 else j'

def State.setVolumes (s : State) (js : List JackIx) (volume : Nat) : State :=
  js.foldl (fun x i => x.setJack i ((x.jack i).setVolume volume)) s

/-- The rule of SET_VOLUME (R122). -/
def ruleSetVolume (p : List Byte) (s : State) : State × Reply :=
  let volume := clampNat 0 127 (byteAt p 1)
  s.checked [s.beforeRunning, lengthNot p 2]
    (match jacksOfCode (byteAt p 0) with
      | some js =>
        (s.setVolumes js volume,
          .ok (u1 (byteAt p 0) ++ js.flatMap (fun _ => u1 volume ++ u2 (squareGain volume))))
      | none => (s, .no .badValue))

/-- SET_VOLUME (R122). -/
def execSetVolume (t : Time) (l : Link) (p : List Byte) (s : State) : Result := s.request t l 0x21 p (ruleSetVolume p)

/-- The fields of a window as R112 lists them. -/
def windowField (w : Window) : List Byte :=
  u1 w.keyLo ++ u1 w.keyHi ++ u1 w.levelLo ++ u1 w.levelHi ++ u4 w.base ++ u4 w.stride ++ u4 w.length ++
  optional 4 (w.loop.map u4) ++ u1 w.cost

/-- The samples' outcome: 0 PRESENT, 1 ABSENT. -/
def samplesCode : Option SamplesOutcome → Nat
  | some (.present _) => 0
  | _ => 1

/-- The rule of READ_WINDOWS (R130). -/
def ruleReadWindows (p : List Byte) (s : State) : State × Reply :=
  let first := byteAt p 0
  let count := byteAt p 1
  s.checked
    [s.beforeRunning, lengthNot p 2, (decide (2 < count) || decide (s.windows.length < first + count), .badValue)]
    (s, .ok (u1 (samplesCode s.startUp.samples) ++ u1 s.windows.length ++
      ((s.windows.drop first).take count).flatMap windowField))

/-- READ_WINDOWS (R130). -/
def execReadWindows (t : Time) (l : Link) (p : List Byte) (s : State) : Result :=
  s.request t l 0x45 p (ruleReadWindows p)

end Sys2Proof.Machine
end

