-- ==== Sys2Proof/Machine/Pedals.lean ====
section
/-! DEFINITION. The meanings of the pedal commands (chapter 3). -/

namespace Sys2Proof.Machine

/-- PEDAL_DEPTH_READING (R47). -/
def execPedalDepthReading (t : Time) (channel : PedalIx) (reading : Depth) (s : State) : Result :=
  .next ((s.stamp t).pedalReading channel reading.val)

/-- A switch in a field: 1 for ON, as the PEDAL record's bit has it (11.2). -/
def switchField (on : Bool) : List Byte := yesNo on

def liveField (x : LiveChannel) : List Byte :=
  u1 x.level ++ u1 x.published ++ switchField x.switch ++ yesNo (!x.connected)

def playField (x : PlayChannel) : List Byte := u1 x.level ++ switchField x.switch

/-- The OK payload of READ_PEDALS (R60). -/
def State.pedalsPayload (s : State) : List Byte :=
  s.cal.pedals.toList.flatMap (fun c => u2 c.rest ++ u2 c.full) ++ s.live.toList.flatMap liveField ++
  s.play.toList.flatMap playField ++ keySetField s.liveCapture ++ keySetField s.playCapture

/-- The rule of READ_PEDALS (R60). -/
def ruleReadPedals (p : List Byte) (s : State) : State × Reply :=
  s.checked [s.beforeRunning, lengthNot p 0] (s, .ok s.pedalsPayload)

/-- READ_PEDALS (R60). -/
def execReadPedals (t : Time) (l : Link) (p : List Byte) (s : State) : Result :=
  s.request t l 0x42 p (ruleReadPedals p)

/-- The clamped pair of a write (R59). -/
def writtenPedal (p : List Byte) : PedalCal :=
  { rest := clampNat 0 1023 (be2At p 1), full := clampNat 0 1023 (be2At p 3) }

/-- A pedal calibration is replaced (R59). -/
def State.setPedalCal (s : State) (i : PedalIx) (c : PedalCal) : State :=
  State.calChanged { s with cal := { s.cal with pedals := tablePut s.cal.pedals i c } }

/-- The rule of WRITE_PEDAL_CAL (R59). -/
def ruleWritePedalCal (l : Link) (p : List Byte) (s : State) : State × Reply :=
  let c := writtenPedal p
  s.checked
    [s.beforeHeld, s.noSeat l, lengthNot p 5, (decide (2 < byteAt p 0), .badValue),
      (decide (c.full < c.rest + 200), .badValue), s.commitBusy]
    (match pedalOfNat (byteAt p 0) with
      | some i => (s.setPedalCal i c, .ok (u1 i.val ++ u2 c.rest ++ u2 c.full))
      | none => (s, .no .badValue))

/-- WRITE_PEDAL_CAL (R59). -/
def execWritePedalCal (t : Time) (l : Link) (p : List Byte) (s : State) : Result :=
  s.request t l 0x51 p (ruleWritePedalCal l p)

end Sys2Proof.Machine
end

