-- ==== Sys2Proof/Machine/Rails.lean ====
section
/-! DEFINITION. The meanings of the rail's commands (chapter 4): its inputs, its timers, its requests. -/

namespace Sys2Proof.Machine

/-! ### The mode lever (R61) -/

/-- LEVER_RAW_CHANGE (R61). -/
def execLeverRawChange (t : Time) (silent : Bool) (s : State) : Result :=
  let s0 := s.stamp t
  .next (s0.setRail { s0.rail with leverRaw := s0.rail.leverRaw.turn silent t })

/-- LEVER joins or leaves the vote set by the lever input (R61). -/
def State.leverFollows (s : State) : State := s.setVotes { s.rail.votes with lever := s.rail.leverRaw.on }

/-- LEVER_DEBOUNCED (R61). -/
def execLeverDebounced (t : Time) (s : State) : Result :=
  let s0 := s.stamp t
  s0.whenDue (s0.rail.leverRaw.due s0.rail.votes.lever Config.leverHold t) s0.leverFollows

/-! ### Encoder and end switches (R66, R67) -/

/-- ENCODER_EDGE (R66). -/
def execEncoderEdge (t : Time) (sense : Travel) (s : State) : Result := .next ((s.stamp t).edgeSeen sense)

/-- INDEX_PULSE (R66). -/
def execIndexPulse (t : Time) (s : State) : Result := .next (s.stamp t).indexSeen

def Rail.rawSwitch (r : Rail) : EndSwitch → RawInput
  | .park => r.parkRaw
  | .stop => r.stopRaw

def Rail.madeSwitch (r : Rail) : EndSwitch → Bool
  | .park => r.park
  | .stop => r.stop

def Rail.putRaw (r : Rail) (x : EndSwitch) (i : RawInput) : Rail :=
  match x with
  | .park => { r with parkRaw := i }
  | .stop => { r with stopRaw := i }

def Rail.putMade (r : Rail) (x : EndSwitch) (made : Bool) : Rail :=
  match x with
  | .park => { r with park := made }
  | .stop => { r with stop := made }

/-- END_SWITCH_RAW_CHANGE (R67). -/
def execEndSwitchRawChange (t : Time) (switch : EndSwitch) (closed : Bool) (s : State) : Result :=
  let s0 := s.stamp t
  .next (s0.setRail (s0.rail.putRaw switch ((s0.rail.rawSwitch switch).turn closed t)))

/-- A debounced switch takes the level its raw input has held (R67). -/
def State.switchFollows (s : State) (switch : EndSwitch) : State :=
  let made := (s.rail.rawSwitch switch).on
  (s.setRail (s.rail.putMade switch made)).switchChanged switch made

/-- END_SWITCH_DEBOUNCED (R67). -/
def execEndSwitchDebounced (t : Time) (switch : EndSwitch) (s : State) : Result :=
  let s0 := s.stamp t
  s0.whenDue ((s0.rail.rawSwitch switch).due (s0.rail.madeSwitch switch) Config.switchHold t) (s0.switchFollows switch)

/-! ### Timers (R63, R71, R74) -/

/-- QUIET_EVENT (R63). -/
def execQuietEvent (t : Time) (s : State) : Result := .next (s.stamp t).judgeQuiet

/-- The waiting notice of a pending state (R71). -/
def State.notice (s : State) : State :=
  match s.rail.state with
  | .pendingIn since false =>
    if reached since Config.waitingTime s.now then
      (s.setRail { s.rail with state := .pendingIn since true }).railRecord true
    else s
  | .pendingOut since false =>
    if reached since Config.waitingTime s.now then
      (s.setRail { s.rail with state := .pendingOut since true }).railRecord true
    else s
  | _ => s

/-- WAITING_NOTICE (R71). -/
def execWaitingNotice (t : Time) (s : State) : Result := .next (s.stamp t).notice

/-- The stall timer and the segment timer have run out with the motor driven (R74). -/
def Rail.stalled (r : Rail) (now : Time) : Bool :=
  match r.drive with
  | some g => reached g.lastEdge Config.stallTime now
  | none => false
def Rail.timedOut (r : Rail) (now : Time) : Bool :=
  match r.drive with
  | some g => reached g.start Config.segmentTime now
  | none => false

/-- STALL (R74). -/
def execStall (t : Time) (s : State) : Result :=
  let s0 := s.stamp t
  s0.whenDue (s0.rail.stalled t) (s0.railFault .stall)

/-- TIMEOUT (R74). -/
def execTimeout (t : Time) (s : State) : Result :=
  let s0 := s.stamp t
  s0.whenDue (s0.rail.timedOut t) (s0.railFault .timeout)

/-! ### Requests -/

/-- The rule of VOTE_SILENT (R62). -/
def ruleVoteSilent (l : Link) (p : List Byte) (s : State) : State × Reply :=
  s.checked [s.beforeHeld, lengthNot p 1]
    (match flagOfCode (byteAt p 0) with
      | some on =>
        let s1 := s.setVotes (s.rail.votes.put l on)
        (s1, .ok (u1 s1.rail.votes.code ++ u1 s1.rail.state.name.code))
      | none => (s, .no .badValue))

/-- VOTE_SILENT (R62). -/
def execVoteSilent (t : Time) (l : Link) (p : List Byte) (s : State) : Result :=
  s.request t l 0x20 p (ruleVoteSilent l p)

def motorCode : Option Travel → Nat
  | none => 0
  | some .inward => 1
  | some .outward => 2

/-- The time since the segment start, and since pending-since with its mark, where present (R84). The time is sent as its
difference modulo 2^32, too old or not (DESIGN CHOICE, log entry 38); the mark as a yes or no value, 1 for given (log
entry 15). -/
def Rail.segmentAge (r : Rail) (now : Time) : Option (List Byte) := r.drive.map (fun g => u4 (elapsed g.start now))
def RailState.pendingAge (st : RailState) (now : Time) : Option (List Byte) :=
  match st with
  | .pendingIn since given => some (u4 (elapsed since now) ++ yesNo given)
  | .pendingOut since given => some (u4 (elapsed since now) ++ yesNo given)
  | _ => none

/-- The OK payload of READ_RAIL (R84). -/
def State.railPayload (s : State) : List Byte :=
  let r := s.rail
  u1 r.state.name.code ++ optional 1 (r.state.testPhase.map (fun p => u1 (travelCode p))) ++
  u1 (motorCode r.motor) ++ u1 r.state.cause.code ++
  s2 r.count ++ optional 1 (r.target.map (fun x => u1 (travelCode x))) ++ optional 2 (r.segCount.map u2) ++
  u2 s.cal.cEng ++ yesNo r.park ++ yesNo r.stop ++
  optional 4 (r.segmentAge s.now) ++ optional 5 (r.state.pendingAge s.now) ++
  u1 r.votes.code ++ yesNo s.silentEffective ++
  u1 r.quiet.notAtRest ++ yesNo r.quiet.start.isSome ++ yesNo r.quiet.quiet

/-- The rule of READ_RAIL (R84). -/
def ruleReadRail (p : List Byte) (s : State) : State × Reply :=
  s.checked [s.beforeRunning, lengthNot p 0] (s, .ok s.railPayload)

/-- READ_RAIL (R84). -/
def execReadRail (t : Time) (l : Link) (p : List Byte) (s : State) : Result := s.request t l 0x43 p (ruleReadRail p)

/-- The engaged count is replaced (R87). -/
def State.setCEng (s : State) (n : Nat) : State := State.calChanged { s with cal := { s.cal with cEng := n } }

/-- The rule of WRITE_RAIL_CAL (R87). -/
def ruleWriteRailCal (l : Link) (p : List Byte) (s : State) : State × Reply :=
  let n := clampNat 400 4000 (be2At p 0)
  s.checked [s.beforeHeld, s.noSeat l, lengthNot p 2, s.commitBusy] (s.setCEng n, .ok (u2 n))

/-- WRITE_RAIL_CAL (R87). -/
def execWriteRailCal (t : Time) (l : Link) (p : List Byte) (s : State) : Result :=
  s.request t l 0x55 p (ruleWriteRailCal l p)

def RailState.isFault : RailState → Bool
  | .fault _ => true
  | _ => false

/-- A recovery taken: HOMING, judged at once (R77). -/
def State.recoverRail (s : State) : State :=
  let s1 := s.enterRail .homing
  if s1.rail.park && s1.rail.stop then s1.railFault .switches
  else if s1.rail.park then s1.arriveParked.settle
  else s1.settle

/-- The rule of RAIL_RECOVER (R77). -/
def ruleRailRecover (l : Link) (p : List Byte) (s : State) : State × Reply :=
  s.checked [s.beforeRunning, s.noSeat l, lengthNot p 0, (!s.rail.state.isFault, .wrongState)]
    (s.recoverRail, .ok (u1 s.recoverRail.rail.state.name.code))

/-- RAIL_RECOVER (R77). -/
def execRailRecover (t : Time) (l : Link) (p : List Byte) (s : State) : Result :=
  s.request t l 0x59 p (ruleRailRecover l p)

end Sys2Proof.Machine
end

