-- ==== Sys2Proof/Machine/Resets.lean ====
section
/-! DEFINITION. The meanings of the two resets (R212). -/

namespace Sys2Proof.Machine

/-- POWER_ON_RESET (R212). -/
def execPowerOnReset (t : Time) (board : Board) (s : State) : Result := .next ((s.stamp t).powerOn board)

/-- WARM_RESET (R212). -/
def execWarmReset (t : Time) (straps : Straps) (s : State) : Result := .next ((s.stamp t).warm straps)

end Sys2Proof.Machine
end

