-- ==== Sys2Proof/Machine/Seat.lean ====
section
/-! DEFINITION. The meanings of the seat requests (9.5). -/

namespace Sys2Proof.Machine

/-- A claim taken: from the holder with no change, on a vacant seat with the cause CLAIM (R199). -/
def State.claimSeat (s : State) (l : Link) : State := if s.holds l then s else s.seatChange (some l) .claim

/-- The rule of SEAT_CLAIM (R199). -/
def ruleSeatClaim (l : Link) (p : List Byte) (s : State) : State × Reply :=
  s.checked [lengthNot p 0, (!s.linkPresent l, .wrongState), (s.holds (otherLink l), .busy)]
    (s.claimSeat l, .ok (u1 (holderCode (s.claimSeat l).seat)))

/-- SEAT_CLAIM (R199). -/
def execSeatClaim (t : Time) (l : Link) (p : List Byte) (s : State) : Result := s.request t l 0x08 p (ruleSeatClaim l p)

/-- The rule of SEAT_YIELD (R200). -/
def ruleSeatYield (l : Link) (p : List Byte) (s : State) : State × Reply :=
  s.checked [lengthNot p 0, s.noSeat l]
    (s.seatChange none .yieldSeat, .ok (u1 (holderCode (s.seatChange none .yieldSeat).seat)))

/-- SEAT_YIELD (R200). -/
def execSeatYield (t : Time) (l : Link) (p : List Byte) (s : State) : Result := s.request t l 0x09 p (ruleSeatYield l p)

/-- The rule of SEAT_PASS (R200). -/
def ruleSeatPass (l : Link) (p : List Byte) (s : State) : State × Reply :=
  let s1 := s.seatChange (some (otherLink l)) .pass
  s.checked [lengthNot p 0, s.noSeat l, (!s.linkPresent (otherLink l), .wrongState)]
    (s1, .ok (u1 (holderCode s1.seat)))

/-- SEAT_PASS (R200). -/
def execSeatPass (t : Time) (l : Link) (p : List Byte) (s : State) : Result := s.request t l 0x0A p (ruleSeatPass l p)

end Sys2Proof.Machine
end

