-- ==== Sys2Proof/Machine/ServiceTests.lean ====
section
/-! DEFINITION. The meanings of the service tests' commands (10.5). -/

namespace Sys2Proof.Machine

/-- The state in which a test's first run begins; `none` where the rail refuses its cycle (R79, R215). -/
def State.startTest (s : State) (kind : TestKind) (continuous : Bool) : Option State :=
  let s1 := State.beginRun { s with runs := 0 } kind continuous
  match kind with
  | .railCycle => s1.takeCycle
  | .sensorScan => some s1
  | .tone => some s1
  | .readback => some s1

/-- The rule of RUN_TEST (R215). -/
def ruleRunTest (l : Link) (p : List Byte) (s : State) : State × Reply :=
  s.checked [s.beforeRunning, s.noSeat l, lengthNot p 2]
    (match testOfCode (byteAt p 0), flagOfCode (byteAt p 1) with
      | some kind, some continuous =>
        if s.test.isSome ∨ (kind = .readback ∧ s.commit.isSome = true) then (s, .no .busy)
        else match s.startTest kind continuous with
          | some s1 => (s1, .ok (u1 kind.code ++ yesNo continuous))
          | none => (s, .no .wrongState)
      | _, _ => (s, .no .badValue))

/-- RUN_TEST (R215). -/
def execRunTest (t : Time) (l : Link) (p : List Byte) (s : State) : Result := s.request t l 0x60 p (ruleRunTest l p)

/-- The rule of STOP_TEST (R217). -/
def ruleStopTest (l : Link) (p : List Byte) (s : State) : State × Reply :=
  s.checked [s.beforeRunning, s.noSeat l, lengthNot p 0, (s.test.isNone, .wrongState)]
    (s.abortTest 1, .ok (u2 (s.abortTest 1).runs))

/-- STOP_TEST (R217). -/
def execStopTest (t : Time) (l : Link) (p : List Byte) (s : State) : Result := s.request t l 0x61 p (ruleStopTest l p)

/-- The image a readback compares with, and when its read began (R216). -/
def State.readback (s : State) : Option (List Byte × Time) :=
  match s.test with
  | some { continuous := _, run := .readback expected since } => some (expected, since)
  | _ => none

/-- The run of a readback ends with its comparison (R216). -/
def State.readbackDone (s : State) : State :=
  match s.readback with
  | some (expected, _) =>
    match firstDifference expected s.eeprom with
    | none => s.endRun 0 0 .none
    | some i => s.endRun 1 (i / Config.pageBytes) (.offset i)
  | none => s

/-- EEPROM_READBACK_DONE (R216). -/
def execEepromReadbackDone (t : Time) (s : State) : Result := .next (s.stamp t).readbackDone

/-- A read not acknowledged within 20 ms ends the run (R216, log entry 26), with no offset kept (DESIGN CHOICE, log entry
45). -/
def State.readbackExpires (s : State) : State :=
  match s.readback with
  | some (_, since) => if reached since Config.eepromAnswer s.now then s.endRun 2 0 .none else s
  | none => s

/-- EEPROM_READBACK_NO_ANSWER (R216). -/
def execEepromReadbackNoAnswer (t : Time) (s : State) : Result := .next (s.stamp t).readbackExpires

end Sys2Proof.Machine
end

