-- ==== Sys2Proof/Machine/StartUpSteps.lean ====
section
/-! DEFINITION. The meanings of the start-up steps: the load, the header check, the rail's decision, START_RELEASE and
READ_STARTUP (chapter 10). -/

namespace Sys2Proof.Machine

/-- CALIBRATION_LOAD (R205). -/
def execCalibrationLoad (t : Time) (s : State) : Result :=
  let s0 := s.stamp t
  s0.whenDue (s0.startUp.phase == .loading) s0.loadImage

/-- LOAD_NO_ANSWER (R205). R205 says only "within 20 ms"; they are counted from the start of LOADING, which is the reset
(DEDUCED, log entry 26). -/
def execLoadNoAnswer (t : Time) (s : State) : Result :=
  let s0 := s.stamp t
  s0.whenDue (s0.startUp.phase == .loading && reached s0.startUp.phaseSince Config.eepromAnswer t)
    (s0.loadRefused .noAnswer)

/-- SAMPLE_HEADER_CHECK (R111). -/
def execSampleHeaderCheck (t : Time) (s : State) : Result :=
  let s0 := s.stamp t
  s0.whenDue (s0.startUp.phase == .samples) s0.checkHeader

/-- START_UP_DECISION (R86). -/
def execStartUpDecision (t : Time) (s : State) : Result :=
  let s0 := s.stamp t
  s0.whenDue
    (s0.startUp.phase == .checking && !s0.rail.decided && reached s0.startUp.phaseSince Config.decisionDelay t)
    s0.decideRail

/-- The rule of START_RELEASE (R210). -/
def ruleStartRelease (p : List Byte) (s : State) : State × Reply :=
  s.checked [lengthNot p 0, s.beforeHeld, (s.running, .wrongState)]
    (s.enterRunning, .ok (u1 Phase.running.code))

/-- START_RELEASE (R210). -/
def execStartRelease (t : Time) (l : Link) (p : List Byte) (s : State) : Result :=
  s.request t l 0x18 p (ruleStartRelease p)

/-! ### READ_STARTUP (R211) -/

def calSourceField : CalSource → List Byte
  | .stored => u1 0 ++ optional 1 none
  | .defaults g => u1 1 ++ optional 1 (some (u1 g.code))

/-- A set of pedal channels: bit c for channel c (R219). -/
def pedalSetField (l : List PedalIx) : List Byte := u1 (sumNat (l.map (fun c => 2 ^ c.val)))

def railOutcomeField (o : RailName × RailCause) : List Byte :=
  u1 o.1.code ++ optional 1 (if o.1 = .fault then some (u1 o.2.code) else none)

def samplesField : SamplesOutcome → List Byte
  | .present n => u1 0 ++ optional 1 (some (u1 n))
  | .absent => u1 1 ++ optional 1 none

def takeStoreField : TakeStoreOutcome → List Byte
  | .preserved => u1 0
  | .cleared => u1 1

def resetKindField : ResetKind → List Byte
  | .powerOn => u1 0
  | .warm => u1 1

/-- The measurements kept of a run, in eight bytes (log entry 15). -/
def measureField : Measure → List Byte
  | .none => List.replicate 8 0#8
  | .scan n first => u1 n ++ optional 1 (first.map (fun k => u1 k.val)) ++ List.replicate 5 0#8
  | .travel i o => u4 i ++ u4 o
  | .offset b => u2 b ++ List.replicate 6 0#8

def resultField (r : TestResult) : List Byte := u1 r.kind.code ++ u1 r.code ++ u1 r.detail ++ measureField r.measure

def testField (x : Test) : List Byte := u1 x.run.kind.code ++ yesNo x.continuous

def State.originCount (s : State) (o : Origin) : Nat := (s.cal.origins.toList.filter (fun x => x == o)).length

/-- The OK payload of READ_STARTUP (R211). The faulty key list stands behind its count alone, 0 while it is absent, and the
run in progress is not sent (log entry 15). -/
def State.startUpPayload (s : State) (first : Nat) : List Byte :=
  let faulty := KeySet.keys (s.startUp.faultyKeys.getD 0#88)
  u1 s.startUp.phase.code ++
  optional 1 (some (resetKindField s.startUp.resetKind)) ++
  optional 3 (s.startUp.calSource.map calSourceField) ++
  optional 1 (s.startUp.disconnected.map pedalSetField) ++
  optional 3 (s.startUp.railOutcome.map railOutcomeField) ++
  optional 3 (s.startUp.samples.map samplesField) ++
  optional 1 (some (takeStoreField s.startUp.takeStore)) ++
  u1 faulty.length ++ ((faulty.drop first).take 8).flatMap (fun k => u1 k.val) ++
  u1 (s.keys.toList.filter (fun x => !x.evaluated)).length ++
  u1 (s.live.toList.filter (fun x => !x.evaluated)).length ++
  yesNo (!s.saved) ++ u1 s.commitCount ++
  u1 (s.originCount .default) ++ u1 (s.originCount .written) ++ u1 (s.originCount .learned) ++
  optional 1 (s.commit.map (fun c => u1 c.page)) ++
  optional 2 (s.test.map testField) ++ u2 s.runs ++ optional 11 (s.lastResult.map resultField)

/-- The rule of READ_STARTUP (R211). -/
def ruleReadStartup (p : List Byte) (s : State) : State × Reply :=
  s.checked [lengthNot p 1, (decide (88 < byteAt p 0), .badValue)] (s, .ok (s.startUpPayload (byteAt p 0)))

/-- READ_STARTUP (R211). -/
def execReadStartup (t : Time) (l : Link) (p : List Byte) (s : State) : Result :=
  s.request t l 0x46 p (ruleReadStartup p)

end Sys2Proof.Machine
end

