-- ==== Sys2Proof/Machine/TransportRequests.lean ====
section
/-! DEFINITION. The meanings of the transport's commands (7.3 to 7.10, 7.12). -/

namespace Sys2Proof.Machine

/-- CLOCK_STEP (R137). -/
def execClockStep (t : Time) (s : State) : Result := .next (s.stamp t).clockStep

/-- The walk in progress completes (R148). -/
def State.walkEnds (s : State) : State :=
  match s.transport.state with
  | .locating target ret => s.completeWalk target ret
  | _ => s

/-- LOCATE_WALK_COMPLETE (R148). -/
def execLocateWalkComplete (t : Time) (s : State) : Result := .next (s.stamp t).walkEnds

/-- The position field of a response. -/
def positionField (s : State) : List Byte := s4 s.transport.position

/-- A load is open (R161). -/
def State.loadOpen (s : State) : Bool := s.transport.load.isSome

/-! ### PLAY (R143) -/

/-- PLAY starts nothing in COUNT_IN, RECORDING and LOCATING (R143). -/
def TransportState.playBusy : TransportState → Bool
  | .countIn => true
  | .recording => true
  | .locating _ _ => true
  | _ => false

/-- The effect of PLAY by the state (R143, R145). -/
def State.startPlay (s : State) : State :=
  match s.transport.state with
  | .idle =>
    if s.transport.placed then (s.setTransportState .playing).takePosition
    else s.beginWalk s.transport.position .playing
  | .paused .recording => (s.setTransportState .recording).takePosition
  | .paused _ => (s.setTransportState .playing).takePosition
  | _ => s

/-- The rule of PLAY (R143). -/
def rulePlay (p : List Byte) (s : State) : State × Reply :=
  s.checked [s.beforeRunning, lengthNot p 0, (s.loadOpen, .busy), (s.transport.state.playBusy, .busy)]
    (s.startPlay, .ok (u1 s.startPlay.transport.state.name.code ++ positionField s.startPlay))

/-- PLAY (R143). -/
def execPlay (t : Time) (l : Link) (p : List Byte) (s : State) : Result := s.request t l 0x30 p (rulePlay p)

/-! ### RECORD (R152) -/

def Track.rewound (x : Track) : Track := { x with cursor := 0, cursorPos := 0 }

/-- Steps 1 to 3 of RECORD (R152). -/
def State.recordSet (s : State) (track : TrackIx) (l : Link) : State :=
  let s1 := s.setTrack track (s.track track).erased
  let s2 := s1.setTransport
    { s1.transport with
      recording := some { track := track, owner := l, lastPos := 0 }
      placed := true
      acc := 0
      tracks := tableMap Track.rewound s1.transport.tracks }
  s2.playbackReset

/-- The PEDAL records a take begins with, in channel order (R152). -/
def State.firstPedals (s : State) : List TakeRec :=
  ((List.finRange 3).filter (fun c => (s.liveChannel c).published != 0)).map
    (fun c => { body := .pedal c (s.liveChannel c).published, delta := 0 })

/-- Step 5 of RECORD (R152). -/
def State.recordStart (s : State) (bars : Nat) : State :=
  if bars = 0 then
    ((s.setTransport { s.transport with position := 0 }).setTransportState .recording).takePosition
  else
    State.clickRequest ((s.setTransport
      { s.transport with position := -((bars * s.transport.metronome.beats * Config.beatTicks : Nat) : Int)
        }).setTransportState .countIn) true

/-- A recording begins, or closes at once where the pool has too few slots for its PEDAL records (R152, R156). It then
stands at the position it stood at, since step 5 has set none. -/
def State.beginRecord (s : State) (track : TrackIx) (bars : Nat) (l : Link) : State :=
  let s1 := s.recordSet track l
  if s1.firstPedals.length ≤ s1.freeSlots then
    (s1.setTrack track { s1.track track with recs := (s1.track track).recs ++ s1.firstPedals }).recordStart bars
  else s1.poolFull track

/-- The rule of RECORD (R152, R189). For a RECORD that a full pool closes at once, R156 gives only the state of the OK
response; the position sent is the one the transport stood at (DESIGN CHOICE, log entry 44). -/
def ruleRecord (l : Link) (p : List Byte) (s : State) : State × Reply :=
  s.checked
    [s.beforeRunning, lengthNot p 2, (decide (3 < byteAt p 0) || decide (2 < byteAt p 1), .badValue), (s.loadOpen, .busy),
      (s.transport.state.name != .idle, .wrongState), (!s.linkPresent l, .wrongState)]
    (match trackOfNat (byteAt p 0) with
      | some i =>
        let s1 := s.beginRecord i (byteAt p 1) l
        (s1, .ok (u1 i.val ++ u1 s1.transport.state.name.code ++ positionField s1 ++ u2 s1.freeSlots))
      | none => (s, .no .badValue))

/-- RECORD (R152). -/
def execRecord (t : Time) (l : Link) (p : List Byte) (s : State) : Result := s.request t l 0x31 p (ruleRecord l p)

/-! ### STOP, PAUSE and LOCATE (R144, R146, R147) -/

/-- The rule of STOP (R146). -/
def ruleStop (p : List Byte) (s : State) : State × Reply :=
  s.checked [s.beforeRunning, lengthNot p 0] (s.stopTransport, .ok (positionField s.stopTransport))

/-- STOP (R146). -/
def execStop (t : Time) (l : Link) (p : List Byte) (s : State) : Result := s.request t l 0x32 p (ruleStop p)

/-- What PAUSE pauses (R144). -/
def TransportState.pausesAs : TransportState → Option PausedFrom
  | .playing => some .playing
  | .waiting => some .waiting
  | .recording => some .recording
  | _ => none

/-- PAUSE taken (R144). -/
def State.pauseAs (s : State) (x : PausedFrom) : State :=
  let s1 := (s.setTransport { s.transport with acc := 0 }).setTransportState (.paused x)
  let s2 := s1.releaseAll
  s2.setTransport { s2.transport with guideSet := 0#88 }

/-- The rule of PAUSE (R144). -/
def rulePause (p : List Byte) (s : State) : State × Reply :=
  s.checked [s.beforeRunning, lengthNot p 0]
    (match s.transport.state.pausesAs with
      | some x => (s.pauseAs x, .ok [])
      | none => (s, .no .wrongState))

/-- PAUSE (R144). -/
def execPause (t : Time) (l : Link) (p : List Byte) (s : State) : Result := s.request t l 0x33 p (rulePause p)

/-- The return state of a walk that LOCATE begins; `none` where LOCATE is refused (R147). -/
def TransportState.locatesAs : TransportState → Option WalkReturn
  | .idle => some .idle
  | .playing => some .playing
  | .waiting => some .playing
  | .locating _ ret => some ret
  | .paused .recording => none
  | .paused _ => some .paused
  | .countIn => none
  | .recording => none

/-- LOCATE taken: a walk begins, or the walk in progress restarts (R147). -/
def State.locate (s : State) (target : Int) (ret : WalkReturn) : State :=
  match s.transport.state with
  | .locating _ _ => s.beginWalk target ret
  | _ => s.locateTo target ret

/-- The rule of LOCATE (R147). -/
def ruleLocate (p : List Byte) (s : State) : State × Reply :=
  let target := clamp 0 Config.maxPosition (signed4At p 0)
  s.checked [s.beforeRunning, lengthNot p 4, (s.loadOpen, .busy)]
    (match s.transport.state.locatesAs with
      | some ret => (s.locate target ret, .ok (s4 target))
      | none => (s, .no .wrongState))

/-- LOCATE (R147). -/
def execLocate (t : Time) (l : Link) (p : List Byte) (s : State) : Result := s.request t l 0x34 p (ruleLocate p)

/-! ### Settings (R138, R151, R158, R160) -/

/-- The rule of SET_TEMPO (R138). -/
def ruleSetTempo (p : List Byte) (s : State) : State × Reply :=
  let t10 := clampNat 200 3000 (be2At p 0)
  s.checked [s.beforeRunning, lengthNot p 2] (s.setTransport { s.transport with tempo := t10 }, .ok (u2 t10))

/-- SET_TEMPO (R138). -/
def execSetTempo (t : Time) (l : Link) (p : List Byte) (s : State) : Result := s.request t l 0x35 p (ruleSetTempo p)

/-- The rule of SET_SCALE (R138). -/
def ruleSetScale (p : List Byte) (s : State) : State × Reply :=
  let x := clampNat 25 200 (byteAt p 0)
  s.checked [s.beforeRunning, lengthNot p 1] (s.setTransport { s.transport with scale := x }, .ok (u1 x))

/-- SET_SCALE (R138). -/
def execSetScale (t : Time) (l : Link) (p : List Byte) (s : State) : Result := s.request t l 0x36 p (ruleSetScale p)

/-- A track takes a mode; one that leaves PLAY has its open notes released (R151). -/
def State.setMode (s : State) (i : TrackIx) (m : TrackMode) : State :=
  let leaves := decide ((s.track i).mode = .play) && decide (m ≠ .play)
  let s1 := s.setTrack i { s.track i with mode := m }
  if leaves then s1.releaseTrack i else s1

/-- SET_TRACK_MODE is refused in LOCATING, in WAITING and for the track of an open load (R151). -/
def State.modeBusy (s : State) (i : Nat) : Bool :=
  s.transport.state.name == .locating || s.transport.state.name == .waiting ||
  (match s.transport.load with | some x => x.track.val == i | none => false)

/-- The rule of SET_TRACK_MODE (R151). -/
def ruleSetTrackMode (p : List Byte) (s : State) : State × Reply :=
  s.checked
    [s.beforeRunning, lengthNot p 2, (decide (3 < byteAt p 0) || (modeOfCode (byteAt p 1)).isNone, .badValue),
      (s.modeBusy (byteAt p 0), .busy)]
    (match trackOfNat (byteAt p 0), modeOfCode (byteAt p 1) with
      | some i, some m => (s.setMode i m, .ok (u1 i.val ++ u1 m.code))
      | _, _ => (s, .no .badValue))

/-- SET_TRACK_MODE (R151). -/
def execSetTrackMode (t : Time) (l : Link) (p : List Byte) (s : State) : Result :=
  s.request t l 0x37 p (ruleSetTrackMode p)

/-- The rule of SET_LOOP (R158). -/
def ruleSetLoop (p : List Byte) (s : State) : State × Reply :=
  let a := pointAt p 1
  let b := pointAt p 5
  let n := min 99 (byteAt p 9)
  s.checked [s.beforeRunning, lengthNot p 10]
    (match flagOfCode (byteAt p 0) with
      | some on =>
        if on ∧ b ≤ a then (s, .no .badValue)
        else
          (s.setTransport { s.transport with loop := { active := on, a := a, b := b, n := n, passes := 0 } },
            .ok (yesNo on ++ s4 a ++ s4 b ++ u1 n))
      | none => (s, .no .badValue))

/-- SET_LOOP (R158). -/
def execSetLoop (t : Time) (l : Link) (p : List Byte) (s : State) : Result := s.request t l 0x39 p (ruleSetLoop p)

/-- The rule of SET_METRONOME (R160). -/
def ruleSetMetronome (p : List Byte) (s : State) : State × Reply :=
  let beats := clampNat 1 12 (byteAt p 1)
  let level := clampNat 0 127 (byteAt p 2)
  s.checked [s.beforeRunning, lengthNot p 3]
    (match flagOfCode (byteAt p 0) with
      | some on =>
        (s.setTransport { s.transport with metronome := { on := on, beats := beats, level := level } },
          .ok (yesNo on ++ u1 beats ++ u1 level))
      | none => (s, .no .badValue))

/-- SET_METRONOME (R160). -/
def execSetMetronome (t : Time) (l : Link) (p : List Byte) (s : State) : Result :=
  s.request t l 0x3A p (ruleSetMetronome p)

/-! ### READ_TRANSPORT (R165) -/

def TransportState.pausedFrom : TransportState → Option PausedFrom
  | .paused x => some x
  | _ => none
def TransportState.walkTarget : TransportState → Option Int
  | .locating target _ => some target
  | _ => none

def loopField (x : Loop) : List Byte := yesNo x.active ++ s4 x.a ++ s4 x.b ++ u1 x.n ++ u1 x.passes
def metronomeField (x : Metronome) : List Byte := yesNo x.on ++ u1 x.beats ++ u1 x.level

/-- Part 0 of READ_TRANSPORT (R165). A recording's track and link are one optional field, and so are a load's (log entry
15). -/
def State.transportPayload (s : State) : List Byte :=
  let x := s.transport
  u1 x.state.name.code ++ s4 x.position ++ optional 1 (x.state.pausedFrom.map (fun f => u1 f.code)) ++
  optional 4 (x.state.walkTarget.map s4) ++ u2 x.tempo ++ u1 x.scale ++
  optional 2 (x.recording.map (fun r => u1 r.track.val ++ u1 (linkCode r.owner))) ++
  optional 2 (x.load.map (fun y => u1 y.track.val ++ u1 (linkCode y.link))) ++
  yesNo x.placed ++ keySetField x.guideSet ++ loopField x.loop ++ metronomeField x.metronome ++ u2 s.freeSlots

/-- Parts 1 to 4 of READ_TRANSPORT (R165). -/
def trackField (x : Track) : List Byte := u1 x.mode.code ++ u2 x.slots ++ u2 x.cursor ++ keySetField x.opened

/-- The rule of READ_TRANSPORT (R165). -/
def ruleReadTransport (p : List Byte) (s : State) : State × Reply :=
  s.checked [s.beforeRunning, lengthNot p 1, (decide (4 < byteAt p 0), .badValue)]
    (match trackOfNat (byteAt p 0 - 1) with
      | some i => (s, .ok (if byteAt p 0 = 0 then s.transportPayload else trackField (s.track i)))
      | none => (s, .no .badValue))

/-- READ_TRANSPORT (R165). -/
def execReadTransport (t : Time) (l : Link) (p : List Byte) (s : State) : Result :=
  s.request t l 0x3F p (ruleReadTransport p)

end Sys2Proof.Machine
end

