-- ==== Sys2Proof/Machine/Takes.lean ====
section
/-! DEFINITION. The meanings of the take store's requests (7.11). -/

namespace Sys2Proof.Machine

/-! ### ERASE_TRACK and READ_TAKE (R164) -/

/-- Every record of a track but its END is freed (R164). -/
def State.eraseTrack (s : State) (i : TrackIx) : State :=
  let s1 := s.setTrack i { s.track i with recs := endOnly 0, reserved := false }
  s1.setTransport { s1.transport with placed := false }

/-- The rule of ERASE_TRACK (R164). -/
def ruleEraseTrack (p : List Byte) (s : State) : State × Reply :=
  s.checked
    [s.beforeRunning, lengthNot p 1, (decide (3 < byteAt p 0), .badValue), (s.loadOpen, .busy),
      (s.transport.state.name != .idle, .wrongState)]
    (match trackOfNat (byteAt p 0) with
      | some i => (s.eraseTrack i, .ok (u2 (s.eraseTrack i).freeSlots))
      | none => (s, .no .badValue))

/-- ERASE_TRACK (R164). -/
def execEraseTrack (t : Time) (l : Link) (p : List Byte) (s : State) : Result :=
  s.request t l 0x38 p (ruleEraseTrack p)

def takeField (r : TakeRec) : List Byte := u4 r.word

/-- The rule of READ_TAKE (R164). -/
def ruleReadTake (p : List Byte) (s : State) : State × Reply :=
  let first := be2At p 1
  let count := byteAt p 3
  s.checked [s.beforeRunning, lengthNot p 4]
    (match trackOfNat (byteAt p 0) with
      | some i =>
        if 12 < count ∨ (s.track i).recs.length < first then (s, .no .badValue)
        else
          (s, .ok (u2 (s.track i).recs.length ++ (((s.track i).recs.drop first).take count).flatMap takeField))
      | none => (s, .no .badValue))

/-- READ_TAKE (R164). -/
def execReadTake (t : Time) (l : Link) (p : List Byte) (s : State) : Result := s.request t l 0x3E p (ruleReadTake p)

/-! ### Loads (R161 to R163) -/

/-- A load opens (R161). -/
def State.openLoad (s : State) (i : TrackIx) (l : Link) : State :=
  let s1 := s.setTrack i { (s.track i).erased with mode := .mute }
  s1.setTransport { s1.transport with load := some { track := i, link := l }, placed := false }

/-- The rule of LOAD_BEGIN (R161, R189). -/
def ruleLoadBegin (l : Link) (p : List Byte) (s : State) : State × Reply :=
  s.checked
    [s.beforeRunning, lengthNot p 1, (decide (3 < byteAt p 0), .badValue), (s.loadOpen, .busy),
      (s.transport.state.name != .idle, .wrongState), (!s.linkPresent l, .wrongState)]
    (match trackOfNat (byteAt p 0) with
      | some i => (s.openLoad i l, .ok (u2 (s.openLoad i l).freeSlots))
      | none => (s, .no .badValue))

/-- LOAD_BEGIN (R161). -/
def execLoadBegin (t : Time) (l : Link) (p : List Byte) (s : State) : Result := s.request t l 0x3B p (ruleLoadBegin l p)

/-- The track of the load that a link has open (R162). -/
def State.loadOf (s : State) (l : Link) : Option TrackIx :=
  match s.transport.load with
  | some x => if x.link = l then some x.track else none
  | none => none

/-- The records of an append are taken whole, or the load is aborted (R162). -/
def State.appendLoad (s : State) (i : TrackIx) (rs : List TakeRec) : State × Reply :=
  if rs.length ≤ s.freeSlots then
    let s1 := s.setTrack i { s.track i with recs := (s.track i).recs ++ rs }
    (s1, .ok (u1 0 ++ u2 (s1.track i).recs.length))
  else (s.abortLoad .poolFull, .ok (u1 1))

/-- The rule of LOAD_APPEND (R162). -/
def ruleLoadAppend (l : Link) (p : List Byte) (s : State) : State × Reply :=
  let count := byteAt p 0
  s.checked [s.beforeRunning, (p.length != 1 + 4 * count, .badLength)]
    (match s.loadOf l with
      | none => (s, .no .wrongState)
      | some i =>
        if count = 0 ∨ 12 < count then (s, .no .badValue)
        else match takesOfPayload p count with
          | none => (s, .no .badValue)
          | some rs => s.appendLoad i rs)

/-- LOAD_APPEND (R162). -/
def execLoadAppend (t : Time) (l : Link) (p : List Byte) (s : State) : Result :=
  s.request t l 0x3C p (ruleLoadAppend l p)

/-- The load is closed with its END in the reserved slot (R163). -/
def State.closeLoad (s : State) (i : TrackIx) (delta : Nat) : State :=
  let s1 := s.setTrack i { s.track i with recs := (s.track i).recs ++ endOnly delta, reserved := false }
  s1.setTransport { s1.transport with load := none }

/-- The rule of LOAD_END (R163). -/
def ruleLoadEnd (l : Link) (p : List Byte) (s : State) : State × Reply :=
  s.checked [s.beforeRunning, lengthNot p 2]
    (match s.loadOf l with
      | none => (s, .no .wrongState)
      | some i =>
        let s1 := s.closeLoad i (be2At p 0)
        (s1, .ok (u2 (s1.track i).recs.length)))

/-- LOAD_END (R163). -/
def execLoadEnd (t : Time) (l : Link) (p : List Byte) (s : State) : Result := s.request t l 0x3D p (ruleLoadEnd l p)

end Sys2Proof.Machine
end

