-- ==== Sys2Proof/Machine/TouchRequests.lean ====
section
/-! DEFINITION. The meanings of the touch requests (2.8). -/

namespace Sys2Proof.Machine

/-- A curve of the working copy. -/
def WorkingCopy.curveAt (w : WorkingCopy) (i : Fin 4) : Vector Breakpoint 8 := w.curves[i]

def curveOfNat (n : Nat) : Option (Fin 4) := if h : n < 4 then some ⟨n, h⟩ else none

/-- The OK payload of READ_TOUCH (R43). -/
def State.touchPayload (s : State) (i : Fin 4) : List Byte :=
  let f := s.cal.touch
  u1 f.fOn ++ u1 f.fRel ++ u1 f.fRa ++ u1 f.fSt ++ u1 f.hyst ++ u2 f.quietMs ++ u1 s.cal.activeCurve ++
  curveBytes (s.cal.curveAt i)

/-- The rule of READ_TOUCH (R43). -/
def ruleReadTouch (p : List Byte) (s : State) : State × Reply :=
  s.checked [s.beforeRunning, lengthNot p 1]
    (match curveOfNat (byteAt p 0) with
      | some i => (s, .ok (s.touchPayload i))
      | none => (s, .no .badValue))

/-- READ_TOUCH (R43). -/
def execReadTouch (t : Time) (l : Link) (p : List Byte) (s : State) : Result := s.request t l 0x41 p (ruleReadTouch p)

/-- The values of a WRITE_TOUCH, H and Q clamped (R42). -/
def writtenTouch (p : List Byte) : Touch :=
  { fOn := byteAt p 0, fRel := byteAt p 1, fRa := byteAt p 2, fSt := byteAt p 3, hyst := clampNat 2 32 (byteAt p 4),
    quietMs := clampNat 40 500 (be2At p 5) }

/-- The six values replaced together; a running quiet timer is judged against Q as it stands (R42, R63). -/
def State.writeTouch (s : State) (x : Touch) : State :=
  (State.calChanged { s with cal := { s.cal with touch := x } }).judgeQuiet

/-- The rule of WRITE_TOUCH (R42). -/
def ruleWriteTouch (l : Link) (p : List Byte) (s : State) : State × Reply :=
  let x := writtenTouch p
  s.checked
    [s.beforeHeld, s.noSeat l, lengthNot p 7, (!fractionsValid x.fOn x.fRel x.fRa x.fSt, .badValue), s.commitBusy]
    (s.writeTouch x, .ok (u1 x.fOn ++ u1 x.fRel ++ u1 x.fRa ++ u1 x.fSt ++ u1 x.hyst ++ u2 x.quietMs))

/-- WRITE_TOUCH (R42). -/
def execWriteTouch (t : Time) (l : Link) (p : List Byte) (s : State) : Result :=
  s.request t l 0x52 p (ruleWriteTouch l p)

/-- The eight breakpoints of a WRITE_CURVE (R40). -/
def writtenCurve (p : List Byte) : Vector Breakpoint 8 :=
  tableOf (fun i => { v := be2At p (1 + 3 * i.val), l := byteAt p (3 + 3 * i.val) })

def State.writeCurve (s : State) (i : Fin 4) (cv : Vector Breakpoint 8) : State :=
  State.calChanged { s with cal := { s.cal with curves := tablePut s.cal.curves i cv } }

/-- The rule of WRITE_CURVE (R40). -/
def ruleWriteCurve (l : Link) (p : List Byte) (s : State) : State × Reply :=
  let cv := writtenCurve p
  s.checked
    [s.beforeHeld, s.noSeat l, lengthNot p 25, (decide (3 < byteAt p 0) || !curveValid cv, .badValue), s.commitBusy]
    (match curveOfNat (byteAt p 0) with
      | some i => (s.writeCurve i cv, .ok (u1 i.val ++ yesNo (decide (i.val = s.cal.activeCurve))))
      | none => (s, .no .badValue))

/-- WRITE_CURVE (R40). -/
def execWriteCurve (t : Time) (l : Link) (p : List Byte) (s : State) : Result :=
  s.request t l 0x53 p (ruleWriteCurve l p)

/-- The active curve index is set; selecting the active curve changes nothing (R41). -/
def State.selectCurve (s : State) (i : Nat) : State :=
  if s.cal.activeCurve = i then s else State.calChanged { s with cal := { s.cal with activeCurve := i } }

/-- The rule of SELECT_CURVE (R41). -/
def ruleSelectCurve (l : Link) (p : List Byte) (s : State) : State × Reply :=
  s.checked [s.beforeHeld, s.noSeat l, lengthNot p 1, (decide (3 < byteAt p 0), .badValue), s.commitBusy]
    (s.selectCurve (byteAt p 0), .ok (u1 (byteAt p 0)))

/-- SELECT_CURVE (R41). -/
def execSelectCurve (t : Time) (l : Link) (p : List Byte) (s : State) : Result :=
  s.request t l 0x54 p (ruleSelectCurve l p)

end Sys2Proof.Machine
end

