-- ==== Sys2Proof/Machine/Voices.lean ====
section
/-! DEFINITION. The meanings of the voice engine's commands (chapter 5). -/

namespace Sys2Proof.Machine

/-- ENVELOPE_STEP (R104). -/
def execEnvelopeStep (t : Time) (s : State) : Result :=
  let s0 := s.stamp t
  .next { s0 with voices := tableMap (stepVoice s0.damper) s0.voices }

/-- The rule of PANIC (R107). -/
def rulePanic (p : List Byte) (s : State) : State × Reply :=
  s.checked [s.beforeRunning, lengthNot p 0] (s.mapVoices Voice.damp, .ok (u1 s.voicesUsed))

/-- PANIC (R107). -/
def execPanic (t : Time) (l : Link) (p : List Byte) (s : State) : Result := s.request t l 0x22 p (rulePanic p)

/-- The rule of SET_LAYER (R92). -/
def ruleSetLayer (l : Link) (p : List Byte) (s : State) : State × Reply :=
  s.checked [s.beforeRunning, s.noSeat l, lengthNot p 1]
    (match flagOfCode (byteAt p 0) with
      | some on =>
        let s1 := { s with layer := on }
        (s1, .ok (yesNo on ++ yesNo s1.liveRoute))
      | none => (s, .no .badValue))

/-- SET_LAYER (R92). -/
def execSetLayer (t : Time) (l : Link) (p : List Byte) (s : State) : Result := s.request t l 0x23 p (ruleSetLayer l p)

/-! ### READ_VOICES (R108) -/

def VoiceState.code : VoiceState → Nat
  | .sounding => 1
  | .releasing => 2
  | .damping => 3

def Source.groupCode : Source → Nat
  | .live => 0
  | .playback _ => 1
def Source.track : Source → Option TrackIx
  | .live => none
  | .playback i => some i

/-- The age of a voice in whole milliseconds, held within 32767 (R108). -/
def Voice.ageMs (v : Voice) (now : Time) : Nat := min 32767 (elapsed v.start now / 1000)

/-- The nineteen bytes of a voice of the range; a FREE voice sends its fields as 0 (R108). -/
def voiceField (i : Nat) (v : Option Voice) (now : Time) : List Byte :=
  match v with
  | none => u1 i ++ List.replicate 18 0#8
  | some x =>
    u1 i ++ u1 x.state.code ++ u1 x.source.groupCode ++ optional 1 (x.source.track.map (fun k => u1 k.val)) ++
    u1 x.key.val ++ u1 x.level ++ u1 x.release ++ yesNo x.held ++ u1 x.window ++ u4 x.position ++ u2 x.env ++
    u1 x.cost ++ u2 (x.ageMs now)

/-- The OK payload of READ_VOICES (R108). -/
def State.voicesPayload (s : State) (first count : Nat) : List Byte :=
  u1 s.voicesUsed ++ u1 s.costSum ++ yesNo s.layer ++ yesNo s.liveRoute ++
  ((s.voices.toList.zipIdx.drop first).take count).flatMap (fun x => voiceField x.2 x.1 s.now)

/-- The rule of READ_VOICES (R108). -/
def ruleReadVoices (p : List Byte) (s : State) : State × Reply :=
  let first := byteAt p 0
  let count := byteAt p 1
  s.checked
    [s.beforeRunning, lengthNot p 2,
      (decide (47 < first) || count == 0 || decide (2 < count) || decide (48 < first + count), .badValue)]
    (s, .ok (s.voicesPayload first count))

/-- READ_VOICES (R108). -/
def execReadVoices (t : Time) (l : Link) (p : List Byte) (s : State) : Result :=
  s.request t l 0x44 p (ruleReadVoices p)

end Sys2Proof.Machine
end

