-- ==== Sys2Proof/Machine/Dispatch.lean ====
section
/-! DEFINITION. The meaning of a command: one arm for every row of spec/opcode_table.json. -/

namespace Sys2Proof.Machine

/-- What a command does to everything but the queue. -/
def exec (i : Instr) (s : State) : Host.Outcome State Fault Refusal :=
  match i with
  | .powerOnReset t board => Sys2Proof.Machine.execPowerOnReset t board s
  | .warmReset t straps => Sys2Proof.Machine.execWarmReset t straps s
  | .calibrationLoad t => Sys2Proof.Machine.execCalibrationLoad t s
  | .loadNoAnswer t => Sys2Proof.Machine.execLoadNoAnswer t s
  | .sampleHeaderCheck t => Sys2Proof.Machine.execSampleHeaderCheck t s
  | .startUpDecision t => Sys2Proof.Machine.execStartUpDecision t s
  | .keyDepthReading t key reading => Sys2Proof.Machine.execKeyDepthReading t key reading s
  | .pedalDepthReading t channel reading => Sys2Proof.Machine.execPedalDepthReading t channel reading s
  | .leverRawChange t silent => Sys2Proof.Machine.execLeverRawChange t silent s
  | .leverDebounced t => Sys2Proof.Machine.execLeverDebounced t s
  | .encoderEdge t sense => Sys2Proof.Machine.execEncoderEdge t sense s
  | .indexPulse t => Sys2Proof.Machine.execIndexPulse t s
  | .endSwitchRawChange t switch closed => Sys2Proof.Machine.execEndSwitchRawChange t switch closed s
  | .endSwitchDebounced t switch => Sys2Proof.Machine.execEndSwitchDebounced t switch s
  | .quietEvent t => Sys2Proof.Machine.execQuietEvent t s
  | .waitingNotice t => Sys2Proof.Machine.execWaitingNotice t s
  | .stall t => Sys2Proof.Machine.execStall t s
  | .timeout t => Sys2Proof.Machine.execTimeout t s
  | .envelopeStep t => Sys2Proof.Machine.execEnvelopeStep t s
  | .outputFrame t => Sys2Proof.Machine.execOutputFrame t s
  | .rampStep t => Sys2Proof.Machine.execRampStep t s
  | .jackContactRawChange t jack contacts closed => Sys2Proof.Machine.execJackContactRawChange t jack contacts closed s
  | .jackContactDebounced t jack contacts => Sys2Proof.Machine.execJackContactDebounced t jack contacts s
  | .supplyGoodAsserted t => Sys2Proof.Machine.execSupplyGoodAsserted t s
  | .supplyGoodDropped t => Sys2Proof.Machine.execSupplyGoodDropped t s
  | .riseTimeout t => Sys2Proof.Machine.execRiseTimeout t s
  | .clickBurstEnd t => Sys2Proof.Machine.execClickBurstEnd t s
  | .toneRunEnd t => Sys2Proof.Machine.execToneRunEnd t s
  | .clockStep t => Sys2Proof.Machine.execClockStep t s
  | .locateWalkComplete t => Sys2Proof.Machine.execLocateWalkComplete t s
  | .commitPageAck t => Sys2Proof.Machine.execCommitPageAck t s
  | .commitPageTimeout t => Sys2Proof.Machine.execCommitPageTimeout t s
  | .eepromReadbackDone t => Sys2Proof.Machine.execEepromReadbackDone t s
  | .eepromReadbackNoAnswer t => Sys2Proof.Machine.execEepromReadbackNoAnswer t s
  | .presentRawChange t l asserted => Sys2Proof.Machine.execPresentRawChange t l asserted s
  | .linkJudgedPresent t l => Sys2Proof.Machine.execLinkJudgedPresent t l s
  | .linkJudgedAbsent t l => Sys2Proof.Machine.execLinkJudgedAbsent t l s
  | .selectAsserted t l => Sys2Proof.Machine.execSelectAsserted t l s
  | .selectDeasserted t l => Sys2Proof.Machine.execSelectDeasserted t l s
  | .unknownRequest t l code length p => Sys2Proof.Machine.execUnknownRequest t l code length p s
  | .poll t l p => Sys2Proof.Machine.execPoll t l p s
  | .readConditions t l p => Sys2Proof.Machine.execReadConditions t l p s
  | .ackConditions t l p => Sys2Proof.Machine.execAckConditions t l p s
  | .forceCondition t l p => Sys2Proof.Machine.execForceCondition t l p s
  | .setAttention t l p => Sys2Proof.Machine.execSetAttention t l p s
  | .linkReset t l p => Sys2Proof.Machine.execLinkReset t l p s
  | .readStatus t l p => Sys2Proof.Machine.execReadStatus t l p s
  | .seatClaim t l p => Sys2Proof.Machine.execSeatClaim t l p s
  | .seatYield t l p => Sys2Proof.Machine.execSeatYield t l p s
  | .seatPass t l p => Sys2Proof.Machine.execSeatPass t l p s
  | .readJournal t l p => Sys2Proof.Machine.execReadJournal t l p s
  | .relay t l p => Sys2Proof.Machine.execRelay t l p s
  | .startRelease t l p => Sys2Proof.Machine.execStartRelease t l p s
  | .voteSilent t l p => Sys2Proof.Machine.execVoteSilent t l p s
  | .setVolume t l p => Sys2Proof.Machine.execSetVolume t l p s
  | .panic t l p => Sys2Proof.Machine.execPanic t l p s
  | .setLayer t l p => Sys2Proof.Machine.execSetLayer t l p s
  | .play t l p => Sys2Proof.Machine.execPlay t l p s
  | .record t l p => Sys2Proof.Machine.execRecord t l p s
  | .stop t l p => Sys2Proof.Machine.execStop t l p s
  | .pause t l p => Sys2Proof.Machine.execPause t l p s
  | .locate t l p => Sys2Proof.Machine.execLocate t l p s
  | .setTempo t l p => Sys2Proof.Machine.execSetTempo t l p s
  | .setScale t l p => Sys2Proof.Machine.execSetScale t l p s
  | .setTrackMode t l p => Sys2Proof.Machine.execSetTrackMode t l p s
  | .eraseTrack t l p => Sys2Proof.Machine.execEraseTrack t l p s
  | .setLoop t l p => Sys2Proof.Machine.execSetLoop t l p s
  | .setMetronome t l p => Sys2Proof.Machine.execSetMetronome t l p s
  | .loadBegin t l p => Sys2Proof.Machine.execLoadBegin t l p s
  | .loadAppend t l p => Sys2Proof.Machine.execLoadAppend t l p s
  | .loadEnd t l p => Sys2Proof.Machine.execLoadEnd t l p s
  | .readTake t l p => Sys2Proof.Machine.execReadTake t l p s
  | .readTransport t l p => Sys2Proof.Machine.execReadTransport t l p s
  | .readKey t l p => Sys2Proof.Machine.execReadKey t l p s
  | .readTouch t l p => Sys2Proof.Machine.execReadTouch t l p s
  | .readPedals t l p => Sys2Proof.Machine.execReadPedals t l p s
  | .readRail t l p => Sys2Proof.Machine.execReadRail t l p s
  | .readVoices t l p => Sys2Proof.Machine.execReadVoices t l p s
  | .readWindows t l p => Sys2Proof.Machine.execReadWindows t l p s
  | .readStartup t l p => Sys2Proof.Machine.execReadStartup t l p s
  | .writeKeyCal t l p => Sys2Proof.Machine.execWriteKeyCal t l p s
  | .writePedalCal t l p => Sys2Proof.Machine.execWritePedalCal t l p s
  | .writeTouch t l p => Sys2Proof.Machine.execWriteTouch t l p s
  | .writeCurve t l p => Sys2Proof.Machine.execWriteCurve t l p s
  | .selectCurve t l p => Sys2Proof.Machine.execSelectCurve t l p s
  | .writeRailCal t l p => Sys2Proof.Machine.execWriteRailCal t l p s
  | .commit t l p => Sys2Proof.Machine.execCommit t l p s
  | .learnBegin t l p => Sys2Proof.Machine.execLearnBegin t l p s
  | .learnEnd t l p => Sys2Proof.Machine.execLearnEnd t l p s
  | .railRecover t l p => Sys2Proof.Machine.execRailRecover t l p s
  | .runTest t l p => Sys2Proof.Machine.execRunTest t l p s
  | .stopTest t l p => Sys2Proof.Machine.execStopTest t l p s
  | .responseShiftedOut t l => Sys2Proof.Machine.execResponseShiftedOut t l s

end Sys2Proof.Machine
end

