-- ==== Sys2Proof/Safety.lean ====
section
/-! DEFINITION. What a lawful state of the part is: the laws that the manual states of every state, block by block. Each is
kept by every step; the statements of Certificates say so. -/

namespace Sys2Proof.Machine

/-! ### Commands and answers -/

/-- The action time at which a command arrives. -/
def commandTime (i : Instr) : Time :=
  match i with
  | .powerOnReset t _ => t
  | .warmReset t _ => t
  | .calibrationLoad t => t
  | .loadNoAnswer t => t
  | .sampleHeaderCheck t => t
  | .startUpDecision t => t
  | .keyDepthReading t _ _ => t
  | .pedalDepthReading t _ _ => t
  | .leverRawChange t _ => t
  | .leverDebounced t => t
  | .encoderEdge t _ => t
  | .indexPulse t => t
  | .endSwitchRawChange t _ _ => t
  | .endSwitchDebounced t _ => t
  | .quietEvent t => t
  | .waitingNotice t => t
  | .stall t => t
  | .timeout t => t
  | .envelopeStep t => t
  | .outputFrame t => t
  | .rampStep t => t
  | .jackContactRawChange t _ _ _ => t
  | .jackContactDebounced t _ _ => t
  | .supplyGoodAsserted t => t
  | .supplyGoodDropped t => t
  | .riseTimeout t => t
  | .clickBurstEnd t => t
  | .toneRunEnd t => t
  | .clockStep t => t
  | .locateWalkComplete t => t
  | .commitPageAck t => t
  | .commitPageTimeout t => t
  | .eepromReadbackDone t => t
  | .eepromReadbackNoAnswer t => t
  | .presentRawChange t _ _ => t
  | .linkJudgedPresent t _ => t
  | .linkJudgedAbsent t _ => t
  | .selectAsserted t _ => t
  | .selectDeasserted t _ => t
  | .unknownRequest t _ _ _ _ => t
  | .poll t _ _ => t
  | .readConditions t _ _ => t
  | .ackConditions t _ _ => t
  | .forceCondition t _ _ => t
  | .setAttention t _ _ => t
  | .linkReset t _ _ => t
  | .readStatus t _ _ => t
  | .seatClaim t _ _ => t
  | .seatYield t _ _ => t
  | .seatPass t _ _ => t
  | .readJournal t _ _ => t
  | .relay t _ _ => t
  | .startRelease t _ _ => t
  | .voteSilent t _ _ => t
  | .setVolume t _ _ => t
  | .panic t _ _ => t
  | .setLayer t _ _ => t
  | .play t _ _ => t
  | .record t _ _ => t
  | .stop t _ _ => t
  | .pause t _ _ => t
  | .locate t _ _ => t
  | .setTempo t _ _ => t
  | .setScale t _ _ => t
  | .setTrackMode t _ _ => t
  | .eraseTrack t _ _ => t
  | .setLoop t _ _ => t
  | .setMetronome t _ _ => t
  | .loadBegin t _ _ => t
  | .loadAppend t _ _ => t
  | .loadEnd t _ _ => t
  | .readTake t _ _ => t
  | .readTransport t _ _ => t
  | .readKey t _ _ => t
  | .readTouch t _ _ => t
  | .readPedals t _ _ => t
  | .readRail t _ _ => t
  | .readVoices t _ _ => t
  | .readWindows t _ _ => t
  | .readStartup t _ _ => t
  | .writeKeyCal t _ _ => t
  | .writePedalCal t _ _ => t
  | .writeTouch t _ _ => t
  | .writeCurve t _ _ => t
  | .selectCurve t _ _ => t
  | .writeRailCal t _ _ => t
  | .commit t _ _ => t
  | .learnBegin t _ _ => t
  | .learnEnd t _ _ => t
  | .railRecover t _ _ => t
  | .runTest t _ _ => t
  | .stopTest t _ _ => t
  | .responseShiftedOut t _ => t

/-- The link on which a command is a request. -/
def requestLink (i : Instr) : Option Link :=
  match i with
  | .powerOnReset _ _ => none
  | .warmReset _ _ => none
  | .calibrationLoad _ => none
  | .loadNoAnswer _ => none
  | .sampleHeaderCheck _ => none
  | .startUpDecision _ => none
  | .keyDepthReading _ _ _ => none
  | .pedalDepthReading _ _ _ => none
  | .leverRawChange _ _ => none
  | .leverDebounced _ => none
  | .encoderEdge _ _ => none
  | .indexPulse _ => none
  | .endSwitchRawChange _ _ _ => none
  | .endSwitchDebounced _ _ => none
  | .quietEvent _ => none
  | .waitingNotice _ => none
  | .stall _ => none
  | .timeout _ => none
  | .envelopeStep _ => none
  | .outputFrame _ => none
  | .rampStep _ => none
  | .jackContactRawChange _ _ _ _ => none
  | .jackContactDebounced _ _ _ => none
  | .supplyGoodAsserted _ => none
  | .supplyGoodDropped _ => none
  | .riseTimeout _ => none
  | .clickBurstEnd _ => none
  | .toneRunEnd _ => none
  | .clockStep _ => none
  | .locateWalkComplete _ => none
  | .commitPageAck _ => none
  | .commitPageTimeout _ => none
  | .eepromReadbackDone _ => none
  | .eepromReadbackNoAnswer _ => none
  | .presentRawChange _ _ _ => none
  | .linkJudgedPresent _ _ => none
  | .linkJudgedAbsent _ _ => none
  | .selectAsserted _ _ => none
  | .selectDeasserted _ _ => none
  | .unknownRequest _ l _ _ _ => some l
  | .poll _ l _ => some l
  | .readConditions _ l _ => some l
  | .ackConditions _ l _ => some l
  | .forceCondition _ l _ => some l
  | .setAttention _ l _ => some l
  | .linkReset _ l _ => some l
  | .readStatus _ l _ => some l
  | .seatClaim _ l _ => some l
  | .seatYield _ l _ => some l
  | .seatPass _ l _ => some l
  | .readJournal _ l _ => some l
  | .relay _ l _ => some l
  | .startRelease _ l _ => some l
  | .voteSilent _ l _ => some l
  | .setVolume _ l _ => some l
  | .panic _ l _ => some l
  | .setLayer _ l _ => some l
  | .play _ l _ => some l
  | .record _ l _ => some l
  | .stop _ l _ => some l
  | .pause _ l _ => some l
  | .locate _ l _ => some l
  | .setTempo _ l _ => some l
  | .setScale _ l _ => some l
  | .setTrackMode _ l _ => some l
  | .eraseTrack _ l _ => some l
  | .setLoop _ l _ => some l
  | .setMetronome _ l _ => some l
  | .loadBegin _ l _ => some l
  | .loadAppend _ l _ => some l
  | .loadEnd _ l _ => some l
  | .readTake _ l _ => some l
  | .readTransport _ l _ => some l
  | .readKey _ l _ => some l
  | .readTouch _ l _ => some l
  | .readPedals _ l _ => some l
  | .readRail _ l _ => some l
  | .readVoices _ l _ => some l
  | .readWindows _ l _ => some l
  | .readStartup _ l _ => some l
  | .writeKeyCal _ l _ => some l
  | .writePedalCal _ l _ => some l
  | .writeTouch _ l _ => some l
  | .writeCurve _ l _ => some l
  | .selectCurve _ l _ => some l
  | .writeRailCal _ l _ => some l
  | .commit _ l _ => some l
  | .learnBegin _ l _ => some l
  | .learnEnd _ l _ => some l
  | .railRecover _ l _ => some l
  | .runTest _ l _ => some l
  | .stopTest _ l _ => some l
  | .responseShiftedOut _ _ => none

/-- The state with the OK response of a request formed (R187, R188). -/
def State.replied (s : State) (l : Link) (code : Nat) (p payload : List Byte) : State :=
  s.answer l (requestBytes code p) (Reply.ok payload)

/-- The state with the refusal of a request formed. -/
def State.denied (s : State) (l : Link) (code : Nat) (p : List Byte) (status : Status) : State :=
  s.answer l (requestBytes code p) (Reply.no status)

/-- The status of the first check that fails, if one does. -/
def firstFailing (checks : List (Bool × Status)) : Option Status := (checks.find? (fun x => x.1)).map (fun x => x.2)

/-- What a request whose checks are tested in order leaves: its refusal, with nothing else changed, or its effect and its OK
response. -/
def State.outcome (s : State) (l : Link) (code : Nat) (p : List Byte) (checks : List (Bool × Status)) (effect : State)
    (payload : List Byte) : State :=
  match firstFailing checks with
  | some status => s.denied l code p status
  | none => effect.replied l code p payload

/-! ### Key sensing -/

/-- ONSET, DOWN, REARMED and RESTRIKE: the states of a stroke. -/
def KeyState.strikes : KeyState → Bool
  | .onset _ _ => true
  | .down => true
  | .rearmed _ => true
  | .restrike _ _ => true
  | _ => false

/-- R23: the states of a stroke are not reached before RUNNING. -/
def NoStrokeBeforeRunning (s : State) : Prop :=
  s.running = false → ∀ k : KeyIx, (s.key k).state.strikes = false

/-- Before RUNNING nothing plays: no stroke, no voice, no playback, no load, no test (R23, R210). -/
def StillBeforeRunning (s : State) : Prop :=
  NoStrokeBeforeRunning s ∧
  (s.running = false →
    (∀ i : VoiceIx, s.voice i = none) ∧ s.transport.state = .idle ∧ s.transport.load = none ∧ s.test = none)

/-- The keys not at rest (R19). -/
def State.keysAwake (s : State) : Nat :=
  ((List.finRange 88).filter (fun k => !(s.key k).state.atRest)).length

/-! ### The working copy -/

/-- A key's calibration as the working copy can hold it (R4, R205, R222). -/
def KeyCal.legal (c : KeyCal) : Prop := c.r ≤ 1023 ∧ c.b ≤ 1023 ∧ c.d ≤ 65535 ∧ c.g ≤ 255

/-- R5, R35, R45, R63, R65: the fractions, H, Q, the curves, the pedal pairs and C_eng as held. -/
def WorkingCopy.legal (w : WorkingCopy) : Prop :=
  (∀ k : KeyIx, w.keys[k].legal) ∧
  fractionsValid w.touch.fOn w.touch.fRel w.touch.fRa w.touch.fSt = true ∧
  2 ≤ w.touch.hyst ∧ w.touch.hyst ≤ 32 ∧ 40 ≤ w.touch.quietMs ∧ w.touch.quietMs ≤ 500 ∧
  (∀ c : Fin 4, curveValid w.curves[c] = true) ∧ w.activeCurve ≤ 3 ∧
  (∀ c : PedalIx, w.pedals[c].rest + 200 ≤ w.pedals[c].full ∧ w.pedals[c].full ≤ 1023) ∧
  400 ≤ w.cEng ∧ w.cEng ≤ 4000

/-- The working copy is legal, and so is every record that may come to it: the pending ones and the depths being learned. -/
def CalibrationLaw (s : State) : Prop :=
  s.cal.legal ∧
  (∀ k : KeyIx, ∀ c : KeyCal, (s.key k).pendingCal = some c → c.legal) ∧
  (∀ k : KeyIx, ∀ lo hi : Nat, (s.key k).state = .learn (some (lo, hi)) → lo ≤ 1023 ∧ hi ≤ 1023)

/-- 11.5, R206: the image has 832 bytes, and a commit writes pages 0 to 51 of such an image. -/
def StoreLaw (s : State) : Prop :=
  s.eeprom.length = Config.imageBytes ∧ s.commitCount ≤ 255 ∧
  ∀ c : Commit, s.commit = some c → c.page ≤ Config.lastPage ∧ c.image.length = Config.imageBytes ∧ c.count ≤ 255

/-! ### Pedals -/

/-- R57: a group's capture set is empty whenever its sostenuto switch is off; R47: a channel not yet evaluated has captured
nothing. -/
def CaptureLaw (s : State) : Prop :=
  ((s.liveChannel sostenutoIx).switch = false → s.liveCapture = 0#88) ∧
  ((s.playChannel sostenutoIx).switch = false → s.playCapture = 0#88) ∧
  ((s.startUp.phase = .loading ∨ s.startUp.phase = .checking) → (s.liveChannel sostenutoIx).evaluated = false →
    s.liveCapture = 0#88)

/-! ### The rail -/

/-- The direction that a state drives in (R65). -/
def RailState.drives : RailState → Option Travel
  | .movingIn => some .inward
  | .movingOut => some .outward
  | .homing => some .outward
  | .testing p _ _ => some p
  | _ => none

/-- R64, R68: the motor is driven only while quiet is yes, in the direction of a driving state; a MOVING rail is driven. -/
def MotorLaw (r : Rail) : Prop :=
  (∀ g : Segment, r.drive = some g → r.quiet.quiet = true ∧ r.decided = true ∧ r.state.drives = some g.dir) ∧
  ((r.state = .movingIn ∨ r.state = .movingOut) → r.drive.isSome = true) ∧
  (r.decided = false → r.state = .homing)

/-- R68, R69, R73: once the decision is taken, the rail stands or moves as the vote set asks. -/
def VoteLaw (r : Rail) : Prop :=
  match r.state.name with
  | .parked => r.votes.any = false
  | .pendingIn => r.votes.any = true
  | .movingIn => r.votes.any = true
  | .pausedIn => r.votes.any = true
  | .engaged => r.votes.any = true
  | .pendingOut => r.votes.any = false
  | .movingOut => r.votes.any = false
  | .pausedOut => r.votes.any = false
  | .homing => True
  | .testing => True
  | .fault => True

/-- R63: the count of the keys not at rest; no quiet and no quiet timer while a key is not at rest or a learn is active; the
whole action at rest in LOADING. -/
def QuietLaw (s : State) : Prop :=
  s.rail.quiet.notAtRest = s.keysAwake ∧
  ((s.rail.quiet.start.isSome = true ∨ s.rail.quiet.quiet = true) → s.rail.quiet.notAtRest = 0 ∧ s.learn = none) ∧
  (s.startUp.phase = .loading → s.rail.quiet.notAtRest = 0 ∧ s.learn = none)

/-- The laws of the rail together. -/
def RailLaw (s : State) : Prop := MotorLaw s.rail ∧ VoteLaw s.rail ∧ QuietLaw s

/-! ### Voices and windows -/

/-- R112: what an accepted entry keeps of the memory's bounds and of the cost. -/
def Window.lawful (w : Window) : Prop :=
  w.keyLo ≤ w.keyHi ∧ 2 ≤ w.length ∧ w.length % 2 = 0 ∧ 1 ≤ w.cost ∧ w.cost ≤ 3 ∧
  w.base + (w.keyHi - w.keyLo) * w.stride + w.length ≤ Config.lastWord + 1 ∧
  (∀ o : Nat, w.loop = some o → o % 2 = 0 ∧ o < w.length)

/-- A voice plays within the sample of its window, and counts the cost of it (R94, R97, R106, R114); it is SOUNDING while
its key is held (R90). -/
def Voice.lawful (v : Voice) (ws : List Window) : Prop :=
  (∃ w : Window, ws[v.window]? = some w ∧ w.keyLo ≤ v.key.val ∧ v.key.val ≤ w.keyHi ∧ v.cost = w.cost ∧
    v.position % 2 = 0 ∧ v.position < w.length) ∧
  (v.held = true → v.state = .sounding) ∧ 1 ≤ v.env ∧ v.env ≤ Config.fullEnvelope

/-- R97, R112, R115: the windows and the voices are lawful, and the costs stay within the budget. -/
def VoiceLaw (s : State) : Prop :=
  (∀ w ∈ s.windows, w.lawful) ∧
  (∀ i : VoiceIx, ∀ v : Voice, s.voice i = some v → v.lawful s.windows) ∧
  s.costSum ≤ Config.budget

/-- The note of a voice is on: its key's tracker, or its track's open-note set, says so (R90). -/
def State.noteIsOn (s : State) (v : Voice) : Bool :=
  match v.source with
  | .live => (s.key v.key).state.noteOn
  | .playback i => KeySet.has (s.track i).opened v.key

/-- R90: a voice with key_held yes belongs to a note that is on. -/
def HeldLaw (s : State) : Prop :=
  ∀ i : VoiceIx, ∀ v : Voice, s.voice i = some v → v.held = true → s.noteIsOn v = true

/-! ### Headphone output -/

/-- R119, R120, R125 to R127: a jack's state is that of its contacts, a jack is enabled exactly while it may be, every gain
is 0 and no ramp runs while the supply is not GOOD, and the supply is OFF exactly while no jack is SEATED. -/
def OutputLaw (s : State) : Prop :=
  (∀ i : JackIx, (s.jack i).state = jackStateOf (s.jack i).tip (s.jack i).sleeve) ∧
  (∀ i : JackIx, (s.jack i).enabled = (s.jack i).mayEnable (decide (s.supply = Supply.good))) ∧
  (s.supply ≠ Supply.good → ∀ i : JackIx, (s.jack i).gain = 0 ∧ (s.jack i).ramp = none) ∧
  (s.supply = Supply.off ↔ s.anySeated = false)

/-! ### Transport -/

/-- The states that hold a recording (R136). -/
def TransportState.records : TransportState → Bool
  | .countIn => true
  | .recording => true
  | .paused .recording => true
  | _ => false

/-- R136, R149: the wait set is nonempty exactly in WAITING and holds at most ten keys; a recording is present in its states;
a load is open in IDLE alone. -/
def TransportLaw (s : State) : Prop :=
  (s.transport.state = .waiting ↔ s.transport.guideSet ≠ 0#88) ∧
  KeySet.count s.transport.guideSet ≤ Config.maxWait ∧
  (s.transport.recording.isSome = s.transport.state.records) ∧
  (s.transport.load.isSome = true → s.transport.state = .idle)

/-- The track is being recorded or loaded (R133). -/
def State.trackOpen (s : State) (i : TrackIx) : Bool :=
  (match s.transport.recording with | some r => r.track == i | none => false) ||
  (match s.transport.load with | some x => x.track == i | none => false)

def TakeRec.isEnd (r : TakeRec) : Bool :=
  match r.body with
  | .endMark => true
  | _ => false

/-- A track that is closed ends with its one END; one that is open holds none (R133). -/
def recsLawful (isOpen : Bool) (recs : List TakeRec) : Prop :=
  if isOpen then recs.all (fun r => !r.isEnd) = true
  else recs.dropLast.all (fun r => !r.isEnd) = true ∧ (recs.getLast?.map TakeRec.isEnd) = some true

/-- R133: the slots used never exceed the pool; a track holds its reserved slot exactly while it is recorded or loaded, and
its END exactly while it is not. -/
def PoolLaw (s : State) : Prop :=
  s.transport.used ≤ Config.poolSize ∧
  ∀ i : TrackIx, (s.track i).reserved = s.trackOpen i ∧ recsLawful (s.trackOpen i) (s.track i).recs

/-! ### Journal and links -/

/-- The limits of a link's view (R175). -/
def View.lawful (ring : Nat) : View → Prop
  | .present cursor gap => cursor ≤ ring ∧ gap ≤ Config.byteMax
  | .absent n => n ≤ Config.byteMax

/-- R169, R175, R177: the ring holds at most 512 records, every cursor stands in it, and the oldest record is one that some
present link has yet to read. -/
def JournalLaw (s : State) : Prop :=
  s.journal.length ≤ Config.journalSize ∧
  (∀ l : Link, (s.link l).view.lawful s.journal.length) ∧
  (s.oldestCursor = none ∨ s.oldestCursor = some 0)

/-- R190: the latched set, the mask and the watermark stay legal. -/
def AttentionLaw (s : State) : Prop :=
  ∀ l : Link, (s.link l).latched &&& 0xF000#16 = 0#16 ∧ (s.link l).mask &&& 0xE000#16 = 0#16 ∧
    1 ≤ (s.link l).watermark ∧ (s.link l).watermark ≤ 256

/-- R198, R201: only a present link holds the seat; a learn runs under the seat of its link, and a test under a seat. -/
def SeatLaw (s : State) : Prop :=
  (∀ l : Link, s.seat = some l → s.linkPresent l = true) ∧
  (∀ x : Learn, s.learn = some x → s.seat = some x.link) ∧
  (s.test.isSome = true → s.seat.isSome = true)

/-- R26, R206: a learn and a commit are never active together. -/
def LearnCommitLaw (s : State) : Prop := s.learn = none ∨ s.commit = none

/-- The kind of the running test. -/
def State.testKind (s : State) : Option TestKind := s.test.map (fun x => x.run.kind)

/-- R79, R124, R216: the rail is in TESTING exactly while a rail cycle runs, and a tone run is present exactly while the tone
test runs. -/
def TestLaw (s : State) : Prop :=
  (s.rail.state.name = .testing ↔ s.testKind = some .railCycle) ∧ (s.tone.isSome = true ↔ s.testKind = some .tone)

/-- R213: the LED shows what the codes and the phase ask. -/
def LedLaw (s : State) : Prop := s.led = s.ledShows

/-! ### Start-up -/

/-- The phases in the order of R208. -/
def Phase.next : Phase → Phase → Bool
  | .loading, .checking => true
  | .checking, .samples => true
  | .samples, .held => true
  | .samples, .running => true
  | .held, .running => true
  | _, _ => false

end Sys2Proof.Machine
end

