-- ==== Sys2Proof/Certificates/Slice0/Obligations.lean ====
section
/-! DEFINITION. The statements about the part: what each command does, from the numbered rules of spec/, and the laws that
every step keeps. An equation s' = { s with f := s'.f } says that no field but those named can change. -/

open Sys2Proof Sys2Proof.Machine

/-! ### The queue and the commands in general -/

/-- A step runs the command at the front of the queue with the queue's rest; an empty queue idles (the model's choice, log
entry 1). -/
def Obligations.StepRunsFrontCommand : Prop :=
  ∀ (i : Instr) (s : State),
    step { s with pending := i :: s.pending } = exec i s ∧ (s.pending = [] → step s = .next s)

/-- Every command leaves the action time at its own arrival and the rest of the queue as it was (R1; the queue is the
model's, log entry 1). But for the two resets, it leaves the start-up phase as it is or moves it to the next one (R208);
HELD is left by START_RELEASE alone, and SAMPLES by the header check, to HELD with HOLD_START set and to RUNNING without. -/
def Obligations.CommandsKeepOrder : Prop :=
  ∀ (i : Instr) (s s' : State), exec i s = .next s' →
    s'.now = commandTime i ∧ s'.pending = s.pending ∧
    ((∀ b, i ≠ .powerOnReset (commandTime i) b) → (∀ x, i ≠ .warmReset (commandTime i) x) →
      (s'.startUp.phase = s.startUp.phase ∨ Phase.next s.startUp.phase s'.startUp.phase = true) ∧
      (s.startUp.phase = .held → s'.startUp.phase = .running → ∃ l p, i = .startRelease (commandTime i) l p) ∧
      (s.startUp.phase = .samples → s'.startUp.phase ≠ .samples → i = .sampleHeaderCheck (commandTime i) ∧
        s'.startUp.phase = if s.startUp.straps.holdStart then .held else .running))

/-- No command is refused, none but OUTPUT_FRAME faults, and none faults while the voices stand within their windows'
samples (R112, R114; the fault is the model's, log entry 25). -/
def Obligations.CommandsComplete : Prop :=
  ∀ (i : Instr) (s : State),
    (∀ r : Refusal, exec i s ≠ .refused r) ∧
    (∀ f : Fault, exec i s = .fault f → i = .outputFrame (commandTime i)) ∧
    (VoiceLaw s → ∃ s' : State, exec i s = .next s')

/-! ### The resets -/

/-- Power-on reset puts every block at its reset state, keeps the working copy for the load (log entry 21), and takes the
attached memories as the board gives them: an EEPROM of 832 bytes, and sample words that read as the last one given for
their address, FFFFh where none is (log entry 5). -/
def Obligations.PowerOnResetClears : Prop :=
  ∀ (t : Time) (b : Board) (s : State), ∃ s' : State, exec (.powerOnReset t b) s = .next s' ∧
    s'.startUp =
      { phase := .loading, phaseSince := t, straps := b.straps, resetKind := .powerOn, calSource := none,
        foundFaulty := 0#88, faultyKeys := none, disconnected := none, railOutcome := none, samples := none, takeStore := .cleared } ∧
    (∀ k : KeyIx, s'.key k =
      { state := .rest, last := none, implausible := 0, recovery := 0, pendingCal := none, learnWaiting := false,
        evaluated := false }) ∧
    s'.learn = none ∧ s'.commit = none ∧ s'.committed = false ∧ s'.test = none ∧ s'.runs = 0 ∧ s'.lastResult = none ∧
    (∀ i : PedalIx, s'.liveChannel i =
      { level := 0, published := 0, switch := false, connected := true, atFull := none, evaluated := false }) ∧
    (∀ i : PedalIx, s'.playChannel i = { level := 0, switch := false }) ∧
    s'.liveCapture = 0#88 ∧ s'.playCapture = 0#88 ∧
    s'.rail =
      { state := .homing, decided := false, drive := none, count := 0, segCount := none, park := false, stop := false,
        parkRaw := { s.rail.parkRaw with since := t }, stopRaw := { s.rail.stopRaw with since := t },
        leverRaw := { s.rail.leverRaw with since := t }, votes := { lever := false, a := false, b := false },
        quiet := { notAtRest := 0, start := none, quiet := false } } ∧
    (∀ i : VoiceIx, s'.voice i = none) ∧ s'.layer = false ∧ s'.windows = [] ∧
    (∀ i : JackIx, s'.jack i =
      { tip := false, sleeve := false, tipRaw := { (s.jack i).tipRaw with since := t },
        sleeveRaw := { (s.jack i).sleeveRaw with since := t }, state := .empty, volume := 80, target := 13001, gain := 0,
        ramp := none, enabled := false, clip := false }) ∧
    s'.supply = .off ∧ s'.supplyGood = s.supplyGood ∧ s'.click = none ∧ s'.tone = none ∧
    s'.transport = { s'.transport with
      state := .idle, position := 0, acc := 0, tempo := 1200, scale := 100, recording := none, placed := true,
      guideSet := 0#88, load := none, loop := { active := false, a := 0, b := 0, n := 0, passes := 0 },
      metronome := { on := false, beats := 4, level := 64 } } ∧
    (∀ i : TrackIx, s'.track i =
      { recs := [{ body := .endMark, delta := 0 }], reserved := false, mode := .play, cursor := 0, cursorPos := 0,
        opened := 0#88 }) ∧
    s'.freeSlots = 8188 ∧ s'.journal = [] ∧ s'.seat = none ∧
    (∀ l : Link, s'.link l =
        { select := (s.link l).select, presentRaw := { (s.link l).presentRaw with since := t },
          transaction := if (s.link l).select then .discarding else .idle, view := .absent 0, latched := 0#16,
          mask := Condition.mask .startup ||| Condition.mask .journal, onAck := true, watermark := 1 } ∧
      s'.attn l = false) ∧
    s'.led = .dark ∧ s'.cal = s.cal ∧ s'.commitCount = s.commitCount ∧ s'.saved = s.saved ∧
    (b.eeprom = none → s.commit = none → s'.eeprom = s.eeprom) ∧
    (∀ im : List Byte, b.eeprom = some im → im.length = 832 → s'.eeprom = im) ∧
    (b.samples = none → s'.sampleMem = s.sampleMem) ∧
    (∀ ws : List (Nat × SampleWord), b.samples = some ws → Memory.wf s'.sampleMem = true ∧
      (∀ a : Nat, a ≤ 16777215 → Memory.read s'.sampleMem a =
        (((ws.filter (fun x => x.1 == a)).getLast?).map (fun x => x.2)).getD 0xFFFF#16) ∧
      (∀ a : Nat, 16777215 < a → Memory.read s'.sampleMem a = 0xFFFF#16))

/-- R167, R212: warm reset leaves what power-on reset leaves, but for the reset kind and the tracks' records, which it
keeps: a recording is closed at its tail without WAIT records, a load is left as its END alone, and no slot in use is lost. -/
def Obligations.WarmResetKeepsTakes : Prop :=
  ∀ (t : Time) (straps : Straps) (s : State), ∃ s' p : State,
    exec (.warmReset t straps) s = .next s' ∧
    exec (.powerOnReset t { straps := straps, eeprom := none, samples := none }) s = .next p ∧
    s' = { p with
      startUp := { p.startUp with resetKind := .warm, takeStore := .preserved }
      transport := { p.transport with tracks := s'.transport.tracks } } ∧
    (∀ i : TrackIx, s'.track i = { p.track i with recs := (s'.track i).recs }) ∧
    (∀ i : TrackIx, s.trackOpen i = false → (s'.track i).recs = (s.track i).recs) ∧
    (∀ r : Recording, s.transport.recording = some r →
      (s'.track r.track).recs = (s.track r.track).recs ++
        [{ body := .endMark, delta := min 65535 (max s.transport.position 0 - r.lastPos).toNat }]) ∧
    (∀ x : Load, s.transport.recording = none → s.transport.load = some x →
      (s'.track x.track).recs = [{ body := .endMark, delta := 0 }]) ∧
    (PoolLaw s → s.transport.load = none → s'.freeSlots = s.freeSlots)

/-- Every law of the part holds right after power-on reset. -/
def Obligations.ResetIsLawful : Prop :=
  StillBeforeRunning State.reset ∧ CalibrationLaw State.reset ∧ StoreLaw State.reset ∧ CaptureLaw State.reset ∧
  RailLaw State.reset ∧ VoiceLaw State.reset ∧ Memory.wf State.reset.sampleMem = true ∧ HeldLaw State.reset ∧
  OutputLaw State.reset ∧ TransportLaw State.reset ∧ PoolLaw State.reset ∧ JournalLaw State.reset ∧
  AttentionLaw State.reset ∧ SeatLaw State.reset ∧ LearnCommitLaw State.reset ∧ TestLaw State.reset ∧ LedLaw State.reset

/-! ### Start-up -/

/-- R205: in LOADING the load judges the EEPROM's image. A refused image gives the defaults and its ground; one that is
taken gives its repaired fields, which are legal whatever the image held, with the mark SAVED where no repair changed a
value (a key origin of another value, read as WRITTEN, is no repair: log entry 43); either ends LOADING and sets the quiet
start. An EEPROM that has not answered for 20 ms, counted from the start of LOADING (log entry 26), gives the ground
NO_ANSWER (the event is delivered as a command, log entry 2). -/
def Obligations.LoadJudgesImage : Prop :=
  ∀ (t : Time) (s : State), s.startUp.phase = .loading →
    let ends (s' : State) (source : CalSource) : Prop :=
      s' = { s with
        now := t, cal := s'.cal, commitCount := s'.commitCount, saved := s'.saved
        startUp := { s.startUp with phase := .checking, phaseSince := t, calSource := some source }
        rail := { s.rail with quiet := { s.rail.quiet with start := some t } }, led := s'.led, ledSince := s'.ledSince } ∧
      s'.led = s'.ledShows ∧ s'.cal.legal
    (∀ g : Ground, imageGround s.eeprom = some g → ∃ s' : State, exec (.calibrationLoad t) s = .next s' ∧
      ends s' (.defaults g) ∧ s'.cal = defaultWorkingCopy ∧ s'.commitCount = 0 ∧ s'.saved = false) ∧
    (imageGround s.eeprom = none → ∃ s' : State, exec (.calibrationLoad t) s = .next s' ∧
      ends s' .stored ∧ s'.cal = repairCopy (imageFields s.eeprom) ∧ s'.commitCount = byteAt s.eeprom 5 ∧
      (s'.saved = true ↔ repairCopy (imageFields s.eeprom) = imageFields s.eeprom)) ∧
    (20000 ≤ (t - s.startUp.phaseSince).toNat → ∃ s' : State, exec (.loadNoAnswer t) s = .next s' ∧
      ends s' (.defaults .noAnswer) ∧ s'.cal = defaultWorkingCopy ∧ s'.commitCount = 0 ∧ s'.saved = false)

/-- R111, R198, R208, R209, R210: the header check ends SAMPLES, in HELD with HOLD_START and in RUNNING without;
START_RELEASE enters RUNNING from HELD and from the phases before it is refused. The entry to RUNNING appends the CAL record
of a load by defaults, gives the vacant seat to the present link of SEAT_DEFAULT, and raises STARTUP on both links. The
order of START_RELEASE's checks and of the records is deduced (log entries 31, 35). -/
def Obligations.EntryToRunning : Prop :=
  let enters (s s' : State) : Prop :=
    let d := s.startUp.straps.seatDefault
    let given := s.seat == none && s.linkPresent d
    s'.now = s.now ∧ s'.startUp.phase = .running ∧ s'.startUp.phaseSince = s.now ∧ s'.led = s'.ledShows ∧
    s'.seat = (if given then some d else s.seat) ∧
    (∀ l : Link, (s'.link l).latched = (s.link l).latched ||| Condition.mask .startup |||
      (if s.startUp.calSource.any (fun c => c != .stored) then Condition.mask .cal else 0#16) |||
      (if given then Condition.mask .seat else 0#16)) ∧
    s'.journal = s.journal ++
      (match s.startUp.calSource with
        | some (.defaults g) => [{ body := .calDefaults g, time := s.now }]
        | _ => []) ++
      (if given then [{ body := .seat (some d) none .startUp, time := s.now }] else [])
  (∀ (t : Time) (s : State), s.startUp.phase = .samples → ∃ s' : State, exec (.sampleHeaderCheck t) s = .next s' ∧
    s'.windows = (headerWindows s.sampleMem).getD [] ∧
    s'.startUp.samples =
      some (match headerWindows s.sampleMem with | some ws => .present ws.length | none => .absent) ∧
    (s.startUp.straps.holdStart = true → s' = { s with
      now := t, windows := s'.windows, led := s'.led, ledSince := s'.ledSince
      startUp := { s.startUp with phase := .held, phaseSince := t, samples := s'.startUp.samples } }) ∧
    (s.startUp.straps.holdStart = false → s.test = none → s.journal.length ≤ 510 → enters (s.stamp t) s')) ∧
  (∀ (t : Time) (l : Link) (s : State), s.receiving l = true → s.test = none → s.journal.length ≤ 510 →
    (s.startUp.phase = .held → ∃ s' : State, enters (s.stamp t) s' ∧
      exec (.startRelease t l []) s = .next (s'.replied l 0x18 [] [4#8])) ∧
    (s.startUp.phase = .running → exec (.startRelease t l []) s = .next ((s.stamp t).denied l 0x18 [] .wrongState)) ∧
    (s.heldOrRunning = false → exec (.startRelease t l []) s = .next ((s.stamp t).denied l 0x18 [] .notReady)) ∧
    (∀ p : List Byte, p ≠ [] → exec (.startRelease t l p) s = .next ((s.stamp t).denied l 0x18 p .badLength)))

/-- R22: a key's evaluation reading gives it its first state: FAULTY by its span, FAULTY by an implausible reading, RETURN
where it stands at the onset level or deeper, REST otherwise; it appends no record and starts no crossing, a key in RETURN
is told to the rail as not at rest, and the last key's evaluation reports the keys that the evaluations made FAULTY. R86:
the start-up decision finds the rail by its two switches, with quiet no: PARKED at count 0, ENGAGED at C_eng, HOMING, or
FAULT with cause SWITCHES; the vote set then moves a parked or engaged rail to its pending state. The motor stays off. The
decision comes as a command (log entry 2). -/
def Obligations.StartUpDecision : Prop :=
  (∀ (t : Time) (k : KeyIx) (r : Depth) (s : State),
    s.startUp.phase = .checking → (s.key k).evaluated = false → (s.key k).state = .rest → s.rail.quiet.quiet = false →
    s.test = none →
    let c := s.keyCal k
    let x := c.clamped r.val
    let found : KeyState × Nat :=
      if c.span < 200 then (.faulty .span, 0)
      else if (r.val : Int) < c.r - 64 ∨ (c.b : Int) + 64 < r.val then (.faulty .readings, 16)
      else if c.level s.cal.touch.fOn ≤ x then (.returning, 0) else (.rest, 0)
    let last : Bool := decide (∀ j : KeyIx, j ≠ k → (s.key j).evaluated = true)
    ∃ s' : State, exec (.keyDepthReading t k r) s = .next s' ∧
      s'.key k = { s.key k with state := found.1, last := some (x, t), implausible := found.2, evaluated := true } ∧
      (∀ j : KeyIx, j ≠ k → s'.key j = s.key j) ∧
      s'.startUp.foundFaulty =
        (if found.1 = .faulty .span ∨ found.1 = .faulty .readings then KeySet.add s.startUp.foundFaulty k
          else s.startUp.foundFaulty) ∧
      s'.startUp.faultyKeys = (if last then some s'.startUp.foundFaulty else s.startUp.faultyKeys) ∧
      s'.startUp.phase =
        (if last = true ∧ s.allPedalsEvaluated = true ∧ s.rail.decided = true then .samples else .checking) ∧
      s'.rail = { s.rail with quiet := if found.1 = .returning then
        { notAtRest := s.rail.quiet.notAtRest + 1, start := none, quiet := false } else s.rail.quiet } ∧
      s' = { s with
        now := t, keys := s'.keys, startUp := s'.startUp, rail := s'.rail, led := s'.led, ledSince := s'.ledSince }) ∧
  (∀ (t : Time) (s : State), s.startUp.phase = .checking → s.rail.decided = false →
    5000 ≤ (t - s.startUp.phaseSince).toNat → s.rail.quiet.quiet = false → s.rail.drive = none →
    s.journal.length ≤ 510 →
    ∃ s' : State, exec (.startUpDecision t) s = .next s' ∧ s'.rail.decided = true ∧ s'.rail.drive = none ∧
      s'.startUp.railOutcome = some
        (match s.rail.park, s.rail.stop with
          | true, false => (.parked, .none)
          | false, true => (.engaged, .none)
          | false, false => (.homing, .none)
          | true, true => (.fault, .switches)) ∧
      s'.rail.state =
        (match s.rail.park, s.rail.stop with
          | true, false => if s.rail.votes.any then .pendingIn t false else .parked
          | false, true => if s.rail.votes.any then .engaged else .pendingOut t false
          | false, false => .homing
          | true, true => .fault .switches) ∧
      s'.rail.count = (if s.rail.stop && !s.rail.park then (s.cal.cEng : Int) else 0) ∧
      (s'.startUp.phase = .samples ↔ s.allKeysEvaluated = true ∧ s.allPedalsEvaluated = true) ∧
      (∀ l : Link, (s'.link l).latched = (s.link l).latched ||| Condition.mask .rail))

/-! ### Key sensing -/

/-- R3, R205: a depth reading of a key reaches no other key's tracker or calibration, and none of the state outside the
blocks that its handling tells: in LOADING it is discarded. -/
def Obligations.KeyReadingReachesItsKey : Prop :=
  ∀ (t : Time) (k : KeyIx) (r : Depth) (s : State), ∃ s' : State, exec (.keyDepthReading t k r) s = .next s' ∧
    (s.startUp.phase = .loading → s' = { s with now := t }) ∧
    (∀ j : KeyIx, j ≠ k → s'.key j = s.key j ∧ s'.keyCal j = s.keyCal j ∧ s'.cal.origins[j] = s.cal.origins[j]) ∧
    s' = { s with
      now := t, keys := s'.keys, saved := s'.saved, commit := s'.commit, startUp := s'.startUp, test := s'.test
      cal := { s.cal with keys := s'.cal.keys, origins := s'.cal.origins }
      runs := s'.runs, lastResult := s'.lastResult, play := s'.play, playCapture := s'.playCapture, rail := s'.rail
      voices := s'.voices, transport := s'.transport, journal := s'.journal, links := s'.links, led := s'.led
      ledSince := s'.ledSince }

/-- R11: in RUNNING, a reading that takes a key in REST down past the onset level, and not past the strike level, begins a
stroke: ONSET with stroke FRESH, timed at the crossing; the rail is told that the key has left rest. -/
def Obligations.OnsetBeginsStroke : Prop :=
  ∀ (t t0 : Time) (k : KeyIx) (r : Depth) (v : Nat) (s : State),
    let c := s.keyCal k
    let on := c.level s.cal.touch.fOn
    let x := c.clamped r.val
    s.running = true → (s.key k).state = .rest → (s.key k).last = some (v, t0) → (t - t0).toNat < 2147483648 →
    c.plausible r.val = true → c.r ≤ c.b → (v : Int) < on → on ≤ x → (x : Int) < c.level s.cal.touch.fSt →
    ∃ s' : State, exec (.keyDepthReading t k r) s = .next s' ∧
      s'.key k = { s.key k with
        state := .onset .fresh (t0 + BitVec.ofInt 32 (Int.fdiv (((t - t0).toNat : Int) * (on - v)) (x - v)))
        last := some (x, t), implausible := 0 } ∧
      s'.rail.quiet = { notAtRest := s.rail.quiet.notAtRest + 1, start := none, quiet := false } ∧
      s'.voices = s.voices ∧ s'.transport = s.transport ∧ s'.cal = s.cal

/-- R12, R15, R17: a reading that takes a key down past the strike level from ONSET or RESTRIKE brings it to DOWN, appends
KEY_ON with the touch unit's level, the repeat flag and whether a voice was given, timed at the crossing, and starts the
voice that the voice engine chooses where the live route is open and a window matches. The transport is told last: `s1` is
the state before it, and in COUNT_IN, RECORDING and WAITING it records the note or matches the guide wait. -/
def Obligations.StrikeSoundsKeyOn : Prop :=
  ∀ (t t0 ta : Time) (k : KeyIx) (r : Depth) (v : Nat) (stroke : Stroke) (rep : Bool) (s : State),
    let c := s.keyCal k
    let at' := c.level s.cal.touch.fSt
    let x := c.clamped r.val
    let tc := t0 + BitVec.ofInt 32 (Int.fdiv (((t - t0).toNat : Int) * (at' - v)) (x - v))
    let level := strikeLevel s.cal k stroke ta tc (s.liveChannel unaCordaIx).switch
    let voiced := s.liveRoute && (findWindow s.windows k level).isSome
    let note := (s.stamp t).noteOn .live k level
    s.running = true →
    ((s.key k).state = .onset stroke ta ∧ rep = false ∨
      stroke = .short ∧ rep = true ∧ ∃ tu : Time, (s.key k).state = .restrike ta tu) →
    (s.key k).last = some (v, t0) → (t - t0).toNat < 2147483648 → c.plausible r.val = true → c.r ≤ c.b →
    (v : Int) < at' → at' ≤ x → s.test = none →
    ∃ s1 s' : State, exec (.keyDepthReading t k r) s = .next s' ∧
      s' = { s1.transportKeyOn k level with keys := s'.keys } ∧
      s'.key k = { s.key k with state := .down, last := some (x, t), implausible := 0 } ∧
      (∀ j : KeyIx, j ≠ k → s'.key j = s.key j) ∧
      1 ≤ level ∧ level ≤ 127 ∧
      s1.journal = (if s.journal.length < 512 then s.journal else s.journal.tail) ++
        [{ body := .keyOn k level rep voiced, time := tc }] ∧
      s1.voices = (if s.liveRoute then note.1.voices else s.voices) ∧
      (∀ (w : Nat) (win : Window), s.liveRoute = true → findWindow s.windows k level = some (w, win) →
        ∃ i : VoiceIx, note.2 = some i ∧ s1.voice i = some
          { state := .sounding, source := .live, key := k, level := level, release := 64, held := true, window := w,
            position := 0, env := 32767, start := t, cost := win.cost }) ∧
      s1 = { s with now := t, keys := s1.keys, voices := s1.voices, journal := s1.journal, links := s1.links } ∧
      (s.transport.state ≠ .countIn → s.transport.state ≠ .recording → s.transport.state ≠ .waiting →
        s1.transportKeyOn k level = s1)

/-- R14, R18: a reading that takes a REARMED key up past the release level, and not past the onset level, brings it to
RETURN and appends KEY_OFF with the release level and the cause PLAYED, timed at the crossing; no voice of the key stays
held. R20: the sixteenth implausible reading in a row makes a key FAULTY: a note that is on is ended by KEY_OFF at level 1
with cause FAULT, then KEY_FAULT is appended and raised on both links. `s1` is the state before the transport is told of the
KEY_OFF, which it records in RECORDING. R21: a FAULTY key recovers at its 256th good reading in a row, judged against a
calibration of usable span; any other reading begins its run anew (the runs of a key that recovers into LEARN are 0). A
reading of a FAULTY key is stored clamped to the calibration that judges it, and to the active one where none does (log
entry 24; where its B lies below its R, the clamp tests R first, log entry 18). -/
def Obligations.NotesEnd : Prop :=
  (∀ (t t0 tu : Time) (k : KeyIx) (r : Depth) (v : Nat) (s : State),
     let c := s.keyCal k
     let at' := c.upPoint s.cal.touch s.cal.touch.fRel
     let x := c.clamped r.val
     let tc := t0 + BitVec.ofInt 32 (Int.fdiv (((t - t0).toNat : Int) * (v - at')) (v - x))
     let level := releaseLevel s.cal k tu tc
     s.running = true → (s.key k).state = .rearmed tu → (s.key k).last = some (v, t0) →
     (t - t0).toNat < 2147483648 → c.plausible r.val = true → c.r ≤ c.b → (x : Int) < at' → at' ≤ v →
     c.upPoint s.cal.touch s.cal.touch.fOn ≤ x → s.test = none →
     ∃ s1 s' : State, exec (.keyDepthReading t k r) s = .next s' ∧
       s' = { s1.transportKeyOff k level with keys := s'.keys } ∧
       s'.key k = { s.key k with state := .returning, last := some (x, t), implausible := 0 } ∧
       (∀ j : KeyIx, j ≠ k → s'.key j = s.key j) ∧
       1 ≤ level ∧ level ≤ 127 ∧
       s1.journal = (if s.journal.length < 512 then s.journal else s.journal.tail) ++
         [{ body := .keyOff k level .played, time := tc }] ∧
       (∀ (i : VoiceIx) (w : Voice), s1.voice i = some w → w.source = .live → w.key = k → w.held = false) ∧
       (∀ (i : VoiceIx) (w : Voice), s.voice i = some w → s1.voice i = some (if w.reachedBy .live k then
         { w with
           held := false, release := level
           state := if 100 ≤ (s.liveChannel damperIx).level ∨ KeySet.has s.liveCapture k = true then w.state
             else .releasing }
         else w)) ∧
       s1 = { s with now := t, keys := s1.keys, voices := s1.voices, journal := s1.journal, links := s1.links } ∧
       (s.transport.state ≠ .recording → s1.transportKeyOff k level = s1)) ∧
  (∀ (t : Time) (k : KeyIx) (r : Depth) (s : State),
     s.running = true → (s.key k).implausible = 15 → (s.keyCal k).plausible r.val = false →
     (∀ m, (s.key k).state ≠ .learn m) → (∀ c, (s.key k).state ≠ .faulty c) → s.test = none →
     ∃ s1 s' : State, exec (.keyDepthReading t k r) s = .next s' ∧
       s' = { (if (s.key k).state.noteOn then s1.transportKeyOff k 1 else s1).report (.keyFault k false .readings)
         .keyFault with keys := s'.keys, rail := s'.rail } ∧
       s'.key k = { s.key k with
         state := .faulty .readings, last := some ((s.keyCal k).clamped r.val, t), implausible := 16, recovery := 0 } ∧
       (∀ j : KeyIx, j ≠ k → s'.key j = s.key j) ∧
       ((s.key k).state.noteOn = false → s1 = { s with now := t, keys := s1.keys }) ∧
       ((s.key k).state.noteOn = true →
         s1.journal = (if s.journal.length < 512 then s.journal else s.journal.tail) ++
           [{ body := .keyOff k 1 .fault, time := t }] ∧
         (∀ (i : VoiceIx) (w : Voice), s1.voice i = some w → w.source = .live → w.key = k → w.held = false) ∧
         s1 = { s with now := t, keys := s1.keys, voices := s1.voices, journal := s1.journal, links := s1.links }) ∧
       (s.transport.state ≠ .recording → s.journal.length ≤ 510 →
         s'.journal = s.journal ++
           (if (s.key k).state.noteOn then [{ body := .keyOff k 1 .fault, time := t }] else []) ++
           [{ body := .keyFault k false .readings, time := t }] ∧
         (∀ l : Link, (s'.link l).latched = (s.link l).latched ||| Condition.mask .keyFault) ∧
         s'.transport = s.transport) ∧
       ((s.key k).state ≠ .rest → s'.rail.quiet.notAtRest = s.rail.quiet.notAtRest - 1) ∧
       ((s.key k).state = .rest → s'.rail = s.rail)) ∧
  (∀ (t : Time) (k : KeyIx) (r : Depth) (cause : FaultCause) (s : State),
     let x := s.key k
     let c := s.keyCal k
     let usable (u : KeyCal) : Prop := 200 ≤ c.span ∧ u = c ∨ c.span < 200 ∧ x.pendingCal = some u
     let good (u : KeyCal) : Prop := u.plausible r.val = true ∧ (u.clamped r.val : Int) < u.level s.cal.touch.fOn
     s.running = true → x.state = .faulty cause → s.test = none →
     (c.span < 200 → x.pendingCal = none → exec (.keyDepthReading t k r) s = .next { s with
       now := t, keys := tablePut s.keys k { x with last := some (c.clamped r.val, t), recovery := 0 } }) ∧
     (∀ u : KeyCal, usable u →
       (¬good u → exec (.keyDepthReading t k r) s = .next { s with
         now := t, keys := tablePut s.keys k { x with last := some (u.clamped r.val, t), recovery := 0 } }) ∧
       (good u → x.recovery < 255 → exec (.keyDepthReading t k r) s = .next { s with
         now := t
         keys := tablePut s.keys k { x with last := some (u.clamped r.val, t), recovery := x.recovery + 1 } }) ∧
       (good u → 255 ≤ x.recovery → ∃ s' : State, exec (.keyDepthReading t k r) s = .next s' ∧
         s'.key k = { x with
           state := if x.learnWaiting then .learn none else .rest
           last := none, implausible := 0, recovery := 0, pendingCal := none, learnWaiting := false } ∧
         (∀ j : KeyIx, j ≠ k → s'.key j = s.key j) ∧
         s'.keyCal k = x.pendingCal.getD c ∧ (x.pendingCal = none → s'.cal = s.cal ∧ s'.saved = s.saved) ∧
         (x.pendingCal.isSome = true → s'.cal.origins[k] = .written ∧ s'.saved = false) ∧
         (x.learnWaiting = true → s'.rail.quiet =
           { notAtRest := s.rail.quiet.notAtRest + 1, start := none, quiet := false }) ∧
         (x.learnWaiting = false → s'.rail = s.rail ∧
           s'.journal = (if s.journal.length < 512 then s.journal else s.journal.tail) ++
             [{ body := .keyFault k true cause, time := t }]) ∧
         (∀ l : Link, (s'.link l).latched.getLsbD 9 = true) ∧
         s'.voices = s.voices ∧ s'.transport = s.transport)))

/-- R24: WRITE_KEY_CAL, its checks in order, its clamps, and its two dispositions. That a pending write too sets UNSAVED is
deduced (log entry 17). -/
def Obligations.KeyCalibrationWrite : Prop :=
  ∀ (t : Time) (l : Link) (p : List Byte) (s : State), s.receiving l = true → p.length ≤ 60 →
    let checks (bad : Bool) : List (Bool × Status) :=
      [(!s.heldOrRunning, .notReady), (s.seat != some l, .noSeat), (p.length != 8, .badLength), (bad, .badValue),
        (s.commit.isSome, .busy)]
    (87 < byteAt p 0 → exec (.writeKeyCal t l p) s = .next ((s.stamp t).outcome l 0x50 p (checks true) (s.stamp t) [])) ∧
    (∀ k : KeyIx, byteAt p 0 = k.val →
      let c : KeyCal :=
        { r := clampNat 0 400 (be2At p 1), b := clampNat 600 1023 (be2At p 3), d := clampNat 8000 12000 (be2At p 5),
          g := clampNat 32 96 (byteAt p 7) }
      let x := s.key k
      let echo (disposition : Nat) : List Byte :=
        u2 c.r ++ u2 c.b ++ u2 c.d ++ u1 c.g ++ u1 disposition ++ yesNo x.pendingCal.isSome
      200 ≤ c.span ∧
      (x.state = .rest → exec (.writeKeyCal t l p) s = .next ((s.stamp t).outcome l 0x50 p (checks false)
        { s with
          now := t, saved := false
          cal := { s.cal with keys := tablePut s.cal.keys k c, origins := tablePut s.cal.origins k .written }
          keys := tablePut s.keys k { x with last := x.last.map (fun y => (c.clamped y.1, y.2)) } }
        (echo 0))) ∧
      (x.state ≠ .rest → exec (.writeKeyCal t l p) s = .next ((s.stamp t).outcome l 0x50 p (checks false)
        { s with now := t, saved := false, keys := tablePut s.keys k { x with pendingCal := some c } } (echo 1))))

/-- R26, R28: LEARN_BEGIN takes every key of its range in REST into LEARN and marks the others as waiting, and withholds
quiet; LEARN_END takes the depths of every key in LEARN that spread 200 or more, returns those keys to REST with no last
reading, and appends the CAL record. A key enters LEARN with both runs 0 (log entry 37). Each checks in order, LEARN_END
with BUSY before WRONG_STATE (log entry 8). -/
def Obligations.LearnBeginsAndEnds : Prop :=
  ∀ (t : Time) (l : Link) (s : State), s.receiving l = true →
    (s.heldOrRunning = true → s.seat = some l → s.commit = none →
      (∀ lo hi : KeyIx, lo.val ≤ hi.val → s.learn = none → ∃ s' : State,
        exec (.learnBegin t l [byteOf lo.val, byteOf hi.val]) s =
          .next (s'.replied l 0x57 [byteOf lo.val, byteOf hi.val]
            (u1 (s.restIn lo.val hi.val) ++ u1 (hi.val + 1 - lo.val - s.restIn lo.val hi.val))) ∧
        s'.learn = some { lo := lo.val, hi := hi.val, link := l } ∧
        (∀ k : KeyIx, s'.key k =
          if k.val < lo.val ∨ hi.val < k.val then s.key k
          else if (s.key k).state = .rest then { s.key k with state := .learn none, implausible := 0, recovery := 0 }
          else { s.key k with learnWaiting := true }) ∧
        s'.rail.quiet =
          { notAtRest := s.rail.quiet.notAtRest + s.restIn lo.val hi.val, start := none, quiet := false } ∧
        s' = { s with
          now := t, keys := s'.keys, learn := s'.learn, rail := s'.rail, journal := s'.journal, links := s'.links
          led := s'.led, ledSince := s'.ledSince }) ∧
      (∀ x : Learn, s.learn = some x → ∃ s' : State,
        exec (.learnEnd t l []) s =
          .next (s'.replied l 0x58 [] (u1 s.learnAcceptedCount ++ u1 s.learnRejectedCount)) ∧
        s'.learn = none ∧
        (∀ (k : KeyIx) (m : Option (Nat × Nat)), (s.key k).state = .learn m → (s.key k).pendingCal = none →
          s'.key k = { s.key k with state := .rest, last := none, learnWaiting := false } ∧
          (∀ lo hi : Nat, m = some (lo, hi) → lo + 200 ≤ hi →
            s'.keyCal k = { s.keyCal k with r := lo, b := hi } ∧ s'.cal.origins[k] = .learned) ∧
          (learnAccepted m = false → s'.keyCal k = s.keyCal k ∧ s'.cal.origins[k] = s.cal.origins[k])) ∧
        (∀ (k : KeyIx) (m : Option (Nat × Nat)) (c : KeyCal), (s.key k).state = .learn m →
          (s.key k).pendingCal = some c → s'.keyCal k = c ∧ (s'.key k).state = .rest ∧ (s'.key k).pendingCal = none) ∧
        (∀ k : KeyIx, (∀ m, (s.key k).state ≠ .learn m) →
          s'.key k = { s.key k with learnWaiting := false } ∧ s'.keyCal k = s.keyCal k) ∧
        s'.journal.getLast? =
          some { body := .calLearnDone s.learnAcceptedCount s.learnRejectedCount, time := t } ∧
        (∀ j : Link, (s'.link j).latched = (s.link j).latched ||| Condition.mask .cal ∨ 512 ≤ s.journal.length)) ∧
      (s.learn = none → exec (.learnEnd t l []) s = .next ((s.stamp t).denied l 0x58 [] .wrongState))) ∧
    (∀ p : List Byte, p.length ≤ 60 → ∃ (s' : State) (payload : List Byte),
      exec (.learnBegin t l p) s = .next ((s.stamp t).outcome l 0x57 p
        [(!s.heldOrRunning, .notReady), (s.seat != some l, .noSeat), (p.length != 2, .badLength),
          (decide (87 < byteAt p 1) || decide (byteAt p 1 < byteAt p 0), .badValue),
          (s.learn.isSome || s.commit.isSome, .busy)] s' payload)) ∧
    (∀ p : List Byte, p.length ≤ 60 → ∃ (s' : State) (payload : List Byte),
      exec (.learnEnd t l p) s = .next ((s.stamp t).outcome l 0x58 p
        [(!s.heldOrRunning, .notReady), (s.seat != some l, .noSeat), (p.length != 0, .badLength),
          (s.commit.isSome, .busy), (s.learn.isNone, .wrongState)] s' payload))

/-! ### Touch arithmetic -/

/-- R8, the time of a crossing. -/
def Obligations.CrossingTimes : Prop :=
  ∀ (t t0 : Time) (x v level : Int),
    let now : Reading := { time := t, value := x, last := some (v, t0) }
    let first : Reading := { time := t, value := x, last := none }
    let delta : Int := (t - t0).toNat
    (v < level → level ≤ x →
      now.crossDown level = some (t0 + BitVec.ofInt 32 (Int.fdiv (delta * (level - v)) (x - v))) ∧
      0 < x - v ∧ 0 ≤ Int.fdiv (delta * (level - v)) (x - v) ∧ Int.fdiv (delta * (level - v)) (x - v) ≤ delta) ∧
    (x < level → level ≤ v →
      now.crossUp level = some (t0 + BitVec.ofInt 32 (Int.fdiv (delta * (v - level)) (v - x))) ∧
      0 < v - x ∧ 0 ≤ Int.fdiv (delta * (v - level)) (v - x) ∧ Int.fdiv (delta * (v - level)) (v - x) ≤ delta) ∧
    (level ≤ x → first.crossDown level = some t) ∧ first.crossUp level = none ∧
    (∀ (tr : Tracker) (c : KeyCal) (raw : Nat), (Reading.of tr c t raw).value = c.clamped raw) ∧
    elapsed t0 t = (t - t0).toNat

/-- R32, the spans, their bounds under the conditions of WRITE_TOUCH, and their values by default; R33 and R34, the travel
time and the speed; R38, the release level. A strike's level is the curve level trimmed, reduced under una corda, and
clamped (R37). -/
def Obligations.TouchLevels : Prop :=
  (∀ (w : WorkingCopy) (k : KeyIx) (ta tb : Time) (on : Bool),
     let d : Int := w.keys[k].d
     let whole := Int.fdiv (d * ((w.touch.fSt : Int) - w.touch.fOn)) 256
     let short := Int.fdiv (d * ((w.touch.fSt : Int) - w.touch.fRa)) 256
     let release := Int.fdiv (d * ((w.touch.fRa : Int) - w.touch.fRel)) 256
     let trimmed (span : Int) : Int :=
       Int.fdiv (curveLevel w.curve (speedOf span (travelTime ta tb)) * w.keys[k].g + 32) 64
     let level (span : Int) : Nat :=
       (max 1 (min 127 (if on then Int.fdiv (trimmed span * 7 + 4) 8 else trimmed span))).toNat
     strikeLevel w k .fresh ta tb on = level whole ∧ strikeLevel w k .short ta tb on = level short ∧
     releaseLevel w k ta tb = (clamp 1 127 (Int.fdiv (speedOf release (travelTime ta tb) + 8) 16)).toNat ∧
     (fractionsValid w.touch.fOn w.touch.fRel w.touch.fRa w.touch.fSt = true → 8000 ≤ d → d ≤ 12000 →
       1500 ≤ whole ∧ whole ≤ 10500 ∧ 500 ≤ short ∧ short ≤ 9000 ∧ 500 ≤ release ∧ release ≤ 9000) ∧
     (w.touch = defaultTouch → d = 10000 → whole = 6523 ∧ short = 3007 ∧ release = 1992) ∧
     (d = 0 → curveValid w.curve = true →
       whole = 0 ∧ short = 0 ∧ speedOf whole (travelTime ta tb) = 0 ∧ speedOf short (travelTime ta tb) = 0 ∧
       curveLevel w.curve 0 = (w.curve[(0 : Fin 8)].l : Int) ∧
       ∀ v : Int, 0 ≤ v → (w.curve[(0 : Fin 8)].l : Int) ≤ curveLevel w.curve v)) ∧
  (∀ (ta tb : Time) (span : Int),
     let diff := (tb - ta).toNat
     let time := travelTime ta tb
     time = (let raw := if 2147483648 ≤ diff then 250000 else diff
             if raw < 250 then 250 else if 250000 < raw then 250000 else raw) ∧
     250 ≤ time ∧ time ≤ 250000 ∧ (diff = 0 → time = 250) ∧ (250000 < diff → time = 250000) ∧
     (∀ u : Time, travelTime (ta + u) (tb + u) = time) ∧
     (∀ (w : WorkingCopy) (k : KeyIx) (stroke : Stroke) (on : Bool),
       let from' := match stroke with | .fresh => w.touch.fOn | .short => w.touch.fRa
       let trimmed := Int.fdiv (curveLevel w.curve
         (speedOf (Int.fdiv ((w.keys[k].d : Int) * ((w.touch.fSt : Int) - from')) 256) time) * w.keys[k].g + 32) 64
       strikeLevel w k stroke ta tb on =
         (max 1 (min 127 (if on then Int.fdiv (trimmed * 7 + 4) 8 else trimmed))).toNat) ∧
     speedOf span time = max 0 (min 4000 (Int.fdiv (span * 1000) time)) ∧
     (0 ≤ span → Int.fdiv (span * 1000) time ≤ 4 * span) ∧ Int.fdiv (10500 * 1000) 250 = 42000 ∧
     (1500 ≤ span → diff ≤ 250 → speedOf span time = 4000) ∧
     (∀ cv : Vector Breakpoint 8, curveValid cv = true →
       (cv[(7 : Fin 8)].v : Int) ≤ 4000 ∧ curveLevel cv 4000 = (cv[(7 : Fin 8)].l : Int))) ∧
  (∀ (w : WorkingCopy) (k : KeyIx) (tUp tOff : Time),
     let diff := (tOff - tUp).toNat
     let time : Nat := max 250 (min 250000 (if 2147483648 ≤ diff then 250000 else diff))
     let span := Int.fdiv ((w.keys[k].d : Int) * ((w.touch.fRa : Int) - w.touch.fRel)) 256
     let v := max 0 (min 4000 (Int.fdiv (span * 1000) time))
     (releaseLevel w k tUp tOff : Int) = max 1 (min 127 (Int.fdiv (v + 8) 16)) ∧
     (2024 ≤ v → releaseLevel w k tUp tOff = 127) ∧ (v ≤ 7 → Int.fdiv (v + 8) 16 = 0 ∧ releaseLevel w k tUp tOff = 1) ∧
     -8 ≤ v - 16 * Int.fdiv (v + 8) 16 ∧ v - 16 * Int.fdiv (v + 8) 16 < 8 ∧
     (tUp = tOff → time = 250) ∧
     (tUp = tOff → w.keys[k] = defaultKeyCal → w.touch = defaultTouch →
       span = 1992 ∧ Int.fdiv (span * 1000) time = 7968 ∧ v = 4000 ∧ releaseLevel w k tUp tOff = 127))

/-- R36, the curve level: its formula, its bounds, the breakpoints exact, rounding to nearest with halves up, and no faster
stroke with a lower level. -/
def Obligations.CurveLevels : Prop :=
  ∀ cv : Vector Breakpoint 8, curveValid cv = true → ∀ v : Int, 0 ≤ v →
    ((cv[(7 : Fin 8)].v : Int) ≤ v → curveLevel cv v = cv[(7 : Fin 8)].l) ∧
    (v < (cv[(7 : Fin 8)].v : Int) →
      ∃! i : Fin 7, (cv[i.castSucc].v : Int) ≤ v ∧ v < (cv[i.succ].v : Int)) ∧
    (∀ i : Fin 7, (cv[i.castSucc].v : Int) ≤ v → v < (cv[i.succ].v : Int) →
      let w : Int := (cv[i.succ].v : Int) - cv[i.castSucc].v
      let rise : Int := (cv[i.succ].l : Int) - cv[i.castSucc].l
      let numer : Int := (v - cv[i.castSucc].v) * rise
      curveLevel cv v = cv[i.castSucc].l + Int.fdiv (numer + Int.fdiv w 2) w ∧
      (cv[i.castSucc].l : Int) ≤ curveLevel cv v ∧ curveLevel cv v ≤ cv[i.succ].l ∧
      -w ≤ 2 * (numer - w * (curveLevel cv v - cv[i.castSucc].l)) ∧
      2 * (numer - w * (curveLevel cv v - cv[i.castSucc].l)) < w) ∧
    (∀ i : Fin 8, curveLevel cv cv[i].v = cv[i].l) ∧
    1 ≤ curveLevel cv v ∧ curveLevel cv v ≤ 127 ∧
    (∀ u : Int, v ≤ u → curveLevel cv v ≤ curveLevel cv u)

/-- R41, SELECT_CURVE. -/
def Obligations.SelectCurve : Prop :=
  ∀ (t : Time) (l : Link) (p : List Byte) (s : State), s.receiving l = true → p.length ≤ 60 →
    (let n := byteAt p 0
     exec (.selectCurve t l p) s = .next ((s.stamp t).outcome l 0x54 p
      [(!s.heldOrRunning, .notReady), (s.seat != some l, .noSeat), (p.length != 1, .badLength),
        (decide (3 < n), .badValue), (s.commit.isSome, .busy)]
      (if n = s.cal.activeCurve then { s with now := t }
        else { s with now := t, saved := false, cal := { s.cal with activeCurve := n } })
      [byteOf n])) ∧
    (∀ (w : WorkingCopy) (n : Nat) (k : KeyIx) (tUp tOff : Time),
      releaseLevel { w with activeCurve := n } k tUp tOff = releaseLevel w k tUp tOff) ∧
    (∀ (w : WorkingCopy) (n : Fin 4), WorkingCopy.curve { w with activeCurve := n.val } = w.curves[n])

/-- R40, R42, R59, R87: the four other calibration writes, their checks in order and their clamps. Each changes the working
copy alone, but that a quiet timer that runs is judged against the new Q of a write of touch settings, as its own event is
(R63). -/
def Obligations.CalibrationWrites : Prop :=
  ∀ (t : Time) (l : Link) (p : List Byte) (s : State), s.receiving l = true → p.length ≤ 60 →
    let seated : List (Bool × Status) := [(!s.heldOrRunning, .notReady), (s.seat != some l, .noSeat)]
    let busy : Bool × Status := (s.commit.isSome, .busy)
    let rest := min 1023 (be2At p 1)
    let full := min 1023 (be2At p 3)
    let cv : Vector Breakpoint 8 := tableOf (fun j => { v := be2At p (1 + 3 * j.val), l := byteAt p (3 + 3 * j.val) })
    let x : Touch :=
      { fOn := byteAt p 0, fRel := byteAt p 1, fRa := byteAt p 2, fSt := byteAt p 3,
        hyst := max 2 (min 32 (byteAt p 4)), quietMs := max 40 (min 500 (be2At p 5)) }
    let touched : State := { s with now := t, saved := false, cal := { s.cal with touch := x } }
    (2 < byteAt p 0 → exec (.writePedalCal t l p) s = .next ((s.stamp t).outcome l 0x51 p
      (seated ++ [(p.length != 5, .badLength), (true, .badValue)]) (s.stamp t) [])) ∧
    (∀ i : PedalIx, byteAt p 0 = i.val →
      exec (.writePedalCal t l p) s = .next ((s.stamp t).outcome l 0x51 p
        (seated ++ [(p.length != 5, .badLength), (decide (full < rest + 200), .badValue), busy])
        { s with now := t, saved := false,
                 cal := { s.cal with pedals := tablePut s.cal.pedals i { rest := rest, full := full } } }
        (u1 i.val ++ u2 rest ++ u2 full))) ∧
    (∃ e : State, exec (.quietEvent t) touched = .next e ∧
      exec (.writeTouch t l p) s = .next ((s.stamp t).outcome l 0x52 p
        (seated ++ [(p.length != 7, .badLength),
          (!(decide (16 ≤ x.fOn ∧ x.fOn + 16 ≤ x.fRel ∧ x.fRel + 16 ≤ x.fRa ∧ x.fRa + 16 ≤ x.fSt ∧ x.fSt ≤ 240)),
            .badValue), busy]) e
        (u1 x.fOn ++ u1 x.fRel ++ u1 x.fRa ++ u1 x.fSt ++ u1 x.hyst ++ u2 x.quietMs)) ∧
      ((∀ q : Time, s.rail.quiet.start = some q → (t - q).toNat < 1000 * x.quietMs) → e = touched) ∧
      (∀ q : Time, s.rail.quiet.start = some q → 1000 * x.quietMs ≤ (t - q).toNat →
        e.rail.quiet = { s.rail.quiet with start := none, quiet := true })) ∧
    (3 < byteAt p 0 → exec (.writeCurve t l p) s = .next ((s.stamp t).outcome l 0x53 p
      (seated ++ [(p.length != 25, .badLength), (true, .badValue)]) (s.stamp t) [])) ∧
    (∀ i : Fin 4, byteAt p 0 = i.val →
      exec (.writeCurve t l p) s = .next ((s.stamp t).outcome l 0x53 p
        (seated ++ [(p.length != 25, .badLength), (!curveValid cv, .badValue), busy])
        { s with now := t, saved := false, cal := { s.cal with curves := tablePut s.cal.curves i cv } }
        (u1 i.val ++ yesNo (decide (i.val = s.cal.activeCurve))))) ∧
    (let n := max 400 (min 4000 (be2At p 0))
     exec (.writeRailCal t l p) s = .next ((s.stamp t).outcome l 0x55 p
        (seated ++ [(p.length != 2, .badLength), busy])
        { s with now := t, saved := false, cal := { s.cal with cEng := n } } (u2 n)))

/-! ### Pedals -/

/-- R48 to R52, R56, R57: a reading of a connected LIVE channel gives the level and judges the switch, publishes by the rule
of R50, and takes or lets go the capture set with the sostenuto switch; a run of readings of 1023 lasting 500 ms disconnects
the channel; a disconnected channel discards a reading of 1000 or more and is connected again by a lower one. R101 to R103:
a damper that passes 100 upward brings every RELEASING voice of the group back to SOUNDING; one that passes it downward, and
a capture set let go with the damper below 100, release the voices whose key is up and that nothing else holds. A
publication reaches the transport after the journal: `s1` is the state before it, and in COUNT_IN and RECORDING the
transport records it. R47: in CHECKING a channel's first reading evaluates it, and the last channel's reports the
DISCONNECTED ones; in LOADING a reading is discarded. -/
def Obligations.PedalReadings : Prop :=
  ∀ (t : Time) (i : PedalIx) (r : Depth) (s : State),
    let x := s.liveChannel i
    let cal := s.cal.pedals[i]
    let level : Nat := (max 0 (min 127
      (Int.fdiv (((r.val : Int) - cal.rest) * 127) ((cal.full : Int) - cal.rest)))).toNat
    let on := if x.switch then decide (48 ≤ level) else decide (64 ≤ level)
    let run : Option Time := if r.val = 1023 then some (x.atFull.getD t) else none
    let records : Prop := s.transport.state = .countIn ∨ s.transport.state = .recording
    let captures (s' : State) (after : Bool) : Prop :=
      s'.liveCapture =
        if i = sostenutoIx ∧ x.switch = false ∧ after = true then KeySet.ofPred (fun k => (s.key k).state.noteOn)
        else if i = sostenutoIx ∧ x.switch = true ∧ after = false then 0#88
        else s.liveCapture
    let moved (newLevel : Nat) (after : Bool) (v : Voice) : VoiceState :=
      if i = damperIx ∧ x.level < 100 ∧ 100 ≤ newLevel ∧ v.state = .releasing then .sounding
      else if i = damperIx ∧ 100 ≤ x.level ∧ newLevel < 100 ∧ v.state = .sounding ∧ v.held = false ∧
        KeySet.has s.liveCapture v.key = false then .releasing
      else if i = sostenutoIx ∧ x.switch = true ∧ after = false ∧ (s.liveChannel damperIx).level < 100 ∧
        v.state = .sounding ∧ v.held = false ∧ KeySet.has s.liveCapture v.key = true then .releasing
      else v.state
    let sounds (s' : State) (newLevel : Nat) (after : Bool) : Prop :=
      (∀ (j : VoiceIx) (v : Voice), s.voice j = some v → v.source = .live →
        s'.voice j = some { v with state := moved newLevel after v }) ∧
      (∀ (j : VoiceIx) (v : Voice), s.voice j = some v → v.source ≠ .live → ¬records → s'.voice j = some v) ∧
      (∀ j : VoiceIx, s.voice j = none → s'.voice j = none)
    let published (s' : State) : Prop := ∃ s1 : State,
      s1.journal = (if s.journal.length < 512 then s.journal else s.journal.tail) ++
        [{ body := .pedal .live i (s'.liveChannel i).level (s'.liveChannel i).switch (s'.liveChannel i).connected,
           time := t }] ∧
      s1 = { s with now := t, live := s1.live, journal := s1.journal, links := s1.links } ∧
      s' = { s1.transportPedal i (s'.liveChannel i).level with
        live := s'.live, liveCapture := s'.liveCapture, voices := s'.voices } ∧
      (¬records → s1.transportPedal i (s'.liveChannel i).level = s1)
    let frame (s' : State) : Prop :=
      (∀ j : PedalIx, j ≠ i → s'.liveChannel j = s.liveChannel j) ∧
      (¬records → s' = { s with
        now := t, live := s'.live, liveCapture := s'.liveCapture, voices := s'.voices, journal := s'.journal
        links := s'.links })
    let worth : Prop :=
      level ≠ x.published ∧ (x.published + 2 ≤ level ∨ level + 2 ≤ x.published ∨ level = 0 ∨ level = 127)
    (s.startUp.phase ≠ .loading → (s.startUp.phase = .checking → x.evaluated = true) →
      (x.connected = true → (∀ t0 : Time, run = some t0 → (t - t0).toNat < 500000) → ∃ s' : State,
        exec (.pedalDepthReading t i r) s = .next s' ∧ frame s' ∧ captures s' on ∧ sounds s' level on ∧
        (worth → s'.liveChannel i = { x with level := level, switch := on, atFull := run, published := level } ∧
          published s') ∧
        (¬worth → s'.liveChannel i = { x with level := level, switch := on, atFull := run } ∧
          s' = { s with now := t, live := s'.live, liveCapture := s'.liveCapture, voices := s'.voices })) ∧
      (∀ t0 : Time, x.connected = true → run = some t0 → 500000 ≤ (t - t0).toNat →
        ∃ s' : State, exec (.pedalDepthReading t i r) s = .next s' ∧ frame s' ∧ captures s' false ∧ sounds s' 0 false ∧
          published s' ∧
          s'.liveChannel i =
            { x with level := 0, switch := false, connected := false, atFull := none, published := 0 }) ∧
      (x.connected = false → 1000 ≤ r.val → exec (.pedalDepthReading t i r) s = .next { s with now := t }) ∧
      (x.connected = false → r.val < 1000 → ∃ s' : State, exec (.pedalDepthReading t i r) s = .next s' ∧ frame s' ∧
        captures s' on ∧ sounds s' level on ∧ published s' ∧
        s'.liveChannel i = { x with connected := true, level := level, switch := on, published := level })) ∧
    (s.startUp.phase = .loading → exec (.pedalDepthReading t i r) s = .next { s with now := t }) ∧
    (s.startUp.phase = .checking → x.evaluated = false →
      let found : Nat := if r.val = 1023 then 0 else level
      let last : Bool := decide (∀ j : PedalIx, j ≠ i → (s.liveChannel j).evaluated = true)
      let ends : Bool := last && s.allKeysEvaluated && s.rail.decided
      ∃ s' : State, exec (.pedalDepthReading t i r) s = .next s' ∧
        s'.liveChannel i =
          { level := found, published := found, switch := decide (64 ≤ found), connected := decide (r.val ≠ 1023),
            atFull := none, evaluated := true } ∧
        (∀ j : PedalIx, j ≠ i → s'.liveChannel j = s.liveChannel j) ∧
        s'.startUp = { s.startUp with
          disconnected := if last then some ((List.finRange 3).filter (fun j => !(s'.liveChannel j).connected))
            else s.startUp.disconnected
          phase := if ends then .samples else .checking
          phaseSince := if ends then t else s.startUp.phaseSince } ∧
        s' = { s with now := t, live := s'.live, startUp := s'.startUp, led := s'.led, ledSince := s'.ledSince })

/-! ### The raw and the debounced inputs -/

/-- R61, R67, R120, R189: a change of a raw input is held with its time and, but for the jacks, does nothing more; a raw
contact that opens in an enabled jack starts a fall to 0 over 4 steps at once. A change to the level an input has already
leaves it as it was (deduced, log entry 32). -/
def Obligations.RawInputsAreHeld : Prop :=
  ∀ (t : Time) (on : Bool) (s : State),
    let turned (i : RawInput) : RawInput := if i.on = on then i else { on := on, since := t }
    exec (.leverRawChange t on) s = .next { s with now := t, rail := { s.rail with leverRaw := turned s.rail.leverRaw } } ∧
    exec (.endSwitchRawChange t .park on) s =
      .next { s with now := t, rail := { s.rail with parkRaw := turned s.rail.parkRaw } } ∧
    exec (.endSwitchRawChange t .stop on) s =
      .next { s with now := t, rail := { s.rail with stopRaw := turned s.rail.stopRaw } } ∧
    (∀ l : Link, ∃ s' : State, exec (.presentRawChange t l on) s = .next s' ∧
      s' = { s with now := t, links := s'.links } ∧
      s'.link l = { s.link l with presentRaw := turned (s.link l).presentRaw } ∧
      s'.link (otherLink l) = s.link (otherLink l)) ∧
    (∀ (j : JackIx) (x : Contacts), OutputLaw s → ∃ s' : State, exec (.jackContactRawChange t j x on) s = .next s' ∧
      s' = { s with now := t, jacks := s'.jacks } ∧ (∀ k : JackIx, k ≠ j → s'.jack k = s.jack k) ∧
      (s'.jack j).tipRaw = (if x = .sleeve then (s.jack j).tipRaw else turned (s.jack j).tipRaw) ∧
      (s'.jack j).sleeveRaw = (if x = .tip then (s.jack j).sleeveRaw else turned (s.jack j).sleeveRaw) ∧
      ((s.jack j).enabled = true → on = false → (s'.jack j).enabled = false ∧ (s'.jack j).gain = (s.jack j).gain ∧
        (s'.jack j).ramp = some { first := (s.jack j).gain, last := 0, total := 4, done := 0 }) ∧
      ((s.jack j).enabled = (s'.jack j).enabled →
        (s'.jack j).gain = (s.jack j).gain ∧ (s'.jack j).ramp = (s.jack j).ramp))

/-- R61, R67, R72, R78, R119, R120, R125 to R129: a raw input that has held its new level long enough becomes the debounced
one, and its block acts; one that has not changes nothing (log entry 2). An end switch that becomes MADE completes the move
it ends; both MADE fault the rail; one that opens, one that ends no move, and one in FAULT or before the start-up decision
change the switch alone. A jack's contacts make its state: with both it is SEATED and the supply rises, with one it is
PARTIAL, and the last jack that leaves SEATED turns the supply OFF. -/
def Obligations.DebouncedInputsAct : Prop :=
  (∀ (t : Time) (s : State), (s.rail.leverRaw.on = s.rail.votes.lever ∨ (t - s.rail.leverRaw.since).toNat < 10000) →
    exec (.leverDebounced t) s = .next { s with now := t }) ∧
  (∀ (t : Time) (s : State), s.rail.leverRaw.on ≠ s.rail.votes.lever → 10000 ≤ (t - s.rail.leverRaw.since).toNat →
    ∃ s' : State, exec (.leverDebounced t) s = .next s' ∧
      s'.rail.votes = { s.rail.votes with lever := s.rail.leverRaw.on } ∧
      (s.rail.decided = true → VoteLaw s.rail → MotorLaw s.rail → VoteLaw s'.rail ∧ MotorLaw s'.rail) ∧
      s' = { s with
        now := t, rail := s'.rail, journal := s'.journal, links := s'.links, led := s'.led, ledSince := s'.ledSince }) ∧
  (∀ (t : Time) (x : EndSwitch) (s : State),
    ((s.rail.rawSwitch x).on = s.rail.madeSwitch x ∨ (t - (s.rail.rawSwitch x).since).toNat < 5000) →
    exec (.endSwitchDebounced t x) s = .next { s with now := t }) ∧
  (∀ (t : Time) (x : EndSwitch) (s : State), (s.rail.rawSwitch x).on ≠ s.rail.madeSwitch x →
    5000 ≤ (t - (s.rail.rawSwitch x).since).toNat →
    let made := (s.rail.rawSwitch x).on
    let other := match x with | .park => s.rail.stop | .stop => s.rail.park
    let switched : Rail := match x with
      | .park => { s.rail with park := made }
      | .stop => { s.rail with stop := made }
    let ends : Bool := match x, s.rail.state with
      | .stop, .movingIn => true
      | .stop, .pausedIn => true
      | .stop, .testing .inward _ _ => true
      | .park, .movingOut => true
      | .park, .pausedOut => true
      | .park, .homing => true
      | .park, .testing .outward _ _ => true
      | _, _ => false
    (made = false ∨ s.rail.decided = false ∨ s.rail.state.isFault = true ∨ other = false ∧ ends = false →
      exec (.endSwitchDebounced t x) s = .next { s with now := t, rail := switched }) ∧
    (made = true → s.rail.decided = true → s.rail.state.isFault = false → other = true → s.rail.state.name ≠ .testing →
      ∃ s' : State, exec (.endSwitchDebounced t x) s = .next s' ∧ s'.led = s'.ledShows ∧
        s'.rail = { switched with state := .fault .switches, drive := none, segCount := none } ∧
        s'.journal = (if s.journal.length < 512 then s.journal else s.journal.tail) ++
          [{ body := .rail .fault none .switches s.rail.votes, time := t }]) ∧
    (∀ n : Nat, x = .stop → made = true → s.rail.decided = true → s.rail.park = false →
      (s.rail.state = .movingIn ∨ s.rail.state = .pausedIn) → s.rail.segCount = some n → s.rail.votes.any = true →
      s.journal.length < 512 →
      ∃ s' : State, exec (.endSwitchDebounced t x) s = .next s' ∧
        s'.rail = { s.rail with state := .engaged, stop := true, drive := none, count := n, segCount := none } ∧
        s'.journal = s.journal ++ [{ body := .rail .engaged none .none s.rail.votes, time := t }] ∧
        s'.silentEffective = true ∧
        (∀ l : Link, (s'.link l).latched = (s.link l).latched ||| Condition.mask .rail)) ∧
    (x = .park → made = true → s.rail.decided = true → s.rail.stop = false →
      (s.rail.state = .movingOut ∨ s.rail.state = .pausedOut ∨ s.rail.state = .homing) →
      (s.rail.votes.any = true → s.rail.quiet.quiet = false) → s.journal.length ≤ 510 →
      ∃ s' : State, exec (.endSwitchDebounced t x) s = .next s' ∧
        s'.rail = { s.rail with
          state := if s.rail.votes.any then .pendingIn t false else .parked
          park := true, drive := none, count := 0, segCount := none } ∧
        s'.journal = s.journal ++ { body := .rail .parked none .none s.rail.votes, time := t } ::
          (if s.rail.votes.any then [{ body := .rail .pendingIn none .none s.rail.votes, time := t }] else []) ∧
        (∀ l : Link, (s'.link l).latched = (s.link l).latched ||| Condition.mask .rail))) ∧
  (∀ (t : Time) (j : JackIx) (x : Contacts) (s : State), OutputLaw s →
    let due (raw : RawInput) (contact : Bool) : Bool := raw.on != contact && decide (20000 ≤ (t - raw.since).toNat)
    let old := s.jack j
    let tip := if x != .sleeve && due old.tipRaw old.tip then old.tipRaw.on else old.tip
    let sleeve := if x != .tip && due old.sleeveRaw old.sleeve then old.sleeveRaw.on else old.sleeve
    let state : JackState := if tip && sleeve then .seated else if tip || sleeve then .partly else .empty
    let jackRecord : JournalRec := { body := .jack j state tip sleeve, time := t }
    let supplyRecord (name : SupplyName) : JournalRec := { body := .supply name none, time := t }
    let othersSeated : Prop := ∃ k : JackIx, k ≠ j ∧ (s.jack k).state = .seated
    (state = old.state → exec (.jackContactDebounced t j x) s = .next { s with
      now := t, jacks := s.jacks.put j { old with tip := tip, sleeve := sleeve } }) ∧
    (state ≠ old.state → s.journal.length ≤ 509 → ∃ s' : State, exec (.jackContactDebounced t j x) s = .next s' ∧
      s'.jack j = { old with
        tip := tip, sleeve := sleeve, state := state, gain := (s'.jack j).gain, ramp := (s'.jack j).ramp
        enabled := decide (state = .seated ∧ s'.supply = .good) && old.tipRaw.on && old.sleeveRaw.on } ∧
      (∀ l : Link, (s'.link l).latched.getLsbD 2 = true) ∧
      s' = { s with
        now := t, jacks := s'.jacks, supply := s'.supply, journal := s'.journal, links := s'.links, led := s'.led
        ledSince := s'.ledSince } ∧
      (state = .seated → s.supply = .off → s.supplyGood = false →
        s'.supply = .rising t ∧ s'.supplySwitch = true ∧ (∀ k : JackIx, k ≠ j → s'.jack k = s.jack k) ∧
        s'.journal = s.journal ++ [jackRecord, supplyRecord .rising] ∧
        (∀ l : Link, (s'.link l).latched =
          (s.link l).latched ||| Condition.mask .jack ||| Condition.mask .supply)) ∧
      (state = .seated → s.supply = .off → s.supplyGood = true →
        s'.supply = .good ∧ s'.supplySwitch = true ∧ (∀ k : JackIx, k ≠ j → s'.jack k = s.jack k) ∧
        s'.journal = s.journal ++ [jackRecord, supplyRecord .rising, supplyRecord .good]) ∧
      (old.state = .seated → ¬othersSeated →
        s'.supply = .off ∧ s'.supplySwitch = false ∧ (∀ k : JackIx, (s'.jack k).gain = 0 ∧ (s'.jack k).ramp = none) ∧
        s'.journal = s.journal ++ [jackRecord, supplyRecord .off]) ∧
      (state = .seated ∧ s.supply ≠ .off ∨ state ≠ .seated ∧ (old.state ≠ .seated ∨ othersSeated) →
        s'.supply = s.supply ∧ (∀ k : JackIx, k ≠ j → s'.jack k = s.jack k) ∧
        s'.journal = s.journal ++ [jackRecord])))

/-! ### The rail -/

/-- R66, R72, R75, R76: an encoder edge counts within its bounds and is the driven motor's latest edge; a count more than
200 beyond an end whose switch is open faults a driven move. An index pulse sets the count to 0 and completes a move
outward. -/
def Obligations.EncoderAndIndex : Prop :=
  ∀ (t : Time) (s : State),
    (∀ sense : Travel,
      let n : Int := max (-32768) (min 32767 (s.rail.count + match sense with | .inward => 1 | .outward => -1))
      (s.rail.drive = none → exec (.encoderEdge t sense) s =
        .next { s with now := t, rail := { s.rail with count := n } }) ∧
      (∀ (g : Segment) (m : Nat), s.rail.drive = some g → s.rail.segCount = some m → -200 ≤ n → n ≤ m + 200 →
        exec (.encoderEdge t sense) s = .next { s with
          now := t, rail := { s.rail with count := n, drive := some { g with lastEdge := t } } }) ∧
      (∀ (g : Segment) (m : Nat), s.rail.drive = some g → s.rail.segCount = some m →
        (s.rail.state = .movingIn ∨ s.rail.state = .movingOut) →
        (n < -200 ∧ s.rail.park = false ∨ (m : Int) + 200 < n ∧ s.rail.stop = false) →
        ∃ s' : State, exec (.encoderEdge t sense) s = .next s' ∧
          s'.rail = { s.rail with state := .fault .overtravel, drive := none, segCount := none, count := n } ∧
          s'.led = s'.ledShows ∧
          s'.journal = (if s.journal.length < 512 then s.journal else s.journal.tail) ++
            [{ body := .rail .fault none .overtravel s.rail.votes, time := t }])) ∧
    (s.rail.state = .parked → exec (.indexPulse t) s = .next { s with now := t, rail := { s.rail with count := 0 } }) ∧
    (s.rail.decided = true → (s.rail.state = .movingOut ∨ s.rail.state = .pausedOut ∨ s.rail.state = .homing) →
      s.rail.votes.any = false → ∃ s' : State, exec (.indexPulse t) s = .next s' ∧
        s'.rail = { s.rail with state := .parked, drive := none, segCount := none, count := 0 } ∧
        s'.journal = (if s.journal.length < 512 then s.journal else s.journal.tail) ++
          [{ body := .rail .parked none .none s.rail.votes, time := t }])

/-- R63, R70, R71, R74, R76, R80: the rail's timers. Quiet comes once the quiet time has passed with every key at rest, and
starts the drive of a waiting move, of a homing and of a test's phase; eight seconds of waiting give one notice; 40 ms
without an edge and 1.5 s of drive each fault. A timed event that is not due changes nothing (log entry 2). -/
def Obligations.RailTimers : Prop :=
  ∀ (t : Time) (s : State),
    let record (s' : State) (b : JournalBody) : Prop :=
      s'.journal = (if s.journal.length < 512 then s.journal else s.journal.tail) ++ [{ body := b, time := t }]
    (s.rail.quiet.start = none → exec (.quietEvent t) s = .next { s with now := t }) ∧
    (∀ q : Time, s.rail.quiet.start = some q → (t - q).toNat < 1000 * s.cal.touch.quietMs →
      exec (.quietEvent t) s = .next { s with now := t }) ∧
    (∀ q : Time, s.rail.quiet.start = some q → 1000 * s.cal.touch.quietMs ≤ (t - q).toNat →
      let quiet' : Quiet := { s.rail.quiet with start := none, quiet := true }
      let segment (dir : Travel) : Option Segment := some { dir := dir, start := t, lastEdge := t }
      ((s.rail.state = .parked ∧ s.rail.votes.any = false ∨ s.rail.state = .engaged ∧ s.rail.votes.any = true ∨
          s.rail.state.isFault = true ∨ s.rail.state = .homing ∧ (s.rail.decided = false ∨ s.rail.drive.isSome = true) ∨
          s.rail.state.name = .testing ∧ s.rail.drive.isSome = true) →
        exec (.quietEvent t) s = .next { s with now := t, rail := { s.rail with quiet := quiet' } }) ∧
      ((s.rail.state = .pausedIn ∨ ∃ (p : Time) (n : Bool), s.rail.state = .pendingIn p n) → s.rail.stop = false →
        ∃ s' : State, exec (.quietEvent t) s = .next s' ∧ record s' (.rail .movingIn none .none s.rail.votes) ∧
          s'.rail = { s.rail with
            state := .movingIn, drive := segment .inward, segCount := some s.cal.cEng, quiet := quiet' }) ∧
      ((s.rail.state = .pausedOut ∨ ∃ (p : Time) (n : Bool), s.rail.state = .pendingOut p n) → s.rail.park = false →
        ∃ s' : State, exec (.quietEvent t) s = .next s' ∧ record s' (.rail .movingOut none .none s.rail.votes) ∧
          s'.rail = { s.rail with
            state := .movingOut, drive := segment .outward, segCount := some s.cal.cEng, quiet := quiet' }) ∧
      (s.rail.state = .homing → s.rail.decided = true → s.rail.drive = none →
        exec (.quietEvent t) s = .next { s with
          now := t
          rail := { s.rail with drive := segment .outward, segCount := some s.cal.cEng, quiet := quiet' } }) ∧
      (∀ (phase : Travel) (a b : Nat), s.rail.state = .testing phase a b → s.rail.drive = none →
        exec (.quietEvent t) s = .next { s with
          now := t
          rail := { s.rail with drive := segment phase, segCount := some s.cal.cEng, quiet := quiet' } })) ∧
    (∀ p : Time, s.rail.state = .pendingIn p false → 8000000 ≤ (t - p).toNat →
      ∃ s' : State, exec (.waitingNotice t) s = .next s' ∧ s'.rail = { s.rail with state := .pendingIn p true } ∧
        record s' (.rail .pendingIn none .waiting s.rail.votes)) ∧
    (∀ p : Time, s.rail.state = .pendingOut p false → 8000000 ≤ (t - p).toNat →
      ∃ s' : State, exec (.waitingNotice t) s = .next s' ∧ s'.rail = { s.rail with state := .pendingOut p true } ∧
        record s' (.rail .pendingOut none .waiting s.rail.votes)) ∧
    ((∀ p : Time, s.rail.state = .pendingIn p false ∨ s.rail.state = .pendingOut p false → (t - p).toNat < 8000000) →
      exec (.waitingNotice t) s = .next { s with now := t }) ∧
    (s.rail.drive = none → exec (.stall t) s = .next { s with now := t } ∧ exec (.timeout t) s = .next { s with now := t }) ∧
    (∀ g : Segment, s.rail.drive = some g →
      ((t - g.lastEdge).toNat < 40000 → exec (.stall t) s = .next { s with now := t }) ∧
      ((t - g.start).toNat < 1500000 → exec (.timeout t) s = .next { s with now := t }) ∧
      (s.rail.state.name ≠ .testing →
        (40000 ≤ (t - g.lastEdge).toNat → ∃ s' : State, exec (.stall t) s = .next s' ∧ s'.led = s'.ledShows ∧
          s'.rail = { s.rail with state := .fault .stall, drive := none, segCount := none } ∧
          record s' (.rail .fault none .stall s.rail.votes)) ∧
        (1500000 ≤ (t - g.start).toNat → ∃ s' : State, exec (.timeout t) s = .next s' ∧ s'.led = s'.ledShows ∧
          s'.rail = { s.rail with state := .fault .timeout, drive := none, segCount := none } ∧
          record s' (.rail .fault none .timeout s.rail.votes))))

/-- R62, R69, R73, R77: VOTE_SILENT puts the requesting link in the vote set or takes it out, and the rail follows: a parked
rail waits to go in, a move is turned round at once with a new segment. RAIL_RECOVER takes a rail in FAULT to HOMING, and to
PARKED where the park switch is made. -/
def Obligations.VotesAndRecovery : Prop :=
  ∀ (t : Time) (l : Link) (s : State), s.receiving l = true →
    (∀ p : List Byte, s.heldOrRunning = false → p.length ≤ 60 →
      exec (.voteSilent t l p) s = .next ((s.stamp t).denied l 0x20 p .notReady)) ∧
    (∀ p : List Byte, s.heldOrRunning = true → p.length ≠ 1 →
      exec (.voteSilent t l p) s = .next ((s.stamp t).denied l 0x20 p .badLength)) ∧
    (∀ b : Byte, s.heldOrRunning = true → 1 < b.toNat →
      exec (.voteSilent t l [b]) s = .next ((s.stamp t).denied l 0x20 [b] .badValue)) ∧
    (∀ on : Bool, s.heldOrRunning = true → s.rail.votes.put l on = s.rail.votes →
      exec (.voteSilent t l (yesNo on)) s =
        .next ((s.stamp t).replied l 0x20 (yesNo on) (u1 s.rail.votes.code ++ u1 s.rail.state.name.code))) ∧
    (∀ on : Bool, s.heldOrRunning = true → s.rail.votes.put l on ≠ s.rail.votes →
      ∃ s' : State, exec (.voteSilent t l (yesNo on)) s =
          .next (s'.replied l 0x20 (yesNo on) (u1 s'.rail.votes.code ++ u1 s'.rail.state.name.code)) ∧
        s'.rail.votes = s.rail.votes.put l on ∧
        s' = { s with
          now := t, rail := s'.rail, journal := s'.journal, links := s'.links, led := s'.led, ledSince := s'.ledSince } ∧
        (s.rail.decided = true → VoteLaw s.rail → MotorLaw s.rail → VoteLaw s'.rail ∧ MotorLaw s'.rail) ∧
        (s.rail.decided = true → s.rail.state = .parked → s.rail.quiet.quiet = false → on = true →
          s'.rail.state = .pendingIn t false) ∧
        (s.rail.decided = true → s.rail.state = .movingIn → s.rail.quiet.quiet = true → s.rail.park = false →
          (s.rail.votes.put l on).any = false →
          s'.rail.state = .movingOut ∧ s'.rail.segCount = some s.cal.cEng ∧
          s'.rail.drive = some { dir := .outward, start := t, lastEdge := t }) ∧
        (s.rail.decided = false → s'.rail = { s.rail with votes := s.rail.votes.put l on } ∧ s'.journal = s.journal)) ∧
    (∀ (p : List Byte) (c : RailFault), s.rail.state = .fault c → s.rail.decided = true → s.rail.drive = none →
      s.rail.segCount = none → s.rail.quiet.quiet = false → s.rail.votes.any = false → p.length ≤ 60 →
      ∃ s' : State,
        exec (.railRecover t l p) s = .next ((s.stamp t).outcome l 0x59 p
          [(!s.running, .notReady), (s.seat != some l, .noSeat), (p.length != 0, .badLength)] s'
          (u1 s'.rail.state.name.code)) ∧
        s'.rail.state = (match s.rail.park, s.rail.stop with
          | true, true => .fault .switches
          | true, false => .parked
          | false, _ => .homing) ∧
        s'.rail = { s.rail with
          state := s'.rail.state, count := if s.rail.park && !s.rail.stop then 0 else s.rail.count } ∧
        s'.journal.getLast? = some { body := .rail s'.rail.state.name none s'.rail.state.cause s.rail.votes, time := t } ∧
        s'.led = s'.ledShows) ∧
    (∀ p : List Byte, s.rail.state.isFault = false → s.running = true → s.seat = some l → p = [] →
      exec (.railRecover t l p) s = .next ((s.stamp t).denied l 0x59 p .wrongState))

/-! ### Voices -/

/-- R93 to R98: a note-on damps the voices of its group and key; where a window serves it, it takes the FREE voice of lowest
index, or else the first of the steal order (DAMPING, RELEASING, SOUNDING with the key up, each by the lowest E, then the
oldest SOUNDING), sheds the first voices of that order among the others, as many as bring the costs to 96 or less and no
more, starts the voice and answers with its index. R99, R104, R105: an envelope step takes every voice out of FREE at the
rate of its state, and frees one that reaches 0; nothing else moves. -/
def Obligations.VoicesAreChosenAndDecay : Prop :=
  (∀ (s : State) (src : Source) (k : KeyIx) (level : Nat), VoiceLaw s →
    let d := s.dampKey src.group k
    let s' := (s.noteOn src k level).1
    let age (v : Voice) : Nat := (s.now - v.start).toNat
    let cls (v : Voice) : Nat := match v.state, v.held with
      | .damping, _ => 1
      | .releasing, _ => 2
      | .sounding, false => 3
      | .sounding, true => 4
    let before (i : VoiceIx) (v : Voice) (j : VoiceIx) (u : Voice) : Prop :=
      cls v < cls u ∨ cls v = cls u ∧
        (if cls v = 4 then age u < age v ∨ age u = age v ∧ i.val < j.val
          else v.env < u.env ∨ v.env = u.env ∧ i.val < j.val)
    (∀ i : VoiceIx, d.voice i = (s.voice i).map (fun v =>
      if v.source.group = src.group ∧ v.key = k then { v with state := .damping, held := false } else v)) ∧
    (findWindow s.windows k level = none → s.noteOn src k level = (d, none)) ∧
    (∀ (w : Nat) (win : Window), findWindow s.windows k level = some (w, win) → ∃ i : VoiceIx,
      (s.noteOn src k level).2 = some i ∧
      s'.voice i = some
        { state := .sounding, source := src, key := k, level := level, release := 64, held := true, window := w,
          position := 0, env := 32767, start := s.now, cost := win.cost } ∧
      s' = { s with voices := s'.voices } ∧
      ((∃ j : VoiceIx, d.voice j = none) → d.voice i = none ∧ ∀ j : VoiceIx, d.voice j = none → i.val ≤ j.val) ∧
      (∀ v : Voice, d.voice i = some v → ∀ (j : VoiceIx) (u : Voice), j ≠ i → d.voice j = some u → before i v j u) ∧
      (∀ j : VoiceIx, j ≠ i → s'.voice j = d.voice j ∨ s'.voice j = none) ∧
      (∀ (a b : VoiceIx) (v u : Voice), a ≠ i → b ≠ i → d.voice a = some v → d.voice b = some u →
        s'.voice a = none → s'.voice b ≠ none → before a v b u) ∧
      s'.costSum ≤ 96 ∧
      (∀ (b : VoiceIx) (u : Voice), b ≠ i → d.voice b = some u → s'.voice b = none →
        (∀ (a : VoiceIx) (v : Voice), a ≠ i → a ≠ b → d.voice a = some v → s'.voice a = none → before a v b u) →
        96 < s'.costSum + u.cost))) ∧
  (∀ (t : Time) (s : State), ∃ s' : State, exec (.envelopeStep t) s = .next s' ∧
    s' = { s with now := t, voices := s'.voices } ∧
    (∀ i : VoiceIx, s.voice i = none → s'.voice i = none) ∧
    (∀ (i : VoiceIx) (v : Voice), s.voice i = some v →
      let string : Nat := 2 + v.key.val * 30 / 87
      let b : Nat := 600 + 4 * v.release
      let d : Nat := s.damper v.source.group
      let rate : Nat := match v.state with
        | .sounding => string
        | .damping => 16384
        | .releasing => if d ≤ 20 then b else if d ≤ 99 then max string (b * (100 - d) / 80) else string
      let e : Nat := (max 0 ((v.env : Int) - Int.fdiv ((v.env : Int) * rate) 65536 - 1)).toNat
      (e = 0 → s'.voice i = none) ∧ (e ≠ 0 → s'.voice i = some { v with env := e }) ∧
      (1 ≤ v.env → e < v.env) ∧ 2 ≤ string ∧ string ≤ 32) ∧
    s'.voicesUsed ≤ s.voicesUsed ∧ s'.costSum ≤ s.costSum)

/-- R107, PANIC. Thirty-three envelope steps free every voice it damps; a note-off that meets no held voice changes nothing. -/
def Obligations.Panic : Prop :=
  (∀ (t : Time) (l : Link) (p : List Byte) (s : State), s.receiving l = true → p.length ≤ 60 →
    (s.running = true → p = [] → exec (.panic t l p) s = .next (State.replied
      { s with
        now := t
        voices := tableOf (fun i => (s.voice i).map (fun v => { v with state := .damping, held := false })) } l 0x22 p
      (u1 ((List.finRange 48).filter (fun i => (s.voice i).isSome)).length))) ∧
    (s.running = false → p = [] → exec (.panic t l p) s = .next ((s.stamp t).denied l 0x22 p .notReady)) ∧
    (s.running = true → p ≠ [] → exec (.panic t l p) s = .next ((s.stamp t).denied l 0x22 p .badLength)) ∧
    (s.running = false → p ≠ [] →
      ∃ status : Status, exec (.panic t l p) s = .next ((s.stamp t).denied l 0x22 p status) ∧
        (status = .notReady ∨ status = .badLength))) ∧
  (∀ (damper : Group → Nat) (v : Voice), v.state = .damping → v.env ≤ 32767 →
    Nat.iterate (stepVoice damper) 33 (some v) = none ∧
    (∀ (n : Nat) (w : Voice), Nat.iterate (stepVoice damper) n (some v) = some w → w.state = .damping)) ∧
  (∀ (s : State) (src : Source) (k : KeyIx) (level : Nat),
    (∀ (i : VoiceIx) (v : Voice), s.voice i = some v → v.source = src → v.key = k → v.held = false) →
    s.noteOff src k level = s) ∧
  (∀ (s : State) (src : Source) (k : KeyIx) (level : Nat),
    (s.mapVoices Voice.damp).noteOff src k level = s.mapVoices Voice.damp)

/-- R92, R122: SET_LAYER and SET_VOLUME, their checks in order, their effects, and the ramp that a volume begins. -/
def Obligations.PlayControls : Prop :=
  ∀ (t : Time) (l : Link) (p : List Byte) (s : State), s.receiving l = true → p.length ≤ 60 →
    exec (.setLayer t l p) s = .next ((s.stamp t).outcome l 0x23 p
      [(!s.running, .notReady), (s.seat != some l, .noSeat), (p.length != 1, .badLength),
        (decide (1 < byteAt p 0), .badValue)]
      { s with now := t, layer := decide (byteAt p 0 = 1) }
      (yesNo (decide (byteAt p 0 = 1)) ++ yesNo (s.silentEffective || decide (byteAt p 0 = 1)))) ∧
    (let volume := min 127 (byteAt p 1)
     let target := volume * volume * 32767 / 16129
     let moved (j : Jack) : Jack :=
      if j.enabled ∧ (j.gain ≠ target ∨ ∃ r : Ramp, j.ramp = some r ∧ r.last ≠ target) then
        { j with volume := volume, target := target, ramp := some { first := j.gain, last := target, total := 32, done := 0 } }
      else { j with volume := volume, target := target }
     let one := u1 volume ++ u2 target
     exec (.setVolume t l p) s = .next ((s.stamp t).outcome l 0x21 p
      [(!s.running, .notReady), (p.length != 2, .badLength), (decide (2 < byteAt p 0), .badValue)]
      { s with
        now := t
        jacks := { j1 := if byteAt p 0 = 1 then s.jacks.j1 else moved s.jacks.j1
                   j2 := if byteAt p 0 = 0 then s.jacks.j2 else moved s.jacks.j2 } }
      (u1 (byteAt p 0) ++ (if byteAt p 0 = 2 then one ++ one else one))))

/-! ### Headphone output -/

/-- R114, R116, R117, R118: while every voice stands in its window's sample, an output frame puts out, on each jack and
channel, the mix at the jack's gain, clamped to 24 bits; sets a clip latch where the clamp acts; and moves the sources and
positions on. A FREE voice stays FREE. A jack with gain 0 puts out 0 and cannot clip. State holds what was put out (log
entry 23); a source whose frames are done adds nothing (log entry 9); the word read is the one recorded, whatever its
window's wait class (log entry 41). -/
def Obligations.OutputFrames : Prop :=
  ∀ (t : Time) (s : State), VoiceLaw s →
    let part (i : VoiceIx) (channel : Nat) : Int :=
      match s.voice i with
      | none => 0
      | some v =>
        match s.windows[v.window]? with
        | none => 0
        | some w => Int.fdiv
          ((Memory.read s.sampleMem (w.base + (v.key.val - w.keyLo) * w.stride + v.position + channel)).toInt *
            (v.level * v.level * 32767 / 16129 * v.env / 32768 : Nat)) 32768
    let click : Int :=
      match s.click with
      | some x => if x.done < 576 then (if x.done % x.period < x.period / 2 then (x.amplitude : Int) else -x.amplitude) else 0
      | none => 0
    let mix (channel : Nat) : Int :=
      match s.tone.filter (fun n => decide (n < 96000)) with
      | some n => if n % 48 < 24 then 8192 else -8192
      | none => ((List.finRange 48).map (fun i => part i channel)).sum + click
    let raw (j : JackIx) (channel : Nat) : Int := Int.fdiv (mix channel * (s.jack j).gain) 256
    let out (j : JackIx) (channel : Nat) : Int := max (-8388608) (min 8388607 (raw j channel))
    ∃ s' : State, exec (.outputFrame t) s = .next s' ∧
      (∀ j : JackIx, s'.output.get j = { left := out j 0, right := out j 1 } ∧
        s'.jack j = { s.jack j with
          clip := (s.jack j).clip || decide (out j 0 ≠ raw j 0) || decide (out j 1 ≠ raw j 1) } ∧
        ((s.jack j).gain = 0 → out j 0 = 0 ∧ out j 1 = 0 ∧ (s'.jack j).clip = (s.jack j).clip)) ∧
      s'.click = s.click.map (fun x => { x with done := min 576 (x.done + 1) }) ∧
      s'.tone = s.tone.map (fun n => min 96000 (n + 1)) ∧
      (∀ i : VoiceIx, s.voice i = none → s'.voice i = none) ∧
      (∀ (i : VoiceIx) (v : Voice) (w : Window), s.voice i = some v → s.windows[v.window]? = some w →
        s'.voice i = if v.position + 2 < w.length then some { v with position := v.position + 2 }
          else w.loop.map (fun o => { v with position := o })) ∧
      s' = { s with now := t, output := s'.output, jacks := s'.jacks, click := s'.click, tone := s'.tone, voices := s'.voices }

/-- R121, R123, R124: a ramp step moves each jack's gain along its ramp, to the end gain exactly at its last step; a click
burst and a tone run are taken away once their frames are done (by their own events, log entry 9), and the tone's end ends
its test. -/
def Obligations.RampsAndSourceEnds : Prop :=
  ∀ (t : Time) (s : State),
    (∃ s' : State, exec (.rampStep t) s = .next s' ∧ s' = { s with now := t, jacks := s'.jacks } ∧
      ∀ j : JackIx,
        ((s.jack j).ramp = none → s'.jack j = s.jack j) ∧
        (∀ r : Ramp, (s.jack j).ramp = some r → r.done + 1 < r.total →
          s'.jack j = { s.jack j with
            gain := ((r.first : Int) + Int.fdiv (((r.last : Int) - r.first) * ((r.done : Int) + 1)) r.total).toNat
            ramp := some { r with done := r.done + 1 } }) ∧
        (∀ r : Ramp, (s.jack j).ramp = some r → r.total ≤ r.done + 1 →
          s'.jack j = { s.jack j with gain := r.last, ramp := none })) ∧
    exec (.clickBurstEnd t) s = .next { s with now := t, click := s.click.filter (fun x => decide (x.done < 576)) } ∧
    (s.tone ≠ some 96000 → exec (.toneRunEnd t) s = .next { s with now := t }) ∧
    (∀ continuous : Bool, s.tone = some 96000 → s.test = some { continuous := continuous, run := .tone } →
      ∃ s' : State, exec (.toneRunEnd t) s = .next s' ∧ s'.tone = (if continuous then some 0 else none) ∧
        s'.test = (if continuous then s.test else none) ∧ s'.runs = min 65535 (s.runs + 1) ∧
        s'.lastResult = some { kind := .tone, code := 0, detail := 0, measure := .none } ∧
        s'.journal = (if s.journal.length < 512 then s.journal else s.journal.tail) ++
          [{ body := .test .tone 0 0, time := t }] ∧
        s' = { s with
          now := t, tone := s'.tone, test := s'.test, runs := s'.runs, lastResult := s'.lastResult
          journal := s'.journal, links := s'.links })

/-- R120, R125, R126, R129: the supply-good input takes a RISING supply to GOOD, where every seated jack with both raw
contacts made is enabled and begins its ramp; its fall in GOOD fails the supply as LOST and sets every gain to 0 at once; 50
ms of rise fail it as RISE_TIMEOUT (log entry 2). In every other state the input alone is held. The supply switch is on in
RISING and GOOD, and off in OFF and FAILED. -/
def Obligations.SupplyFollowsItsInput : Prop :=
  ∀ (t : Time) (s : State), OutputLaw s →
    let record (s' : State) (b : JournalBody) : Prop :=
      s'.journal = (if s.journal.length < 512 then s.journal else s.journal.tail) ++ [{ body := b, time := t }] ∧
      s'.led = s'.ledShows ∧
      s' = { s with
        now := t, jacks := s'.jacks, supply := s'.supply, supplyGood := s'.supplyGood, journal := s'.journal
        links := s'.links, led := s'.led, ledSince := s'.ledSince }
    (s.supplySwitch = true ↔ s.supply = .good ∨ ∃ since : Time, s.supply = .rising since) ∧
    (∀ since : Time, s.supply = .rising since → ∃ s' : State, exec (.supplyGoodAsserted t) s = .next s' ∧
      s'.supply = .good ∧ s'.supplyGood = true ∧ s'.supplySwitch = true ∧ record s' (.supply .good none) ∧
      (∀ j : JackIx, s'.jack j =
        if (s.jack j).state = .seated ∧ (s.jack j).tipRaw.on = true ∧ (s.jack j).sleeveRaw.on = true then
          { s.jack j with
            enabled := true, ramp := some { first := 0, last := (s.jack j).target, total := 32, done := 0 } }
        else s.jack j)) ∧
    ((∀ since : Time, s.supply ≠ .rising since) →
      exec (.supplyGoodAsserted t) s = .next { s with now := t, supplyGood := true }) ∧
    (s.supply = .good → ∃ s' : State, exec (.supplyGoodDropped t) s = .next s' ∧ s'.supply = .failed .lost ∧
      s'.supplyGood = false ∧ s'.supplySwitch = false ∧ record s' (.supply .failed (some .lost)) ∧
      (∀ j : JackIx, s'.jack j = { s.jack j with gain := 0, ramp := none, enabled := false })) ∧
    (s.supply ≠ .good → exec (.supplyGoodDropped t) s = .next { s with now := t, supplyGood := false }) ∧
    (∀ since : Time, s.supply = .rising since → s.supplyGood = false → 50000 ≤ (t - since).toNat →
      ∃ s' : State, exec (.riseTimeout t) s = .next s' ∧ s'.supply = .failed .riseTimeout ∧ s'.supplyGood = false ∧
        s'.supplySwitch = false ∧ record s' (.supply .failed (some .riseTimeout)) ∧ s'.jacks = s.jacks) ∧
    ((∀ since : Time, s.supply = .rising since → s.supplyGood = true ∨ (t - since).toNat < 50000) →
      exec (.riseTimeout t) s = .next { s with now := t })

/-! ### The transport -/

/-- R136, R137: a clock step does nothing while the clock stands; while it runs it adds 1000 t10 s to the accumulator. A
step that gains no tick moves the accumulator alone; one in RECORDING that meets no record to dispatch and no click moves
the position by the ticks gained, at most five, and keeps the remainder. R139: what one tick position brings, stated for a
step that gains one tick: the click at a beat, accented at a bar (R160); the end of the count-in at 0, which enters
RECORDING (R153); the jump of a loop at its B-point, with its record and the walk to A (R159); the entry to a guide wait at
the GUIDE tracks' notes, ten keys at most, with no record dispatched (R149); else the dispatch, and the natural end (R142). -/
def Obligations.ClockSteps : Prop :=
  ∀ (t : Time) (s : State),
    let x := s.transport
    let a := x.acc + 1000 * x.tempo * x.scale
    let n : Int := x.position + 1
    let beats : Int := max (-1048576) (min 1048575 (Int.fdiv n 480))
    let bar : Int := (x.metronome.beats * 480 : Nat)
    let click : Option Click :=
      if Int.emod n 480 = 0 ∧ (x.state = .countIn ∨ x.metronome.on = true) then
        some { done := 0, period := if Int.emod n bar = 0 then 32 else 48
               amplitude := x.metronome.level * x.metronome.level * 32767 / 16129 / 4 }
      else s.click
    let ticked : Transport := { x with acc := a % 125000000, position := n }
    let onTick : State := { s with now := t, click := click, transport := ticked }
    let oneTick : Prop := 125000000 ≤ a ∧ a < 250000000 ∧ x.position < 2147483647
    let nothingDue : Prop := ∀ (i : TrackIx) (r : TakeRec), s.recordedTrack i = false →
      (s.track i).recs[(s.track i).cursor]? = some r → n < (s.track i).cursorPos + r.delta
    let jumps : Prop := x.loop.active = true ∧ n = x.loop.b ∧ (x.loop.n = 0 ∨ x.loop.passes < x.loop.n)
    let waitsFor (k : KeyIx) : Prop := ∃ (i : TrackIx) (m level : Nat) (r : TakeRec), (s.track i).mode = .guide ∧
      ((s.track i).recs.drop (s.track i).cursor)[m]? = some r ∧ r.body = .noteOn k level ∧
      (s.track i).cursorPos +
        ((((s.track i).recs.drop (s.track i).cursor).take (m + 1)).map (fun y => (y.delta : Int))).sum = n
    let transportRecord (name : TransportName) : JournalRec := { body := .transport name beats, time := t }
    (x.state.name = .idle ∨ x.state.name = .locating ∨ x.state.name = .waiting ∨ x.state.name = .paused →
      exec (.clockStep t) s = .next { s with now := t }) ∧
    (x.state.clockRuns = true → a < 125000000 →
      exec (.clockStep t) s = .next { s with now := t, transport := { x with acc := a } }) ∧
    (x.acc < 125000000 → x.tempo ≤ 3000 → x.scale ≤ 200 → a / 125000000 ≤ 5) ∧
    (x.state = .recording → x.acc < 125000000 → x.tempo ≤ 3000 →
      x.scale ≤ 200 → x.metronome.on = false → x.position + 5 ≤ 2147483647 →
      (∀ (i : TrackIx) (r : TakeRec), s.recordedTrack i = false → (s.track i).recs[(s.track i).cursor]? = some r →
        x.position + 5 < (s.track i).cursorPos + r.delta) →
      exec (.clockStep t) s = .next { s with
        now := t
        transport := { x with acc := a % 125000000, position := x.position + (a / 125000000 : Nat) } }) ∧
    (oneTick → nothingDue → (x.state = .recording ∨ x.state = .countIn ∧ n ≠ 0) →
      exec (.clockStep t) s = .next onTick) ∧
    (oneTick → nothingDue → x.state = .countIn → n = 0 → s.journal.length < 512 → ∃ s' : State,
      exec (.clockStep t) s = .next s' ∧ s'.journal = s.journal ++ [transportRecord .recording] ∧
      s' = { onTick with transport := { ticked with state := .recording }, journal := s'.journal, links := s'.links }) ∧
    (oneTick → x.state = .playing → jumps → 0 < s.walkReads x.loop.a → ∃ s' : State,
      exec (.clockStep t) s = .next s' ∧ s'.transport.state = .locating x.loop.a .playing ∧
      s'.transport.position = n ∧ s'.transport.acc = 0 ∧ s'.transport.guideSet = 0#88 ∧
      s'.transport.loop = { x.loop with passes := min 255 (x.loop.passes + 1) } ∧ s'.click = click ∧
      s'.play = s.play ∧ (∀ i : TrackIx, s'.track i = { s.track i with opened := 0#88 }) ∧
      ((∀ i : TrackIx, (s.track i).opened = 0#88) → s.journal.length ≤ 510 →
        s'.journal = s.journal ++ [{ body := .loop (min 255 (x.loop.passes + 1)) x.loop.n, time := t },
          transportRecord .locating] ∧ s'.voices = s.voices)) ∧
    (oneTick → x.state = .playing → ¬jumps → (∃ k : KeyIx, waitsFor k) → s.journal.length ≤ 510 →
      ∃ (s' : State) (dropped : Nat), exec (.clockStep t) s = .next s' ∧
        s' = { onTick with
          transport := { ticked with state := .waiting, acc := 0, guideSet := s'.transport.guideSet }
          journal := s'.journal, links := s'.links } ∧
        (∀ k : KeyIx, KeySet.has s'.transport.guideSet k = true → waitsFor k) ∧
        1 ≤ KeySet.count s'.transport.guideSet ∧ KeySet.count s'.transport.guideSet ≤ 10 ∧
        (dropped = 0 → ∀ k : KeyIx, waitsFor k → KeySet.has s'.transport.guideSet k = true) ∧
        (dropped ≠ 0 → KeySet.count s'.transport.guideSet = 10) ∧
        s'.journal = s.journal ++ [transportRecord .waiting,
          { body := .guideWait (KeySet.count s'.transport.guideSet) dropped, time := t }] ∧
        (∀ l : Link, (s'.link l).latched =
          (s.link l).latched ||| Condition.mask .transport ||| Condition.mask .guide)) ∧
    (oneTick → x.state = .playing → ¬jumps → (∀ k : KeyIx, ¬waitsFor k) →
      exec (.clockStep t) s = .next onTick.dispatchAll.naturalEnd ∧
      (nothingDue → x.recording = none →
        ((∃ i : TrackIx, (s.track i).mode ≠ .mute ∧ (s.track i).cursor < (s.track i).recs.length) →
          exec (.clockStep t) s = .next onTick) ∧
        ((∀ i : TrackIx, (s.track i).mode = .mute ∨ (s.track i).recs.length ≤ (s.track i).cursor) → ∃ s' : State,
          exec (.clockStep t) s = .next s' ∧ s'.transport.state = .idle ∧ s'.transport.position = n ∧
          s'.transport.acc = 0 ∧ s'.transport.guideSet = 0#88 ∧ s'.click = click ∧
          (∀ i : TrackIx, s'.track i = { s.track i with opened := 0#88 }) ∧
          (∀ c : PedalIx, s'.playChannel c = { level := 0, switch := false }) ∧
          s'.journal.getLast? = some (transportRecord .idle))))

/-- R138, SET_TEMPO and SET_SCALE. -/
def Obligations.TempoAndScale : Prop :=
  (∀ (t : Time) (l : Link) (p : List Byte) (s : State), s.receiving l = true → p.length ≤ 60 →
    (let t10 := max 200 (min 3000 (be2At p 0))
     exec (.setTempo t l p) s = .next ((s.stamp t).outcome l 0x35 p
      [(!s.running, .notReady), (p.length != 2, .badLength)]
      { s with now := t, transport := { s.transport with tempo := t10 } } (u2 t10))) ∧
    (let scale := max 25 (min 200 (byteAt p 0))
     exec (.setScale t l p) s = .next ((s.stamp t).outcome l 0x36 p
      [(!s.running, .notReady), (p.length != 1, .badLength)]
      { s with now := t, transport := { s.transport with scale := scale } } (u1 scale)))) ∧
  (∀ (t : Time) (s s' : State), s.transport.state.clockRuns = true →
    s.transport.acc + 1000 * s.transport.tempo * s.transport.scale < 125000000 → exec (.clockStep t) s = .next s' →
    s'.transport.acc = s.transport.acc + 1000 * s.transport.tempo * s.transport.scale) ∧
  (∀ (t : Time) (b : Board) (s s' : State), exec (.powerOnReset t b) s = .next s' →
    s'.transport.tempo = 1200 ∧ s'.transport.scale = 100) ∧
  (∀ (t : Time) (x : Straps) (s s' : State), exec (.warmReset t x) s = .next s' →
    s'.transport.tempo = 1200 ∧ s'.transport.scale = 100)

/-- R143, R144, R146: PLAY, PAUSE and STOP. PLAY begins or resumes where nothing is due at the position, walks first where
the cursors are not placed (a walk that reads nothing takes no time, log entry 10), and is BUSY with a load open and in
COUNT_IN, RECORDING and LOCATING; PAUSE holds PLAYING, WAITING and RECORDING; STOP ends in IDLE with no open note, no guide
wait and the PLAYBACK pedals at 0. -/
def Obligations.PlayPauseStop : Prop :=
  ∀ (t : Time) (l : Link) (s : State), s.receiving l = true → s.running = true →
    let x := s.transport
    let nothingDue : Prop := (∀ (i : TrackIx) (r : TakeRec), s.recordedTrack i = false →
        (s.track i).recs[(s.track i).cursor]? = some r → x.position < (s.track i).cursorPos + r.delta) ∧
      ∃ i : TrackIx, (s.track i).mode ≠ .mute ∧ (s.track i).cursor < (s.track i).recs.length
    let enters (s' : State) (st : TransportState) : Prop :=
      s' = { s with now := t, transport := { x with state := st }, journal := s'.journal, links := s'.links } ∧
      s'.journal = (if s.journal.length < 512 then s.journal else s.journal.tail) ++
        [{ body := .transport st.name (max (-1048576) (min 1048575 (Int.fdiv x.position 480))), time := t }]
    let playing (s' : State) (code : Nat) : Prop :=
      exec (.play t l []) s = .next (s'.replied l 0x30 [] (u1 code ++ s4 x.position))
    (x.load.isSome = true → exec (.play t l []) s = .next ((s.stamp t).denied l 0x30 [] .busy)) ∧
    (x.state.playBusy = true → exec (.play t l []) s = .next ((s.stamp t).denied l 0x30 [] .busy)) ∧
    (x.load = none → (x.state = .playing → playing (s.stamp t) 4) ∧ (x.state = .waiting → playing (s.stamp t) 5)) ∧
    (x.load = none → x.recording = none → nothingDue →
      (x.state = .idle ∧ x.placed = true ∨ x.state = .paused .playing ∨ x.state = .paused .waiting) →
      ∃ s' : State, enters s' .playing ∧ playing s' 4) ∧
    (x.load = none → nothingDue → x.state = .paused .recording → ∃ s' : State, enters s' .recording ∧ playing s' 3) ∧
    (x.load = none → x.state = .idle → x.placed = false → 0 < s.walkReads x.position →
      ∃ s' : State, enters s' (.locating x.position .playing) ∧ playing s' 1) ∧
    (∀ f : PausedFrom, x.state.pausesAs = some f → ∃ s' : State,
      exec (.pause t l []) s = .next (s'.replied l 0x33 [] []) ∧ s'.transport.state = .paused f ∧
      s'.transport.position = x.position ∧ s'.transport.acc = 0 ∧ s'.transport.guideSet = 0#88 ∧
      s'.transport.recording = x.recording ∧ s'.play = s.play ∧
      (∀ i : TrackIx, s'.track i = { s.track i with opened := 0#88 }) ∧
      (HeldLaw s → ∀ (i : VoiceIx) (v : Voice), s'.voice i = some v → v.held = true → v.source = .live)) ∧
    (x.state.pausesAs = none → exec (.pause t l []) s = .next ((s.stamp t).denied l 0x33 [] .wrongState)) ∧
    (∃ s' : State, exec (.stop t l []) s = .next (s'.replied l 0x32 [] (s4 s'.transport.position)) ∧
      s'.transport.state = .idle ∧ s'.transport.acc = 0 ∧ s'.transport.guideSet = 0#88 ∧ s'.transport.recording = none ∧
      s'.transport.load = x.load ∧
      s'.transport.position = (match x.state with | .locating target _ => target | _ => x.position) ∧
      (∀ i : TrackIx, (s'.track i).opened = 0#88 ∧ (s'.track i).mode = (s.track i).mode) ∧
      (∀ i : TrackIx, s.recordedTrack i = false → (s'.track i).recs = (s.track i).recs) ∧
      (∀ r : Recording, x.recording = some r → (s'.track r.track).reserved = false ∧
        ((s'.track r.track).recs.getLast?.map TakeRec.isEnd) = some true) ∧
      (∀ c : PedalIx, s'.playChannel c = { level := 0, switch := false }) ∧
      (CaptureLaw s → s'.playCapture = 0#88)) ∧
    (x.state = .idle → x.acc = 0 → x.guideSet = 0#88 → x.recording = none → (∀ i : TrackIx, (s.track i).opened = 0#88) →
      (∀ c : PedalIx, s.playChannel c = { level := 0, switch := false }) →
      exec (.stop t l []) s = .next ((s.stamp t).replied l 0x32 [] (s4 x.position)))

/-- R147, R148, R152: RECORD erases its track, takes the LIVE pedals that are not at 0, and begins its count-in with an
accented click or records at once; LOCATE walks to its clamped target; a walk leaves every cursor before the first record at
the target or after it, and the PLAYBACK pedals at the levels it found (what a walk reads is deduced, log entries 10 and
14). R153 to R156: in COUNT_IN, at position 0, a live KEY_ON and a LIVE pedal publication are recorded, and a KEY_OFF is
not; in RECORDING all three are, at the current position; an event that the free slots cannot take whole closes the
recording with its END, appends TAKE FULL and stops the transport. In every other state none is recorded. The records of
such a close have the time at which the reading arrived (log entry 42), and the track's cursor stays where it was (log entry
22). -/
def Obligations.RecordAndLocate : Prop :=
  (∀ (t : Time) (l : Link) (s : State), s.receiving l = true → s.running = true →
    (∀ (i : TrackIx) (bars : Fin 3), s.transport.state = .idle → s.transport.load = none → s.linkPresent l = true →
      PoolLaw s → 3 ≤ s.freeSlots →
      let p := [byteOf i.val, byteOf bars.val]
      let start : Int := -((bars.val * s.transport.metronome.beats * 480 : Nat) : Int)
      ∃ s' : State,
        exec (.record t l p) s = .next (s'.replied l 0x31 p
          (u1 i.val ++ u1 (if bars.val = 0 then 3 else 2) ++ s4 start ++ u2 s'.freeSlots)) ∧
        s'.transport.state = (if bars.val = 0 then .recording else .countIn) ∧ s'.transport.position = start ∧
        s'.transport.recording = some { track := i, owner := l, lastPos := 0 } ∧ s'.transport.placed = true ∧
        s'.transport.acc = 0 ∧ (s'.track i).reserved = true ∧ (s'.track i).mode = (s.track i).mode ∧
        (s'.track i).recs = ((List.finRange 3).filter (fun c => (s.liveChannel c).published != 0)).map
          (fun c => { body := .pedal c (s.liveChannel c).published, delta := 0 }) ∧
        (0 < bars.val → s'.click = some
          { done := 0, period := 32, amplitude := squareGain s.transport.metronome.level / 4 } ∧
          (∀ j : TrackIx, (s'.track j).cursor = 0 ∧ (s'.track j).cursorPos = 0)) ∧
        (∀ j : TrackIx, j ≠ i → (s'.track j).recs = (s.track j).recs)) ∧
    (∀ p : List Byte, p.length = 4 → s.transport.load = none →
      let target : Int := max 0 (min 2147483647 (signed4At p 0))
      (s.transport.state.locatesAs = none → exec (.locate t l p) s = .next ((s.stamp t).denied l 0x34 p .wrongState)) ∧
      (∀ ret : WalkReturn, s.transport.state.locatesAs = some ret → 0 < s.walkReads target → ∃ s' : State,
        exec (.locate t l p) s = .next (s'.replied l 0x34 p (s4 target)) ∧
        s'.transport.state = .locating target ret ∧ s'.play = s.play ∧
        s'.transport.position = s.transport.position ∧
        (s.transport.state.name ≠ .locating → s'.transport.guideSet = 0#88 ∧ s'.transport.acc = 0 ∧
          ∀ i : TrackIx, s'.track i = { s.track i with opened := 0#88 }))) ∧
    (∀ p : List Byte, p.length = 4 → s.transport.load.isSome = true →
      exec (.locate t l p) s = .next ((s.stamp t).denied l 0x34 p .busy)) ∧
    (s.transport.state.name ≠ .locating → exec (.locateWalkComplete t) s = .next { s with now := t }) ∧
    (∀ target : Int, 0 ≤ target → s.transport.state = .locating target .idle → ∃ s' : State,
      exec (.locateWalkComplete t) s = .next s' ∧ s'.transport.state = .idle ∧ s'.transport.position = target ∧
      s'.transport.placed = true ∧
      (∀ i : TrackIx,
        s'.track i = { s.track i with cursor := (s'.track i).cursor, cursorPos := (s'.track i).cursorPos } ∧
        (s'.track i).cursorPos =
          (((s.track i).recs.take (s'.track i).cursor).map (fun r => (r.delta : Int))).sum ∧
        ((s'.track i).cursor = 0 ∨ (s'.track i).cursorPos < target) ∧ (s'.track i).cursor ≤ (s.track i).recs.length ∧
        (∀ r : TakeRec, (s.track i).recs[(s'.track i).cursor]? = some r →
          target ≤ (s'.track i).cursorPos + r.delta)) ∧
      (∀ c : PedalIx, (s'.playChannel c).level = s.walkLevel target c))) ∧
  (∀ (s : State) (r : Recording), s.transport.recording = some r →
    let pos : Int := if s.transport.state = .countIn then 0 else s.transport.position
    let track := s.track r.track
    let waits (gap : Nat) : Nat := (gap - 1) / 65535
    let waitRecs (n : Nat) : List TakeRec := List.replicate n { body := .wait, delta := 65535 }
    let takes (s' : State) (event : TakeBody) : Prop :=
      let gap := (pos - r.lastPos).toNat
      let rest := (max s.transport.position 0 - r.lastPos).toNat
      let placed := min (waits rest) s.freeSlots
      (waits gap + 1 ≤ s.freeSlots → s' = { s with transport := { s.transport with
        recording := some { r with lastPos := pos }
        tracks := tablePut s.transport.tracks r.track { track with
          recs := track.recs ++ waitRecs (waits gap) ++ [{ body := event, delta := gap - waits gap * 65535 }] } } }) ∧
      (s.freeSlots < waits gap + 1 →
        s'.transport.state = .idle ∧ s'.transport.recording = none ∧ s'.transport.placed = false ∧
        s'.transport.position = s.transport.position ∧ s'.transport.acc = 0 ∧ s'.transport.guideSet = 0#88 ∧
        s'.track r.track = { track with
          recs := track.recs ++ waitRecs placed ++
            [{ body := .endMark, delta := min 65535 (rest - placed * 65535) }]
          reserved := false, opened := 0#88 } ∧
        (∀ i : TrackIx, i ≠ r.track → s'.track i = { s.track i with opened := 0#88 }) ∧
        (∀ c : PedalIx, s'.playChannel c = { level := 0, switch := false }) ∧
        (∀ l : Link, (s'.link l).latched.getLsbD 7 = true) ∧
        ((∀ i : TrackIx, (s.track i).opened = 0#88) → (∀ c : PedalIx, (s.playChannel c).level = 0) →
          s.journal.length ≤ 510 → s'.journal = s.journal ++ [{ body := .takeFull r.track, time := s.now },
            { body := .transport .idle (max (-1048576) (min 1048575 (Int.fdiv s.transport.position 480))),
              time := s.now }]))
    (s.transport.state = .countIn ∨ s.transport.state = .recording →
      (∀ (k : KeyIx) (level : Nat), takes (s.transportKeyOn k level) (.noteOn k level)) ∧
      (∀ (c : PedalIx) (level : Nat), takes (s.transportPedal c level) (.pedal c level))) ∧
    (s.transport.state = .recording →
      ∀ (k : KeyIx) (level : Nat), takes (s.transportKeyOff k level) (.noteOff k level))) ∧
  (∀ (s : State) (k : KeyIx) (c : PedalIx) (level : Nat),
    (s.transport.state ≠ .recording → s.transportKeyOff k level = s) ∧
    (s.transport.state ≠ .recording → s.transport.state ≠ .countIn → s.transportPedal c level = s ∧
      (s.transport.state ≠ .waiting → s.transportKeyOn k level = s)))

/-- R140: a record acts by the mode of its track. In PLAY a NOTE_ON opens its key and appends TRACK_ON, a NOTE_OFF of an
open key closes it and appends TRACK_OFF, and one of a key that is not open does nothing; a PEDAL sets its PLAYBACK level,
judges the switch, and acts on the capture set and the voices of the group as the LIVE channels do on theirs (R54, R56, R57,
R101 to R103); in MUTE and GUIDE the cursor alone moves. R139: a dispatch of a position leaves no record due on any track
but the recorded one. R150: a live KEY_ON in WAITING takes its key out of the wait set or is a miss, and the last key
releases the wait: GUIDE MET, the records at the position, PLAYING, the natural end. Those records have the time at which
the reading arrived (log entry 42). -/
def Obligations.DispatchedRecords : Prop :=
  (∀ (s : State) (i : TrackIx) (r : TakeRec) (pos : Int),
    let s' := s.dispatch i r pos
    let passed : Track := { s.track i with cursor := (s.track i).cursor + 1, cursorPos := pos }
    let appended (b : JournalBody) : List JournalRec :=
      (if s.journal.length < 512 then s.journal else s.journal.tail) ++ [{ body := b, time := s.now }]
    (∀ j : TrackIx, j ≠ i → s'.track j = s.track j) ∧
    ((s.track i).mode ≠ .play → s'.track i = passed ∧ s'.voices = s.voices ∧ s'.play = s.play ∧ s'.journal = s.journal) ∧
    ((s.track i).mode = .play →
      (∀ (k : KeyIx) (level : Nat), r.body = .noteOn k level →
        s'.track i = { passed with opened := KeySet.add (s.track i).opened k } ∧
        s'.journal = appended (.trackOn i k level (findWindow s.windows k level).isSome) ∧
        s'.voices = (s.noteOn (.playback i) k level).1.voices ∧
        (∀ (w : Nat) (win : Window), findWindow s.windows k level = some (w, win) → ∃ v : VoiceIx, s'.voice v = some
          { state := .sounding, source := .playback i, key := k, level := level, release := 64, held := true, window := w,
            position := 0, env := 32767, start := s.now, cost := win.cost })) ∧
      (∀ (k : KeyIx) (level : Nat), r.body = .noteOff k level → KeySet.has (s.track i).opened k = true →
        s'.track i = { passed with opened := KeySet.drop (s.track i).opened k } ∧
        s'.journal = appended (.trackOff i k level) ∧
        (∀ (v : VoiceIx) (x : Voice), s'.voice v = some x → x.source = .playback i → x.key = k → x.held = false)) ∧
      (∀ (k : KeyIx) (level : Nat), r.body = .noteOff k level → KeySet.has (s.track i).opened k = false →
        s'.track i = passed ∧ s'.voices = s.voices ∧ s'.journal = s.journal) ∧
      (∀ (c : PedalIx) (level : Nat), r.body = .pedal c level →
        let old := s.playChannel c
        let on := if old.switch then decide (48 ≤ level) else decide (64 ≤ level)
        let moved (v : Voice) : VoiceState :=
          if c = damperIx ∧ old.level < 100 ∧ 100 ≤ level ∧ v.state = .releasing then .sounding
          else if c = damperIx ∧ 100 ≤ old.level ∧ level < 100 ∧ v.state = .sounding ∧ v.held = false ∧
            KeySet.has s.playCapture v.key = false then .releasing
          else if c = sostenutoIx ∧ old.switch = true ∧ on = false ∧ (s.playChannel damperIx).level < 100 ∧
            v.state = .sounding ∧ v.held = false ∧ KeySet.has s.playCapture v.key = true then .releasing
          else v.state
        s'.track i = passed ∧ s'.playChannel c = { level := level, switch := on } ∧
        (∀ d : PedalIx, d ≠ c → s'.playChannel d = s.playChannel d) ∧
        (∀ k : KeyIx, KeySet.has s'.playCapture k =
          if c = sostenutoIx ∧ old.switch = false ∧ on = true then decide (∃ j : TrackIx, KeySet.has (s.track j).opened k = true)
          else if c = sostenutoIx ∧ old.switch = true ∧ on = false then false
          else KeySet.has s.playCapture k) ∧
        (∀ (j : VoiceIx) (v : Voice), s.voice j = some v →
          s'.voice j = some (if v.source = .live then v else { v with state := moved v })) ∧
        s'.journal = (if old.level = level then s.journal else appended (.pedal .playback c level on true))) ∧
      (r.body = .wait → s'.track i = passed ∧ s'.voices = s.voices ∧ s'.journal = s.journal) ∧
      (r.body = .endMark → s'.track i = { passed with opened := 0#88 }))) ∧
  (∀ s : State, let s' := s.dispatchAll
    s'.transport.position = s.transport.position ∧ s'.transport.state = s.transport.state ∧
    (∀ i : TrackIx, (s'.track i).recs = (s.track i).recs ∧ (s'.track i).mode = (s.track i).mode ∧
      (s.recordedTrack i = true → s'.track i = s.track i) ∧
      (s.recordedTrack i = false → ∀ r : TakeRec, (s'.track i).recs[(s'.track i).cursor]? = some r →
        s.transport.position < (s'.track i).cursorPos + r.delta))) ∧
  (∀ (s : State) (k : KeyIx) (level : Nat), s.transport.state = .waiting →
    let left := KeySet.drop s.transport.guideSet k
    let s' := s.transportKeyOn k level
    let told : State := { s with transport := { s.transport with guideSet := 0#88 } }
    (KeySet.has s.transport.guideSet k = false →
      s' = { s with journal := s'.journal, links := s'.links } ∧
      s'.journal = (if s.journal.length < 512 then s.journal else s.journal.tail) ++
        [{ body := .guideMiss k level, time := s.now }]) ∧
    (KeySet.has s.transport.guideSet k = true → left ≠ 0#88 →
      s' = { s with transport := { s.transport with guideSet := left } }) ∧
    (KeySet.has s.transport.guideSet k = true → left = 0#88 →
      s' = ((told.report .guideMet .guide).dispatchAll.setTransportState .playing).naturalEnd ∧
      ((∀ (i : TrackIx) (r : TakeRec), s.recordedTrack i = false → (s.track i).recs[(s.track i).cursor]? = some r →
          s.transport.position < (s.track i).cursorPos + r.delta) →
        (∃ i : TrackIx, (s.track i).mode ≠ .mute ∧ (s.track i).cursor < (s.track i).recs.length) →
        s.journal.length ≤ 510 →
        s' = { told with
          transport := { told.transport with state := .playing }, journal := s'.journal, links := s'.links } ∧
        s'.journal = s.journal ++ [{ body := .guideMet, time := s.now },
          { body := .transport .playing (max (-1048576) (min 1048575 (Int.fdiv s.transport.position 480))),
            time := s.now }] ∧
        (∀ l : Link, (s'.link l).latched =
          (s.link l).latched ||| Condition.mask .guide ||| Condition.mask .transport))))

/-- R135: the WAIT records that bridge a gap, as recording places them, and the gap's rest. -/
def Obligations.GapsAreBridged : Prop :=
  (∀ g : Nat, 65535 < g →
    gapWaits g = (g - 1) / 65535 ∧ 1 ≤ g - gapWaits g * 65535 ∧ g - gapWaits g * 65535 ≤ 65535) ∧
  (∀ g : Nat, g ≤ 65535 → gapWaits g = 0) ∧
  gapWaits 150000 = 2 ∧ 150000 - gapWaits 150000 * 65535 = 18930 ∧
  gapWaits 131070 = 1 ∧ 131070 - gapWaits 131070 * 65535 = 65535 ∧
  (∀ (s : State) (r : Recording) (body : TakeBody), s.transport.state = .recording → s.transport.recording = some r →
    let gap := (s.transport.position - r.lastPos).toNat
    (gap - 1) / 65535 + 1 ≤ s.freeSlots →
    ((s.recordEvent body).track r.track).recs = (s.track r.track).recs ++
      List.replicate ((gap - 1) / 65535) { body := .wait, delta := 65535 } ++
      [{ body := body, delta := gap - (gap - 1) / 65535 * 65535 }] ∧
    (s.recordEvent body).transport.recording = some { r with lastPos := s.transport.position }) ∧
  (∀ (s : State) (i : TrackIx) (rs : List TakeRec), rs.length ≤ s.freeSlots →
    ((s.appendLoad i rs).1.track i).recs = (s.track i).recs ++ rs)

/-- R141, R151, R158, R160: the transport's settings. A track that leaves PLAY has its open notes released in index order:
its voices take the note-off of level 64, and a TRACK_OFF record is appended for each key. -/
def Obligations.TransportSettings : Prop :=
  ∀ (t : Time) (l : Link) (p : List Byte) (s : State), s.receiving l = true → p.length ≤ 60 → s.running = true →
    (∀ (i : TrackIx) (m : TrackMode), p = [byteOf i.val, byteOf m.code] →
      (s.transport.state.name = .locating ∨ s.transport.state.name = .waiting ∨
          (∃ x : Load, s.transport.load = some x ∧ x.track = i) →
        exec (.setTrackMode t l p) s = .next ((s.stamp t).denied l 0x37 p .busy)) ∧
      (s.transport.state.name ≠ .locating → s.transport.state.name ≠ .waiting →
        (∀ x : Load, s.transport.load = some x → x.track ≠ i) →
        ((s.track i).mode ≠ .play ∨ m = .play → exec (.setTrackMode t l p) s = .next (State.replied
          { s with now := t, transport := { s.transport with
              tracks := tablePut s.transport.tracks i { s.track i with mode := m } } } l 0x37 p p)) ∧
        ((s.track i).mode = .play → m ≠ .play → ∃ s' : State,
          exec (.setTrackMode t l p) s = .next (s'.replied l 0x37 p p) ∧
          s' = { s with
            now := t, voices := s'.voices, journal := s'.journal, links := s'.links
            transport := { s.transport with
              tracks := tablePut s.transport.tracks i { s.track i with mode := m, opened := 0#88 } } } ∧
          (∀ (j : VoiceIx) (v : Voice), s.voice j = some v → s'.voice j = some (
            if v.source = .playback i ∧ v.held = true ∧ KeySet.has (s.track i).opened v.key = true then
              { v with
                held := false, release := 64
                state := if 100 ≤ (s.playChannel damperIx).level ∨ KeySet.has s.playCapture v.key = true then v.state
                  else .releasing }
            else v)) ∧
          (∀ j : VoiceIx, s.voice j = none → s'.voice j = none) ∧
          (let open' := (List.finRange 88).filter (fun k => KeySet.has (s.track i).opened k)
           s.journal.length + open'.length ≤ 512 → s'.journal = s.journal ++
            open'.map (fun k => { body := .trackOff i k 64, time := t }) ∧
            ∀ j : Link, (s'.link j).latched = (s.link j).latched)))) ∧
    (∀ on : Bool, byteAt p 0 = (if on then 1 else 0) → p.length = 10 →
      let a : Int := ((be4At p 1 % 2147483648 : Nat) : Int)
      let b : Int := ((be4At p 5 % 2147483648 : Nat) : Int)
      let n := min 99 (byteAt p 9)
      (on = true → b ≤ a → exec (.setLoop t l p) s = .next ((s.stamp t).denied l 0x39 p .badValue)) ∧
      ((on = false ∨ a < b) → exec (.setLoop t l p) s = .next (State.replied
        { s with now := t, transport := { s.transport with
            loop := { active := on, a := a, b := b, n := n, passes := 0 } } } l 0x39 p
        (yesNo on ++ s4 a ++ s4 b ++ u1 n)))) ∧
    (1 < byteAt p 0 → p.length = 10 → exec (.setLoop t l p) s = .next ((s.stamp t).denied l 0x39 p .badValue)) ∧
    (let beats := max 1 (min 12 (byteAt p 1))
     let level := min 127 (byteAt p 2)
     exec (.setMetronome t l p) s = .next ((s.stamp t).outcome l 0x3A p
      [(p.length != 3, .badLength), (decide (1 < byteAt p 0), .badValue)]
      { s with now := t, transport := { s.transport with
          metronome := { on := decide (byteAt p 0 = 1), beats := beats, level := level } } }
      (yesNo (decide (byteAt p 0 = 1)) ++ u1 beats ++ u1 level)))

/-- R161 to R164: a load opens over an erased track, takes records whole or is aborted by a full pool, and ends with its END
in the reserved slot; ERASE_TRACK leaves the END alone. The track's cursor stays where it was, meaning nothing until a walk
(log entry 22). -/
def Obligations.LoadsAndErase : Prop :=
  ∀ (t : Time) (l : Link) (s : State), s.receiving l = true → s.running = true →
    (∀ i : TrackIx, s.transport.state = .idle → s.transport.load = none →
      (∃ s' : State,
        exec (.eraseTrack t l [byteOf i.val]) s = .next (s'.replied l 0x38 [byteOf i.val] (u2 s'.freeSlots)) ∧
        s'.track i = { s.track i with recs := [{ body := .endMark, delta := 0 }], reserved := false } ∧
        (∀ j : TrackIx, j ≠ i → s'.track j = s.track j) ∧
        s' = { s with now := t, transport := { s.transport with tracks := s'.transport.tracks, placed := false } }) ∧
      (s.linkPresent l = true → ∃ s' : State,
        exec (.loadBegin t l [byteOf i.val]) s = .next (s'.replied l 0x3B [byteOf i.val] (u2 s'.freeSlots)) ∧
        s'.track i = { s.track i with recs := [], reserved := true, mode := .mute } ∧
        (∀ j : TrackIx, j ≠ i → s'.track j = s.track j) ∧
        s' = { s with now := t, transport := { s.transport with
          tracks := s'.transport.tracks, placed := false, load := some { track := i, link := l } } })) ∧
    (∀ (i : TrackIx) (rs : List TakeRec), s.transport.load = some { track := i, link := l } → rs ≠ [] → rs.length ≤ 12 →
      (∀ r ∈ rs, r.body ≠ .endMark ∧ r.delta ≤ 65535 ∧ takeOfWord r.word = some r) →
      let p := u1 rs.length ++ rs.flatMap (fun r => u4 r.word)
      (rs.length ≤ s.freeSlots → ∃ s' : State,
        exec (.loadAppend t l p) s = .next (s'.replied l 0x3C p (u1 0 ++ u2 (s'.track i).recs.length)) ∧
        s'.track i = { s.track i with recs := (s.track i).recs ++ rs } ∧
        (∀ j : TrackIx, j ≠ i → s'.track j = s.track j) ∧
        s' = { s with now := t, transport := { s.transport with tracks := s'.transport.tracks } }) ∧
      (s.freeSlots < rs.length → ∃ s' : State,
        exec (.loadAppend t l p) s = .next (s'.replied l 0x3C p (u1 1)) ∧ s'.transport.load = none ∧
        s'.track i = { s.track i with recs := [{ body := .endMark, delta := 0 }], reserved := false } ∧
        s'.journal = (if s.journal.length < 512 then s.journal else s.journal.tail) ++
          [{ body := .takeLoadAborted i .poolFull, time := t }])) ∧
    (∀ (i : TrackIx) (hi lo : Byte), s.transport.load = some { track := i, link := l } → ∃ s' : State,
      exec (.loadEnd t l [hi, lo]) s = .next (s'.replied l 0x3D [hi, lo] (u2 (s'.track i).recs.length)) ∧
      s'.track i = { s.track i with
        recs := (s.track i).recs ++ [{ body := .endMark, delta := hi.toNat * 256 + lo.toNat }], reserved := false } ∧
      (∀ j : TrackIx, j ≠ i → s'.track j = s.track j) ∧
      s' = { s with now := t, transport := { s.transport with tracks := s'.transport.tracks, load := none } }) ∧
    ((∀ i : TrackIx, s.transport.load ≠ some { track := i, link := l }) →
      (∀ p : List Byte, p.length ≤ 60 → p.length = 1 + 4 * byteAt p 0 →
        exec (.loadAppend t l p) s = .next ((s.stamp t).denied l 0x3C p .wrongState)) ∧
      (∀ p : List Byte, p.length = 2 → exec (.loadEnd t l p) s = .next ((s.stamp t).denied l 0x3D p .wrongState)))

/-! ### The journal and the links -/

/-- R183, RELAY: its checks in order, the record, and what the append does to each link. -/
def Obligations.Relay : Prop :=
  ∀ (t : Time) (l : Link) (p : List Byte) (s : State), s.receiving l = true → p.length ≤ 60 →
    JournalLaw s → ∃ s' : State,
    exec (.relay t l p) s = .next ((s.stamp t).outcome l 0x11 p
      [(!s.running, .notReady), (p.length != 3, .badLength), (!s.linkPresent l, .wrongState)] s'
      (timeField t ++ u2 (s'.unread l))) ∧
    s' = { s with now := t, journal := s'.journal, links := s'.links } ∧
    s'.journal = (if s.journal.length < 512 then s.journal else s.journal.tail) ++
      [{ body := .relay l (p.getD 0 0#8) (p.getD 1 0#8) (p.getD 2 0#8), time := t }] ∧
    (∀ j : Link,
      s'.link j = { s.link j with view := (s'.link j).view, latched := (s'.link j).latched } ∧
      (s'.journalCondition j = true ↔ s.linkPresent j = true ∧ (s.link j).watermark ≤ s'.unread j) ∧
      (∀ n : Nat, (s.link j).view = .absent n →
        (s'.link j).view = .absent (min 255 (n + 1)) ∧ (s'.link j).latched = (s.link j).latched) ∧
      (∀ c g : Nat, (s.link j).view = .present c g → s.journal.length < 512 →
        (s'.link j).view = .present c g ∧ s'.unread j = s.unread j + 1 ∧ (s'.link j).latched = (s.link j).latched) ∧
      (∀ c g : Nat, (s.link j).view = .present (c + 1) g → s.journal.length = 512 →
        (s'.link j).view = .present c g ∧ s'.unread j = s.unread j + 1 ∧ (s'.link j).latched = (s.link j).latched) ∧
      (∀ g : Nat, (s.link j).view = .present 0 g → s.journal.length = 512 →
        (s'.link j).view = .present 0 (min 255 (g + 1)) ∧ s'.unread j = 512 ∧
        (s'.link j).latched = (s.link j).latched ||| Condition.mask .gap))

/-- R180, READ_JOURNAL: its checks in order; the pending gap first, then the unread records, oldest first, as far as the
maximum gives room; the cursor past them; the removal of what every present link has read (R177). -/
def Obligations.ReadJournal : Prop :=
  ∀ (t : Time) (l : Link) (s : State), s.receiving l = true → JournalLaw s →
    (∀ p : List Byte, s.running = false → p.length ≤ 60 →
      exec (.readJournal t l p) s = .next ((s.stamp t).denied l 0x10 p .notReady)) ∧
    (∀ p : List Byte, s.running = true → p.length ≠ 1 →
      exec (.readJournal t l p) s = .next ((s.stamp t).denied l 0x10 p .badLength)) ∧
    (∀ b : Byte, s.running = true → 7 < b.toNat →
      exec (.readJournal t l [b]) s = .next ((s.stamp t).denied l 0x10 [b] .badValue)) ∧
    (∀ (b : Byte) (n : Nat), s.running = true → b.toNat ≤ 7 → (s.link l).view = .absent n →
      exec (.readJournal t l [b]) s = .next ((s.stamp t).denied l 0x10 [b] .wrongState)) ∧
    (∀ (b : Byte) (cursor gap : Nat), s.running = true → b.toNat ≤ 7 → (s.link l).view = .present cursor gap →
      let told := decide (0 < gap ∧ 1 ≤ b.toNat)
      let room := if told then b.toNat - 1 else b.toNat
      let records := (s.journal.drop cursor).take room
      let gap' := if told then 0 else gap
      let unread := s.journal.length - cursor - records.length
      let entries := (if told then [0x20#8, byteOf gap, 0#8, 0#8] ++ timeField t else []) ++
        records.flatMap JournalRec.bytes
      records.length = min room (s.unread l) ∧ entries.length ≤ 56 ∧
      ∃ s' : State,
        exec (.readJournal t l [b]) s = .next (s'.replied l 0x10 [b] (entries ++ u2 unread ++ u1 gap')) ∧
        s'.unread l = unread ∧ (s'.link l).view.gapCount = gap' ∧
        (records = [] → s'.journal = s.journal) ∧
        (records ≠ [] →
          s'.journal = s.journal.drop (match (s.link (otherLink l)).view with
            | .present c _ => min c (cursor + records.length)
            | .absent _ => cursor + records.length)) ∧
        (∀ j : Link, s'.link j = { s.link j with view := (s'.link j).view }) ∧
        s'.unread (otherLink l) = s.unread (otherLink l) ∧
        (s'.link (otherLink l)).view.gapCount = (s.link (otherLink l)).view.gapCount ∧
        s' = { s with now := t, journal := s'.journal, links := s'.links })

/-- R192 to R195: the attention requests. Each reaches the requesting link's own record, and LINK_RESET the journal's place
of that link. The order of FORCE_CONDITION's checks is deduced (log entry 31). -/
def Obligations.AttentionRequests : Prop :=
  ∀ (t : Time) (l : Link) (p : List Byte) (s : State), s.receiving l = true → p.length ≤ 60 →
    let r := s.link l
    let c := condsAt p 0
    let latched := c &&& 0x0FFF#16
    let put (x : LinkRec) : State := { s with now := t, links := s.links.put l x }
    exec (.readConditions t l p) s = .next ((s.stamp t).outcome l 0x02 p [(p.length != 0, .badLength)]
      (put (if r.onAck then r else { r with latched := 0#16 }))
      (condSetField r.latched ++ yesNo (s.journalCondition l) ++ condSetField r.mask ++ yesNo r.onAck ++ u2 r.watermark ++
        u2 (s.unread l))) ∧
    exec (.ackConditions t l p) s = .next ((s.stamp t).outcome l 0x03 p
      [(p.length != 2, .badLength), (decide (8192 ≤ be2At p 0), .badValue)]
      (put { r with latched := r.latched &&& ~~~ latched }) (condSetField (r.latched &&& ~~~ latched))) ∧
    exec (.forceCondition t l p) s = .next ((s.stamp t).outcome l 0x04 p
      [(!s.running, .notReady), (p.length != 2, .badLength), (decide (4096 ≤ be2At p 0), .badValue)]
      (put { r with latched := r.latched ||| latched }) (condSetField (r.latched ||| latched))) ∧
    (let watermark := max 1 (min 256 (be2At p 3))
     exec (.setAttention t l p) s = .next ((s.stamp t).outcome l 0x05 p
      [(p.length != 5, .badLength), (decide (8192 ≤ be2At p 0) || decide (1 < byteAt p 2), .badValue)]
      (put { r with mask := c, onAck := decide (byteAt p 2 = 1), watermark := watermark })
      (condSetField c ++ yesNo (decide (byteAt p 2 = 1)) ++ u2 watermark))) ∧
    (p ≠ [] → exec (.linkReset t l p) s = .next ((s.stamp t).denied l 0x06 p .badLength)) ∧
    (∃ s' : State, exec (.linkReset t l []) s = .next (s'.replied l 0x06 [] (u2 0)) ∧ s'.unread l = 0 ∧
      (s'.link l).latched = 0#16 ∧ (s'.link l).mask = Condition.mask .startup ||| Condition.mask .journal ∧
      (s'.link l).onAck = true ∧ (s'.link l).watermark = 1 ∧ s'.attn l = false ∧
      (∀ cursor gap : Nat, r.view = .present cursor gap → (s'.link l).view = .present s'.journal.length 0) ∧
      (∀ n : Nat, r.view = .absent n → (s'.link l).view = .absent 0) ∧
      (JournalLaw s → s'.unread (otherLink l) = s.unread (otherLink l)) ∧
      s'.link (otherLink l) = { s.link (otherLink l) with view := (s'.link (otherLink l)).view } ∧
      s' = { s with now := t, journal := s'.journal, links := s'.links })

/-- R186, R187, R188: the transaction's phases; a frame longer than 60 and every code that 11.1 does not give are refused;
out of RECEIVING no request is taken (a request command is a whole frame, log entry 3). What the part shifts out is nothing
in IDLE, A5h in RECEIVING and DISCARDING, and in ANSWERING the response after its filler bytes, whose number is open (log
entry 28). -/
def Obligations.Transactions : Prop :=
  (∀ (t : Time) (l : Link) (s : State),
    let put (x : LinkRec) : State := { s with now := t, links := s.links.put l x }
    let r := s.link l
    let known (n : Nat) : Prop := 0x01 ≤ n ∧ n ≤ 0x0A ∨ n = 0x10 ∨ n = 0x11 ∨ n = 0x18 ∨ 0x20 ≤ n ∧ n ≤ 0x23 ∨
      0x30 ≤ n ∧ n ≤ 0x3F ∨ 0x40 ≤ n ∧ n ≤ 0x46 ∨ 0x50 ≤ n ∧ n ≤ 0x59 ∨ n = 0x60 ∨ n = 0x61
    exec (.selectAsserted t l) s = .next (put { r with
      select := true, transaction := match r.transaction with | .idle => .receiving [] | x => x }) ∧
    exec (.selectDeasserted t l) s = .next (put { r with select := false, transaction := .idle }) ∧
    (∀ request response : List Byte, r.transaction = .answering request response →
      exec (.responseShiftedOut t l) s = .next (put { r with transaction := .discarding })) ∧
    ((∀ request response : List Byte, r.transaction ≠ .answering request response) →
      exec (.responseShiftedOut t l) s = .next { s with now := t }) ∧
    (∀ (code length : Byte) (p : List Byte), s.receiving l = true → 60 < length.toNat →
      exec (.unknownRequest t l code length p) s =
        .next (put { r with transaction := .answering [code, length] [5#8, 0#8] })) ∧
    (∀ (code length : Byte) (p : List Byte), s.receiving l = true → length.toNat ≤ 60 →
      ¬known code.toNat →
      exec (.unknownRequest t l code length p) s =
        .next (put { r with transaction := .answering (code :: length :: p) [4#8, 0#8] })) ∧
    (∀ i : Instr, commandTime i = t → requestLink i = some l → s.receiving l = false →
      exec i s = .next { s with now := t })) ∧
  (∀ (fillers n : Nat) (request response : List Byte),
    Transaction.idle.shiftsOut fillers n = none ∧
    (Transaction.receiving request).shiftsOut fillers n = some 0xA5#8 ∧
    Transaction.discarding.shiftsOut fillers n = some 0xA5#8 ∧
    (n < fillers → (Transaction.answering request response).shiftsOut fillers n = some 0xA5#8) ∧
    (n < response.length →
      (Transaction.answering request response).shiftsOut fillers (fillers + n) = response[n]?))

/-- R178, R179, R189, R202: a PRESENT line that has held its level 10 ms is judged (log entry 2). A link that comes has its
cursor at the newest end and is told what it missed; one that goes loses its cursor, its seat, its recording and its load,
and keeps its vote and its attention settings. Its departure appends, in this order: SEAT with cause ABSENT, CAL LEARN_DONE,
an aborted test's records (RAIL first, log entry 27), TRACK_OFF of the notes and PEDAL of the channels that the stop of its
recording ends (in channel order, log entry 14), TRANSPORT IDLE, and TAKE LOAD_ABORTED with LINK_ABSENT; all count as
records it missed. -/
def Obligations.PresenceIsJudged : Prop :=
  ∀ (t : Time) (l : Link) (s : State), JournalLaw s → AttentionLaw s →
    (((s.link l).presentRaw.on = false ∨ (t - (s.link l).presentRaw.since).toNat < 10000 ∨ s.linkPresent l = true) →
      exec (.linkJudgedPresent t l) s = .next { s with now := t }) ∧
    (((s.link l).presentRaw.on = true ∨ (t - (s.link l).presentRaw.since).toNat < 10000 ∨ s.linkPresent l = false) →
      exec (.linkJudgedAbsent t l) s = .next { s with now := t }) ∧
    (∀ n : Nat, (s.link l).presentRaw.on = true → 10000 ≤ (t - (s.link l).presentRaw.since).toNat →
      (s.link l).view = .absent n → ∃ s' : State, exec (.linkJudgedPresent t l) s = .next s' ∧
        (s'.link l).view = .present s'.journal.length n ∧ s'.unread l = 0 ∧ s'.journalCondition l = false ∧
        s'.link l = { s.link l with
          view := (s'.link l).view
          latched := if n = 0 then (s.link l).latched else (s.link l).latched ||| Condition.mask .gap } ∧
        s'.link (otherLink l) = { s.link (otherLink l) with view := (s'.link (otherLink l)).view } ∧
        s'.unread (otherLink l) = s.unread (otherLink l) ∧
        (s.linkPresent (otherLink l) = false → s'.journal = []) ∧
        (s.linkPresent (otherLink l) = true → s'.journal = s.journal) ∧
        s' = { s with now := t, journal := s'.journal, links := s'.links }) ∧
    (∀ cursor gap : Nat, (s.link l).presentRaw.on = false → 10000 ≤ (t - (s.link l).presentRaw.since).toNat →
      (s.link l).view = .present cursor gap → ∃ s' : State, exec (.linkJudgedAbsent t l) s = .next s' ∧
        s'.linkPresent l = false ∧ s'.journalCondition l = false ∧ s'.seat ≠ some l ∧
        (∀ x : Recording, s'.transport.recording = some x → x.owner ≠ l) ∧
        (∀ x : Load, s'.transport.load = some x → x.link ≠ l) ∧
        s'.rail.votes = s.rail.votes ∧ s'.layer = s.layer ∧
        (s'.link l).mask = (s.link l).mask ∧ (s'.link l).onAck = (s.link l).onAck ∧
        (s'.link l).watermark = (s.link l).watermark ∧ (s'.link l).transaction = (s.link l).transaction ∧
        (s.seat ≠ some l → (∀ x : Recording, s.transport.recording = some x → x.owner ≠ l) →
          (∀ x : Load, s.transport.load = some x → x.link ≠ l) →
          (s'.link l).view = .absent 0 ∧ (s'.link l).latched = (s.link l).latched ∧
          s'.unread (otherLink l) = s.unread (otherLink l) ∧
          s' = { s with now := t, journal := s'.journal, links := s'.links }) ∧
        (s.journal.length ≤ 140 →
          let at' (b : JournalBody) : JournalRec := { body := b, time := t }
          let holds : Prop := s.seat = some l
          let stops : Prop := s.transport.recording.map (fun x => x.owner) = some l
          let kept := match (s.link (otherLink l)).view with
            | .present c _ => s.journal.drop c
            | .absent _ => s.journal
          let position : Int := match s.transport.state with | .locating target _ => target | _ => s.transport.position
          let seat := if holds then [at' (.seat none (some l) .absent)] else []
          let learn := if holds ∧ s.learn.map (fun x => x.link) = some l then
            [at' (.calLearnDone s.learnAcceptedCount s.learnRejectedCount)] else []
          let test := match s.test with
            | some x => if holds then [at' (.test x.run.kind 255 2)] else []
            | none => []
          let stop := if stops then
              (List.finRange 4).flatMap (fun i =>
                ((List.finRange 88).filter (fun k => KeySet.has (s.track i).opened k)).map (fun k => at' (.trackOff i k 64))) ++
              ((List.finRange 3).filter (fun c => (s.playChannel c).level != 0)).map
                (fun c => at' (.pedal .playback c 0 false true)) ++
              (if s.transport.state.name = .idle then [] else
                [at' (.transport .idle (max (-1048576) (min 1048575 (Int.fdiv position 480))))])
            else []
          let load := match s.transport.load with
            | some x => if x.link = l then [at' (.takeLoadAborted x.track .linkAbsent)] else []
            | none => []
          ∃ rails : List JournalRec,
            (∀ r ∈ rails, ∃ name : RailName, r = at' (.rail name none .none s.rail.votes)) ∧
            (¬holds ∨ s.testKind ≠ some .railCycle → rails = []) ∧
            s'.journal = kept ++ seat ++ learn ++ rails ++ test ++ stop ++ load ∧
            (s'.link l).view = .absent (min 255 (s'.journal.length - kept.length)) ∧
            (s.linkPresent (otherLink l) = true →
              s'.unread (otherLink l) = s.unread (otherLink l) + (s'.journal.length - kept.length))))

/-- R199, R200, R201: the seat requests, their checks in order, the change each makes and the SEAT record first among those
it hands on. -/
def Obligations.SeatRequests : Prop :=
  ∀ (t : Time) (l : Link) (p : List Byte) (s : State), s.receiving l = true → p.length ≤ 60 →
    let record (s' : State) (after : Option Link) (cause : SeatCause) : Prop :=
      s'.seat = after ∧
      (s.learn = none → s.test = none → s'.journal =
        (if s.journal.length < 512 then s.journal else s.journal.tail) ++
          [{ body := .seat after s.seat cause, time := t }]) ∧
      (s.journal.length ≤ 480 → ∃ more : List JournalRec, s'.journal =
        s.journal ++ { body := .seat after s.seat cause, time := t } :: more) ∧
      (∀ j : Link, (s'.link j).latched.getLsbD 6 = true) ∧
      (∀ x : Learn, s.learn = some x → s.seat = some x.link → s'.learn = none) ∧ s'.test = none ∧
      s'.commit.isSome = s.commit.isSome ∧ s'.layer = s.layer ∧ s'.rail.votes = s.rail.votes ∧ s'.transport = s.transport
    (∃ s' : State,
      exec (.seatClaim t l p) s = .next ((s.stamp t).outcome l 0x08 p
        [(p.length != 0, .badLength), (!s.linkPresent l, .wrongState), (s.seat == some (otherLink l), .busy)] s'
        (u1 (linkCode l))) ∧
      (s.seat = some l → s' = { s with now := t }) ∧ (s.seat = none → record s' (some l) .claim) ∧
      (s.seat = none → s.linkPresent l = true → p = [] → s'.receiving (otherLink l) = true →
        s'.linkPresent (otherLink l) = true →
        exec (.seatClaim t (otherLink l) []) s' = .next (s'.denied (otherLink l) 0x08 [] .busy))) ∧
    (∃ s' : State,
      exec (.seatYield t l p) s = .next ((s.stamp t).outcome l 0x09 p
        [(p.length != 0, .badLength), (s.seat != some l, .noSeat)] s' (u1 0)) ∧ record s' none .yieldSeat) ∧
    (∃ s' : State,
      exec (.seatPass t l p) s = .next ((s.stamp t).outcome l 0x0A p
        [(p.length != 0, .badLength), (s.seat != some l, .noSeat), (!s.linkPresent (otherLink l), .wrongState)] s'
        (u1 (linkCode (otherLink l)))) ∧ record s' (some (otherLink l)) .pass)

/-- R196, R197 and the reading requests of each chapter (R30, R43, R60, R84, R108, R130, R165, R211): each gives its fields
as they stand, in the order of its rule, in at most 60 bytes, and changes nothing but the transaction; READ_STATUS clears
the clip latches after giving them. The bits of POLL's byte are those of 11.1; widths, presence bytes and the codes that
chapter 11 does not give follow R219 and log entry 15; a time too old is sent as its difference (log entry 38). -/
def Obligations.ReadsChangeNothing : Prop :=
  ∀ (t : Time) (l : Link) (s : State), s.receiving l = true →
    let s0 := s.stamp t
    let r := s.rail
    let x := s.transport
    let since (t0 : Time) : List Byte := u4 (t - t0).toNat
    let cal (c : KeyCal) : List Byte := u2 c.r ++ u2 c.b ++ u2 c.d ++ u1 c.g
    let jack (j : Jack) : List Byte := u1 j.state.code ++ [if j.clip then 0#8 else 1#8]
    let phase : List Byte := optional 1 (r.state.testPhase.map (fun p => u1 (travelCode p)))
    let gives (i : Instr) (code : Nat) (p payload : List Byte) : Prop :=
      exec i s = .next (s0.replied l code p payload)
    (∃ b : Byte, gives (.poll t l []) 0x01 [] [b] ∧ (b.getLsbD 0 = s.attn l) ∧ (b.getLsbD 1 = decide (s.seat = some l)) ∧
      b.toNat / 4 % 4 = (match s.rail.state.name with | .parked => 0 | .engaged => 1 | .fault => 3 | _ => 2) ∧
      b.toNat / 16 % 4 = (match s.transport.state.name with | .idle => 0 | .waiting => 2 | .paused => 3 | _ => 1) ∧
      (b.getLsbD 6 = decide (0 < s.unread l)) ∧ (b.getLsbD 7 = s.running)) ∧
    (let payload := u1 r.state.name.code ++ phase ++ u1 r.state.cause.code ++ yesNo s.silentEffective ++ u1 r.votes.code ++
        jack s.jacks.j1 ++ jack s.jacks.j2 ++ u1 s.supply.name.code ++
        optional 1 (s.supply.fail.map (fun f => u1 f.code)) ++ u1 x.state.name.code ++ s4 x.position ++
        u1 s.voicesUsed ++ u1 s.costSum ++ u1 (match s.seat with | none => 0 | some .a => 1 | some .b => 2) ++
        u1 s.startUp.phase.code
     payload.length = 22 ∧
     exec (.readStatus t l []) s = .next (State.replied
        { s0 with jacks := { j1 := { s.jacks.j1 with clip := false }, j2 := { s.jacks.j2 with clip := false } } }
        l 0x07 [] payload)) ∧
    (s.running = true →
      (∀ k : KeyIx,
        let y := s.key k
        let c := s.keyCal k
        let f := s.cal.touch
        let payload := u1 y.state.code ++ optional 6 (y.last.map (fun v => u2 v.1 ++ timeField v.2)) ++
          optional 1 (match y.state with | .onset .fresh _ => some [0#8] | .onset .short _ => some [1#8] | _ => none) ++
          optional 4 (match y.state with
            | .onset _ ts => some (timeField ts) | .restrike ts _ => some (timeField ts) | _ => none) ++
          optional 4 (match y.state with
            | .rearmed tu => some (timeField tu) | .restrike _ tu => some (timeField tu) | _ => none) ++
          u1 y.implausible ++ u2 y.recovery ++
          optional 1 (match y.state with | .faulty .readings => some [0#8] | .faulty .span => some [1#8] | _ => none) ++
          cal c ++ s2 (c.level f.fOn) ++ s2 (c.level f.fRel) ++ s2 (c.level f.fRa) ++ s2 (c.level f.fSt) ++
          optional 7 (y.pendingCal.map cal) ++ yesNo y.learnWaiting ++
          optional 4 (match y.state with | .learn (some (lo, hi)) => some (u2 lo ++ u2 hi) | _ => none)
        payload.length = 54 ∧ gives (.readKey t l [byteOf k.val]) 0x40 [byteOf k.val] payload) ∧
      (∀ n : Fin 4, gives (.readTouch t l [byteOf n.val]) 0x41 [byteOf n.val]
        (u1 s.cal.touch.fOn ++ u1 s.cal.touch.fRel ++ u1 s.cal.touch.fRa ++ u1 s.cal.touch.fSt ++ u1 s.cal.touch.hyst ++
          u2 s.cal.touch.quietMs ++ u1 s.cal.activeCurve ++
          (List.finRange 8).flatMap (fun i => u2 s.cal.curves[n][i].v ++ u1 s.cal.curves[n][i].l))) ∧
      (let payload :=
        (List.finRange 3).flatMap (fun i => u2 s.cal.pedals[i].rest ++ u2 s.cal.pedals[i].full) ++
        (List.finRange 3).flatMap (fun i =>
          let y := s.liveChannel i
          u1 y.level ++ u1 y.published ++ yesNo y.switch ++ [if y.connected then 0#8 else 1#8]) ++
        (List.finRange 3).flatMap (fun i => u1 (s.playChannel i).level ++ yesNo (s.playChannel i).switch) ++
        keySetField s.liveCapture ++ keySetField s.playCapture
       payload.length = 52 ∧ gives (.readPedals t l []) 0x42 [] payload) ∧
      (let payload := u1 r.state.name.code ++ phase ++
        u1 (match r.drive with | none => 0 | some g => match g.dir with | .inward => 1 | .outward => 2) ++
        u1 r.state.cause.code ++ s2 r.count ++ optional 1 (r.target.map (fun e => u1 (travelCode e))) ++
        optional 2 (r.segCount.map u2) ++ u2 s.cal.cEng ++ yesNo r.park ++ yesNo r.stop ++
        optional 4 (r.drive.map (fun g => since g.start)) ++
        optional 5 (match r.state with
          | .pendingIn p given => some (since p ++ yesNo given)
          | .pendingOut p given => some (since p ++ yesNo given)
          | _ => none) ++
        u1 r.votes.code ++ yesNo s.silentEffective ++ u1 r.quiet.notAtRest ++ yesNo r.quiet.start.isSome ++
        yesNo r.quiet.quiet
       payload.length = 32 ∧ gives (.readRail t l []) 0x43 [] payload) ∧
      (∀ (i : VoiceIx) (n : Nat), 1 ≤ n → n ≤ 2 → i.val + n ≤ 48 →
        let field (j : VoiceIx) : List Byte := match s.voice j with
          | none => byteOf j.val :: List.replicate 18 0#8
          | some v => u1 j.val ++ u1 (match v.state with | .sounding => 1 | .releasing => 2 | .damping => 3) ++
            (match v.source with | .live => [0#8, 0#8, 0#8] | .playback k => [1#8, 1#8, byteOf k.val]) ++
            u1 v.key.val ++ u1 v.level ++ u1 v.release ++ yesNo v.held ++ u1 v.window ++ u4 v.position ++ u2 v.env ++
            u1 v.cost ++ u2 (min 32767 ((t - v.start).toNat / 1000))
        let payload := u1 s.voicesUsed ++ u1 s.costSum ++ yesNo s.layer ++ yesNo s.liveRoute ++
          ((List.finRange 48).filter (fun j => decide (i.val ≤ j.val ∧ j.val < i.val + n))).flatMap field
        payload.length = 4 + 19 * n ∧
        gives (.readVoices t l [byteOf i.val, byteOf n]) 0x44 [byteOf i.val, byteOf n] payload) ∧
      (∀ first n : Nat, first < 256 → n ≤ 2 → first + n ≤ s.windows.length →
        let payload := (match s.startUp.samples with | some (.present _) => [0#8] | _ => [1#8]) ++ u1 s.windows.length ++
          ((s.windows.drop first).take n).flatMap (fun w =>
            u1 w.keyLo ++ u1 w.keyHi ++ u1 w.levelLo ++ u1 w.levelHi ++ u4 w.base ++ u4 w.stride ++ u4 w.length ++
            optional 4 (w.loop.map u4) ++ u1 w.cost)
        payload.length = 2 + 22 * n ∧
        gives (.readWindows t l [byteOf first, byteOf n]) 0x45 [byteOf first, byteOf n] payload) ∧
      (∀ (i : TrackIx) (first n : Nat), first < 65536 → n ≤ 12 → first ≤ (s.track i).recs.length →
        gives (.readTake t l (u1 i.val ++ u2 first ++ u1 n)) 0x3E (u1 i.val ++ u2 first ++ u1 n)
          (u2 (s.track i).recs.length ++ (((s.track i).recs.drop first).take n).flatMap (fun y => u4 y.word))) ∧
      (let payload := u1 x.state.name.code ++ s4 x.position ++
        optional 1 (match x.state with | .paused f => some (u1 f.code) | _ => none) ++
        optional 4 (match x.state with | .locating target _ => some (s4 target) | _ => none) ++ u2 x.tempo ++ u1 x.scale ++
        optional 2 (x.recording.map (fun y => u1 y.track.val ++ u1 (linkCode y.owner))) ++
        optional 2 (x.load.map (fun y => u1 y.track.val ++ u1 (linkCode y.link))) ++ yesNo x.placed ++
        keySetField x.guideSet ++ yesNo x.loop.active ++ s4 x.loop.a ++ s4 x.loop.b ++ u1 x.loop.n ++ u1 x.loop.passes ++
        yesNo x.metronome.on ++ u1 x.metronome.beats ++ u1 x.metronome.level ++ u2 s.freeSlots
       payload.length = 49 ∧ gives (.readTransport t l [0#8]) 0x3F [0#8] payload) ∧
      (∀ i : TrackIx, gives (.readTransport t l [byteOf (i.val + 1)]) 0x3F [byteOf (i.val + 1)]
        (u1 (s.track i).mode.code ++ u2 (s.track i).slots ++ u2 (s.track i).cursor ++ keySetField (s.track i).opened))) ∧
    (∀ n : Nat, n ≤ 88 →
      let y := s.startUp
      let faulty := (List.finRange 88).filter (fun k => y.faultyKeys.any (fun m => KeySet.has m k))
      let origins (o : Origin) : Nat := ((List.finRange 88).filter (fun k => s.cal.origins[k] = o)).length
      let payload := u1 y.phase.code ++ [1#8, if y.resetKind = .powerOn then 0#8 else 1#8] ++
        optional 3 (y.calSource.map (fun c => match c with
          | .stored => [0#8, 0#8, 0#8] | .defaults g => [1#8, 1#8, byteOf g.code])) ++
        optional 1 (y.disconnected.map (fun ps => u1 (ps.map (fun c => 2 ^ c.val)).sum)) ++
        optional 3 (y.railOutcome.map (fun o =>
          u1 o.1.code ++ if o.1 = .fault then [1#8, byteOf o.2.code] else [0#8, 0#8])) ++
        optional 3 (y.samples.map (fun o => match o with
          | .present k => [0#8, 1#8, byteOf k] | .absent => [1#8, 0#8, 0#8])) ++
        [1#8, if y.takeStore = .preserved then 0#8 else 1#8] ++
        u1 faulty.length ++ ((faulty.drop n).take 8).map (fun k => byteOf k.val) ++
        u1 ((List.finRange 88).filter (fun k => !(s.key k).evaluated)).length ++
        u1 ((List.finRange 3).filter (fun i => !(s.liveChannel i).evaluated)).length ++
        [if s.saved then 0#8 else 1#8] ++ u1 s.commitCount ++
        u1 (origins .default) ++ u1 (origins .written) ++ u1 (origins .learned) ++
        optional 1 (s.commit.map (fun c => u1 c.page)) ++
        optional 2 (s.test.map (fun z => u1 z.run.kind.code ++ yesNo z.continuous)) ++ u2 s.runs ++
        optional 11 (s.lastResult.map (fun z => u1 z.kind.code ++ u1 z.code ++ u1 z.detail ++ (match z.measure with
          | .none => List.replicate 8 0#8
          | .scan m first => u1 m ++ optional 1 (first.map (fun k => u1 k.val)) ++ List.replicate 5 0#8
          | .travel i o => u4 i ++ u4 o
          | .offset b => u2 b ++ List.replicate 6 0#8)))
      payload.length ≤ 60 ∧ gives (.readStartup t l [byteOf n]) 0x46 [byteOf n] payload)

/-! ### The calibration store and the service tests -/

/-- R206, R207: COMMIT forms the image of the working copy with the next count and sends page 0; each acknowledgement writes
the page sent last and sends the next; that of page 51 ends the commit as done; 20 ms without one end it as failed (log
entry 2), the page being left with unknown bytes (log entry 6). -/
def Obligations.CommitWritesPages : Prop :=
  ∀ (t : Time) (s : State),
    (∀ (l : Link) (p : List Byte), s.receiving l = true → p.length ≤ 60 →
      let n := (s.commitCount + 1) % 256
      exec (.commit t l p) s = .next ((s.stamp t).outcome l 0x56 p
        [(!s.heldOrRunning, .notReady), (s.seat != some l, .noSeat), (p.length != 0, .badLength),
          (s.commit.isSome || s.learn.isSome || decide (s.testKind = some .readback), .busy)]
        { s with now := t, commit := some { page := 0, image := imageOf s.cal n, count := n, sentAt := t, changed := false } }
        (u1 n ++ u2 (sumNat ((imageBody s.cal n).map (fun b => b.toNat)) % 65536)))) ∧
    (s.commit = none →
      exec (.commitPageAck t) s = .next { s with now := t } ∧ exec (.commitPageTimeout t) s = .next { s with now := t }) ∧
    (∀ c : Commit, s.commit = some c → StoreLaw s →
      let written (s' : State) : Prop := s'.eeprom.length = 832 ∧ ∀ i : Nat, s'.eeprom.getD i 0#8 =
        if 16 * c.page ≤ i ∧ i < 16 * c.page + 16 then c.image.getD i 0#8 else s.eeprom.getD i 0#8
      (c.page < 51 → ∃ s' : State, exec (.commitPageAck t) s = .next s' ∧ written s' ∧
        s' = { s with now := t, eeprom := s'.eeprom, commit := some { c with page := c.page + 1, sentAt := t } }) ∧
      (c.page = 51 → ∃ s' : State, exec (.commitPageAck t) s = .next s' ∧ written s' ∧ s'.commit = none ∧
        s'.commitCount = c.count ∧ s'.saved = (if c.changed then s.saved else true) ∧ s'.committed = true ∧
        s'.led = s'.ledShows ∧
        s'.journal = (if s.journal.length < 512 then s.journal else s.journal.tail) ++
          [{ body := .calCommitDone, time := t }] ∧
        (∀ j : Link, (s'.link j).latched.getLsbD 8 = true) ∧ s'.cal = s.cal) ∧
      ((t - c.sentAt).toNat < 20000 → exec (.commitPageTimeout t) s = .next { s with now := t }) ∧
      (20000 ≤ (t - c.sentAt).toNat → ∃ s' : State, exec (.commitPageTimeout t) s = .next s' ∧ s'.commit = none ∧
        s'.saved = false ∧ s'.commitCount = s.commitCount ∧ s'.cal = s.cal ∧ s'.eeprom.length = 832 ∧
        (∀ i : Nat, i < 16 * c.page ∨ 16 * c.page + 16 ≤ i → s'.eeprom.getD i 0#8 = s.eeprom.getD i 0#8) ∧
        s'.journal = (if s.journal.length < 512 then s.journal else s.journal.tail) ++
          [{ body := .calCommitFailed c.page, time := t }] ∧
        (∀ j : Link, (s'.link j).latched.getLsbD 8 = true)))

/-- R79 to R81, R214 to R217: RUN_TEST begins each of the four tests and is BUSY while one runs; STOP_TEST aborts with the
code 255, a rail cycle by the switches and the vote set; a readback ends with the first difference from the image, or
unanswered 20 ms after its start (log entry 26), and a continuous one that passed begins again. A rail cycle turns at the
stop switch and ends at the park switch or the index with its travel times; then the rail follows the votes, and a
continuous test asks for the next cycle, BLOCKED where it is refused; a fault ends it with the fault's code. A sensor scan
judges each key's first reading and ends at the last, its TEST record after the key's own records and by the calibration at
arrival (log entry 19); an aborted cycle's TEST record follows its RAIL records (log entry 27). A run aborted, faulted or
BLOCKED keeps no measurements (log entry 45). Runs are counted as log entry 16 says; the count with no segment begun is log
entry 40. -/
def Obligations.TestsRunAndEnd : Prop :=
  ∀ (t : Time) (l : Link) (s : State),
    let ended (s' : State) (k : TestKind) (code detail : Nat) (m : Measure) : Prop :=
      s'.lastResult = some { kind := k, code := code, detail := detail, measure := m } ∧
      s'.journal = (if s.journal.length < 512 then s.journal else s.journal.tail) ++
        [{ body := .test k code detail, time := t }] ∧
      ∀ j : Link, (s'.link j).latched.getLsbD 10 = true
    (s.receiving l = true → s.running = true → s.seat = some l →
      (∀ (k : TestKind) (x : Bool), s.test.isSome = true →
        exec (.runTest t l (u1 k.code ++ yesNo x)) s =
          .next ((s.stamp t).denied l 0x60 (u1 k.code ++ yesNo x) .busy)) ∧
      (∀ x : Bool, s.test = none →
        (let p := u1 0 ++ yesNo x
         exec (.runTest t l p) s = .next (State.replied
          { s with now := t, runs := 0, test := some { continuous := x, run := .sensorScan 0#88 0#88 } } l 0x60 p p)) ∧
        (let p := u1 2 ++ yesNo x
         exec (.runTest t l p) s = .next (State.replied
          { s with now := t, runs := 0, test := some { continuous := x, run := .tone }, tone := some 0 } l 0x60 p p)) ∧
        (let p := u1 3 ++ yesNo x
         (s.commit.isSome = true → exec (.runTest t l p) s = .next ((s.stamp t).denied l 0x60 p .busy)) ∧
         (s.commit = none → exec (.runTest t l p) s = .next (State.replied
          { s with
            now := t, runs := 0
            test := some { continuous := x, run := .readback (imageOf s.cal s.commitCount) t } } l 0x60 p p))) ∧
        (let p := u1 1 ++ yesNo x
         (s.rail.state ≠ .parked ∨ s.rail.votes.any = true →
          exec (.runTest t l p) s = .next ((s.stamp t).denied l 0x60 p .wrongState)) ∧
         (s.rail.state = .parked → s.rail.votes.any = false → ∃ s' : State,
          exec (.runTest t l p) s = .next (s'.replied l 0x60 p p) ∧
          s'.test = some { continuous := x, run := .railCycle } ∧ s'.runs = 0 ∧
          s'.rail.state = .testing .inward 0 0 ∧
          (s'.rail.drive.isSome = true ↔ s.rail.quiet.quiet = true ∨ s.rail.drive.isSome = true)))) ∧
      (s.test = none → exec (.stopTest t l []) s = .next ((s.stamp t).denied l 0x61 [] .wrongState)) ∧
      (∀ x : Test, s.test = some x → x.run.kind ≠ .railCycle → ∃ s' : State,
        exec (.stopTest t l []) s = .next (s'.replied l 0x61 [] (u2 s.runs)) ∧ s'.test = none ∧ s'.runs = s.runs ∧
        s'.tone = (if x.run.kind = .tone then none else s.tone) ∧ ended s' x.run.kind 255 1 .none)) ∧
    (∀ (x : Bool) (image : List Byte) (since : Time),
      s.test = some { continuous := x, run := .readback image since } →
      (∀ n : Nat, n < 832 → (∀ i : Nat, i < n → image.getD i 0#8 = s.eeprom.getD i 0#8) →
        image.getD n 0#8 ≠ s.eeprom.getD n 0#8 → ∃ s' : State, exec (.eepromReadbackDone t) s = .next s' ∧
          ended s' .readback 1 (n / 16) (.offset n) ∧ s'.test = none) ∧
      ((∀ i : Nat, i < 832 → image.getD i 0#8 = s.eeprom.getD i 0#8) → ∃ s' : State,
        exec (.eepromReadbackDone t) s = .next s' ∧ ended s' .readback 0 0 .none ∧ s'.runs = min 65535 (s.runs + 1) ∧
        s'.test = if x then some { continuous := true, run := .readback (imageOf s.cal s.commitCount) t } else none) ∧
      ((t - since).toNat < 20000 → exec (.eepromReadbackNoAnswer t) s = .next { s with now := t }) ∧
      (20000 ≤ (t - since).toNat → ∃ s' : State, exec (.eepromReadbackNoAnswer t) s = .next s' ∧
        ended s' .readback 2 0 .none ∧ s'.test = none)) ∧
    ((∀ (image : List Byte) (since : Time), s.test.map (fun x => x.run) ≠ some (.readback image since)) →
      exec (.eepromReadbackDone t) s = .next { s with now := t } ∧
      exec (.eepromReadbackNoAnswer t) s = .next { s with now := t }) ∧
    (∀ (x : Bool) (phase : Travel) (a b : Nat), s.test = some { continuous := x, run := .railCycle } →
      s.rail.state = .testing phase a b → s.rail.decided = true → s.journal.length ≤ 508 →
      let driven : Nat := match s.rail.drive with | some g => (t - g.start).toNat | none => 0
      let railRecord (name : RailName) (p : Option Travel) (cause : RailCause) : JournalRec :=
        { body := .rail name p cause s.rail.votes, time := t }
      let testRecord (code detail : Nat) : JournalRec := { body := .test .railCycle code detail, time := t }
      let result (code detail : Nat) (m : Measure) : Option TestResult :=
        some { kind := .railCycle, code := code, detail := detail, measure := m }
      let becomesMade (e : EndSwitch) : Prop := (s.rail.rawSwitch e).on = true ∧ s.rail.madeSwitch e = false ∧
        5000 ≤ (t - (s.rail.rawSwitch e).since).toNat
      let reached : Int := match s.rail.segCount with | some n => (n : Int) | none => s.rail.count
      (phase = .inward → becomesMade .stop → s.rail.park = false → ∃ s' : State,
        exec (.endSwitchDebounced t .stop) s = .next s' ∧ s'.test = s.test ∧ s'.runs = s.runs ∧
        s'.lastResult = s.lastResult ∧ s'.journal = s.journal ++ [railRecord .testing (some .outward) .none] ∧
        s'.rail = { s.rail with
          stop := true, state := .testing .outward (a + driven) b, count := reached
          drive := if s.rail.quiet.quiet then some { dir := .outward, start := t, lastEdge := t } else none
          segCount := if s.rail.quiet.quiet then some s.cal.cEng else s.rail.segCount }) ∧
      (∀ i : Instr, phase = .outward →
        (i = .indexPulse t ∨ i = .endSwitchDebounced t .park ∧ becomesMade .park ∧ s.rail.stop = false) →
        let passed := result 0 0 (.travel (a / 1000) ((b + driven) / 1000))
        ∃ s' : State, exec i s = .next s' ∧ s'.runs = min 65535 (s.runs + 1) ∧ (s.rail.stop = false → s'.rail.count = 0) ∧
          (x = false → s'.test = none ∧ s'.lastResult = passed) ∧
          (x = false → s.rail.votes.any = false → s'.rail.state = .parked ∧ s'.rail.drive = none ∧
            s'.journal = s.journal ++ [railRecord .parked none .none, testRecord 0 0]) ∧
          (x = true → s.rail.votes.any = false → s'.rail.state = .testing .inward 0 0 ∧ s'.test = s.test ∧
            s'.lastResult = passed ∧ s'.journal = s.journal ++
              [railRecord .parked none .none, testRecord 0 0, railRecord .testing (some .inward) .none]) ∧
          (x = true → s.rail.votes.any = true → s.rail.quiet.quiet = false → s'.rail.state = .pendingIn t false ∧
            s'.test = none ∧ s'.lastResult = result 5 0 .none ∧ s'.journal = s.journal ++
              [railRecord .parked none .none, testRecord 0 0, railRecord .pendingIn none .none, testRecord 5 0])) ∧
      (∀ (i : Instr) (cause : RailFault),
        (i = .stall t ∧ cause = .stall ∧ (∃ g : Segment, s.rail.drive = some g ∧ 40000 ≤ (t - g.lastEdge).toNat) ∨
          i = .timeout t ∧ cause = .timeout ∧ (∃ g : Segment, s.rail.drive = some g ∧ 1500000 ≤ (t - g.start).toNat) ∨
          i = .encoderEdge t .inward ∧ cause = .overtravel ∧ s.rail.drive.isSome = true ∧ s.rail.stop = false ∧
            s.rail.count < 32767 ∧ (∃ n : Nat, s.rail.segCount = some n ∧ (n : Int) + 200 ≤ s.rail.count) ∨
          i = .endSwitchDebounced t .park ∧ cause = .switches ∧ becomesMade .park ∧ s.rail.stop = true) →
        let code : Nat := match cause with | .stall => 1 | .timeout => 2 | .overtravel => 3 | .switches => 4
        let detail : Nat := match phase with | .inward => 1 | .outward => 2
        ∃ s' : State, exec i s = .next s' ∧ s'.rail.state = .fault cause ∧ s'.rail.drive = none ∧ s'.test = none ∧
          s'.lastResult = result code detail .none ∧ s'.runs = min 65535 (s.runs + 1) ∧
          s'.journal = s.journal ++ [railRecord .fault none cause.cause, testRecord code detail]) ∧
      (s.receiving l = true → s.running = true → s.seat = some l → ∃ s' : State,
        exec (.stopTest t l []) s = .next (s'.replied l 0x61 [] (u2 s.runs)) ∧ s'.test = none ∧ s'.runs = s.runs ∧
        s'.lastResult = result 255 1 .none ∧ s'.journal.getLast? = some (testRecord 255 1) ∧
        (MotorLaw s.rail → VoteLaw s'.rail ∧ MotorLaw s'.rail) ∧
        (s.rail.quiet.quiet = false → s'.rail = { s.rail with
          drive := none
          state := match s.rail.park, s.rail.stop, s.rail.votes.any with
            | true, _, true => .pendingIn t false
            | true, _, false => .parked
            | false, true, true => .engaged
            | false, true, false => .pendingOut t false
            | false, false, true => .pausedIn
            | false, false, false => .pausedOut
          count := if s.rail.park then 0 else if s.rail.stop then reached else s.rail.count
          segCount := if s.rail.park || s.rail.stop then none else s.rail.segCount }))) ∧
    (∀ (k : KeyIx) (r : Depth) (x : Bool) (judged failing : KeySet), s.running = true →
      s.test = some { continuous := x, run := .sensorScan judged failing } →
      let c := s.keyCal k
      let judged' := KeySet.add judged k
      let failing' := if c.span < 200 ∨ (r.val : Int) < c.r - 64 ∨ (c.b : Int) + 64 < r.val then KeySet.add failing k
        else failing
      let n := KeySet.count failing'
      let first := (KeySet.keys failing').head?
      let detail := (first.map (fun j => j.val)).getD 0
      ∃ s' : State, exec (.keyDepthReading t k r) s = .next s' ∧
        (KeySet.has judged k = true → s'.test = s.test ∧ s'.lastResult = s.lastResult ∧ s'.runs = s.runs) ∧
        (KeySet.has judged k = false → judged' ≠ BitVec.allOnes 88 →
          s'.test = some { continuous := x, run := .sensorScan judged' failing' } ∧ s'.lastResult = s.lastResult ∧
          s'.runs = s.runs) ∧
        (KeySet.has judged k = false → judged' = BitVec.allOnes 88 →
          s'.lastResult = some { kind := .sensorScan, code := n, detail := detail, measure := .scan n first } ∧
          s'.runs = min 65535 (s.runs + 1) ∧
          s'.test = (if n = 0 ∧ x = true then some { continuous := true, run := .sensorScan 0#88 0#88 } else none) ∧
          s'.journal.getLast? = some { body := .test .sensorScan n detail, time := t } ∧
          ∀ j : Link, (s'.link j).latched.getLsbD 10 = true))

/-! ### Encodings -/

/-- R205, R206, R222: the load takes every image that a commit forms of a legal working copy, and reads back that very copy
with its commit count. R134, R220: every take record is read back from its word, and every word that is read is the word of
what it gives; an append holds as many records as it counts, and no END. -/
def Obligations.EncodingsRoundTrip : Prop :=
  (∀ (w : WorkingCopy) (n : Nat), w.legal → n ≤ 255 →
     (imageOf w n).length = 832 ∧ imageGround (imageOf w n) = none ∧ imageFields (imageOf w n) = w ∧ repairCopy w = w ∧
     byteAt (imageOf w n) 5 = n) ∧
  (∀ r : TakeRec, r.delta ≤ 65535 →
    (∀ (k : KeyIx) (level : Nat), (r.body = .noteOn k level ∨ r.body = .noteOff k level) → 1 ≤ level ∧ level ≤ 127) →
    (∀ (c : PedalIx) (level : Nat), r.body = .pedal c level → level ≤ 127) →
    r.word < 2 ^ 32 ∧ takeOfWord r.word = some r) ∧
  (∀ (w : Nat) (r : TakeRec), w < 2 ^ 32 → takeOfWord w = some r → r.word = w ∧ r.delta ≤ 65535) ∧
  (∀ (p : List Byte) (n : Nat) (rs : List TakeRec), takesOfPayload p n = some rs →
    rs.length = n ∧ ∀ r ∈ rs, r.isEnd = false)

/-! ### What a link cannot reach -/

/-- R61, R186, R190, R201: of the other link, a request leaves the transaction, the attention settings, the presence, every
latched condition and the vote as they are, and it leaves the lever's vote (it can latch further conditions there and move
the place of its cursor in the ring). A request from a link without the seat leaves the calibration, its saved mark and
count, the image and the commit, the key trackers, the learn and the layer setting as they are; a rail in FAULT stays in it,
a seat that is held keeps its holder, and no test begins; while a test runs only under a held seat, the test, its runs and
the last result stay too. -/
def Obligations.RequestsStayWithinTheirLink : Prop :=
  ∀ (i : Instr) (l : Link) (s s' : State), requestLink i = some l → exec i s = .next s' →
    s'.link (otherLink l) = { s.link (otherLink l) with
      view := (s'.link (otherLink l)).view, latched := (s'.link (otherLink l)).latched } ∧
    s'.linkPresent (otherLink l) = s.linkPresent (otherLink l) ∧
    (s.link (otherLink l)).latched &&& (s'.link (otherLink l)).latched = (s.link (otherLink l)).latched ∧
    s'.rail.votes.lever = s.rail.votes.lever ∧
    (match otherLink l with | .a => s'.rail.votes.a = s.rail.votes.a | .b => s'.rail.votes.b = s.rail.votes.b) ∧
    (s.seat ≠ some l → s'.cal = s.cal ∧ s'.layer = s.layer ∧ s'.commit = s.commit ∧ s'.eeprom = s.eeprom ∧
      s'.commitCount = s.commitCount ∧ s'.saved = s.saved ∧ s'.keys = s.keys ∧ s'.learn = s.learn ∧
      (∀ c : RailFault, s.rail.state = .fault c → s'.rail.state = .fault c) ∧ (s.test = none → s'.test = none) ∧
      (SeatLaw s → s'.test = s.test ∧ s'.runs = s.runs ∧ s'.lastResult = s.lastResult) ∧
      (s.seat.isSome = true → s'.seat = s.seat))

/-! ### The laws that every step keeps -/

/-- R23, R210: before RUNNING no key makes a stroke, no voice sounds and nothing plays, loads or tests. -/
def Obligations.NothingPlaysBeforeRunning : Prop :=
  ∀ s s' : State, StillBeforeRunning s → step s = .next s' → StillBeforeRunning s'

/-- R5, R35, R45, R65, R205, R206: the working copy stays legal and the image keeps its size. -/
def Obligations.CalibrationStaysLegal : Prop :=
  ∀ s s' : State, CalibrationLaw s → StoreLaw s → step s = .next s' → CalibrationLaw s' ∧ StoreLaw s'

/-- R47, R57: a group's capture set is empty while its sostenuto switch is off. -/
def Obligations.CaptureSetsFollowTheirSwitch : Prop :=
  ∀ s s' : State, CaptureLaw s → step s = .next s' → CaptureLaw s'

/-- R63, R64, R68, R69, R73: the rail is driven only while the action is quiet, in the direction of its state, and stands as
the vote set asks; the quiet record counts the keys not at rest. -/
def Obligations.RailMovesOnlyInQuiet : Prop :=
  ∀ s s' : State, RailLaw s → TestLaw s → step s = .next s' → RailLaw s' ∧ TestLaw s'

/-- R90, R97, R112, R115: the costs of the voices stay within the budget, every voice stays within its window's sample, a
held voice belongs to a note that is on, and the sample memory keeps its canonical form. -/
def Obligations.VoicesStayWithinTheirBudget : Prop :=
  ∀ s s' : State, StillBeforeRunning s → VoiceLaw s → HeldLaw s → Memory.wf s.sampleMem = true → step s = .next s' →
    VoiceLaw s' ∧ HeldLaw s' ∧ Memory.wf s'.sampleMem = true

/-- R119, R120, R125 to R127: a jack is enabled exactly while it may be, and its gain is 0 while the supply is not GOOD. -/
def Obligations.OutputStaysSafe : Prop :=
  ∀ s s' : State, OutputLaw s → step s = .next s' → OutputLaw s'

/-- R133, R136, R149: the guide wait set is nonempty exactly in WAITING; a recording stands in its states alone; the pool is
never overdrawn, and every closed track ends with its one END. -/
def Obligations.TakeStoreStaysWhole : Prop :=
  ∀ s s' : State, TransportLaw s → PoolLaw s → step s = .next s' → TransportLaw s' ∧ PoolLaw s'

/-- R169, R175, R177, R190: the ring holds at most 512 records, every present link's cursor stands in it, its oldest record
is one that a present link has yet to read, and the attention fields stay legal. -/
def Obligations.JournalStaysInStep : Prop :=
  ∀ s s' : State, JournalLaw s → AttentionLaw s → step s = .next s' → JournalLaw s' ∧ AttentionLaw s'

/-- R26, R198, R201, R206, R213: only a present link holds the seat, a learn and a test run under it, a learn and a commit
are never active together, and the LED shows what it is to show. -/
def Obligations.SeatIsHeldByThePresent : Prop :=
  ∀ s s' : State, SeatLaw s → LearnCommitLaw s → LedLaw s → step s = .next s' →
    SeatLaw s' ∧ LearnCommitLaw s' ∧ LedLaw s'
end

