-- ==== Sys2Proof/Laws/Arith.lean ====
section
/-! SUPPORT. The manual's arithmetic in the library's terms: clamps, times, indexes read from a byte, key sets. -/

namespace Sys2Proof.Machine

/-! ### Clamps and times -/

/-- A clamp into a range that is not empty. -/
theorem clamp_eq_max_min {lo hi : Int} (x : Int) (h : lo ≤ hi) : clamp lo hi x = max lo (min hi x) := by
  unfold clamp
  split
  · omega
  · split <;> omega

theorem clampNat_eq_max_min {lo hi : Nat} (x : Nat) (h : lo ≤ hi) : clampNat lo hi x = max lo (min hi x) := by
  unfold clampNat
  split
  · omega
  · split <;> omega

theorem clamp_mem {lo hi : Int} (x : Int) (h : lo ≤ hi) : lo ≤ clamp lo hi x ∧ clamp lo hi x ≤ hi := by
  rw [clamp_eq_max_min x h]
  omega

theorem clampNat_mem {lo hi : Nat} (x : Nat) (h : lo ≤ hi) : lo ≤ clampNat lo hi x ∧ clampNat lo hi x ≤ hi := by
  rw [clampNat_eq_max_min x h]
  omega

theorem clampNat_of_mem {lo hi x : Nat} (h : lo ≤ x) (h' : x ≤ hi) : clampNat lo hi x = x := by
  rw [clampNat_eq_max_min x (Nat.le_trans h h')]
  omega

theorem reached_iff (t0 : Time) (d : Nat) (t : Time) : reached t0 d t = true ↔ d ≤ (t - t0).toNat := by
  rw [reached, elapsed, decide_eq_true_eq]

theorem reached_eq_false (t0 : Time) (d : Nat) (t : Time) : reached t0 d t = false ↔ (t - t0).toNat < d := by
  rw [reached, elapsed, decide_eq_false_iff_not, Nat.not_le]

/-! ### Indexes -/

@[simp] theorem keyOfNat_val (k : KeyIx) : keyOfNat k.val = some k := by simp [keyOfNat]
@[simp] theorem trackOfNat_val (i : TrackIx) : trackOfNat i.val = some i := by simp [trackOfNat]
@[simp] theorem pedalOfNat_val (i : PedalIx) : pedalOfNat i.val = some i := by simp [pedalOfNat]
@[simp] theorem voiceOfNat_val (i : VoiceIx) : voiceOfNat i.val = some i := by simp [voiceOfNat]
@[simp] theorem curveOfNat_val (i : Fin 4) : curveOfNat i.val = some i := by simp [curveOfNat]

/-- A field of one byte. -/
theorem byteAt_byteOf (n : Nat) (h : n < 256) (rest : List Byte) : byteAt (byteOf n :: rest) 0 = n := by
  simp [byteAt, byteOf, Nat.mod_eq_of_lt h]

theorem byteAt_cons_succ (b : Byte) (p : List Byte) (i : Nat) : byteAt (b :: p) (i + 1) = byteAt p i := rfl

@[simp] theorem byteAt_yesNo (b : Bool) : byteAt (yesNo b) 0 = if b then 1 else 0 := by cases b <;> rfl

@[simp] theorem yesNo_length (b : Bool) : (yesNo b).length = 1 := rfl
@[simp] theorem u1_length (n : Nat) : (u1 n).length = 1 := rfl
@[simp] theorem u2_length (n : Nat) : (u2 n).length = 2 := rfl
@[simp] theorem u4_length (n : Nat) : (u4 n).length = 4 := rfl
@[simp] theorem s2_length (x : Int) : (s2 x).length = 2 := rfl
@[simp] theorem s4_length (x : Int) : (s4 x).length = 4 := rfl
@[simp] theorem timeField_length (t : Time) : (timeField t).length = 4 := rfl
@[simp] theorem keySetField_length (m : KeySet) : (keySetField m).length = 11 := by simp [keySetField]
@[simp] theorem condSetField_length (c : CondSet) : (condSetField c).length = 2 := rfl

/-! ### Key sets -/

theorem keyBit_getLsbD (k j : KeyIx) : (keyBit k).getLsbD j.val = decide (k = j) := by
  have hj := j.isLt
  have hk := k.isLt
  rw [keyBit, BitVec.getLsbD_shiftLeft, BitVec.getLsbD_ofNat]
  by_cases h : k = j
  · subst h
    simp
  · have hv : k.val ≠ j.val := fun e => h (Fin.ext e)
    by_cases hl : j.val < k.val
    · simp [h, hl]
    · obtain ⟨n, hn⟩ : ∃ n, j.val - k.val = n + 1 := ⟨j.val - k.val - 1, by omega⟩
      simp [h, hn, Nat.testBit_succ]

@[simp] theorem KeySet.has_add (m : KeySet) (k j : KeyIx) :
    KeySet.has (KeySet.add m k) j = (KeySet.has m j || decide (k = j)) := by
  rw [KeySet.has, KeySet.add, BitVec.getLsbD_or, keyBit_getLsbD, KeySet.has]

@[simp] theorem KeySet.has_drop (m : KeySet) (k j : KeyIx) :
    KeySet.has (KeySet.drop m k) j = (KeySet.has m j && !decide (k = j)) := by
  have hj := j.isLt
  rw [KeySet.has, KeySet.drop, BitVec.getLsbD_and, BitVec.getLsbD_not, keyBit_getLsbD, KeySet.has]
  simp [hj]

@[simp] theorem KeySet.has_zero (j : KeyIx) : KeySet.has 0#88 j = false := by simp [KeySet.has]

/-- Two key sets with the same keys are one. -/
theorem KeySet.ext {m n : KeySet} (h : ∀ k : KeyIx, KeySet.has m k = KeySet.has n k) : m = n := by
  apply BitVec.eq_of_getLsbD_eq
  intro i hi
  exact h ⟨i, hi⟩

theorem KeySet.mem_keys (m : KeySet) (k : KeyIx) : k ∈ KeySet.keys m ↔ KeySet.has m k = true := by
  simp [KeySet.keys]

theorem KeySet.eq_zero_iff (m : KeySet) : m = 0#88 ↔ ∀ k : KeyIx, KeySet.has m k = false := by
  constructor
  · rintro rfl k
    simp
  · intro h
    exact KeySet.ext (fun k => by simp [h k])

/-- The set of the keys that satisfy a test holds exactly those. -/
@[simp] theorem KeySet.has_ofPred (f : KeyIx → Bool) (j : KeyIx) : KeySet.has (KeySet.ofPred f) j = f j := by
  have aux : ∀ (l : List KeyIx) (m : KeySet),
      KeySet.has (l.foldl (fun m k => if f k then KeySet.add m k else m) m) j =
        (KeySet.has m j || (decide (j ∈ l) && f j)) := by
    intro l
    induction l with
    | nil => simp
    | cons k rest ih =>
      intro m
      rw [List.foldl_cons, ih]
      by_cases hk : k = j
      · subst hk
        cases hf : f k <;> simp
      · have hk' : ¬ j = k := fun e => hk e.symm
        cases hf : f k <;> simp [hk, hk']
  rw [KeySet.ofPred, aux]
  simp

end Sys2Proof.Machine
end

