-- ==== Sys2Proof/Laws/Tables.lean ====
section
/-! SUPPORT. The small lemmas of the tables: entries read after a put, a map and a tabulation. -/

namespace Sys2Proof.Machine

@[simp] theorem tablePut_get {α : Type} {n : Nat} (v : Vector α n) (i j : Fin n) (x : α) :
    (tablePut v i x)[j] = if i = j then x else v[j] := by
  simp only [tablePut, Fin.getElem_fin, Vector.getElem_set, Fin.val_inj]

@[simp] theorem tableOf_get {α : Type} {n : Nat} (f : Fin n → α) (i : Fin n) : (tableOf f)[i] = f i := by
  simp [tableOf]

@[simp] theorem tableMap_get {α β : Type} {n : Nat} (f : α → β) (v : Vector α n) (i : Fin n) :
    (tableMap f v)[i] = f v[i] := by
  simp [tableMap]

/-- Two tables with the same entries are one table. -/
theorem table_ext {α : Type} {n : Nat} {v w : Vector α n} (h : ∀ i : Fin n, v[i] = w[i]) : v = w :=
  Vector.ext (fun i hi => h ⟨i, hi⟩)

/-- The entries of a table, in order. -/
theorem toList_eq_map {α : Type} {n : Nat} (v : Vector α n) : v.toList = (List.finRange n).map (fun i => v[i]) := by
  apply List.ext_getElem <;> simp

@[simp] theorem tablePut_self {α : Type} {n : Nat} (v : Vector α n) (i : Fin n) : tablePut v i v[i] = v :=
  table_ext (fun j => by simp only [tablePut_get]; split <;> simp_all)

@[simp] theorem tableMap_id {α : Type} {n : Nat} (v : Vector α n) : tableMap (fun x => x) v = v :=
  table_ext (fun _ => by simp only [tableMap_get])

theorem tableOf_eq_tableMap {α β : Type} {n : Nat} (f : α → β) (v : Vector α n) :
    tableOf (fun i => f v[i]) = tableMap f v :=
  table_ext (fun _ => by simp only [tableOf_get, tableMap_get])

/-! ### The two-valued tables -/

@[simp] theorem PerLink.get_put_self {α : Type} (p : PerLink α) (l : Link) (x : α) : (p.put l x).get l = x := by
  cases l <;> rfl

@[simp] theorem PerLink.get_put_other {α : Type} (p : PerLink α) (l : Link) (x : α) :
    (p.put l x).get (otherLink l) = p.get (otherLink l) := by
  cases l <;> rfl

theorem PerLink.get_put {α : Type} (p : PerLink α) (l m : Link) (x : α) :
    (p.put l x).get m = if m = l then x else p.get m := by
  cases l <;> cases m <;> rfl

@[simp] theorem PerLink.get_map {α : Type} (f : α → α) (p : PerLink α) (l : Link) : (p.map f).get l = f (p.get l) := by
  cases l <;> rfl

@[simp] theorem PerLink.put_get {α : Type} (p : PerLink α) (l : Link) : p.put l (p.get l) = p := by cases l <;> rfl

theorem PerLink.ext' {α : Type} {p q : PerLink α} (h : ∀ l, p.get l = q.get l) : p = q := by
  cases p; cases q; exact congr (congrArg PerLink.mk (h .a)) (h .b)

@[simp] theorem PerJack.get_put_self {α : Type} (p : PerJack α) (j : JackIx) (x : α) : (p.put j x).get j = x := by
  cases j <;> rfl

theorem PerJack.get_put {α : Type} (p : PerJack α) (i j : JackIx) (x : α) :
    (p.put i x).get j = if j = i then x else p.get j := by
  cases i <;> cases j <;> rfl

@[simp] theorem PerJack.get_map {α : Type} (f : α → α) (p : PerJack α) (j : JackIx) : (p.map f).get j = f (p.get j) := by
  cases j <;> rfl

theorem PerJack.ext' {α : Type} {p q : PerJack α} (h : ∀ j, p.get j = q.get j) : p = q := by
  cases p; cases q; exact congr (congrArg PerJack.mk (h .j1)) (h .j2)

@[simp] theorem otherLink_otherLink (l : Link) : otherLink (otherLink l) = l := by cases l <;> rfl
@[simp] theorem otherLink_ne (l : Link) : otherLink l ≠ l := by cases l <;> decide
@[simp] theorem ne_otherLink (l : Link) : l ≠ otherLink l := by cases l <;> decide

end Sys2Proof.Machine
end

