-- ==== Sys2Proof/Laws/State.lean ====
section
/-! SUPPORT. One lemma for each field of State under each update, so that no later proof unfolds a record update. -/

namespace Sys2Proof.Machine

/-! ### State.stamp -/

@[simp] theorem State.stamp_now (s : State) (t : Time) :
   (s.stamp t).now = t := rfl
@[simp] theorem State.stamp_keys (s : State) (t : Time) : (s.stamp t).keys = s.keys := rfl
@[simp] theorem State.stamp_learn (s : State) (t : Time) : (s.stamp t).learn = s.learn := rfl
@[simp] theorem State.stamp_cal (s : State) (t : Time) : (s.stamp t).cal = s.cal := rfl
@[simp] theorem State.stamp_commitCount (s : State) (t : Time) : (s.stamp t).commitCount = s.commitCount := rfl
@[simp] theorem State.stamp_saved (s : State) (t : Time) : (s.stamp t).saved = s.saved := rfl
@[simp] theorem State.stamp_eeprom (s : State) (t : Time) : (s.stamp t).eeprom = s.eeprom := rfl
@[simp] theorem State.stamp_commit (s : State) (t : Time) : (s.stamp t).commit = s.commit := rfl
@[simp] theorem State.stamp_committed (s : State) (t : Time) : (s.stamp t).committed = s.committed := rfl
@[simp] theorem State.stamp_startUp (s : State) (t : Time) : (s.stamp t).startUp = s.startUp := rfl
@[simp] theorem State.stamp_test (s : State) (t : Time) : (s.stamp t).test = s.test := rfl
@[simp] theorem State.stamp_runs (s : State) (t : Time) : (s.stamp t).runs = s.runs := rfl
@[simp] theorem State.stamp_lastResult (s : State) (t : Time) : (s.stamp t).lastResult = s.lastResult := rfl
@[simp] theorem State.stamp_live (s : State) (t : Time) : (s.stamp t).live = s.live := rfl
@[simp] theorem State.stamp_play (s : State) (t : Time) : (s.stamp t).play = s.play := rfl
@[simp] theorem State.stamp_liveCapture (s : State) (t : Time) : (s.stamp t).liveCapture = s.liveCapture := rfl
@[simp] theorem State.stamp_playCapture (s : State) (t : Time) : (s.stamp t).playCapture = s.playCapture := rfl
@[simp] theorem State.stamp_rail (s : State) (t : Time) : (s.stamp t).rail = s.rail := rfl
@[simp] theorem State.stamp_voices (s : State) (t : Time) : (s.stamp t).voices = s.voices := rfl
@[simp] theorem State.stamp_layer (s : State) (t : Time) : (s.stamp t).layer = s.layer := rfl
@[simp] theorem State.stamp_windows (s : State) (t : Time) : (s.stamp t).windows = s.windows := rfl
@[simp] theorem State.stamp_sampleMem (s : State) (t : Time) : (s.stamp t).sampleMem = s.sampleMem := rfl
@[simp] theorem State.stamp_jacks (s : State) (t : Time) : (s.stamp t).jacks = s.jacks := rfl
@[simp] theorem State.stamp_supply (s : State) (t : Time) : (s.stamp t).supply = s.supply := rfl
@[simp] theorem State.stamp_supplyGood (s : State) (t : Time) : (s.stamp t).supplyGood = s.supplyGood := rfl
@[simp] theorem State.stamp_click (s : State) (t : Time) : (s.stamp t).click = s.click := rfl
@[simp] theorem State.stamp_tone (s : State) (t : Time) : (s.stamp t).tone = s.tone := rfl
@[simp] theorem State.stamp_output (s : State) (t : Time) : (s.stamp t).output = s.output := rfl
@[simp] theorem State.stamp_transport (s : State) (t : Time) : (s.stamp t).transport = s.transport := rfl
@[simp] theorem State.stamp_journal (s : State) (t : Time) : (s.stamp t).journal = s.journal := rfl
@[simp] theorem State.stamp_links (s : State) (t : Time) : (s.stamp t).links = s.links := rfl
@[simp] theorem State.stamp_seat (s : State) (t : Time) : (s.stamp t).seat = s.seat := rfl
@[simp] theorem State.stamp_led (s : State) (t : Time) : (s.stamp t).led = s.led := rfl
@[simp] theorem State.stamp_ledSince (s : State) (t : Time) : (s.stamp t).ledSince = s.ledSince := rfl
@[simp] theorem State.stamp_drawn (s : State) (t : Time) : (s.stamp t).drawn = s.drawn := rfl
@[simp] theorem State.stamp_pending (s : State) (t : Time) : (s.stamp t).pending = s.pending := rfl

/-! ### State.setKey -/

@[simp] theorem State.setKey_now (s : State) (k : KeyIx) (x : Tracker) : (s.setKey k x).now = s.now := rfl
@[simp] theorem State.setKey_keys (s : State) (k : KeyIx) (x : Tracker) :
   (s.setKey k x).keys = tablePut s.keys k x := rfl
@[simp] theorem State.setKey_learn (s : State) (k : KeyIx) (x : Tracker) : (s.setKey k x).learn = s.learn := rfl
@[simp] theorem State.setKey_cal (s : State) (k : KeyIx) (x : Tracker) : (s.setKey k x).cal = s.cal := rfl
@[simp] theorem State.setKey_commitCount (s : State) (k : KeyIx) (x : Tracker) : (s.setKey k x).commitCount = s.commitCount := rfl
@[simp] theorem State.setKey_saved (s : State) (k : KeyIx) (x : Tracker) : (s.setKey k x).saved = s.saved := rfl
@[simp] theorem State.setKey_eeprom (s : State) (k : KeyIx) (x : Tracker) : (s.setKey k x).eeprom = s.eeprom := rfl
@[simp] theorem State.setKey_commit (s : State) (k : KeyIx) (x : Tracker) : (s.setKey k x).commit = s.commit := rfl
@[simp] theorem State.setKey_committed (s : State) (k : KeyIx) (x : Tracker) : (s.setKey k x).committed = s.committed := rfl
@[simp] theorem State.setKey_startUp (s : State) (k : KeyIx) (x : Tracker) : (s.setKey k x).startUp = s.startUp := rfl
@[simp] theorem State.setKey_test (s : State) (k : KeyIx) (x : Tracker) : (s.setKey k x).test = s.test := rfl
@[simp] theorem State.setKey_runs (s : State) (k : KeyIx) (x : Tracker) : (s.setKey k x).runs = s.runs := rfl
@[simp] theorem State.setKey_lastResult (s : State) (k : KeyIx) (x : Tracker) : (s.setKey k x).lastResult = s.lastResult := rfl
@[simp] theorem State.setKey_live (s : State) (k : KeyIx) (x : Tracker) : (s.setKey k x).live = s.live := rfl
@[simp] theorem State.setKey_play (s : State) (k : KeyIx) (x : Tracker) : (s.setKey k x).play = s.play := rfl
@[simp] theorem State.setKey_liveCapture (s : State) (k : KeyIx) (x : Tracker) : (s.setKey k x).liveCapture = s.liveCapture := rfl
@[simp] theorem State.setKey_playCapture (s : State) (k : KeyIx) (x : Tracker) : (s.setKey k x).playCapture = s.playCapture := rfl
@[simp] theorem State.setKey_rail (s : State) (k : KeyIx) (x : Tracker) : (s.setKey k x).rail = s.rail := rfl
@[simp] theorem State.setKey_voices (s : State) (k : KeyIx) (x : Tracker) : (s.setKey k x).voices = s.voices := rfl
@[simp] theorem State.setKey_layer (s : State) (k : KeyIx) (x : Tracker) : (s.setKey k x).layer = s.layer := rfl
@[simp] theorem State.setKey_windows (s : State) (k : KeyIx) (x : Tracker) : (s.setKey k x).windows = s.windows := rfl
@[simp] theorem State.setKey_sampleMem (s : State) (k : KeyIx) (x : Tracker) : (s.setKey k x).sampleMem = s.sampleMem := rfl
@[simp] theorem State.setKey_jacks (s : State) (k : KeyIx) (x : Tracker) : (s.setKey k x).jacks = s.jacks := rfl
@[simp] theorem State.setKey_supply (s : State) (k : KeyIx) (x : Tracker) : (s.setKey k x).supply = s.supply := rfl
@[simp] theorem State.setKey_supplyGood (s : State) (k : KeyIx) (x : Tracker) : (s.setKey k x).supplyGood = s.supplyGood := rfl
@[simp] theorem State.setKey_click (s : State) (k : KeyIx) (x : Tracker) : (s.setKey k x).click = s.click := rfl
@[simp] theorem State.setKey_tone (s : State) (k : KeyIx) (x : Tracker) : (s.setKey k x).tone = s.tone := rfl
@[simp] theorem State.setKey_output (s : State) (k : KeyIx) (x : Tracker) : (s.setKey k x).output = s.output := rfl
@[simp] theorem State.setKey_transport (s : State) (k : KeyIx) (x : Tracker) : (s.setKey k x).transport = s.transport := rfl
@[simp] theorem State.setKey_journal (s : State) (k : KeyIx) (x : Tracker) : (s.setKey k x).journal = s.journal := rfl
@[simp] theorem State.setKey_links (s : State) (k : KeyIx) (x : Tracker) : (s.setKey k x).links = s.links := rfl
@[simp] theorem State.setKey_seat (s : State) (k : KeyIx) (x : Tracker) : (s.setKey k x).seat = s.seat := rfl
@[simp] theorem State.setKey_led (s : State) (k : KeyIx) (x : Tracker) : (s.setKey k x).led = s.led := rfl
@[simp] theorem State.setKey_ledSince (s : State) (k : KeyIx) (x : Tracker) : (s.setKey k x).ledSince = s.ledSince := rfl
@[simp] theorem State.setKey_drawn (s : State) (k : KeyIx) (x : Tracker) : (s.setKey k x).drawn = s.drawn := rfl
@[simp] theorem State.setKey_pending (s : State) (k : KeyIx) (x : Tracker) : (s.setKey k x).pending = s.pending := rfl

/-! ### State.setLink -/

@[simp] theorem State.setLink_now (s : State) (l : Link) (r : LinkRec) : (s.setLink l r).now = s.now := rfl
@[simp] theorem State.setLink_keys (s : State) (l : Link) (r : LinkRec) : (s.setLink l r).keys = s.keys := rfl
@[simp] theorem State.setLink_learn (s : State) (l : Link) (r : LinkRec) : (s.setLink l r).learn = s.learn := rfl
@[simp] theorem State.setLink_cal (s : State) (l : Link) (r : LinkRec) : (s.setLink l r).cal = s.cal := rfl
@[simp] theorem State.setLink_commitCount (s : State) (l : Link) (r : LinkRec) : (s.setLink l r).commitCount = s.commitCount := rfl
@[simp] theorem State.setLink_saved (s : State) (l : Link) (r : LinkRec) : (s.setLink l r).saved = s.saved := rfl
@[simp] theorem State.setLink_eeprom (s : State) (l : Link) (r : LinkRec) : (s.setLink l r).eeprom = s.eeprom := rfl
@[simp] theorem State.setLink_commit (s : State) (l : Link) (r : LinkRec) : (s.setLink l r).commit = s.commit := rfl
@[simp] theorem State.setLink_committed (s : State) (l : Link) (r : LinkRec) : (s.setLink l r).committed = s.committed := rfl
@[simp] theorem State.setLink_startUp (s : State) (l : Link) (r : LinkRec) : (s.setLink l r).startUp = s.startUp := rfl
@[simp] theorem State.setLink_test (s : State) (l : Link) (r : LinkRec) : (s.setLink l r).test = s.test := rfl
@[simp] theorem State.setLink_runs (s : State) (l : Link) (r : LinkRec) : (s.setLink l r).runs = s.runs := rfl
@[simp] theorem State.setLink_lastResult (s : State) (l : Link) (r : LinkRec) : (s.setLink l r).lastResult = s.lastResult := rfl
@[simp] theorem State.setLink_live (s : State) (l : Link) (r : LinkRec) : (s.setLink l r).live = s.live := rfl
@[simp] theorem State.setLink_play (s : State) (l : Link) (r : LinkRec) : (s.setLink l r).play = s.play := rfl
@[simp] theorem State.setLink_liveCapture (s : State) (l : Link) (r : LinkRec) : (s.setLink l r).liveCapture = s.liveCapture := rfl
@[simp] theorem State.setLink_playCapture (s : State) (l : Link) (r : LinkRec) : (s.setLink l r).playCapture = s.playCapture := rfl
@[simp] theorem State.setLink_rail (s : State) (l : Link) (r : LinkRec) : (s.setLink l r).rail = s.rail := rfl
@[simp] theorem State.setLink_voices (s : State) (l : Link) (r : LinkRec) : (s.setLink l r).voices = s.voices := rfl
@[simp] theorem State.setLink_layer (s : State) (l : Link) (r : LinkRec) : (s.setLink l r).layer = s.layer := rfl
@[simp] theorem State.setLink_windows (s : State) (l : Link) (r : LinkRec) : (s.setLink l r).windows = s.windows := rfl
@[simp] theorem State.setLink_sampleMem (s : State) (l : Link) (r : LinkRec) : (s.setLink l r).sampleMem = s.sampleMem := rfl
@[simp] theorem State.setLink_jacks (s : State) (l : Link) (r : LinkRec) : (s.setLink l r).jacks = s.jacks := rfl
@[simp] theorem State.setLink_supply (s : State) (l : Link) (r : LinkRec) : (s.setLink l r).supply = s.supply := rfl
@[simp] theorem State.setLink_supplyGood (s : State) (l : Link) (r : LinkRec) : (s.setLink l r).supplyGood = s.supplyGood := rfl
@[simp] theorem State.setLink_click (s : State) (l : Link) (r : LinkRec) : (s.setLink l r).click = s.click := rfl
@[simp] theorem State.setLink_tone (s : State) (l : Link) (r : LinkRec) : (s.setLink l r).tone = s.tone := rfl
@[simp] theorem State.setLink_output (s : State) (l : Link) (r : LinkRec) : (s.setLink l r).output = s.output := rfl
@[simp] theorem State.setLink_transport (s : State) (l : Link) (r : LinkRec) : (s.setLink l r).transport = s.transport := rfl
@[simp] theorem State.setLink_journal (s : State) (l : Link) (r : LinkRec) : (s.setLink l r).journal = s.journal := rfl
@[simp] theorem State.setLink_links (s : State) (l : Link) (r : LinkRec) :
   (s.setLink l r).links = s.links.put l r := rfl
@[simp] theorem State.setLink_seat (s : State) (l : Link) (r : LinkRec) : (s.setLink l r).seat = s.seat := rfl
@[simp] theorem State.setLink_led (s : State) (l : Link) (r : LinkRec) : (s.setLink l r).led = s.led := rfl
@[simp] theorem State.setLink_ledSince (s : State) (l : Link) (r : LinkRec) : (s.setLink l r).ledSince = s.ledSince := rfl
@[simp] theorem State.setLink_drawn (s : State) (l : Link) (r : LinkRec) : (s.setLink l r).drawn = s.drawn := rfl
@[simp] theorem State.setLink_pending (s : State) (l : Link) (r : LinkRec) : (s.setLink l r).pending = s.pending := rfl

/-! ### State.setRail -/

@[simp] theorem State.setRail_now (s : State) (r : Rail) : (s.setRail r).now = s.now := rfl
@[simp] theorem State.setRail_keys (s : State) (r : Rail) : (s.setRail r).keys = s.keys := rfl
@[simp] theorem State.setRail_learn (s : State) (r : Rail) : (s.setRail r).learn = s.learn := rfl
@[simp] theorem State.setRail_cal (s : State) (r : Rail) : (s.setRail r).cal = s.cal := rfl
@[simp] theorem State.setRail_commitCount (s : State) (r : Rail) : (s.setRail r).commitCount = s.commitCount := rfl
@[simp] theorem State.setRail_saved (s : State) (r : Rail) : (s.setRail r).saved = s.saved := rfl
@[simp] theorem State.setRail_eeprom (s : State) (r : Rail) : (s.setRail r).eeprom = s.eeprom := rfl
@[simp] theorem State.setRail_commit (s : State) (r : Rail) : (s.setRail r).commit = s.commit := rfl
@[simp] theorem State.setRail_committed (s : State) (r : Rail) : (s.setRail r).committed = s.committed := rfl
@[simp] theorem State.setRail_startUp (s : State) (r : Rail) : (s.setRail r).startUp = s.startUp := rfl
@[simp] theorem State.setRail_test (s : State) (r : Rail) : (s.setRail r).test = s.test := rfl
@[simp] theorem State.setRail_runs (s : State) (r : Rail) : (s.setRail r).runs = s.runs := rfl
@[simp] theorem State.setRail_lastResult (s : State) (r : Rail) : (s.setRail r).lastResult = s.lastResult := rfl
@[simp] theorem State.setRail_live (s : State) (r : Rail) : (s.setRail r).live = s.live := rfl
@[simp] theorem State.setRail_play (s : State) (r : Rail) : (s.setRail r).play = s.play := rfl
@[simp] theorem State.setRail_liveCapture (s : State) (r : Rail) : (s.setRail r).liveCapture = s.liveCapture := rfl
@[simp] theorem State.setRail_playCapture (s : State) (r : Rail) : (s.setRail r).playCapture = s.playCapture := rfl
@[simp] theorem State.setRail_rail (s : State) (r : Rail) :
   (s.setRail r).rail = r := rfl
@[simp] theorem State.setRail_voices (s : State) (r : Rail) : (s.setRail r).voices = s.voices := rfl
@[simp] theorem State.setRail_layer (s : State) (r : Rail) : (s.setRail r).layer = s.layer := rfl
@[simp] theorem State.setRail_windows (s : State) (r : Rail) : (s.setRail r).windows = s.windows := rfl
@[simp] theorem State.setRail_sampleMem (s : State) (r : Rail) : (s.setRail r).sampleMem = s.sampleMem := rfl
@[simp] theorem State.setRail_jacks (s : State) (r : Rail) : (s.setRail r).jacks = s.jacks := rfl
@[simp] theorem State.setRail_supply (s : State) (r : Rail) : (s.setRail r).supply = s.supply := rfl
@[simp] theorem State.setRail_supplyGood (s : State) (r : Rail) : (s.setRail r).supplyGood = s.supplyGood := rfl
@[simp] theorem State.setRail_click (s : State) (r : Rail) : (s.setRail r).click = s.click := rfl
@[simp] theorem State.setRail_tone (s : State) (r : Rail) : (s.setRail r).tone = s.tone := rfl
@[simp] theorem State.setRail_output (s : State) (r : Rail) : (s.setRail r).output = s.output := rfl
@[simp] theorem State.setRail_transport (s : State) (r : Rail) : (s.setRail r).transport = s.transport := rfl
@[simp] theorem State.setRail_journal (s : State) (r : Rail) : (s.setRail r).journal = s.journal := rfl
@[simp] theorem State.setRail_links (s : State) (r : Rail) : (s.setRail r).links = s.links := rfl
@[simp] theorem State.setRail_seat (s : State) (r : Rail) : (s.setRail r).seat = s.seat := rfl
@[simp] theorem State.setRail_led (s : State) (r : Rail) : (s.setRail r).led = s.led := rfl
@[simp] theorem State.setRail_ledSince (s : State) (r : Rail) : (s.setRail r).ledSince = s.ledSince := rfl
@[simp] theorem State.setRail_drawn (s : State) (r : Rail) : (s.setRail r).drawn = s.drawn := rfl
@[simp] theorem State.setRail_pending (s : State) (r : Rail) : (s.setRail r).pending = s.pending := rfl

/-! ### State.setQuiet -/

@[simp] theorem State.setQuiet_now (s : State) (q : Quiet) : (s.setQuiet q).now = s.now := rfl
@[simp] theorem State.setQuiet_keys (s : State) (q : Quiet) : (s.setQuiet q).keys = s.keys := rfl
@[simp] theorem State.setQuiet_learn (s : State) (q : Quiet) : (s.setQuiet q).learn = s.learn := rfl
@[simp] theorem State.setQuiet_cal (s : State) (q : Quiet) : (s.setQuiet q).cal = s.cal := rfl
@[simp] theorem State.setQuiet_commitCount (s : State) (q : Quiet) : (s.setQuiet q).commitCount = s.commitCount := rfl
@[simp] theorem State.setQuiet_saved (s : State) (q : Quiet) : (s.setQuiet q).saved = s.saved := rfl
@[simp] theorem State.setQuiet_eeprom (s : State) (q : Quiet) : (s.setQuiet q).eeprom = s.eeprom := rfl
@[simp] theorem State.setQuiet_commit (s : State) (q : Quiet) : (s.setQuiet q).commit = s.commit := rfl
@[simp] theorem State.setQuiet_committed (s : State) (q : Quiet) : (s.setQuiet q).committed = s.committed := rfl
@[simp] theorem State.setQuiet_startUp (s : State) (q : Quiet) : (s.setQuiet q).startUp = s.startUp := rfl
@[simp] theorem State.setQuiet_test (s : State) (q : Quiet) : (s.setQuiet q).test = s.test := rfl
@[simp] theorem State.setQuiet_runs (s : State) (q : Quiet) : (s.setQuiet q).runs = s.runs := rfl
@[simp] theorem State.setQuiet_lastResult (s : State) (q : Quiet) : (s.setQuiet q).lastResult = s.lastResult := rfl
@[simp] theorem State.setQuiet_live (s : State) (q : Quiet) : (s.setQuiet q).live = s.live := rfl
@[simp] theorem State.setQuiet_play (s : State) (q : Quiet) : (s.setQuiet q).play = s.play := rfl
@[simp] theorem State.setQuiet_liveCapture (s : State) (q : Quiet) : (s.setQuiet q).liveCapture = s.liveCapture := rfl
@[simp] theorem State.setQuiet_playCapture (s : State) (q : Quiet) : (s.setQuiet q).playCapture = s.playCapture := rfl
@[simp] theorem State.setQuiet_rail (s : State) (q : Quiet) :
   (s.setQuiet q).rail = { s.rail with quiet := q } := rfl
@[simp] theorem State.setQuiet_voices (s : State) (q : Quiet) : (s.setQuiet q).voices = s.voices := rfl
@[simp] theorem State.setQuiet_layer (s : State) (q : Quiet) : (s.setQuiet q).layer = s.layer := rfl
@[simp] theorem State.setQuiet_windows (s : State) (q : Quiet) : (s.setQuiet q).windows = s.windows := rfl
@[simp] theorem State.setQuiet_sampleMem (s : State) (q : Quiet) : (s.setQuiet q).sampleMem = s.sampleMem := rfl
@[simp] theorem State.setQuiet_jacks (s : State) (q : Quiet) : (s.setQuiet q).jacks = s.jacks := rfl
@[simp] theorem State.setQuiet_supply (s : State) (q : Quiet) : (s.setQuiet q).supply = s.supply := rfl
@[simp] theorem State.setQuiet_supplyGood (s : State) (q : Quiet) : (s.setQuiet q).supplyGood = s.supplyGood := rfl
@[simp] theorem State.setQuiet_click (s : State) (q : Quiet) : (s.setQuiet q).click = s.click := rfl
@[simp] theorem State.setQuiet_tone (s : State) (q : Quiet) : (s.setQuiet q).tone = s.tone := rfl
@[simp] theorem State.setQuiet_output (s : State) (q : Quiet) : (s.setQuiet q).output = s.output := rfl
@[simp] theorem State.setQuiet_transport (s : State) (q : Quiet) : (s.setQuiet q).transport = s.transport := rfl
@[simp] theorem State.setQuiet_journal (s : State) (q : Quiet) : (s.setQuiet q).journal = s.journal := rfl
@[simp] theorem State.setQuiet_links (s : State) (q : Quiet) : (s.setQuiet q).links = s.links := rfl
@[simp] theorem State.setQuiet_seat (s : State) (q : Quiet) : (s.setQuiet q).seat = s.seat := rfl
@[simp] theorem State.setQuiet_led (s : State) (q : Quiet) : (s.setQuiet q).led = s.led := rfl
@[simp] theorem State.setQuiet_ledSince (s : State) (q : Quiet) : (s.setQuiet q).ledSince = s.ledSince := rfl
@[simp] theorem State.setQuiet_drawn (s : State) (q : Quiet) : (s.setQuiet q).drawn = s.drawn := rfl
@[simp] theorem State.setQuiet_pending (s : State) (q : Quiet) : (s.setQuiet q).pending = s.pending := rfl

/-! ### State.setTransport -/

@[simp] theorem State.setTransport_now (s : State) (x : Transport) : (s.setTransport x).now = s.now := rfl
@[simp] theorem State.setTransport_keys (s : State) (x : Transport) : (s.setTransport x).keys = s.keys := rfl
@[simp] theorem State.setTransport_learn (s : State) (x : Transport) : (s.setTransport x).learn = s.learn := rfl
@[simp] theorem State.setTransport_cal (s : State) (x : Transport) : (s.setTransport x).cal = s.cal := rfl
@[simp] theorem State.setTransport_commitCount (s : State) (x : Transport) : (s.setTransport x).commitCount = s.commitCount := rfl
@[simp] theorem State.setTransport_saved (s : State) (x : Transport) : (s.setTransport x).saved = s.saved := rfl
@[simp] theorem State.setTransport_eeprom (s : State) (x : Transport) : (s.setTransport x).eeprom = s.eeprom := rfl
@[simp] theorem State.setTransport_commit (s : State) (x : Transport) : (s.setTransport x).commit = s.commit := rfl
@[simp] theorem State.setTransport_committed (s : State) (x : Transport) : (s.setTransport x).committed = s.committed := rfl
@[simp] theorem State.setTransport_startUp (s : State) (x : Transport) : (s.setTransport x).startUp = s.startUp := rfl
@[simp] theorem State.setTransport_test (s : State) (x : Transport) : (s.setTransport x).test = s.test := rfl
@[simp] theorem State.setTransport_runs (s : State) (x : Transport) : (s.setTransport x).runs = s.runs := rfl
@[simp] theorem State.setTransport_lastResult (s : State) (x : Transport) : (s.setTransport x).lastResult = s.lastResult := rfl
@[simp] theorem State.setTransport_live (s : State) (x : Transport) : (s.setTransport x).live = s.live := rfl
@[simp] theorem State.setTransport_play (s : State) (x : Transport) : (s.setTransport x).play = s.play := rfl
@[simp] theorem State.setTransport_liveCapture (s : State) (x : Transport) : (s.setTransport x).liveCapture = s.liveCapture := rfl
@[simp] theorem State.setTransport_playCapture (s : State) (x : Transport) : (s.setTransport x).playCapture = s.playCapture := rfl
@[simp] theorem State.setTransport_rail (s : State) (x : Transport) : (s.setTransport x).rail = s.rail := rfl
@[simp] theorem State.setTransport_voices (s : State) (x : Transport) : (s.setTransport x).voices = s.voices := rfl
@[simp] theorem State.setTransport_layer (s : State) (x : Transport) : (s.setTransport x).layer = s.layer := rfl
@[simp] theorem State.setTransport_windows (s : State) (x : Transport) : (s.setTransport x).windows = s.windows := rfl
@[simp] theorem State.setTransport_sampleMem (s : State) (x : Transport) : (s.setTransport x).sampleMem = s.sampleMem := rfl
@[simp] theorem State.setTransport_jacks (s : State) (x : Transport) : (s.setTransport x).jacks = s.jacks := rfl
@[simp] theorem State.setTransport_supply (s : State) (x : Transport) : (s.setTransport x).supply = s.supply := rfl
@[simp] theorem State.setTransport_supplyGood (s : State) (x : Transport) : (s.setTransport x).supplyGood = s.supplyGood := rfl
@[simp] theorem State.setTransport_click (s : State) (x : Transport) : (s.setTransport x).click = s.click := rfl
@[simp] theorem State.setTransport_tone (s : State) (x : Transport) : (s.setTransport x).tone = s.tone := rfl
@[simp] theorem State.setTransport_output (s : State) (x : Transport) : (s.setTransport x).output = s.output := rfl
@[simp] theorem State.setTransport_transport (s : State) (x : Transport) :
   (s.setTransport x).transport = x := rfl
@[simp] theorem State.setTransport_journal (s : State) (x : Transport) : (s.setTransport x).journal = s.journal := rfl
@[simp] theorem State.setTransport_links (s : State) (x : Transport) : (s.setTransport x).links = s.links := rfl
@[simp] theorem State.setTransport_seat (s : State) (x : Transport) : (s.setTransport x).seat = s.seat := rfl
@[simp] theorem State.setTransport_led (s : State) (x : Transport) : (s.setTransport x).led = s.led := rfl
@[simp] theorem State.setTransport_ledSince (s : State) (x : Transport) : (s.setTransport x).ledSince = s.ledSince := rfl
@[simp] theorem State.setTransport_drawn (s : State) (x : Transport) : (s.setTransport x).drawn = s.drawn := rfl
@[simp] theorem State.setTransport_pending (s : State) (x : Transport) : (s.setTransport x).pending = s.pending := rfl

/-! ### State.setTrack -/

@[simp] theorem State.setTrack_now (s : State) (i : TrackIx) (x : Track) : (s.setTrack i x).now = s.now := rfl
@[simp] theorem State.setTrack_keys (s : State) (i : TrackIx) (x : Track) : (s.setTrack i x).keys = s.keys := rfl
@[simp] theorem State.setTrack_learn (s : State) (i : TrackIx) (x : Track) : (s.setTrack i x).learn = s.learn := rfl
@[simp] theorem State.setTrack_cal (s : State) (i : TrackIx) (x : Track) : (s.setTrack i x).cal = s.cal := rfl
@[simp] theorem State.setTrack_commitCount (s : State) (i : TrackIx) (x : Track) : (s.setTrack i x).commitCount = s.commitCount := rfl
@[simp] theorem State.setTrack_saved (s : State) (i : TrackIx) (x : Track) : (s.setTrack i x).saved = s.saved := rfl
@[simp] theorem State.setTrack_eeprom (s : State) (i : TrackIx) (x : Track) : (s.setTrack i x).eeprom = s.eeprom := rfl
@[simp] theorem State.setTrack_commit (s : State) (i : TrackIx) (x : Track) : (s.setTrack i x).commit = s.commit := rfl
@[simp] theorem State.setTrack_committed (s : State) (i : TrackIx) (x : Track) : (s.setTrack i x).committed = s.committed := rfl
@[simp] theorem State.setTrack_startUp (s : State) (i : TrackIx) (x : Track) : (s.setTrack i x).startUp = s.startUp := rfl
@[simp] theorem State.setTrack_test (s : State) (i : TrackIx) (x : Track) : (s.setTrack i x).test = s.test := rfl
@[simp] theorem State.setTrack_runs (s : State) (i : TrackIx) (x : Track) : (s.setTrack i x).runs = s.runs := rfl
@[simp] theorem State.setTrack_lastResult (s : State) (i : TrackIx) (x : Track) : (s.setTrack i x).lastResult = s.lastResult := rfl
@[simp] theorem State.setTrack_live (s : State) (i : TrackIx) (x : Track) : (s.setTrack i x).live = s.live := rfl
@[simp] theorem State.setTrack_play (s : State) (i : TrackIx) (x : Track) : (s.setTrack i x).play = s.play := rfl
@[simp] theorem State.setTrack_liveCapture (s : State) (i : TrackIx) (x : Track) : (s.setTrack i x).liveCapture = s.liveCapture := rfl
@[simp] theorem State.setTrack_playCapture (s : State) (i : TrackIx) (x : Track) : (s.setTrack i x).playCapture = s.playCapture := rfl
@[simp] theorem State.setTrack_rail (s : State) (i : TrackIx) (x : Track) : (s.setTrack i x).rail = s.rail := rfl
@[simp] theorem State.setTrack_voices (s : State) (i : TrackIx) (x : Track) : (s.setTrack i x).voices = s.voices := rfl
@[simp] theorem State.setTrack_layer (s : State) (i : TrackIx) (x : Track) : (s.setTrack i x).layer = s.layer := rfl
@[simp] theorem State.setTrack_windows (s : State) (i : TrackIx) (x : Track) : (s.setTrack i x).windows = s.windows := rfl
@[simp] theorem State.setTrack_sampleMem (s : State) (i : TrackIx) (x : Track) : (s.setTrack i x).sampleMem = s.sampleMem := rfl
@[simp] theorem State.setTrack_jacks (s : State) (i : TrackIx) (x : Track) : (s.setTrack i x).jacks = s.jacks := rfl
@[simp] theorem State.setTrack_supply (s : State) (i : TrackIx) (x : Track) : (s.setTrack i x).supply = s.supply := rfl
@[simp] theorem State.setTrack_supplyGood (s : State) (i : TrackIx) (x : Track) : (s.setTrack i x).supplyGood = s.supplyGood := rfl
@[simp] theorem State.setTrack_click (s : State) (i : TrackIx) (x : Track) : (s.setTrack i x).click = s.click := rfl
@[simp] theorem State.setTrack_tone (s : State) (i : TrackIx) (x : Track) : (s.setTrack i x).tone = s.tone := rfl
@[simp] theorem State.setTrack_output (s : State) (i : TrackIx) (x : Track) : (s.setTrack i x).output = s.output := rfl
@[simp] theorem State.setTrack_transport (s : State) (i : TrackIx) (x : Track) :
   (s.setTrack i x).transport = { s.transport with tracks := tablePut s.transport.tracks i x } := rfl
@[simp] theorem State.setTrack_journal (s : State) (i : TrackIx) (x : Track) : (s.setTrack i x).journal = s.journal := rfl
@[simp] theorem State.setTrack_links (s : State) (i : TrackIx) (x : Track) : (s.setTrack i x).links = s.links := rfl
@[simp] theorem State.setTrack_seat (s : State) (i : TrackIx) (x : Track) : (s.setTrack i x).seat = s.seat := rfl
@[simp] theorem State.setTrack_led (s : State) (i : TrackIx) (x : Track) : (s.setTrack i x).led = s.led := rfl
@[simp] theorem State.setTrack_ledSince (s : State) (i : TrackIx) (x : Track) : (s.setTrack i x).ledSince = s.ledSince := rfl
@[simp] theorem State.setTrack_drawn (s : State) (i : TrackIx) (x : Track) : (s.setTrack i x).drawn = s.drawn := rfl
@[simp] theorem State.setTrack_pending (s : State) (i : TrackIx) (x : Track) : (s.setTrack i x).pending = s.pending := rfl

/-! ### State.setVoice -/

@[simp] theorem State.setVoice_now (s : State) (i : VoiceIx) (v : Option Voice) : (s.setVoice i v).now = s.now := rfl
@[simp] theorem State.setVoice_keys (s : State) (i : VoiceIx) (v : Option Voice) : (s.setVoice i v).keys = s.keys := rfl
@[simp] theorem State.setVoice_learn (s : State) (i : VoiceIx) (v : Option Voice) : (s.setVoice i v).learn = s.learn := rfl
@[simp] theorem State.setVoice_cal (s : State) (i : VoiceIx) (v : Option Voice) : (s.setVoice i v).cal = s.cal := rfl
@[simp] theorem State.setVoice_commitCount (s : State) (i : VoiceIx) (v : Option Voice) : (s.setVoice i v).commitCount = s.commitCount := rfl
@[simp] theorem State.setVoice_saved (s : State) (i : VoiceIx) (v : Option Voice) : (s.setVoice i v).saved = s.saved := rfl
@[simp] theorem State.setVoice_eeprom (s : State) (i : VoiceIx) (v : Option Voice) : (s.setVoice i v).eeprom = s.eeprom := rfl
@[simp] theorem State.setVoice_commit (s : State) (i : VoiceIx) (v : Option Voice) : (s.setVoice i v).commit = s.commit := rfl
@[simp] theorem State.setVoice_committed (s : State) (i : VoiceIx) (v : Option Voice) : (s.setVoice i v).committed = s.committed := rfl
@[simp] theorem State.setVoice_startUp (s : State) (i : VoiceIx) (v : Option Voice) : (s.setVoice i v).startUp = s.startUp := rfl
@[simp] theorem State.setVoice_test (s : State) (i : VoiceIx) (v : Option Voice) : (s.setVoice i v).test = s.test := rfl
@[simp] theorem State.setVoice_runs (s : State) (i : VoiceIx) (v : Option Voice) : (s.setVoice i v).runs = s.runs := rfl
@[simp] theorem State.setVoice_lastResult (s : State) (i : VoiceIx) (v : Option Voice) : (s.setVoice i v).lastResult = s.lastResult := rfl
@[simp] theorem State.setVoice_live (s : State) (i : VoiceIx) (v : Option Voice) : (s.setVoice i v).live = s.live := rfl
@[simp] theorem State.setVoice_play (s : State) (i : VoiceIx) (v : Option Voice) : (s.setVoice i v).play = s.play := rfl
@[simp] theorem State.setVoice_liveCapture (s : State) (i : VoiceIx) (v : Option Voice) : (s.setVoice i v).liveCapture = s.liveCapture := rfl
@[simp] theorem State.setVoice_playCapture (s : State) (i : VoiceIx) (v : Option Voice) : (s.setVoice i v).playCapture = s.playCapture := rfl
@[simp] theorem State.setVoice_rail (s : State) (i : VoiceIx) (v : Option Voice) : (s.setVoice i v).rail = s.rail := rfl
@[simp] theorem State.setVoice_voices (s : State) (i : VoiceIx) (v : Option Voice) :
   (s.setVoice i v).voices = tablePut s.voices i v := rfl
@[simp] theorem State.setVoice_layer (s : State) (i : VoiceIx) (v : Option Voice) : (s.setVoice i v).layer = s.layer := rfl
@[simp] theorem State.setVoice_windows (s : State) (i : VoiceIx) (v : Option Voice) : (s.setVoice i v).windows = s.windows := rfl
@[simp] theorem State.setVoice_sampleMem (s : State) (i : VoiceIx) (v : Option Voice) : (s.setVoice i v).sampleMem = s.sampleMem := rfl
@[simp] theorem State.setVoice_jacks (s : State) (i : VoiceIx) (v : Option Voice) : (s.setVoice i v).jacks = s.jacks := rfl
@[simp] theorem State.setVoice_supply (s : State) (i : VoiceIx) (v : Option Voice) : (s.setVoice i v).supply = s.supply := rfl
@[simp] theorem State.setVoice_supplyGood (s : State) (i : VoiceIx) (v : Option Voice) : (s.setVoice i v).supplyGood = s.supplyGood := rfl
@[simp] theorem State.setVoice_click (s : State) (i : VoiceIx) (v : Option Voice) : (s.setVoice i v).click = s.click := rfl
@[simp] theorem State.setVoice_tone (s : State) (i : VoiceIx) (v : Option Voice) : (s.setVoice i v).tone = s.tone := rfl
@[simp] theorem State.setVoice_output (s : State) (i : VoiceIx) (v : Option Voice) : (s.setVoice i v).output = s.output := rfl
@[simp] theorem State.setVoice_transport (s : State) (i : VoiceIx) (v : Option Voice) : (s.setVoice i v).transport = s.transport := rfl
@[simp] theorem State.setVoice_journal (s : State) (i : VoiceIx) (v : Option Voice) : (s.setVoice i v).journal = s.journal := rfl
@[simp] theorem State.setVoice_links (s : State) (i : VoiceIx) (v : Option Voice) : (s.setVoice i v).links = s.links := rfl
@[simp] theorem State.setVoice_seat (s : State) (i : VoiceIx) (v : Option Voice) : (s.setVoice i v).seat = s.seat := rfl
@[simp] theorem State.setVoice_led (s : State) (i : VoiceIx) (v : Option Voice) : (s.setVoice i v).led = s.led := rfl
@[simp] theorem State.setVoice_ledSince (s : State) (i : VoiceIx) (v : Option Voice) : (s.setVoice i v).ledSince = s.ledSince := rfl
@[simp] theorem State.setVoice_drawn (s : State) (i : VoiceIx) (v : Option Voice) : (s.setVoice i v).drawn = s.drawn := rfl
@[simp] theorem State.setVoice_pending (s : State) (i : VoiceIx) (v : Option Voice) : (s.setVoice i v).pending = s.pending := rfl

/-! ### State.mapVoices -/

@[simp] theorem State.mapVoices_now (s : State) (f : Voice → Voice) : (s.mapVoices f).now = s.now := rfl
@[simp] theorem State.mapVoices_keys (s : State) (f : Voice → Voice) : (s.mapVoices f).keys = s.keys := rfl
@[simp] theorem State.mapVoices_learn (s : State) (f : Voice → Voice) : (s.mapVoices f).learn = s.learn := rfl
@[simp] theorem State.mapVoices_cal (s : State) (f : Voice → Voice) : (s.mapVoices f).cal = s.cal := rfl
@[simp] theorem State.mapVoices_commitCount (s : State) (f : Voice → Voice) : (s.mapVoices f).commitCount = s.commitCount := rfl
@[simp] theorem State.mapVoices_saved (s : State) (f : Voice → Voice) : (s.mapVoices f).saved = s.saved := rfl
@[simp] theorem State.mapVoices_eeprom (s : State) (f : Voice → Voice) : (s.mapVoices f).eeprom = s.eeprom := rfl
@[simp] theorem State.mapVoices_commit (s : State) (f : Voice → Voice) : (s.mapVoices f).commit = s.commit := rfl
@[simp] theorem State.mapVoices_committed (s : State) (f : Voice → Voice) : (s.mapVoices f).committed = s.committed := rfl
@[simp] theorem State.mapVoices_startUp (s : State) (f : Voice → Voice) : (s.mapVoices f).startUp = s.startUp := rfl
@[simp] theorem State.mapVoices_test (s : State) (f : Voice → Voice) : (s.mapVoices f).test = s.test := rfl
@[simp] theorem State.mapVoices_runs (s : State) (f : Voice → Voice) : (s.mapVoices f).runs = s.runs := rfl
@[simp] theorem State.mapVoices_lastResult (s : State) (f : Voice → Voice) : (s.mapVoices f).lastResult = s.lastResult := rfl
@[simp] theorem State.mapVoices_live (s : State) (f : Voice → Voice) : (s.mapVoices f).live = s.live := rfl
@[simp] theorem State.mapVoices_play (s : State) (f : Voice → Voice) : (s.mapVoices f).play = s.play := rfl
@[simp] theorem State.mapVoices_liveCapture (s : State) (f : Voice → Voice) : (s.mapVoices f).liveCapture = s.liveCapture := rfl
@[simp] theorem State.mapVoices_playCapture (s : State) (f : Voice → Voice) : (s.mapVoices f).playCapture = s.playCapture := rfl
@[simp] theorem State.mapVoices_rail (s : State) (f : Voice → Voice) : (s.mapVoices f).rail = s.rail := rfl
@[simp] theorem State.mapVoices_voices (s : State) (f : Voice → Voice) :
   (s.mapVoices f).voices = tableMap (fun v => v.map f) s.voices := rfl
@[simp] theorem State.mapVoices_layer (s : State) (f : Voice → Voice) : (s.mapVoices f).layer = s.layer := rfl
@[simp] theorem State.mapVoices_windows (s : State) (f : Voice → Voice) : (s.mapVoices f).windows = s.windows := rfl
@[simp] theorem State.mapVoices_sampleMem (s : State) (f : Voice → Voice) : (s.mapVoices f).sampleMem = s.sampleMem := rfl
@[simp] theorem State.mapVoices_jacks (s : State) (f : Voice → Voice) : (s.mapVoices f).jacks = s.jacks := rfl
@[simp] theorem State.mapVoices_supply (s : State) (f : Voice → Voice) : (s.mapVoices f).supply = s.supply := rfl
@[simp] theorem State.mapVoices_supplyGood (s : State) (f : Voice → Voice) : (s.mapVoices f).supplyGood = s.supplyGood := rfl
@[simp] theorem State.mapVoices_click (s : State) (f : Voice → Voice) : (s.mapVoices f).click = s.click := rfl
@[simp] theorem State.mapVoices_tone (s : State) (f : Voice → Voice) : (s.mapVoices f).tone = s.tone := rfl
@[simp] theorem State.mapVoices_output (s : State) (f : Voice → Voice) : (s.mapVoices f).output = s.output := rfl
@[simp] theorem State.mapVoices_transport (s : State) (f : Voice → Voice) : (s.mapVoices f).transport = s.transport := rfl
@[simp] theorem State.mapVoices_journal (s : State) (f : Voice → Voice) : (s.mapVoices f).journal = s.journal := rfl
@[simp] theorem State.mapVoices_links (s : State) (f : Voice → Voice) : (s.mapVoices f).links = s.links := rfl
@[simp] theorem State.mapVoices_seat (s : State) (f : Voice → Voice) : (s.mapVoices f).seat = s.seat := rfl
@[simp] theorem State.mapVoices_led (s : State) (f : Voice → Voice) : (s.mapVoices f).led = s.led := rfl
@[simp] theorem State.mapVoices_ledSince (s : State) (f : Voice → Voice) : (s.mapVoices f).ledSince = s.ledSince := rfl
@[simp] theorem State.mapVoices_drawn (s : State) (f : Voice → Voice) : (s.mapVoices f).drawn = s.drawn := rfl
@[simp] theorem State.mapVoices_pending (s : State) (f : Voice → Voice) : (s.mapVoices f).pending = s.pending := rfl

/-! ### State.setLive -/

@[simp] theorem State.setLive_now (s : State) (i : PedalIx) (x : LiveChannel) : (s.setLive i x).now = s.now := rfl
@[simp] theorem State.setLive_keys (s : State) (i : PedalIx) (x : LiveChannel) : (s.setLive i x).keys = s.keys := rfl
@[simp] theorem State.setLive_learn (s : State) (i : PedalIx) (x : LiveChannel) : (s.setLive i x).learn = s.learn := rfl
@[simp] theorem State.setLive_cal (s : State) (i : PedalIx) (x : LiveChannel) : (s.setLive i x).cal = s.cal := rfl
@[simp] theorem State.setLive_commitCount (s : State) (i : PedalIx) (x : LiveChannel) : (s.setLive i x).commitCount = s.commitCount := rfl
@[simp] theorem State.setLive_saved (s : State) (i : PedalIx) (x : LiveChannel) : (s.setLive i x).saved = s.saved := rfl
@[simp] theorem State.setLive_eeprom (s : State) (i : PedalIx) (x : LiveChannel) : (s.setLive i x).eeprom = s.eeprom := rfl
@[simp] theorem State.setLive_commit (s : State) (i : PedalIx) (x : LiveChannel) : (s.setLive i x).commit = s.commit := rfl
@[simp] theorem State.setLive_committed (s : State) (i : PedalIx) (x : LiveChannel) : (s.setLive i x).committed = s.committed := rfl
@[simp] theorem State.setLive_startUp (s : State) (i : PedalIx) (x : LiveChannel) : (s.setLive i x).startUp = s.startUp := rfl
@[simp] theorem State.setLive_test (s : State) (i : PedalIx) (x : LiveChannel) : (s.setLive i x).test = s.test := rfl
@[simp] theorem State.setLive_runs (s : State) (i : PedalIx) (x : LiveChannel) : (s.setLive i x).runs = s.runs := rfl
@[simp] theorem State.setLive_lastResult (s : State) (i : PedalIx) (x : LiveChannel) : (s.setLive i x).lastResult = s.lastResult := rfl
@[simp] theorem State.setLive_live (s : State) (i : PedalIx) (x : LiveChannel) :
   (s.setLive i x).live = tablePut s.live i x := rfl
@[simp] theorem State.setLive_play (s : State) (i : PedalIx) (x : LiveChannel) : (s.setLive i x).play = s.play := rfl
@[simp] theorem State.setLive_liveCapture (s : State) (i : PedalIx) (x : LiveChannel) : (s.setLive i x).liveCapture = s.liveCapture := rfl
@[simp] theorem State.setLive_playCapture (s : State) (i : PedalIx) (x : LiveChannel) : (s.setLive i x).playCapture = s.playCapture := rfl
@[simp] theorem State.setLive_rail (s : State) (i : PedalIx) (x : LiveChannel) : (s.setLive i x).rail = s.rail := rfl
@[simp] theorem State.setLive_voices (s : State) (i : PedalIx) (x : LiveChannel) : (s.setLive i x).voices = s.voices := rfl
@[simp] theorem State.setLive_layer (s : State) (i : PedalIx) (x : LiveChannel) : (s.setLive i x).layer = s.layer := rfl
@[simp] theorem State.setLive_windows (s : State) (i : PedalIx) (x : LiveChannel) : (s.setLive i x).windows = s.windows := rfl
@[simp] theorem State.setLive_sampleMem (s : State) (i : PedalIx) (x : LiveChannel) : (s.setLive i x).sampleMem = s.sampleMem := rfl
@[simp] theorem State.setLive_jacks (s : State) (i : PedalIx) (x : LiveChannel) : (s.setLive i x).jacks = s.jacks := rfl
@[simp] theorem State.setLive_supply (s : State) (i : PedalIx) (x : LiveChannel) : (s.setLive i x).supply = s.supply := rfl
@[simp] theorem State.setLive_supplyGood (s : State) (i : PedalIx) (x : LiveChannel) : (s.setLive i x).supplyGood = s.supplyGood := rfl
@[simp] theorem State.setLive_click (s : State) (i : PedalIx) (x : LiveChannel) : (s.setLive i x).click = s.click := rfl
@[simp] theorem State.setLive_tone (s : State) (i : PedalIx) (x : LiveChannel) : (s.setLive i x).tone = s.tone := rfl
@[simp] theorem State.setLive_output (s : State) (i : PedalIx) (x : LiveChannel) : (s.setLive i x).output = s.output := rfl
@[simp] theorem State.setLive_transport (s : State) (i : PedalIx) (x : LiveChannel) : (s.setLive i x).transport = s.transport := rfl
@[simp] theorem State.setLive_journal (s : State) (i : PedalIx) (x : LiveChannel) : (s.setLive i x).journal = s.journal := rfl
@[simp] theorem State.setLive_links (s : State) (i : PedalIx) (x : LiveChannel) : (s.setLive i x).links = s.links := rfl
@[simp] theorem State.setLive_seat (s : State) (i : PedalIx) (x : LiveChannel) : (s.setLive i x).seat = s.seat := rfl
@[simp] theorem State.setLive_led (s : State) (i : PedalIx) (x : LiveChannel) : (s.setLive i x).led = s.led := rfl
@[simp] theorem State.setLive_ledSince (s : State) (i : PedalIx) (x : LiveChannel) : (s.setLive i x).ledSince = s.ledSince := rfl
@[simp] theorem State.setLive_drawn (s : State) (i : PedalIx) (x : LiveChannel) : (s.setLive i x).drawn = s.drawn := rfl
@[simp] theorem State.setLive_pending (s : State) (i : PedalIx) (x : LiveChannel) : (s.setLive i x).pending = s.pending := rfl

/-! ### State.setPlay -/

@[simp] theorem State.setPlay_now (s : State) (i : PedalIx) (x : PlayChannel) : (s.setPlay i x).now = s.now := rfl
@[simp] theorem State.setPlay_keys (s : State) (i : PedalIx) (x : PlayChannel) : (s.setPlay i x).keys = s.keys := rfl
@[simp] theorem State.setPlay_learn (s : State) (i : PedalIx) (x : PlayChannel) : (s.setPlay i x).learn = s.learn := rfl
@[simp] theorem State.setPlay_cal (s : State) (i : PedalIx) (x : PlayChannel) : (s.setPlay i x).cal = s.cal := rfl
@[simp] theorem State.setPlay_commitCount (s : State) (i : PedalIx) (x : PlayChannel) : (s.setPlay i x).commitCount = s.commitCount := rfl
@[simp] theorem State.setPlay_saved (s : State) (i : PedalIx) (x : PlayChannel) : (s.setPlay i x).saved = s.saved := rfl
@[simp] theorem State.setPlay_eeprom (s : State) (i : PedalIx) (x : PlayChannel) : (s.setPlay i x).eeprom = s.eeprom := rfl
@[simp] theorem State.setPlay_commit (s : State) (i : PedalIx) (x : PlayChannel) : (s.setPlay i x).commit = s.commit := rfl
@[simp] theorem State.setPlay_committed (s : State) (i : PedalIx) (x : PlayChannel) : (s.setPlay i x).committed = s.committed := rfl
@[simp] theorem State.setPlay_startUp (s : State) (i : PedalIx) (x : PlayChannel) : (s.setPlay i x).startUp = s.startUp := rfl
@[simp] theorem State.setPlay_test (s : State) (i : PedalIx) (x : PlayChannel) : (s.setPlay i x).test = s.test := rfl
@[simp] theorem State.setPlay_runs (s : State) (i : PedalIx) (x : PlayChannel) : (s.setPlay i x).runs = s.runs := rfl
@[simp] theorem State.setPlay_lastResult (s : State) (i : PedalIx) (x : PlayChannel) : (s.setPlay i x).lastResult = s.lastResult := rfl
@[simp] theorem State.setPlay_live (s : State) (i : PedalIx) (x : PlayChannel) : (s.setPlay i x).live = s.live := rfl
@[simp] theorem State.setPlay_play (s : State) (i : PedalIx) (x : PlayChannel) :
   (s.setPlay i x).play = tablePut s.play i x := rfl
@[simp] theorem State.setPlay_liveCapture (s : State) (i : PedalIx) (x : PlayChannel) : (s.setPlay i x).liveCapture = s.liveCapture := rfl
@[simp] theorem State.setPlay_playCapture (s : State) (i : PedalIx) (x : PlayChannel) : (s.setPlay i x).playCapture = s.playCapture := rfl
@[simp] theorem State.setPlay_rail (s : State) (i : PedalIx) (x : PlayChannel) : (s.setPlay i x).rail = s.rail := rfl
@[simp] theorem State.setPlay_voices (s : State) (i : PedalIx) (x : PlayChannel) : (s.setPlay i x).voices = s.voices := rfl
@[simp] theorem State.setPlay_layer (s : State) (i : PedalIx) (x : PlayChannel) : (s.setPlay i x).layer = s.layer := rfl
@[simp] theorem State.setPlay_windows (s : State) (i : PedalIx) (x : PlayChannel) : (s.setPlay i x).windows = s.windows := rfl
@[simp] theorem State.setPlay_sampleMem (s : State) (i : PedalIx) (x : PlayChannel) : (s.setPlay i x).sampleMem = s.sampleMem := rfl
@[simp] theorem State.setPlay_jacks (s : State) (i : PedalIx) (x : PlayChannel) : (s.setPlay i x).jacks = s.jacks := rfl
@[simp] theorem State.setPlay_supply (s : State) (i : PedalIx) (x : PlayChannel) : (s.setPlay i x).supply = s.supply := rfl
@[simp] theorem State.setPlay_supplyGood (s : State) (i : PedalIx) (x : PlayChannel) : (s.setPlay i x).supplyGood = s.supplyGood := rfl
@[simp] theorem State.setPlay_click (s : State) (i : PedalIx) (x : PlayChannel) : (s.setPlay i x).click = s.click := rfl
@[simp] theorem State.setPlay_tone (s : State) (i : PedalIx) (x : PlayChannel) : (s.setPlay i x).tone = s.tone := rfl
@[simp] theorem State.setPlay_output (s : State) (i : PedalIx) (x : PlayChannel) : (s.setPlay i x).output = s.output := rfl
@[simp] theorem State.setPlay_transport (s : State) (i : PedalIx) (x : PlayChannel) : (s.setPlay i x).transport = s.transport := rfl
@[simp] theorem State.setPlay_journal (s : State) (i : PedalIx) (x : PlayChannel) : (s.setPlay i x).journal = s.journal := rfl
@[simp] theorem State.setPlay_links (s : State) (i : PedalIx) (x : PlayChannel) : (s.setPlay i x).links = s.links := rfl
@[simp] theorem State.setPlay_seat (s : State) (i : PedalIx) (x : PlayChannel) : (s.setPlay i x).seat = s.seat := rfl
@[simp] theorem State.setPlay_led (s : State) (i : PedalIx) (x : PlayChannel) : (s.setPlay i x).led = s.led := rfl
@[simp] theorem State.setPlay_ledSince (s : State) (i : PedalIx) (x : PlayChannel) : (s.setPlay i x).ledSince = s.ledSince := rfl
@[simp] theorem State.setPlay_drawn (s : State) (i : PedalIx) (x : PlayChannel) : (s.setPlay i x).drawn = s.drawn := rfl
@[simp] theorem State.setPlay_pending (s : State) (i : PedalIx) (x : PlayChannel) : (s.setPlay i x).pending = s.pending := rfl

/-! ### State.setJack -/

@[simp] theorem State.setJack_now (s : State) (i : JackIx) (j : Jack) : (s.setJack i j).now = s.now := rfl
@[simp] theorem State.setJack_keys (s : State) (i : JackIx) (j : Jack) : (s.setJack i j).keys = s.keys := rfl
@[simp] theorem State.setJack_learn (s : State) (i : JackIx) (j : Jack) : (s.setJack i j).learn = s.learn := rfl
@[simp] theorem State.setJack_cal (s : State) (i : JackIx) (j : Jack) : (s.setJack i j).cal = s.cal := rfl
@[simp] theorem State.setJack_commitCount (s : State) (i : JackIx) (j : Jack) : (s.setJack i j).commitCount = s.commitCount := rfl
@[simp] theorem State.setJack_saved (s : State) (i : JackIx) (j : Jack) : (s.setJack i j).saved = s.saved := rfl
@[simp] theorem State.setJack_eeprom (s : State) (i : JackIx) (j : Jack) : (s.setJack i j).eeprom = s.eeprom := rfl
@[simp] theorem State.setJack_commit (s : State) (i : JackIx) (j : Jack) : (s.setJack i j).commit = s.commit := rfl
@[simp] theorem State.setJack_committed (s : State) (i : JackIx) (j : Jack) : (s.setJack i j).committed = s.committed := rfl
@[simp] theorem State.setJack_startUp (s : State) (i : JackIx) (j : Jack) : (s.setJack i j).startUp = s.startUp := rfl
@[simp] theorem State.setJack_test (s : State) (i : JackIx) (j : Jack) : (s.setJack i j).test = s.test := rfl
@[simp] theorem State.setJack_runs (s : State) (i : JackIx) (j : Jack) : (s.setJack i j).runs = s.runs := rfl
@[simp] theorem State.setJack_lastResult (s : State) (i : JackIx) (j : Jack) : (s.setJack i j).lastResult = s.lastResult := rfl
@[simp] theorem State.setJack_live (s : State) (i : JackIx) (j : Jack) : (s.setJack i j).live = s.live := rfl
@[simp] theorem State.setJack_play (s : State) (i : JackIx) (j : Jack) : (s.setJack i j).play = s.play := rfl
@[simp] theorem State.setJack_liveCapture (s : State) (i : JackIx) (j : Jack) : (s.setJack i j).liveCapture = s.liveCapture := rfl
@[simp] theorem State.setJack_playCapture (s : State) (i : JackIx) (j : Jack) : (s.setJack i j).playCapture = s.playCapture := rfl
@[simp] theorem State.setJack_rail (s : State) (i : JackIx) (j : Jack) : (s.setJack i j).rail = s.rail := rfl
@[simp] theorem State.setJack_voices (s : State) (i : JackIx) (j : Jack) : (s.setJack i j).voices = s.voices := rfl
@[simp] theorem State.setJack_layer (s : State) (i : JackIx) (j : Jack) : (s.setJack i j).layer = s.layer := rfl
@[simp] theorem State.setJack_windows (s : State) (i : JackIx) (j : Jack) : (s.setJack i j).windows = s.windows := rfl
@[simp] theorem State.setJack_sampleMem (s : State) (i : JackIx) (j : Jack) : (s.setJack i j).sampleMem = s.sampleMem := rfl
@[simp] theorem State.setJack_jacks (s : State) (i : JackIx) (j : Jack) :
   (s.setJack i j).jacks = s.jacks.put i j := rfl
@[simp] theorem State.setJack_supply (s : State) (i : JackIx) (j : Jack) : (s.setJack i j).supply = s.supply := rfl
@[simp] theorem State.setJack_supplyGood (s : State) (i : JackIx) (j : Jack) : (s.setJack i j).supplyGood = s.supplyGood := rfl
@[simp] theorem State.setJack_click (s : State) (i : JackIx) (j : Jack) : (s.setJack i j).click = s.click := rfl
@[simp] theorem State.setJack_tone (s : State) (i : JackIx) (j : Jack) : (s.setJack i j).tone = s.tone := rfl
@[simp] theorem State.setJack_output (s : State) (i : JackIx) (j : Jack) : (s.setJack i j).output = s.output := rfl
@[simp] theorem State.setJack_transport (s : State) (i : JackIx) (j : Jack) : (s.setJack i j).transport = s.transport := rfl
@[simp] theorem State.setJack_journal (s : State) (i : JackIx) (j : Jack) : (s.setJack i j).journal = s.journal := rfl
@[simp] theorem State.setJack_links (s : State) (i : JackIx) (j : Jack) : (s.setJack i j).links = s.links := rfl
@[simp] theorem State.setJack_seat (s : State) (i : JackIx) (j : Jack) : (s.setJack i j).seat = s.seat := rfl
@[simp] theorem State.setJack_led (s : State) (i : JackIx) (j : Jack) : (s.setJack i j).led = s.led := rfl
@[simp] theorem State.setJack_ledSince (s : State) (i : JackIx) (j : Jack) : (s.setJack i j).ledSince = s.ledSince := rfl
@[simp] theorem State.setJack_drawn (s : State) (i : JackIx) (j : Jack) : (s.setJack i j).drawn = s.drawn := rfl
@[simp] theorem State.setJack_pending (s : State) (i : JackIx) (j : Jack) : (s.setJack i j).pending = s.pending := rfl

/-! ### State.raise -/

@[simp] theorem State.raise_now (s : State) (c : Condition) : (s.raise c).now = s.now := rfl
@[simp] theorem State.raise_keys (s : State) (c : Condition) : (s.raise c).keys = s.keys := rfl
@[simp] theorem State.raise_learn (s : State) (c : Condition) : (s.raise c).learn = s.learn := rfl
@[simp] theorem State.raise_cal (s : State) (c : Condition) : (s.raise c).cal = s.cal := rfl
@[simp] theorem State.raise_commitCount (s : State) (c : Condition) : (s.raise c).commitCount = s.commitCount := rfl
@[simp] theorem State.raise_saved (s : State) (c : Condition) : (s.raise c).saved = s.saved := rfl
@[simp] theorem State.raise_eeprom (s : State) (c : Condition) : (s.raise c).eeprom = s.eeprom := rfl
@[simp] theorem State.raise_commit (s : State) (c : Condition) : (s.raise c).commit = s.commit := rfl
@[simp] theorem State.raise_committed (s : State) (c : Condition) : (s.raise c).committed = s.committed := rfl
@[simp] theorem State.raise_startUp (s : State) (c : Condition) : (s.raise c).startUp = s.startUp := rfl
@[simp] theorem State.raise_test (s : State) (c : Condition) : (s.raise c).test = s.test := rfl
@[simp] theorem State.raise_runs (s : State) (c : Condition) : (s.raise c).runs = s.runs := rfl
@[simp] theorem State.raise_lastResult (s : State) (c : Condition) : (s.raise c).lastResult = s.lastResult := rfl
@[simp] theorem State.raise_live (s : State) (c : Condition) : (s.raise c).live = s.live := rfl
@[simp] theorem State.raise_play (s : State) (c : Condition) : (s.raise c).play = s.play := rfl
@[simp] theorem State.raise_liveCapture (s : State) (c : Condition) : (s.raise c).liveCapture = s.liveCapture := rfl
@[simp] theorem State.raise_playCapture (s : State) (c : Condition) : (s.raise c).playCapture = s.playCapture := rfl
@[simp] theorem State.raise_rail (s : State) (c : Condition) : (s.raise c).rail = s.rail := rfl
@[simp] theorem State.raise_voices (s : State) (c : Condition) : (s.raise c).voices = s.voices := rfl
@[simp] theorem State.raise_layer (s : State) (c : Condition) : (s.raise c).layer = s.layer := rfl
@[simp] theorem State.raise_windows (s : State) (c : Condition) : (s.raise c).windows = s.windows := rfl
@[simp] theorem State.raise_sampleMem (s : State) (c : Condition) : (s.raise c).sampleMem = s.sampleMem := rfl
@[simp] theorem State.raise_jacks (s : State) (c : Condition) : (s.raise c).jacks = s.jacks := rfl
@[simp] theorem State.raise_supply (s : State) (c : Condition) : (s.raise c).supply = s.supply := rfl
@[simp] theorem State.raise_supplyGood (s : State) (c : Condition) : (s.raise c).supplyGood = s.supplyGood := rfl
@[simp] theorem State.raise_click (s : State) (c : Condition) : (s.raise c).click = s.click := rfl
@[simp] theorem State.raise_tone (s : State) (c : Condition) : (s.raise c).tone = s.tone := rfl
@[simp] theorem State.raise_output (s : State) (c : Condition) : (s.raise c).output = s.output := rfl
@[simp] theorem State.raise_transport (s : State) (c : Condition) : (s.raise c).transport = s.transport := rfl
@[simp] theorem State.raise_journal (s : State) (c : Condition) : (s.raise c).journal = s.journal := rfl
@[simp] theorem State.raise_links (s : State) (c : Condition) :
   (s.raise c).links = s.links.map (fun r => r.raise c) := rfl
@[simp] theorem State.raise_seat (s : State) (c : Condition) : (s.raise c).seat = s.seat := rfl
@[simp] theorem State.raise_led (s : State) (c : Condition) : (s.raise c).led = s.led := rfl
@[simp] theorem State.raise_ledSince (s : State) (c : Condition) : (s.raise c).ledSince = s.ledSince := rfl
@[simp] theorem State.raise_drawn (s : State) (c : Condition) : (s.raise c).drawn = s.drawn := rfl
@[simp] theorem State.raise_pending (s : State) (c : Condition) : (s.raise c).pending = s.pending := rfl

/-! ### State.raiseOn -/

@[simp] theorem State.raiseOn_now (s : State) (l : Link) (c : Condition) : (s.raiseOn l c).now = s.now := rfl
@[simp] theorem State.raiseOn_keys (s : State) (l : Link) (c : Condition) : (s.raiseOn l c).keys = s.keys := rfl
@[simp] theorem State.raiseOn_learn (s : State) (l : Link) (c : Condition) : (s.raiseOn l c).learn = s.learn := rfl
@[simp] theorem State.raiseOn_cal (s : State) (l : Link) (c : Condition) : (s.raiseOn l c).cal = s.cal := rfl
@[simp] theorem State.raiseOn_commitCount (s : State) (l : Link) (c : Condition) : (s.raiseOn l c).commitCount = s.commitCount := rfl
@[simp] theorem State.raiseOn_saved (s : State) (l : Link) (c : Condition) : (s.raiseOn l c).saved = s.saved := rfl
@[simp] theorem State.raiseOn_eeprom (s : State) (l : Link) (c : Condition) : (s.raiseOn l c).eeprom = s.eeprom := rfl
@[simp] theorem State.raiseOn_commit (s : State) (l : Link) (c : Condition) : (s.raiseOn l c).commit = s.commit := rfl
@[simp] theorem State.raiseOn_committed (s : State) (l : Link) (c : Condition) : (s.raiseOn l c).committed = s.committed := rfl
@[simp] theorem State.raiseOn_startUp (s : State) (l : Link) (c : Condition) : (s.raiseOn l c).startUp = s.startUp := rfl
@[simp] theorem State.raiseOn_test (s : State) (l : Link) (c : Condition) : (s.raiseOn l c).test = s.test := rfl
@[simp] theorem State.raiseOn_runs (s : State) (l : Link) (c : Condition) : (s.raiseOn l c).runs = s.runs := rfl
@[simp] theorem State.raiseOn_lastResult (s : State) (l : Link) (c : Condition) : (s.raiseOn l c).lastResult = s.lastResult := rfl
@[simp] theorem State.raiseOn_live (s : State) (l : Link) (c : Condition) : (s.raiseOn l c).live = s.live := rfl
@[simp] theorem State.raiseOn_play (s : State) (l : Link) (c : Condition) : (s.raiseOn l c).play = s.play := rfl
@[simp] theorem State.raiseOn_liveCapture (s : State) (l : Link) (c : Condition) : (s.raiseOn l c).liveCapture = s.liveCapture := rfl
@[simp] theorem State.raiseOn_playCapture (s : State) (l : Link) (c : Condition) : (s.raiseOn l c).playCapture = s.playCapture := rfl
@[simp] theorem State.raiseOn_rail (s : State) (l : Link) (c : Condition) : (s.raiseOn l c).rail = s.rail := rfl
@[simp] theorem State.raiseOn_voices (s : State) (l : Link) (c : Condition) : (s.raiseOn l c).voices = s.voices := rfl
@[simp] theorem State.raiseOn_layer (s : State) (l : Link) (c : Condition) : (s.raiseOn l c).layer = s.layer := rfl
@[simp] theorem State.raiseOn_windows (s : State) (l : Link) (c : Condition) : (s.raiseOn l c).windows = s.windows := rfl
@[simp] theorem State.raiseOn_sampleMem (s : State) (l : Link) (c : Condition) : (s.raiseOn l c).sampleMem = s.sampleMem := rfl
@[simp] theorem State.raiseOn_jacks (s : State) (l : Link) (c : Condition) : (s.raiseOn l c).jacks = s.jacks := rfl
@[simp] theorem State.raiseOn_supply (s : State) (l : Link) (c : Condition) : (s.raiseOn l c).supply = s.supply := rfl
@[simp] theorem State.raiseOn_supplyGood (s : State) (l : Link) (c : Condition) : (s.raiseOn l c).supplyGood = s.supplyGood := rfl
@[simp] theorem State.raiseOn_click (s : State) (l : Link) (c : Condition) : (s.raiseOn l c).click = s.click := rfl
@[simp] theorem State.raiseOn_tone (s : State) (l : Link) (c : Condition) : (s.raiseOn l c).tone = s.tone := rfl
@[simp] theorem State.raiseOn_output (s : State) (l : Link) (c : Condition) : (s.raiseOn l c).output = s.output := rfl
@[simp] theorem State.raiseOn_transport (s : State) (l : Link) (c : Condition) : (s.raiseOn l c).transport = s.transport := rfl
@[simp] theorem State.raiseOn_journal (s : State) (l : Link) (c : Condition) : (s.raiseOn l c).journal = s.journal := rfl
@[simp] theorem State.raiseOn_links (s : State) (l : Link) (c : Condition) :
   (s.raiseOn l c).links = s.links.put l ((s.link l).raise c) := rfl
@[simp] theorem State.raiseOn_seat (s : State) (l : Link) (c : Condition) : (s.raiseOn l c).seat = s.seat := rfl
@[simp] theorem State.raiseOn_led (s : State) (l : Link) (c : Condition) : (s.raiseOn l c).led = s.led := rfl
@[simp] theorem State.raiseOn_ledSince (s : State) (l : Link) (c : Condition) : (s.raiseOn l c).ledSince = s.ledSince := rfl
@[simp] theorem State.raiseOn_drawn (s : State) (l : Link) (c : Condition) : (s.raiseOn l c).drawn = s.drawn := rfl
@[simp] theorem State.raiseOn_pending (s : State) (l : Link) (c : Condition) : (s.raiseOn l c).pending = s.pending := rfl

/-! ### State.setView -/

@[simp] theorem State.setView_now (s : State) (l : Link) (v : View) : (s.setView l v).now = s.now := rfl
@[simp] theorem State.setView_keys (s : State) (l : Link) (v : View) : (s.setView l v).keys = s.keys := rfl
@[simp] theorem State.setView_learn (s : State) (l : Link) (v : View) : (s.setView l v).learn = s.learn := rfl
@[simp] theorem State.setView_cal (s : State) (l : Link) (v : View) : (s.setView l v).cal = s.cal := rfl
@[simp] theorem State.setView_commitCount (s : State) (l : Link) (v : View) : (s.setView l v).commitCount = s.commitCount := rfl
@[simp] theorem State.setView_saved (s : State) (l : Link) (v : View) : (s.setView l v).saved = s.saved := rfl
@[simp] theorem State.setView_eeprom (s : State) (l : Link) (v : View) : (s.setView l v).eeprom = s.eeprom := rfl
@[simp] theorem State.setView_commit (s : State) (l : Link) (v : View) : (s.setView l v).commit = s.commit := rfl
@[simp] theorem State.setView_committed (s : State) (l : Link) (v : View) : (s.setView l v).committed = s.committed := rfl
@[simp] theorem State.setView_startUp (s : State) (l : Link) (v : View) : (s.setView l v).startUp = s.startUp := rfl
@[simp] theorem State.setView_test (s : State) (l : Link) (v : View) : (s.setView l v).test = s.test := rfl
@[simp] theorem State.setView_runs (s : State) (l : Link) (v : View) : (s.setView l v).runs = s.runs := rfl
@[simp] theorem State.setView_lastResult (s : State) (l : Link) (v : View) : (s.setView l v).lastResult = s.lastResult := rfl
@[simp] theorem State.setView_live (s : State) (l : Link) (v : View) : (s.setView l v).live = s.live := rfl
@[simp] theorem State.setView_play (s : State) (l : Link) (v : View) : (s.setView l v).play = s.play := rfl
@[simp] theorem State.setView_liveCapture (s : State) (l : Link) (v : View) : (s.setView l v).liveCapture = s.liveCapture := rfl
@[simp] theorem State.setView_playCapture (s : State) (l : Link) (v : View) : (s.setView l v).playCapture = s.playCapture := rfl
@[simp] theorem State.setView_rail (s : State) (l : Link) (v : View) : (s.setView l v).rail = s.rail := rfl
@[simp] theorem State.setView_voices (s : State) (l : Link) (v : View) : (s.setView l v).voices = s.voices := rfl
@[simp] theorem State.setView_layer (s : State) (l : Link) (v : View) : (s.setView l v).layer = s.layer := rfl
@[simp] theorem State.setView_windows (s : State) (l : Link) (v : View) : (s.setView l v).windows = s.windows := rfl
@[simp] theorem State.setView_sampleMem (s : State) (l : Link) (v : View) : (s.setView l v).sampleMem = s.sampleMem := rfl
@[simp] theorem State.setView_jacks (s : State) (l : Link) (v : View) : (s.setView l v).jacks = s.jacks := rfl
@[simp] theorem State.setView_supply (s : State) (l : Link) (v : View) : (s.setView l v).supply = s.supply := rfl
@[simp] theorem State.setView_supplyGood (s : State) (l : Link) (v : View) : (s.setView l v).supplyGood = s.supplyGood := rfl
@[simp] theorem State.setView_click (s : State) (l : Link) (v : View) : (s.setView l v).click = s.click := rfl
@[simp] theorem State.setView_tone (s : State) (l : Link) (v : View) : (s.setView l v).tone = s.tone := rfl
@[simp] theorem State.setView_output (s : State) (l : Link) (v : View) : (s.setView l v).output = s.output := rfl
@[simp] theorem State.setView_transport (s : State) (l : Link) (v : View) : (s.setView l v).transport = s.transport := rfl
@[simp] theorem State.setView_journal (s : State) (l : Link) (v : View) : (s.setView l v).journal = s.journal := rfl
@[simp] theorem State.setView_links (s : State) (l : Link) (v : View) :
   (s.setView l v).links = s.links.put l { s.link l with view := v } := rfl
@[simp] theorem State.setView_seat (s : State) (l : Link) (v : View) : (s.setView l v).seat = s.seat := rfl
@[simp] theorem State.setView_led (s : State) (l : Link) (v : View) : (s.setView l v).led = s.led := rfl
@[simp] theorem State.setView_ledSince (s : State) (l : Link) (v : View) : (s.setView l v).ledSince = s.ledSince := rfl
@[simp] theorem State.setView_drawn (s : State) (l : Link) (v : View) : (s.setView l v).drawn = s.drawn := rfl
@[simp] theorem State.setView_pending (s : State) (l : Link) (v : View) : (s.setView l v).pending = s.pending := rfl

/-! ### State.answer -/

@[simp] theorem State.answer_now (s : State) (l : Link) (q : List Byte) (r : Reply) : (s.answer l q r).now = s.now := rfl
@[simp] theorem State.answer_keys (s : State) (l : Link) (q : List Byte) (r : Reply) : (s.answer l q r).keys = s.keys := rfl
@[simp] theorem State.answer_learn (s : State) (l : Link) (q : List Byte) (r : Reply) : (s.answer l q r).learn = s.learn := rfl
@[simp] theorem State.answer_cal (s : State) (l : Link) (q : List Byte) (r : Reply) : (s.answer l q r).cal = s.cal := rfl
@[simp] theorem State.answer_commitCount (s : State) (l : Link) (q : List Byte) (r : Reply) : (s.answer l q r).commitCount = s.commitCount := rfl
@[simp] theorem State.answer_saved (s : State) (l : Link) (q : List Byte) (r : Reply) : (s.answer l q r).saved = s.saved := rfl
@[simp] theorem State.answer_eeprom (s : State) (l : Link) (q : List Byte) (r : Reply) : (s.answer l q r).eeprom = s.eeprom := rfl
@[simp] theorem State.answer_commit (s : State) (l : Link) (q : List Byte) (r : Reply) : (s.answer l q r).commit = s.commit := rfl
@[simp] theorem State.answer_committed (s : State) (l : Link) (q : List Byte) (r : Reply) : (s.answer l q r).committed = s.committed := rfl
@[simp] theorem State.answer_startUp (s : State) (l : Link) (q : List Byte) (r : Reply) : (s.answer l q r).startUp = s.startUp := rfl
@[simp] theorem State.answer_test (s : State) (l : Link) (q : List Byte) (r : Reply) : (s.answer l q r).test = s.test := rfl
@[simp] theorem State.answer_runs (s : State) (l : Link) (q : List Byte) (r : Reply) : (s.answer l q r).runs = s.runs := rfl
@[simp] theorem State.answer_lastResult (s : State) (l : Link) (q : List Byte) (r : Reply) : (s.answer l q r).lastResult = s.lastResult := rfl
@[simp] theorem State.answer_live (s : State) (l : Link) (q : List Byte) (r : Reply) : (s.answer l q r).live = s.live := rfl
@[simp] theorem State.answer_play (s : State) (l : Link) (q : List Byte) (r : Reply) : (s.answer l q r).play = s.play := rfl
@[simp] theorem State.answer_liveCapture (s : State) (l : Link) (q : List Byte) (r : Reply) : (s.answer l q r).liveCapture = s.liveCapture := rfl
@[simp] theorem State.answer_playCapture (s : State) (l : Link) (q : List Byte) (r : Reply) : (s.answer l q r).playCapture = s.playCapture := rfl
@[simp] theorem State.answer_rail (s : State) (l : Link) (q : List Byte) (r : Reply) : (s.answer l q r).rail = s.rail := rfl
@[simp] theorem State.answer_voices (s : State) (l : Link) (q : List Byte) (r : Reply) : (s.answer l q r).voices = s.voices := rfl
@[simp] theorem State.answer_layer (s : State) (l : Link) (q : List Byte) (r : Reply) : (s.answer l q r).layer = s.layer := rfl
@[simp] theorem State.answer_windows (s : State) (l : Link) (q : List Byte) (r : Reply) : (s.answer l q r).windows = s.windows := rfl
@[simp] theorem State.answer_sampleMem (s : State) (l : Link) (q : List Byte) (r : Reply) : (s.answer l q r).sampleMem = s.sampleMem := rfl
@[simp] theorem State.answer_jacks (s : State) (l : Link) (q : List Byte) (r : Reply) : (s.answer l q r).jacks = s.jacks := rfl
@[simp] theorem State.answer_supply (s : State) (l : Link) (q : List Byte) (r : Reply) : (s.answer l q r).supply = s.supply := rfl
@[simp] theorem State.answer_supplyGood (s : State) (l : Link) (q : List Byte) (r : Reply) : (s.answer l q r).supplyGood = s.supplyGood := rfl
@[simp] theorem State.answer_click (s : State) (l : Link) (q : List Byte) (r : Reply) : (s.answer l q r).click = s.click := rfl
@[simp] theorem State.answer_tone (s : State) (l : Link) (q : List Byte) (r : Reply) : (s.answer l q r).tone = s.tone := rfl
@[simp] theorem State.answer_output (s : State) (l : Link) (q : List Byte) (r : Reply) : (s.answer l q r).output = s.output := rfl
@[simp] theorem State.answer_transport (s : State) (l : Link) (q : List Byte) (r : Reply) : (s.answer l q r).transport = s.transport := rfl
@[simp] theorem State.answer_journal (s : State) (l : Link) (q : List Byte) (r : Reply) : (s.answer l q r).journal = s.journal := rfl
@[simp] theorem State.answer_links (s : State) (l : Link) (q : List Byte) (r : Reply) :
   (s.answer l q r).links = s.links.put l { s.link l with transaction := .answering q r.bytes } := rfl
@[simp] theorem State.answer_seat (s : State) (l : Link) (q : List Byte) (r : Reply) : (s.answer l q r).seat = s.seat := rfl
@[simp] theorem State.answer_led (s : State) (l : Link) (q : List Byte) (r : Reply) : (s.answer l q r).led = s.led := rfl
@[simp] theorem State.answer_ledSince (s : State) (l : Link) (q : List Byte) (r : Reply) : (s.answer l q r).ledSince = s.ledSince := rfl
@[simp] theorem State.answer_drawn (s : State) (l : Link) (q : List Byte) (r : Reply) : (s.answer l q r).drawn = s.drawn := rfl
@[simp] theorem State.answer_pending (s : State) (l : Link) (q : List Byte) (r : Reply) : (s.answer l q r).pending = s.pending := rfl

/-! ### State.append -/

@[simp] theorem State.append_now (s : State) (b : JournalBody) (t : Time) : (s.append b t).now = s.now := rfl
@[simp] theorem State.append_keys (s : State) (b : JournalBody) (t : Time) : (s.append b t).keys = s.keys := rfl
@[simp] theorem State.append_learn (s : State) (b : JournalBody) (t : Time) : (s.append b t).learn = s.learn := rfl
@[simp] theorem State.append_cal (s : State) (b : JournalBody) (t : Time) : (s.append b t).cal = s.cal := rfl
@[simp] theorem State.append_commitCount (s : State) (b : JournalBody) (t : Time) : (s.append b t).commitCount = s.commitCount := rfl
@[simp] theorem State.append_saved (s : State) (b : JournalBody) (t : Time) : (s.append b t).saved = s.saved := rfl
@[simp] theorem State.append_eeprom (s : State) (b : JournalBody) (t : Time) : (s.append b t).eeprom = s.eeprom := rfl
@[simp] theorem State.append_commit (s : State) (b : JournalBody) (t : Time) : (s.append b t).commit = s.commit := rfl
@[simp] theorem State.append_committed (s : State) (b : JournalBody) (t : Time) : (s.append b t).committed = s.committed := rfl
@[simp] theorem State.append_startUp (s : State) (b : JournalBody) (t : Time) : (s.append b t).startUp = s.startUp := rfl
@[simp] theorem State.append_test (s : State) (b : JournalBody) (t : Time) : (s.append b t).test = s.test := rfl
@[simp] theorem State.append_runs (s : State) (b : JournalBody) (t : Time) : (s.append b t).runs = s.runs := rfl
@[simp] theorem State.append_lastResult (s : State) (b : JournalBody) (t : Time) : (s.append b t).lastResult = s.lastResult := rfl
@[simp] theorem State.append_live (s : State) (b : JournalBody) (t : Time) : (s.append b t).live = s.live := rfl
@[simp] theorem State.append_play (s : State) (b : JournalBody) (t : Time) : (s.append b t).play = s.play := rfl
@[simp] theorem State.append_liveCapture (s : State) (b : JournalBody) (t : Time) : (s.append b t).liveCapture = s.liveCapture := rfl
@[simp] theorem State.append_playCapture (s : State) (b : JournalBody) (t : Time) : (s.append b t).playCapture = s.playCapture := rfl
@[simp] theorem State.append_rail (s : State) (b : JournalBody) (t : Time) : (s.append b t).rail = s.rail := rfl
@[simp] theorem State.append_voices (s : State) (b : JournalBody) (t : Time) : (s.append b t).voices = s.voices := rfl
@[simp] theorem State.append_layer (s : State) (b : JournalBody) (t : Time) : (s.append b t).layer = s.layer := rfl
@[simp] theorem State.append_windows (s : State) (b : JournalBody) (t : Time) : (s.append b t).windows = s.windows := rfl
@[simp] theorem State.append_sampleMem (s : State) (b : JournalBody) (t : Time) : (s.append b t).sampleMem = s.sampleMem := rfl
@[simp] theorem State.append_jacks (s : State) (b : JournalBody) (t : Time) : (s.append b t).jacks = s.jacks := rfl
@[simp] theorem State.append_supply (s : State) (b : JournalBody) (t : Time) : (s.append b t).supply = s.supply := rfl
@[simp] theorem State.append_supplyGood (s : State) (b : JournalBody) (t : Time) : (s.append b t).supplyGood = s.supplyGood := rfl
@[simp] theorem State.append_click (s : State) (b : JournalBody) (t : Time) : (s.append b t).click = s.click := rfl
@[simp] theorem State.append_tone (s : State) (b : JournalBody) (t : Time) : (s.append b t).tone = s.tone := rfl
@[simp] theorem State.append_output (s : State) (b : JournalBody) (t : Time) : (s.append b t).output = s.output := rfl
@[simp] theorem State.append_transport (s : State) (b : JournalBody) (t : Time) : (s.append b t).transport = s.transport := rfl
@[simp] theorem State.append_journal (s : State) (b : JournalBody) (t : Time) :
   (s.append b t).journal = (if s.journal.length < 512 then s.journal else s.journal.tail) ++ [{ body := b, time := t }] := by
  by_cases h : s.journal.length < 512
  · simp [State.append, Config.journalSize, h, Nat.not_le.mpr h]
  · simp [State.append, Config.journalSize, h, Nat.not_lt.mp h]
@[simp] theorem State.append_links (s : State) (b : JournalBody) (t : Time) :
   (s.append b t).links = s.links.map (LinkRec.onAppend (decide (512 ≤ s.journal.length))) := rfl
@[simp] theorem State.append_seat (s : State) (b : JournalBody) (t : Time) : (s.append b t).seat = s.seat := rfl
@[simp] theorem State.append_led (s : State) (b : JournalBody) (t : Time) : (s.append b t).led = s.led := rfl
@[simp] theorem State.append_ledSince (s : State) (b : JournalBody) (t : Time) : (s.append b t).ledSince = s.ledSince := rfl
@[simp] theorem State.append_drawn (s : State) (b : JournalBody) (t : Time) : (s.append b t).drawn = s.drawn := rfl
@[simp] theorem State.append_pending (s : State) (b : JournalBody) (t : Time) : (s.append b t).pending = s.pending := rfl

/-! ### State.report -/

@[simp] theorem State.report_now (s : State) (b : JournalBody) (c : Condition) : (s.report b c).now = s.now := rfl
@[simp] theorem State.report_keys (s : State) (b : JournalBody) (c : Condition) : (s.report b c).keys = s.keys := rfl
@[simp] theorem State.report_learn (s : State) (b : JournalBody) (c : Condition) : (s.report b c).learn = s.learn := rfl
@[simp] theorem State.report_cal (s : State) (b : JournalBody) (c : Condition) : (s.report b c).cal = s.cal := rfl
@[simp] theorem State.report_commitCount (s : State) (b : JournalBody) (c : Condition) : (s.report b c).commitCount = s.commitCount := rfl
@[simp] theorem State.report_saved (s : State) (b : JournalBody) (c : Condition) : (s.report b c).saved = s.saved := rfl
@[simp] theorem State.report_eeprom (s : State) (b : JournalBody) (c : Condition) : (s.report b c).eeprom = s.eeprom := rfl
@[simp] theorem State.report_commit (s : State) (b : JournalBody) (c : Condition) : (s.report b c).commit = s.commit := rfl
@[simp] theorem State.report_committed (s : State) (b : JournalBody) (c : Condition) : (s.report b c).committed = s.committed := rfl
@[simp] theorem State.report_startUp (s : State) (b : JournalBody) (c : Condition) : (s.report b c).startUp = s.startUp := rfl
@[simp] theorem State.report_test (s : State) (b : JournalBody) (c : Condition) : (s.report b c).test = s.test := rfl
@[simp] theorem State.report_runs (s : State) (b : JournalBody) (c : Condition) : (s.report b c).runs = s.runs := rfl
@[simp] theorem State.report_lastResult (s : State) (b : JournalBody) (c : Condition) : (s.report b c).lastResult = s.lastResult := rfl
@[simp] theorem State.report_live (s : State) (b : JournalBody) (c : Condition) : (s.report b c).live = s.live := rfl
@[simp] theorem State.report_play (s : State) (b : JournalBody) (c : Condition) : (s.report b c).play = s.play := rfl
@[simp] theorem State.report_liveCapture (s : State) (b : JournalBody) (c : Condition) : (s.report b c).liveCapture = s.liveCapture := rfl
@[simp] theorem State.report_playCapture (s : State) (b : JournalBody) (c : Condition) : (s.report b c).playCapture = s.playCapture := rfl
@[simp] theorem State.report_rail (s : State) (b : JournalBody) (c : Condition) : (s.report b c).rail = s.rail := rfl
@[simp] theorem State.report_voices (s : State) (b : JournalBody) (c : Condition) : (s.report b c).voices = s.voices := rfl
@[simp] theorem State.report_layer (s : State) (b : JournalBody) (c : Condition) : (s.report b c).layer = s.layer := rfl
@[simp] theorem State.report_windows (s : State) (b : JournalBody) (c : Condition) : (s.report b c).windows = s.windows := rfl
@[simp] theorem State.report_sampleMem (s : State) (b : JournalBody) (c : Condition) : (s.report b c).sampleMem = s.sampleMem := rfl
@[simp] theorem State.report_jacks (s : State) (b : JournalBody) (c : Condition) : (s.report b c).jacks = s.jacks := rfl
@[simp] theorem State.report_supply (s : State) (b : JournalBody) (c : Condition) : (s.report b c).supply = s.supply := rfl
@[simp] theorem State.report_supplyGood (s : State) (b : JournalBody) (c : Condition) : (s.report b c).supplyGood = s.supplyGood := rfl
@[simp] theorem State.report_click (s : State) (b : JournalBody) (c : Condition) : (s.report b c).click = s.click := rfl
@[simp] theorem State.report_tone (s : State) (b : JournalBody) (c : Condition) : (s.report b c).tone = s.tone := rfl
@[simp] theorem State.report_output (s : State) (b : JournalBody) (c : Condition) : (s.report b c).output = s.output := rfl
@[simp] theorem State.report_transport (s : State) (b : JournalBody) (c : Condition) : (s.report b c).transport = s.transport := rfl
@[simp] theorem State.report_journal (s : State) (b : JournalBody) (c : Condition) :
   (s.report b c).journal = (if s.journal.length < 512 then s.journal else s.journal.tail) ++ [{ body := b, time := s.now }] := by
  by_cases h : s.journal.length < 512
  · simp [State.report, State.append, Config.journalSize, h, Nat.not_le.mpr h]
  · simp [State.report, State.append, Config.journalSize, h, Nat.not_lt.mp h]
@[simp] theorem State.report_links (s : State) (b : JournalBody) (c : Condition) :
   (s.report b c).links = s.links.map (fun r => (r.onAppend (decide (512 ≤ s.journal.length))).raise c) := rfl
@[simp] theorem State.report_seat (s : State) (b : JournalBody) (c : Condition) : (s.report b c).seat = s.seat := rfl
@[simp] theorem State.report_led (s : State) (b : JournalBody) (c : Condition) : (s.report b c).led = s.led := rfl
@[simp] theorem State.report_ledSince (s : State) (b : JournalBody) (c : Condition) : (s.report b c).ledSince = s.ledSince := rfl
@[simp] theorem State.report_drawn (s : State) (b : JournalBody) (c : Condition) : (s.report b c).drawn = s.drawn := rfl
@[simp] theorem State.report_pending (s : State) (b : JournalBody) (c : Condition) : (s.report b c).pending = s.pending := rfl

/-! ### State.calChanged -/

@[simp] theorem State.calChanged_now (s : State) : (s.calChanged).now = s.now := rfl
@[simp] theorem State.calChanged_keys (s : State) : (s.calChanged).keys = s.keys := rfl
@[simp] theorem State.calChanged_learn (s : State) : (s.calChanged).learn = s.learn := rfl
@[simp] theorem State.calChanged_cal (s : State) : (s.calChanged).cal = s.cal := rfl
@[simp] theorem State.calChanged_commitCount (s : State) : (s.calChanged).commitCount = s.commitCount := rfl
@[simp] theorem State.calChanged_saved (s : State)  :
   (s.calChanged).saved = false := rfl
@[simp] theorem State.calChanged_eeprom (s : State) : (s.calChanged).eeprom = s.eeprom := rfl
@[simp] theorem State.calChanged_commit (s : State)  :
   (s.calChanged).commit = s.commit.map (fun c => { c with changed := true }) := rfl
@[simp] theorem State.calChanged_committed (s : State) : (s.calChanged).committed = s.committed := rfl
@[simp] theorem State.calChanged_startUp (s : State) : (s.calChanged).startUp = s.startUp := rfl
@[simp] theorem State.calChanged_test (s : State) : (s.calChanged).test = s.test := rfl
@[simp] theorem State.calChanged_runs (s : State) : (s.calChanged).runs = s.runs := rfl
@[simp] theorem State.calChanged_lastResult (s : State) : (s.calChanged).lastResult = s.lastResult := rfl
@[simp] theorem State.calChanged_live (s : State) : (s.calChanged).live = s.live := rfl
@[simp] theorem State.calChanged_play (s : State) : (s.calChanged).play = s.play := rfl
@[simp] theorem State.calChanged_liveCapture (s : State) : (s.calChanged).liveCapture = s.liveCapture := rfl
@[simp] theorem State.calChanged_playCapture (s : State) : (s.calChanged).playCapture = s.playCapture := rfl
@[simp] theorem State.calChanged_rail (s : State) : (s.calChanged).rail = s.rail := rfl
@[simp] theorem State.calChanged_voices (s : State) : (s.calChanged).voices = s.voices := rfl
@[simp] theorem State.calChanged_layer (s : State) : (s.calChanged).layer = s.layer := rfl
@[simp] theorem State.calChanged_windows (s : State) : (s.calChanged).windows = s.windows := rfl
@[simp] theorem State.calChanged_sampleMem (s : State) : (s.calChanged).sampleMem = s.sampleMem := rfl
@[simp] theorem State.calChanged_jacks (s : State) : (s.calChanged).jacks = s.jacks := rfl
@[simp] theorem State.calChanged_supply (s : State) : (s.calChanged).supply = s.supply := rfl
@[simp] theorem State.calChanged_supplyGood (s : State) : (s.calChanged).supplyGood = s.supplyGood := rfl
@[simp] theorem State.calChanged_click (s : State) : (s.calChanged).click = s.click := rfl
@[simp] theorem State.calChanged_tone (s : State) : (s.calChanged).tone = s.tone := rfl
@[simp] theorem State.calChanged_output (s : State) : (s.calChanged).output = s.output := rfl
@[simp] theorem State.calChanged_transport (s : State) : (s.calChanged).transport = s.transport := rfl
@[simp] theorem State.calChanged_journal (s : State) : (s.calChanged).journal = s.journal := rfl
@[simp] theorem State.calChanged_links (s : State) : (s.calChanged).links = s.links := rfl
@[simp] theorem State.calChanged_seat (s : State) : (s.calChanged).seat = s.seat := rfl
@[simp] theorem State.calChanged_led (s : State) : (s.calChanged).led = s.led := rfl
@[simp] theorem State.calChanged_ledSince (s : State) : (s.calChanged).ledSince = s.ledSince := rfl
@[simp] theorem State.calChanged_drawn (s : State) : (s.calChanged).drawn = s.drawn := rfl
@[simp] theorem State.calChanged_pending (s : State) : (s.calChanged).pending = s.pending := rfl

/-! ### State.setKeyCal -/

@[simp] theorem State.setKeyCal_now (s : State) (k : KeyIx) (c : KeyCal) (o : Origin) : (s.setKeyCal k c o).now = s.now := rfl
@[simp] theorem State.setKeyCal_keys (s : State) (k : KeyIx) (c : KeyCal) (o : Origin) : (s.setKeyCal k c o).keys = s.keys := rfl
@[simp] theorem State.setKeyCal_learn (s : State) (k : KeyIx) (c : KeyCal) (o : Origin) : (s.setKeyCal k c o).learn = s.learn := rfl
@[simp] theorem State.setKeyCal_cal (s : State) (k : KeyIx) (c : KeyCal) (o : Origin) :
   (s.setKeyCal k c o).cal = { s.cal with keys := tablePut s.cal.keys k c, origins := tablePut s.cal.origins k o } := rfl
@[simp] theorem State.setKeyCal_commitCount (s : State) (k : KeyIx) (c : KeyCal) (o : Origin) : (s.setKeyCal k c o).commitCount = s.commitCount := rfl
@[simp] theorem State.setKeyCal_saved (s : State) (k : KeyIx) (c : KeyCal) (o : Origin) : (s.setKeyCal k c o).saved = s.saved := rfl
@[simp] theorem State.setKeyCal_eeprom (s : State) (k : KeyIx) (c : KeyCal) (o : Origin) : (s.setKeyCal k c o).eeprom = s.eeprom := rfl
@[simp] theorem State.setKeyCal_commit (s : State) (k : KeyIx) (c : KeyCal) (o : Origin) : (s.setKeyCal k c o).commit = s.commit := rfl
@[simp] theorem State.setKeyCal_committed (s : State) (k : KeyIx) (c : KeyCal) (o : Origin) : (s.setKeyCal k c o).committed = s.committed := rfl
@[simp] theorem State.setKeyCal_startUp (s : State) (k : KeyIx) (c : KeyCal) (o : Origin) : (s.setKeyCal k c o).startUp = s.startUp := rfl
@[simp] theorem State.setKeyCal_test (s : State) (k : KeyIx) (c : KeyCal) (o : Origin) : (s.setKeyCal k c o).test = s.test := rfl
@[simp] theorem State.setKeyCal_runs (s : State) (k : KeyIx) (c : KeyCal) (o : Origin) : (s.setKeyCal k c o).runs = s.runs := rfl
@[simp] theorem State.setKeyCal_lastResult (s : State) (k : KeyIx) (c : KeyCal) (o : Origin) : (s.setKeyCal k c o).lastResult = s.lastResult := rfl
@[simp] theorem State.setKeyCal_live (s : State) (k : KeyIx) (c : KeyCal) (o : Origin) : (s.setKeyCal k c o).live = s.live := rfl
@[simp] theorem State.setKeyCal_play (s : State) (k : KeyIx) (c : KeyCal) (o : Origin) : (s.setKeyCal k c o).play = s.play := rfl
@[simp] theorem State.setKeyCal_liveCapture (s : State) (k : KeyIx) (c : KeyCal) (o : Origin) : (s.setKeyCal k c o).liveCapture = s.liveCapture := rfl
@[simp] theorem State.setKeyCal_playCapture (s : State) (k : KeyIx) (c : KeyCal) (o : Origin) : (s.setKeyCal k c o).playCapture = s.playCapture := rfl
@[simp] theorem State.setKeyCal_rail (s : State) (k : KeyIx) (c : KeyCal) (o : Origin) : (s.setKeyCal k c o).rail = s.rail := rfl
@[simp] theorem State.setKeyCal_voices (s : State) (k : KeyIx) (c : KeyCal) (o : Origin) : (s.setKeyCal k c o).voices = s.voices := rfl
@[simp] theorem State.setKeyCal_layer (s : State) (k : KeyIx) (c : KeyCal) (o : Origin) : (s.setKeyCal k c o).layer = s.layer := rfl
@[simp] theorem State.setKeyCal_windows (s : State) (k : KeyIx) (c : KeyCal) (o : Origin) : (s.setKeyCal k c o).windows = s.windows := rfl
@[simp] theorem State.setKeyCal_sampleMem (s : State) (k : KeyIx) (c : KeyCal) (o : Origin) : (s.setKeyCal k c o).sampleMem = s.sampleMem := rfl
@[simp] theorem State.setKeyCal_jacks (s : State) (k : KeyIx) (c : KeyCal) (o : Origin) : (s.setKeyCal k c o).jacks = s.jacks := rfl
@[simp] theorem State.setKeyCal_supply (s : State) (k : KeyIx) (c : KeyCal) (o : Origin) : (s.setKeyCal k c o).supply = s.supply := rfl
@[simp] theorem State.setKeyCal_supplyGood (s : State) (k : KeyIx) (c : KeyCal) (o : Origin) : (s.setKeyCal k c o).supplyGood = s.supplyGood := rfl
@[simp] theorem State.setKeyCal_click (s : State) (k : KeyIx) (c : KeyCal) (o : Origin) : (s.setKeyCal k c o).click = s.click := rfl
@[simp] theorem State.setKeyCal_tone (s : State) (k : KeyIx) (c : KeyCal) (o : Origin) : (s.setKeyCal k c o).tone = s.tone := rfl
@[simp] theorem State.setKeyCal_output (s : State) (k : KeyIx) (c : KeyCal) (o : Origin) : (s.setKeyCal k c o).output = s.output := rfl
@[simp] theorem State.setKeyCal_transport (s : State) (k : KeyIx) (c : KeyCal) (o : Origin) : (s.setKeyCal k c o).transport = s.transport := rfl
@[simp] theorem State.setKeyCal_journal (s : State) (k : KeyIx) (c : KeyCal) (o : Origin) : (s.setKeyCal k c o).journal = s.journal := rfl
@[simp] theorem State.setKeyCal_links (s : State) (k : KeyIx) (c : KeyCal) (o : Origin) : (s.setKeyCal k c o).links = s.links := rfl
@[simp] theorem State.setKeyCal_seat (s : State) (k : KeyIx) (c : KeyCal) (o : Origin) : (s.setKeyCal k c o).seat = s.seat := rfl
@[simp] theorem State.setKeyCal_led (s : State) (k : KeyIx) (c : KeyCal) (o : Origin) : (s.setKeyCal k c o).led = s.led := rfl
@[simp] theorem State.setKeyCal_ledSince (s : State) (k : KeyIx) (c : KeyCal) (o : Origin) : (s.setKeyCal k c o).ledSince = s.ledSince := rfl
@[simp] theorem State.setKeyCal_drawn (s : State) (k : KeyIx) (c : KeyCal) (o : Origin) : (s.setKeyCal k c o).drawn = s.drawn := rfl
@[simp] theorem State.setKeyCal_pending (s : State) (k : KeyIx) (c : KeyCal) (o : Origin) : (s.setKeyCal k c o).pending = s.pending := rfl

/-! ### State.draw -/

@[simp] theorem State.draw_now (s : State) (n : Nat) : (s.draw n).now = s.now := rfl
@[simp] theorem State.draw_keys (s : State) (n : Nat) : (s.draw n).keys = s.keys := rfl
@[simp] theorem State.draw_learn (s : State) (n : Nat) : (s.draw n).learn = s.learn := rfl
@[simp] theorem State.draw_cal (s : State) (n : Nat) : (s.draw n).cal = s.cal := rfl
@[simp] theorem State.draw_commitCount (s : State) (n : Nat) : (s.draw n).commitCount = s.commitCount := rfl
@[simp] theorem State.draw_saved (s : State) (n : Nat) : (s.draw n).saved = s.saved := rfl
@[simp] theorem State.draw_eeprom (s : State) (n : Nat) : (s.draw n).eeprom = s.eeprom := rfl
@[simp] theorem State.draw_commit (s : State) (n : Nat) : (s.draw n).commit = s.commit := rfl
@[simp] theorem State.draw_committed (s : State) (n : Nat) : (s.draw n).committed = s.committed := rfl
@[simp] theorem State.draw_startUp (s : State) (n : Nat) : (s.draw n).startUp = s.startUp := rfl
@[simp] theorem State.draw_test (s : State) (n : Nat) : (s.draw n).test = s.test := rfl
@[simp] theorem State.draw_runs (s : State) (n : Nat) : (s.draw n).runs = s.runs := rfl
@[simp] theorem State.draw_lastResult (s : State) (n : Nat) : (s.draw n).lastResult = s.lastResult := rfl
@[simp] theorem State.draw_live (s : State) (n : Nat) : (s.draw n).live = s.live := rfl
@[simp] theorem State.draw_play (s : State) (n : Nat) : (s.draw n).play = s.play := rfl
@[simp] theorem State.draw_liveCapture (s : State) (n : Nat) : (s.draw n).liveCapture = s.liveCapture := rfl
@[simp] theorem State.draw_playCapture (s : State) (n : Nat) : (s.draw n).playCapture = s.playCapture := rfl
@[simp] theorem State.draw_rail (s : State) (n : Nat) : (s.draw n).rail = s.rail := rfl
@[simp] theorem State.draw_voices (s : State) (n : Nat) : (s.draw n).voices = s.voices := rfl
@[simp] theorem State.draw_layer (s : State) (n : Nat) : (s.draw n).layer = s.layer := rfl
@[simp] theorem State.draw_windows (s : State) (n : Nat) : (s.draw n).windows = s.windows := rfl
@[simp] theorem State.draw_sampleMem (s : State) (n : Nat) : (s.draw n).sampleMem = s.sampleMem := rfl
@[simp] theorem State.draw_jacks (s : State) (n : Nat) : (s.draw n).jacks = s.jacks := rfl
@[simp] theorem State.draw_supply (s : State) (n : Nat) : (s.draw n).supply = s.supply := rfl
@[simp] theorem State.draw_supplyGood (s : State) (n : Nat) : (s.draw n).supplyGood = s.supplyGood := rfl
@[simp] theorem State.draw_click (s : State) (n : Nat) : (s.draw n).click = s.click := rfl
@[simp] theorem State.draw_tone (s : State) (n : Nat) : (s.draw n).tone = s.tone := rfl
@[simp] theorem State.draw_output (s : State) (n : Nat) : (s.draw n).output = s.output := rfl
@[simp] theorem State.draw_transport (s : State) (n : Nat) : (s.draw n).transport = s.transport := rfl
@[simp] theorem State.draw_journal (s : State) (n : Nat) : (s.draw n).journal = s.journal := rfl
@[simp] theorem State.draw_links (s : State) (n : Nat) : (s.draw n).links = s.links := rfl
@[simp] theorem State.draw_seat (s : State) (n : Nat) : (s.draw n).seat = s.seat := rfl
@[simp] theorem State.draw_led (s : State) (n : Nat) : (s.draw n).led = s.led := rfl
@[simp] theorem State.draw_ledSince (s : State) (n : Nat) : (s.draw n).ledSince = s.ledSince := rfl
@[simp] theorem State.draw_drawn (s : State) (n : Nat) :
   (s.draw n).drawn = s.drawn + n := rfl
@[simp] theorem State.draw_pending (s : State) (n : Nat) : (s.draw n).pending = s.pending := rfl

/-! ### State.clickRequest -/

@[simp] theorem State.clickRequest_now (s : State) (accent : Bool) : (s.clickRequest accent).now = s.now := rfl
@[simp] theorem State.clickRequest_keys (s : State) (accent : Bool) : (s.clickRequest accent).keys = s.keys := rfl
@[simp] theorem State.clickRequest_learn (s : State) (accent : Bool) : (s.clickRequest accent).learn = s.learn := rfl
@[simp] theorem State.clickRequest_cal (s : State) (accent : Bool) : (s.clickRequest accent).cal = s.cal := rfl
@[simp] theorem State.clickRequest_commitCount (s : State) (accent : Bool) : (s.clickRequest accent).commitCount = s.commitCount := rfl
@[simp] theorem State.clickRequest_saved (s : State) (accent : Bool) : (s.clickRequest accent).saved = s.saved := rfl
@[simp] theorem State.clickRequest_eeprom (s : State) (accent : Bool) : (s.clickRequest accent).eeprom = s.eeprom := rfl
@[simp] theorem State.clickRequest_commit (s : State) (accent : Bool) : (s.clickRequest accent).commit = s.commit := rfl
@[simp] theorem State.clickRequest_committed (s : State) (accent : Bool) : (s.clickRequest accent).committed = s.committed := rfl
@[simp] theorem State.clickRequest_startUp (s : State) (accent : Bool) : (s.clickRequest accent).startUp = s.startUp := rfl
@[simp] theorem State.clickRequest_test (s : State) (accent : Bool) : (s.clickRequest accent).test = s.test := rfl
@[simp] theorem State.clickRequest_runs (s : State) (accent : Bool) : (s.clickRequest accent).runs = s.runs := rfl
@[simp] theorem State.clickRequest_lastResult (s : State) (accent : Bool) : (s.clickRequest accent).lastResult = s.lastResult := rfl
@[simp] theorem State.clickRequest_live (s : State) (accent : Bool) : (s.clickRequest accent).live = s.live := rfl
@[simp] theorem State.clickRequest_play (s : State) (accent : Bool) : (s.clickRequest accent).play = s.play := rfl
@[simp] theorem State.clickRequest_liveCapture (s : State) (accent : Bool) : (s.clickRequest accent).liveCapture = s.liveCapture := rfl
@[simp] theorem State.clickRequest_playCapture (s : State) (accent : Bool) : (s.clickRequest accent).playCapture = s.playCapture := rfl
@[simp] theorem State.clickRequest_rail (s : State) (accent : Bool) : (s.clickRequest accent).rail = s.rail := rfl
@[simp] theorem State.clickRequest_voices (s : State) (accent : Bool) : (s.clickRequest accent).voices = s.voices := rfl
@[simp] theorem State.clickRequest_layer (s : State) (accent : Bool) : (s.clickRequest accent).layer = s.layer := rfl
@[simp] theorem State.clickRequest_windows (s : State) (accent : Bool) : (s.clickRequest accent).windows = s.windows := rfl
@[simp] theorem State.clickRequest_sampleMem (s : State) (accent : Bool) : (s.clickRequest accent).sampleMem = s.sampleMem := rfl
@[simp] theorem State.clickRequest_jacks (s : State) (accent : Bool) : (s.clickRequest accent).jacks = s.jacks := rfl
@[simp] theorem State.clickRequest_supply (s : State) (accent : Bool) : (s.clickRequest accent).supply = s.supply := rfl
@[simp] theorem State.clickRequest_supplyGood (s : State) (accent : Bool) : (s.clickRequest accent).supplyGood = s.supplyGood := rfl
@[simp] theorem State.clickRequest_click (s : State) (accent : Bool) :
   (s.clickRequest accent).click = some { done := 0, period := if accent then 32 else 48, amplitude := squareGain s.transport.metronome.level / 4 } := rfl
@[simp] theorem State.clickRequest_tone (s : State) (accent : Bool) : (s.clickRequest accent).tone = s.tone := rfl
@[simp] theorem State.clickRequest_output (s : State) (accent : Bool) : (s.clickRequest accent).output = s.output := rfl
@[simp] theorem State.clickRequest_transport (s : State) (accent : Bool) : (s.clickRequest accent).transport = s.transport := rfl
@[simp] theorem State.clickRequest_journal (s : State) (accent : Bool) : (s.clickRequest accent).journal = s.journal := rfl
@[simp] theorem State.clickRequest_links (s : State) (accent : Bool) : (s.clickRequest accent).links = s.links := rfl
@[simp] theorem State.clickRequest_seat (s : State) (accent : Bool) : (s.clickRequest accent).seat = s.seat := rfl
@[simp] theorem State.clickRequest_led (s : State) (accent : Bool) : (s.clickRequest accent).led = s.led := rfl
@[simp] theorem State.clickRequest_ledSince (s : State) (accent : Bool) : (s.clickRequest accent).ledSince = s.ledSince := rfl
@[simp] theorem State.clickRequest_drawn (s : State) (accent : Bool) : (s.clickRequest accent).drawn = s.drawn := rfl
@[simp] theorem State.clickRequest_pending (s : State) (accent : Bool) : (s.clickRequest accent).pending = s.pending := rfl

/-! ### State.findFaulty -/

@[simp] theorem State.findFaulty_now (s : State) (k : KeyIx) (faulty : Bool) :
    (s.findFaulty k faulty).now = s.now := rfl
@[simp] theorem State.findFaulty_keys (s : State) (k : KeyIx) (faulty : Bool) :
    (s.findFaulty k faulty).keys = s.keys := rfl
@[simp] theorem State.findFaulty_learn (s : State) (k : KeyIx) (faulty : Bool) :
    (s.findFaulty k faulty).learn = s.learn := rfl
@[simp] theorem State.findFaulty_cal (s : State) (k : KeyIx) (faulty : Bool) :
    (s.findFaulty k faulty).cal = s.cal := rfl
@[simp] theorem State.findFaulty_commitCount (s : State) (k : KeyIx) (faulty : Bool) :
    (s.findFaulty k faulty).commitCount = s.commitCount := rfl
@[simp] theorem State.findFaulty_saved (s : State) (k : KeyIx) (faulty : Bool) :
    (s.findFaulty k faulty).saved = s.saved := rfl
@[simp] theorem State.findFaulty_eeprom (s : State) (k : KeyIx) (faulty : Bool) :
    (s.findFaulty k faulty).eeprom = s.eeprom := rfl
@[simp] theorem State.findFaulty_commit (s : State) (k : KeyIx) (faulty : Bool) :
    (s.findFaulty k faulty).commit = s.commit := rfl
@[simp] theorem State.findFaulty_committed (s : State) (k : KeyIx) (faulty : Bool) :
    (s.findFaulty k faulty).committed = s.committed := rfl
@[simp] theorem State.findFaulty_startUp (s : State) (k : KeyIx) (faulty : Bool) :
    (s.findFaulty k faulty).startUp = { s.startUp with
      foundFaulty := if faulty then KeySet.add s.startUp.foundFaulty k else s.startUp.foundFaulty } := rfl
@[simp] theorem State.findFaulty_test (s : State) (k : KeyIx) (faulty : Bool) :
    (s.findFaulty k faulty).test = s.test := rfl
@[simp] theorem State.findFaulty_runs (s : State) (k : KeyIx) (faulty : Bool) :
    (s.findFaulty k faulty).runs = s.runs := rfl
@[simp] theorem State.findFaulty_lastResult (s : State) (k : KeyIx) (faulty : Bool) :
    (s.findFaulty k faulty).lastResult = s.lastResult := rfl
@[simp] theorem State.findFaulty_live (s : State) (k : KeyIx) (faulty : Bool) :
    (s.findFaulty k faulty).live = s.live := rfl
@[simp] theorem State.findFaulty_play (s : State) (k : KeyIx) (faulty : Bool) :
    (s.findFaulty k faulty).play = s.play := rfl
@[simp] theorem State.findFaulty_liveCapture (s : State) (k : KeyIx) (faulty : Bool) :
    (s.findFaulty k faulty).liveCapture = s.liveCapture := rfl
@[simp] theorem State.findFaulty_playCapture (s : State) (k : KeyIx) (faulty : Bool) :
    (s.findFaulty k faulty).playCapture = s.playCapture := rfl
@[simp] theorem State.findFaulty_rail (s : State) (k : KeyIx) (faulty : Bool) :
    (s.findFaulty k faulty).rail = s.rail := rfl
@[simp] theorem State.findFaulty_voices (s : State) (k : KeyIx) (faulty : Bool) :
    (s.findFaulty k faulty).voices = s.voices := rfl
@[simp] theorem State.findFaulty_layer (s : State) (k : KeyIx) (faulty : Bool) :
    (s.findFaulty k faulty).layer = s.layer := rfl
@[simp] theorem State.findFaulty_windows (s : State) (k : KeyIx) (faulty : Bool) :
    (s.findFaulty k faulty).windows = s.windows := rfl
@[simp] theorem State.findFaulty_sampleMem (s : State) (k : KeyIx) (faulty : Bool) :
    (s.findFaulty k faulty).sampleMem = s.sampleMem := rfl
@[simp] theorem State.findFaulty_jacks (s : State) (k : KeyIx) (faulty : Bool) :
    (s.findFaulty k faulty).jacks = s.jacks := rfl
@[simp] theorem State.findFaulty_supply (s : State) (k : KeyIx) (faulty : Bool) :
    (s.findFaulty k faulty).supply = s.supply := rfl
@[simp] theorem State.findFaulty_supplyGood (s : State) (k : KeyIx) (faulty : Bool) :
    (s.findFaulty k faulty).supplyGood = s.supplyGood := rfl
@[simp] theorem State.findFaulty_click (s : State) (k : KeyIx) (faulty : Bool) :
    (s.findFaulty k faulty).click = s.click := rfl
@[simp] theorem State.findFaulty_tone (s : State) (k : KeyIx) (faulty : Bool) :
    (s.findFaulty k faulty).tone = s.tone := rfl
@[simp] theorem State.findFaulty_output (s : State) (k : KeyIx) (faulty : Bool) :
    (s.findFaulty k faulty).output = s.output := rfl
@[simp] theorem State.findFaulty_transport (s : State) (k : KeyIx) (faulty : Bool) :
    (s.findFaulty k faulty).transport = s.transport := rfl
@[simp] theorem State.findFaulty_journal (s : State) (k : KeyIx) (faulty : Bool) :
    (s.findFaulty k faulty).journal = s.journal := rfl
@[simp] theorem State.findFaulty_links (s : State) (k : KeyIx) (faulty : Bool) :
    (s.findFaulty k faulty).links = s.links := rfl
@[simp] theorem State.findFaulty_seat (s : State) (k : KeyIx) (faulty : Bool) :
    (s.findFaulty k faulty).seat = s.seat := rfl
@[simp] theorem State.findFaulty_led (s : State) (k : KeyIx) (faulty : Bool) :
    (s.findFaulty k faulty).led = s.led := rfl
@[simp] theorem State.findFaulty_ledSince (s : State) (k : KeyIx) (faulty : Bool) :
    (s.findFaulty k faulty).ledSince = s.ledSince := rfl
@[simp] theorem State.findFaulty_drawn (s : State) (k : KeyIx) (faulty : Bool) :
    (s.findFaulty k faulty).drawn = s.drawn := rfl
@[simp] theorem State.findFaulty_pending (s : State) (k : KeyIx) (faulty : Bool) :
    (s.findFaulty k faulty).pending = s.pending := rfl

/-! ### Trackers and the supply -/

@[simp] theorem Tracker.intoLearn_state (x : Tracker) : x.intoLearn.state = .learn none := rfl
@[simp] theorem Tracker.intoLearn_last (x : Tracker) : x.intoLearn.last = x.last := rfl
@[simp] theorem Tracker.intoLearn_implausible (x : Tracker) : x.intoLearn.implausible = 0 := rfl
@[simp] theorem Tracker.intoLearn_recovery (x : Tracker) : x.intoLearn.recovery = 0 := rfl
@[simp] theorem Tracker.intoLearn_pendingCal (x : Tracker) : x.intoLearn.pendingCal = x.pendingCal := rfl
@[simp] theorem Tracker.intoLearn_learnWaiting (x : Tracker) : x.intoLearn.learnWaiting = x.learnWaiting := rfl
@[simp] theorem Tracker.intoLearn_evaluated (x : Tracker) : x.intoLearn.evaluated = x.evaluated := rfl

@[simp] theorem Supply.switchOn_off : Supply.off.switchOn = false := rfl
@[simp] theorem Supply.switchOn_rising (since : Time) : (Supply.rising since).switchOn = true := rfl
@[simp] theorem Supply.switchOn_good : Supply.good.switchOn = true := rfl
@[simp] theorem Supply.switchOn_failed (cause : SupplyFail) : (Supply.failed cause).switchOn = false := rfl

end Sys2Proof.Machine
end

