-- ==== Sys2Proof/Laws/Journal.lean ====
section
/-! SUPPORT. What an append, a removal and a raised condition do to the ring and to each link's record. -/

namespace Sys2Proof.Machine

/-! ### An append (R169, R176) -/

/-- The ring after an append: a full ring loses its oldest record. -/
theorem State.append_ring (s : State) (b : JournalBody) (t : Time) :
    (s.append b t).journal =
      (if s.journal.length < 512 then s.journal else s.journal.tail) ++ [{ body := b, time := t }] :=
  s.append_journal b t

/-- A ring with room grows by the record. -/
theorem State.append_ring_of_room {s : State} {b : JournalBody} {t : Time} (h : s.journal.length < 512) :
    (s.append b t).journal = s.journal ++ [{ body := b, time := t }] := by
  rw [State.append_ring, if_pos h]

theorem State.append_ring_length (s : State) (b : JournalBody) (t : Time) (h : s.journal.length ≤ 512) :
    (s.append b t).journal.length = min 512 (s.journal.length + 1) := by
  rw [State.append_ring]
  by_cases hl : s.journal.length < 512
  · simp only [hl, if_true, List.length_append, List.length_singleton]
    omega
  · simp only [hl, if_false, List.length_append, List.length_tail, List.length_singleton]
    omega

theorem State.append_link (s : State) (b : JournalBody) (t : Time) (l : Link) :
    (s.append b t).link l = LinkRec.onAppend (decide (512 ≤ s.journal.length)) (s.link l) := by
  unfold State.link State.append Config.journalSize
  exact PerLink.get_map _ _ _

/-- An append reaches a link's view and its latched set alone. -/
theorem LinkRec.onAppend_frame (full : Bool) (r : LinkRec) :
    r.onAppend full = { r with view := (r.onAppend full).view, latched := (r.onAppend full).latched } := by
  unfold LinkRec.onAppend LinkRec.loseOldest
  split <;> simp only [] <;> (try split) <;> rfl

/-- The view of a link after an append, by what it was. -/
theorem LinkRec.onAppend_view (full : Bool) (r : LinkRec) :
    (r.onAppend full).view =
      match r.view with
      | .present c g => if full then (if c = 0 then .present 0 (min 255 (g + 1)) else .present (c - 1) g) else .present c g
      | .absent n => .absent (min 255 (n + 1)) := by
  unfold LinkRec.onAppend LinkRec.loseOldest
  cases h : r.view with
  | present c g =>
    cases full <;> cases c <;>
      simp [h, View.losesRecord, View.loseOldest, View.countAbsent, LinkRec.raise, satAdd, Config.byteMax]
  | absent n => cases full <;> simp [h, View.losesRecord, View.loseOldest, View.countAbsent, satAdd, Config.byteMax]

/-- The latched set after an append: GAP is raised on a link that had not read the record a full ring loses (R176). -/
theorem LinkRec.onAppend_latched (full : Bool) (r : LinkRec) :
    (r.onAppend full).latched =
      if full = true ∧ r.view.losesRecord = true then r.latched ||| Condition.gap.mask else r.latched := by
  unfold LinkRec.onAppend LinkRec.loseOldest
  cases full <;> cases h : r.view.losesRecord <;> simp [LinkRec.raise]

@[simp] theorem State.append_linkPresent (s : State) (b : JournalBody) (t : Time) (l : Link) :
    (s.append b t).linkPresent l = s.linkPresent l := by
  rw [State.linkPresent, State.append_link, LinkRec.onAppend_view, State.linkPresent]
  cases (s.link l).view with
  | absent n => rfl
  | present c g => cases decide (512 ≤ s.journal.length) <;> cases c <;> rfl

/-! ### A raised condition -/

@[simp] theorem State.raise_link (s : State) (c : Condition) (l : Link) : (s.raise c).link l = (s.link l).raise c := by
  unfold State.link State.raise
  exact PerLink.get_map _ _ _

@[simp] theorem State.raise_linkPresent (s : State) (c : Condition) (l : Link) :
    (s.raise c).linkPresent l = s.linkPresent l := by
  rw [State.linkPresent, State.raise_link]
  rfl

@[simp] theorem State.report_linkPresent (s : State) (b : JournalBody) (c : Condition) (l : Link) :
    (s.report b c).linkPresent l = s.linkPresent l := by
  rw [State.report, State.raise_linkPresent, State.append_linkPresent]

theorem State.report_ring (s : State) (b : JournalBody) (c : Condition) :
    (s.report b c).journal =
      (if s.journal.length < 512 then s.journal else s.journal.tail) ++ [{ body := b, time := s.now }] :=
  State.append_ring s b s.now

/-- A record of the ring with room raises its condition, and no other. -/
theorem State.report_latched_of_room {s : State} {b : JournalBody} {c : Condition} (h : s.journal.length < 512) (l : Link) :
    ((s.report b c).link l).latched = (s.link l).latched ||| c.mask := by
  rw [State.report, State.raise_link, LinkRec.raise, State.append_link, LinkRec.onAppend_latched]
  simp [Nat.not_le.mpr h]

/-! ### Removal (R177) -/

theorem View.back_unread (n ring : Nat) (v : View) (h : ∀ c g : Nat, v = .present c g → n ≤ c) :
    unreadOf (ring - n) (v.back n) = unreadOf ring v := by
  cases v with
  | absent k => rfl
  | present c g =>
    have := h c g rfl
    simp only [View.back, unreadOf]
    omega

/-- The oldest cursor is at or before every present link's cursor. -/
theorem State.oldestCursor_le {s : State} {n : Nat} (h : s.oldestCursor = some n) (l : Link) (c g : Nat)
    (hv : (s.link l).view = .present c g) : n ≤ c := by
  unfold State.oldestCursor at h
  cases l with
  | a =>
    have hv' : s.links.a.view = .present c g := hv
    rw [hv'] at h
    cases hb : s.links.b.view <;> rw [hb] at h <;> simp at h <;> omega
  | b =>
    have hv' : s.links.b.view = .present c g := hv
    rw [hv'] at h
    cases ha : s.links.a.view <;> rw [ha] at h <;> simp at h <;> omega

/-- A removal moves every cursor back with the ring, so no link's unread count changes. -/
@[simp] theorem State.judgeRemoval_unread (s : State) (l : Link) : s.judgeRemoval.unread l = s.unread l := by
  unfold State.judgeRemoval
  cases h : s.oldestCursor with
  | none => rfl
  | some n =>
    simp only [State.unread, State.link, PerLink.get_map, List.length_drop]
    exact View.back_unread _ _ _ (fun c g hv => State.oldestCursor_le h l c g hv)

/-- A removal reaches the ring and the cursors alone. -/
theorem State.judgeRemoval_frame (s : State) :
    s.judgeRemoval = { s with journal := s.judgeRemoval.journal, links := s.judgeRemoval.links } := by
  unfold State.judgeRemoval
  cases s.oldestCursor <;> rfl

theorem State.judgeRemoval_link (s : State) (l : Link) :
    s.judgeRemoval.link l = { s.link l with view := (s.judgeRemoval.link l).view } := by
  unfold State.judgeRemoval
  cases s.oldestCursor with
  | none => rfl
  | some n => simp [State.link]

@[simp] theorem State.judgeRemoval_gapCount (s : State) (l : Link) :
    (s.judgeRemoval.link l).view.gapCount = (s.link l).view.gapCount := by
  unfold State.judgeRemoval
  cases s.oldestCursor with
  | none => rfl
  | some n =>
    simp only [State.link, PerLink.get_map]
    cases (s.links.get l).view <;> rfl

@[simp] theorem State.judgeRemoval_linkPresent (s : State) (l : Link) :
    s.judgeRemoval.linkPresent l = s.linkPresent l := by
  unfold State.judgeRemoval
  cases s.oldestCursor with
  | none => rfl
  | some n =>
    simp only [State.linkPresent, State.link, PerLink.get_map]
    cases (s.links.get l).view <;> rfl

end Sys2Proof.Machine
end

