-- ==== Sys2Proof/Laws/Memory.lean ====
section
/-! SUPPORT. The sample memory keeps its canonical form, and a word read is the word written last. -/

namespace Sys2Proof.Machine

/-- Addresses strictly rising from a bound, within the memory, no entry an unlisted word: the form of Memory.wf, entry by
entry. -/
def Memory.wfFrom (low : Nat) : List (Nat × SampleWord) → Prop
  | [] => True
  | (a, w) :: rest => low ≤ a ∧ a ≤ Config.lastWord ∧ w ≠ unlistedWord ∧ Memory.wfFrom (a + 1) rest

theorem Memory.wfFrom_mono {low low' : Nat} (h : low' ≤ low) {m : List (Nat × SampleWord)} (hm : Memory.wfFrom low m) :
    Memory.wfFrom low' m := by
  cases m with
  | nil => trivial
  | cons x rest => exact ⟨le_trans h hm.1, hm.2⟩

/-- The two readings of the canonical form agree. -/
theorem Memory.wf_iff (m : List (Nat × SampleWord)) : Memory.wf m = true ↔ Memory.wfFrom 0 m := by
  induction m with
  | nil => simp [Memory.wf, Memory.wfFrom]
  | cons x rest ih =>
    obtain ⟨a, w⟩ := x
    cases rest with
    | nil => simp [Memory.wf, Memory.wfFrom]
    | cons y rest =>
      obtain ⟨b, v⟩ := y
      simp only [Memory.wf, Bool.and_eq_true, decide_eq_true_eq, bne_iff_ne, ih, Memory.wfFrom] at *
      constructor
      · rintro ⟨⟨h1, h2⟩, h3, h4, h5, h6⟩
        exact ⟨Nat.zero_le _, by omega, h2, by omega, h4, h5, h6⟩
      · rintro ⟨-, h2, h3, h4, h5, h6, h7⟩
        exact ⟨⟨by omega, h3⟩, by omega, h5, h6, h7⟩

theorem Memory.cons_wfFrom {low a : Nat} {w : SampleWord} {rest : List (Nat × SampleWord)} (hl : low ≤ a)
    (ha : a ≤ Config.lastWord) (hr : Memory.wfFrom (a + 1) rest) : Memory.wfFrom low (Memory.cons a w rest) := by
  unfold Memory.cons
  split
  · exact Memory.wfFrom_mono (by omega) hr
  · exact ⟨hl, ha, by assumption, hr⟩

theorem Memory.write_wfFrom {low a : Nat} {w : SampleWord} (ha : a ≤ Config.lastWord) (hl : low ≤ a)
    {m : List (Nat × SampleWord)} (hm : Memory.wfFrom low m) : Memory.wfFrom low (Memory.write m a w) := by
  induction m generalizing low with
  | nil => exact Memory.cons_wfFrom hl ha trivial
  | cons x rest ih =>
    obtain ⟨b, v⟩ := x
    obtain ⟨h1, h2, h3, h4⟩ := hm
    simp only [Memory.write]
    split
    · exact Memory.cons_wfFrom hl ha ⟨by omega, h2, h3, h4⟩
    · split
      · subst_vars; exact Memory.cons_wfFrom hl ha h4
      · exact ⟨h1, h2, h3, ih (by omega) h4⟩

/-- A write keeps the canonical form. -/
theorem Memory.write_wf {m : List (Nat × SampleWord)} {a : Nat} (w : SampleWord) (ha : a ≤ Config.lastWord)
    (hm : Memory.wf m = true) : Memory.wf (Memory.write m a w) = true :=
  (Memory.wf_iff _).mpr (Memory.write_wfFrom ha (Nat.zero_le _) ((Memory.wf_iff _).mp hm))

/-- Every memory that the board gives has the canonical form. -/
theorem Memory.ofWords_wf (ws : List (Nat × SampleWord)) : Memory.wf (Memory.ofWords ws) = true := by
  unfold Memory.ofWords
  suffices h : ∀ m : List (Nat × SampleWord), Memory.wf m = true → Memory.wf
      (ws.foldl (fun m x => if x.1 ≤ Config.lastWord then Memory.write m x.1 x.2 else m) m) = true from h [] rfl
  induction ws with
  | nil => exact fun m hm => hm
  | cons x rest ih =>
    intro m hm
    apply ih
    dsimp only
    split
    · exact Memory.write_wf _ (by assumption) hm
    · exact hm

theorem Memory.read_below {low a : Nat} (h : a < low) {m : List (Nat × SampleWord)} (hm : Memory.wfFrom low m) :
    Memory.read m a = unlistedWord := by
  induction m generalizing low with
  | nil => rfl
  | cons x rest ih =>
    obtain ⟨b, v⟩ := x
    obtain ⟨h1, -, -, h4⟩ := hm
    rw [Memory.read, if_neg (by omega)]
    exact ih (by omega) h4

theorem Memory.read_cons {a b : Nat} {w : SampleWord} {rest : List (Nat × SampleWord)}
    (hr : Memory.wfFrom (a + 1) rest) :
    Memory.read (Memory.cons a w rest) b = if b = a then w else Memory.read rest b := by
  unfold Memory.cons
  split
  · split
    · subst_vars; exact Memory.read_below (by omega) hr
    · rfl
  · rfl

/-- The word at an address is the word written there last; a write leaves every other address as it was. -/
theorem Memory.read_write {low a b : Nat} {w : SampleWord} {m : List (Nat × SampleWord)} (hm : Memory.wfFrom low m) :
    Memory.read (Memory.write m a w) b = if b = a then w else Memory.read m b := by
  induction m generalizing low with
  | nil => exact Memory.read_cons trivial
  | cons x rest ih =>
    obtain ⟨c, v⟩ := x
    obtain ⟨h1, h2, h3, h4⟩ := hm
    simp only [Memory.write]
    split
    · exact Memory.read_cons ⟨by omega, h2, h3, h4⟩
    · split
      · subst_vars
        rw [Memory.read_cons h4]
        by_cases hb : b = c <;> simp [Memory.read, hb]
      · rename_i h5 h6
        by_cases hb : b = c
        · subst hb; simp [Memory.read, Ne.symm h6]
        · simp [Memory.read, hb, ih h4]

/-- The attached memory keeps the canonical form through power-on. -/
theorem State.attach_sampleMem_wf (s : State) (b : Board) (h : Memory.wf s.sampleMem = true) :
    Memory.wf (s.attach b).sampleMem = true := by
  unfold State.attach
  dsimp only
  split
  · exact Memory.ofWords_wf _
  · exact h

/-- The memory of the reset state has the canonical form. -/
theorem State.reset_sampleMem_wf : Memory.wf State.reset.sampleMem = true := rfl

end Sys2Proof.Machine
end

