-- ==== Sys2Proof/Laws/Rail.lean ====
section
/-! SUPPORT. What the rail's shared operations reach: the rail's own moving fields, the records they append, the LED. -/

namespace Sys2Proof.Machine

/-! ### The two frames -/

/-- Nothing but the rail, the journal, the links and the LED has changed. -/
def RailFrame (s s' : State) : Prop :=
  s' = { s with rail := s'.rail, journal := s'.journal, links := s'.links, led := s'.led, ledSince := s'.ledSince }

/-- Of the rail, nothing but its state, its segment and its counts has changed. -/
def RailMove (r r' : Rail) : Prop :=
  r' = { r with state := r'.state, drive := r'.drive, count := r'.count, segCount := r'.segCount }

theorem RailFrame.refl (s : State) : RailFrame s s := rfl

theorem RailFrame.trans {a b c : State} (h : RailFrame a b) (g : RailFrame b c) : RailFrame a c := by
  unfold RailFrame at *
  rw [g, h]

theorem RailMove.refl (r : Rail) : RailMove r r := rfl

theorem RailMove.trans {a b c : Rail} (h : RailMove a b) (g : RailMove b c) : RailMove a c := by
  unfold RailMove at *
  rw [g, h]

/-- What a move keeps of the rail. -/
theorem RailMove.kept {r r' : Rail} (h : RailMove r r') :
    r'.decided = r.decided ∧ r'.park = r.park ∧ r'.stop = r.stop ∧ r'.parkRaw = r.parkRaw ∧ r'.stopRaw = r.stopRaw ∧
      r'.leverRaw = r.leverRaw ∧ r'.votes = r.votes ∧ r'.quiet = r.quiet := by
  unfold RailMove at h
  rw [h]
  exact ⟨rfl, rfl, rfl, rfl, rfl, rfl, rfl, rfl⟩

/-- A shared operation that only moves the rail. -/
def State.railOnly (s s' : State) : Prop := RailFrame s s' ∧ RailMove s.rail s'.rail

theorem State.railOnly_refl (s : State) : s.railOnly s := ⟨rfl, rfl⟩

theorem State.railOnly_trans {a b c : State} (h : a.railOnly b) (g : b.railOnly c) : a.railOnly c :=
  ⟨h.1.trans g.1, h.2.trans g.2⟩

theorem State.setRail_railOnly (s : State) (r : Rail) (h : RailMove s.rail r) : s.railOnly (s.setRail r) := ⟨rfl, h⟩

/-! ### Records and the LED -/

theorem State.judgeLed_frame (s : State) : s.judgeLed = { s with led := s.judgeLed.led, ledSince := s.judgeLed.ledSince } := by
  unfold State.judgeLed
  split <;> rfl

/-- After a judgement the LED shows what it is to show (R213). -/
theorem State.judgeLed_shows (s : State) : s.judgeLed.led = s.judgeLed.ledShows := by
  unfold State.judgeLed
  split
  · exact Eq.symm ‹_›
  · rfl

/-! ### Segments (R68) -/

theorem State.startSegment_rail (s : State) (dir : Travel) :
    (s.startSegment dir).rail =
      { s.rail with drive := some { dir := dir, start := s.now, lastEdge := s.now }, segCount := some s.cal.cEng } := rfl

theorem State.startSegment_railOnly (s : State) (dir : Travel) : s.railOnly (s.startSegment dir) := ⟨rfl, rfl⟩

/-- A segment that ends leaves the motor OFF; outside TESTING the state is as it was. -/
theorem State.endSegment_rail (s : State) :
    s.endSegment.rail.drive = none ∧ s.endSegment.rail.count = s.rail.count ∧
      s.endSegment.rail.segCount = s.rail.segCount ∧
      (s.rail.state.name ≠ .testing → s.endSegment.rail.state = s.rail.state) := by
  unfold State.endSegment State.setRail
  cases hd : s.rail.drive with
  | none => exact ⟨hd, rfl, rfl, fun _ => rfl⟩
  | some g =>
    refine ⟨rfl, rfl, rfl, fun h => ?_⟩
    cases hs : s.rail.state <;> simp_all [RailState.addDriven, RailState.name]

theorem State.endSegment_railOnly (s : State) : s.railOnly s.endSegment := by
  unfold State.endSegment
  split <;> exact ⟨rfl, rfl⟩

/-! ### Entries to states -/

theorem State.enterRail_rail (s : State) (st : RailState) : (s.enterRail st).rail = { s.rail with state := st } := by
  unfold State.enterRail
  rw [State.judgeLed_frame]
  rfl

theorem State.enterRail_railOnly (s : State) (st : RailState) : s.railOnly (s.enterRail st) := by
  refine ⟨?_, by rw [State.enterRail_rail]; rfl⟩
  unfold RailFrame State.enterRail
  rw [State.judgeLed_frame]
  rfl

/-- Every entry to a rail state leaves the LED as it is to show (R213). -/
theorem State.enterRail_led (s : State) (st : RailState) : (s.enterRail st).led = (s.enterRail st).ledShows :=
  State.judgeLed_shows _

/-- The record of an entry (R83). -/
theorem State.enterRail_journal (s : State) (st : RailState) :
    (s.enterRail st).journal =
      (if s.journal.length < 512 then s.journal else s.journal.tail) ++
        [{ body := .rail st.name st.testPhase st.cause s.rail.votes, time := s.now }] := by
  unfold State.enterRail
  rw [State.judgeLed_frame]
  unfold State.railRecord State.report
  exact State.append_journal _ _ _

theorem State.beginMove_railOnly (s : State) (dir : Travel) : s.railOnly (s.beginMove dir) :=
  State.railOnly_trans (s.startSegment_railOnly dir) (State.enterRail_railOnly _ _)

theorem State.beginMove_rail (s : State) (dir : Travel) :
    (s.beginMove dir).rail =
      { s.rail with
        state := (match dir with | .inward => .movingIn | .outward => .movingOut)
        drive := some { dir := dir, start := s.now, lastEdge := s.now }, segCount := some s.cal.cEng } := by
  unfold State.beginMove
  rw [State.enterRail_rail]
  rfl

theorem State.arriveEngaged_railOnly (s : State) : s.railOnly s.arriveEngaged := by
  unfold State.arriveEngaged
  exact State.railOnly_trans s.endSegment_railOnly
    (State.railOnly_trans
      (State.setRail_railOnly _
        { s.endSegment.rail with
          count := (match s.endSegment.rail.segCount with | some c => (c : Int) | none => s.endSegment.rail.count)
          segCount := none } rfl)
      (State.enterRail_railOnly _ _))

theorem State.arriveParked_railOnly (s : State) : s.railOnly s.arriveParked := by
  unfold State.arriveParked
  exact State.railOnly_trans s.endSegment_railOnly
    (State.railOnly_trans (State.setRail_railOnly _ { s.endSegment.rail with count := 0, segCount := none } rfl)
      (State.enterRail_railOnly _ _))

/-- The rail that has arrived out (R72). -/
theorem State.arriveParked_rail (s : State) :
    s.arriveParked.rail = { s.rail with state := .parked, drive := none, count := 0, segCount := none } := by
  unfold State.arriveParked
  simp only [State.enterRail_rail]
  unfold State.endSegment State.setRail
  cases hd : s.rail.drive with
  | none => simp only [← hd]
  | some g => rfl

/-- The rail that has arrived in (R72). -/
theorem State.arriveEngaged_rail (s : State) :
    s.arriveEngaged.rail = { s.rail with
      state := .engaged, drive := none, segCount := none
      count := match s.rail.segCount with | some c => (c : Int) | none => s.rail.count } := by
  unfold State.arriveEngaged
  simp only [State.enterRail_rail]
  unfold State.endSegment State.setRail
  cases hd : s.rail.drive with
  | none => simp only [← hd] <;> cases s.rail.segCount <;> rfl
  | some g => rfl

/-! ### The rules of states entered -/

theorem State.railRule_railOnly {s s' : State} (h : s.railRule = some s') : s.railOnly s' := by
  have of_if {c : Prop} [Decidable c] {a : State} (ha : s.railOnly a)
      (hc : (if c then some a else none) = some s') : s.railOnly s' := by
    split at hc
    · exact Option.some.inj hc ▸ ha
    · cases hc
  have of_not {c : Prop} [Decidable c] {a : State} (ha : s.railOnly a)
      (hc : (if c then none else some a) = some s') : s.railOnly s' := by
    split at hc
    · cases hc
    · exact Option.some.inj hc ▸ ha
  unfold State.railRule at h
  simp only [] at h
  split at h
  · exact of_if (State.enterRail_railOnly _ _) h
  · exact of_not (State.enterRail_railOnly _ _) h
  · exact of_if (State.beginMove_railOnly _ _) h
  · exact of_if (State.beginMove_railOnly _ _) h
  · exact of_if (State.beginMove_railOnly _ _) h
  · exact of_if (State.beginMove_railOnly _ _) h
  · exact of_if (State.arriveEngaged_railOnly _) h
  · exact of_if (State.arriveParked_railOnly _) h
  · exact of_if (State.startSegment_railOnly _ _) h
  · exact of_if (State.startSegment_railOnly _ _) h
  · cases h

theorem State.settleFor_railOnly (n : Nat) : ∀ s : State, s.railOnly (State.settleFor n s) := by
  induction n with
  | zero => exact State.railOnly_refl
  | succ n ih =>
    intro s
    unfold State.settleFor
    split
    · exact State.railOnly_trans (State.railRule_railOnly ‹_›) (ih _)
    · exact State.railOnly_refl s

/-- A chain of entries moves the rail alone. -/
theorem State.settle_railOnly (s : State) : s.railOnly s.settle := State.settleFor_railOnly 8 s

/-- A state in which no rule acts is settled. -/
theorem State.settle_of_none {s : State} (h : s.railRule = none) : s.settle = s := by
  unfold State.settle State.settleFor
  rw [h]

/-- A state in which one rule acts is settled once that rule has acted, if no other acts after it. -/
theorem State.settle_of_some {s s' : State} (h : s.railRule = some s') (g : s'.railRule = none) : s.settle = s' := by
  unfold State.settle State.settleFor
  rw [h]
  simp only []
  unfold State.settleFor
  rw [g]

/-! ### Quiet and the vote set -/

theorem State.loseQuiet_railOnly (s : State) : s.railOnly s.loseQuiet := by
  unfold State.loseQuiet
  split
  · exact State.railOnly_trans s.endSegment_railOnly (State.enterRail_railOnly _ _)
  · exact State.railOnly_trans s.endSegment_railOnly (State.enterRail_railOnly _ _)
  · exact s.endSegment_railOnly
  · exact s.endSegment_railOnly
  · exact State.railOnly_refl s

/-- Quiet that ends leaves the quiet record with its new count, no timer and quiet no (R63, R64). -/
theorem State.endQuiet_quiet (s : State) (n : Nat) :
    (s.endQuiet n).rail.quiet = { notAtRest := n, start := none, quiet := false } := by
  unfold State.endQuiet
  simp only []
  split
  · exact (State.loseQuiet_railOnly _).2.kept.2.2.2.2.2.2.2
  · rfl

theorem State.endQuiet_frame (s : State) (n : Nat) : RailFrame s (s.endQuiet n) := by
  unfold State.endQuiet
  simp only []
  split
  · exact RailFrame.trans (b := s.setQuiet _) rfl (State.loseQuiet_railOnly _).1
  · rfl

theorem State.railRecord_railOnly (s : State) (w : Bool) : s.railOnly (s.railRecord w) := ⟨rfl, rfl⟩

theorem State.reverse_railOnly (s : State) (dir : Travel) : s.railOnly (s.reverse dir) :=
  State.railOnly_trans s.endSegment_railOnly (State.beginMove_railOnly _ _)

theorem State.votesChanged_railOnly (s : State) : s.railOnly s.votesChanged := by
  have entered (st : RailState) : s.railOnly (s.enterRail st).settle :=
    State.railOnly_trans (s.enterRail_railOnly st) (State.settle_railOnly _)
  have turned (dir : Travel) : s.railOnly (s.reverse dir).settle :=
    State.railOnly_trans (s.reverse_railOnly dir) (State.settle_railOnly _)
  have settled := s.settle_railOnly
  have told := s.railRecord_railOnly false
  have h1 := entered .parked
  have h2 := entered .engaged
  have h3 := entered .pausedIn
  have h4 := entered .pausedOut
  have h5 := turned .inward
  have h6 := turned .outward
  unfold State.votesChanged
  split
  · cases s.rail.state <;> cases s.rail.votes.any <;> dsimp only <;> assumption
  · exact State.railOnly_refl s

/-- The vote set is the one that was set, whatever the rail does about it. -/
theorem State.setVotes_votes (s : State) (v : Votes) : (s.setVotes v).rail.votes = v := by
  unfold State.setVotes
  split
  · exact Eq.symm ‹_›
  · exact (State.votesChanged_railOnly _).2.kept.2.2.2.2.2.2.1

theorem State.setVotes_frame (s : State) (v : Votes) : RailFrame s (s.setVotes v) := by
  unfold State.setVotes
  split
  · rfl
  · exact RailFrame.trans (b := s.setRail _) rfl (State.votesChanged_railOnly _).1

theorem State.abortCycle_railOnly (s : State) : s.railOnly s.abortCycle := by
  unfold State.abortCycle
  split
  · split
    · exact State.railOnly_trans s.arriveParked_railOnly (State.settle_railOnly _)
    · split
      · exact State.railOnly_trans s.arriveEngaged_railOnly (State.settle_railOnly _)
      · split <;> exact State.railOnly_trans (State.railOnly_trans s.endSegment_railOnly (State.enterRail_railOnly _ _))
          (State.settle_railOnly _)
  · exact State.railOnly_refl s

end Sys2Proof.Machine
end

