-- ==== Sys2Proof/Laws/Requests.lean ====
section
/-! SUPPORT. What a request can do: refused by the first check that fails, or taken whole with its reply. -/

namespace Sys2Proof.Machine

@[simp] theorem State.receiving_stamp (s : State) (t : Time) (l : Link) : (s.stamp t).receiving l = s.receiving l := rfl
@[simp] theorem State.running_stamp (s : State) (t : Time) : (s.stamp t).running = s.running := rfl
@[simp] theorem State.heldOrRunning_stamp (s : State) (t : Time) : (s.stamp t).heldOrRunning = s.heldOrRunning := rfl
@[simp] theorem State.holds_stamp (s : State) (t : Time) (l : Link) : (s.stamp t).holds l = s.holds l := rfl
@[simp] theorem State.linkPresent_stamp (s : State) (t : Time) (l : Link) : (s.stamp t).linkPresent l = s.linkPresent l := rfl
@[simp] theorem State.link_stamp (s : State) (t : Time) (l : Link) : (s.stamp t).link l = s.link l := rfl
@[simp] theorem State.key_stamp (s : State) (t : Time) (k : KeyIx) : (s.stamp t).key k = s.key k := rfl
@[simp] theorem State.keyCal_stamp (s : State) (t : Time) (k : KeyIx) : (s.stamp t).keyCal k = s.keyCal k := rfl
@[simp] theorem State.track_stamp (s : State) (t : Time) (i : TrackIx) : (s.stamp t).track i = s.track i := rfl
@[simp] theorem State.voice_stamp (s : State) (t : Time) (i : VoiceIx) : (s.stamp t).voice i = s.voice i := rfl
@[simp] theorem State.jack_stamp (s : State) (t : Time) (j : JackIx) : (s.stamp t).jack j = s.jack j := rfl
@[simp] theorem State.liveChannel_stamp (s : State) (t : Time) (i : PedalIx) :
    (s.stamp t).liveChannel i = s.liveChannel i := rfl
@[simp] theorem State.playChannel_stamp (s : State) (t : Time) (i : PedalIx) :
    (s.stamp t).playChannel i = s.playChannel i := rfl

theorem State.stamp_eq (s : State) (t : Time) : s.stamp t = { s with now := t } := rfl

/-- Out of RECEIVING a request is not taken (R186). -/
theorem State.request_idle {s : State} {t : Time} {l : Link} {code : Nat} {p : List Byte}
    {rule : State → State × Reply} (h : s.receiving l = false) : s.request t l code p rule = .next (s.stamp t) := by
  simp [State.request, h]

/-- A request with at most 60 payload bytes is taken by its rule, and answered (R187). -/
theorem State.request_taken {s : State} {t : Time} {l : Link} {code : Nat} {p : List Byte}
    {rule : State → State × Reply} (h : s.receiving l = true) (hp : p.length ≤ 60) :
    s.request t l code p rule =
      .next ((rule (s.stamp t)).1.answer l (requestBytes code p) (rule (s.stamp t)).2) := by
  simp [State.request, h, Config.maxPayload, Nat.not_lt.mpr hp]

/-- Every request, taken or not, answers a next state (R186, R187). -/
theorem State.request_cases {s : State} {t : Time} {l : Link} {code : Nat} {p : List Byte}
    {rule : State → State × Reply} : s.request t l code p rule = .next (s.stamp t) ∨
      s.request t l code p rule = .next ((s.stamp t).denied l code p .badLength) ∨
      s.request t l code p rule =
        .next ((rule (s.stamp t)).1.answer l (requestBytes code p) (rule (s.stamp t)).2) := by
  cases h : s.receiving l
  · exact .inl (State.request_idle h)
  · by_cases hp : p.length ≤ 60
    · exact .inr (.inr (State.request_taken h hp))
    · exact .inr (.inl (by simp [State.request, h, Config.maxPayload, Nat.not_le.mp hp, State.denied]))

/-- A rule that answers nothing but its checks and one effect gives the outcome of those checks. -/
theorem State.answer_checked (s e : State) (l : Link) (code : Nat) (p payload : List Byte) (checks : List (Bool × Status)) :
    (s.checked checks (e, Reply.ok payload)).1.answer l (requestBytes code p)
        (s.checked checks (e, Reply.ok payload)).2 = s.outcome l code p checks e payload := by
  unfold State.checked State.outcome firstFailing
  cases h : checks.find? (fun x => x.1) with
  | none => rfl
  | some x => rfl

/-- A request whose rule is its checks and one effect. -/
theorem State.request_outcome {s e : State} {t : Time} {l : Link} {code : Nat} {p payload : List Byte}
    {checks : List (Bool × Status)} {rule : State → State × Reply} (h : s.receiving l = true) (hp : p.length ≤ 60)
    (hr : rule (s.stamp t) = (s.stamp t).checked checks (e, Reply.ok payload)) :
    s.request t l code p rule = .next ((s.stamp t).outcome l code p checks e payload) := by
  rw [State.request_taken h hp, hr, State.answer_checked]

/-- The outcome of checks that all pass. -/
theorem State.outcome_passed {s e : State} {l : Link} {code : Nat} {p payload : List Byte}
    {checks : List (Bool × Status)} (h : ∀ x ∈ checks, x.1 = false) :
    s.outcome l code p checks e payload = e.replied l code p payload := by
  have : checks.find? (fun x => x.1) = none := by
    rw [List.find?_eq_none]; intro x hx; simp [h x hx]
  simp [State.outcome, firstFailing, this]

/-- Two outcomes agree when their effects agree wherever every check passes. -/
theorem State.outcome_congr {s e e' : State} {l : Link} {code : Nat} {p payload payload' : List Byte}
    {checks checks' : List (Bool × Status)} (hc : firstFailing checks = firstFailing checks')
    (he : firstFailing checks' = none → e = e' ∧ payload = payload') :
    s.outcome l code p checks e payload = s.outcome l code p checks' e' payload' := by
  unfold State.outcome
  rw [hc]
  cases h : firstFailing checks' with
  | some x => rfl
  | none => obtain ⟨h1, h2⟩ := he h; rw [h1, h2]

/-- The first failing check of a list, check by check. -/
theorem firstFailing_cons (b : Bool) (st : Status) (rest : List (Bool × Status)) :
    firstFailing ((b, st) :: rest) = if b then some st else firstFailing rest := by
  cases b <;> simp [firstFailing]

@[simp] theorem firstFailing_nil : firstFailing [] = none := rfl

/-- No check fails. -/
theorem firstFailing_eq_none (checks : List (Bool × Status)) :
    firstFailing checks = none ↔ ∀ x ∈ checks, x.1 = false := by
  simp [firstFailing, List.find?_eq_none]

theorem firstFailing_append (a b : List (Bool × Status)) :
    firstFailing (a ++ b) = (firstFailing a).or (firstFailing b) := by
  unfold firstFailing
  rw [List.find?_append]
  cases a.find? (fun x => x.1) <;> rfl

theorem State.holds_eq (s : State) (l : Link) : s.holds l = (s.seat == some l) := rfl

/-- With no commit in progress, a change of the working copy sets the saved mark alone (R204). -/
theorem State.calChanged_of_no_commit {s : State} (h : s.commit = none) : s.calChanged = { s with saved := false } := by
  simp [State.calChanged, h]

theorem State.checked_nil (s : State) (e : State × Reply) : s.checked [] e = e := rfl

/-- The checks of a rule, one by one. -/
theorem State.checked_cons (s : State) (b : Bool) (st : Status) (rest : List (Bool × Status)) (e : State × Reply) :
    s.checked ((b, st) :: rest) e = if b then (s, Reply.no st) else s.checked rest e := by
  cases b <;> simp [State.checked]

end Sys2Proof.Machine
end

