-- ==== Sys2Proof/Laws/Voices.lean ====
section
/-! SUPPORT. What the voice engine's shared operations reach: the voice table alone, each voice by its own rule. -/

namespace Sys2Proof.Machine

/-- Nothing but the voice table has changed. -/
def VoiceFrame (s s' : State) : Prop := s' = { s with voices := s'.voices }

theorem VoiceFrame.refl (s : State) : VoiceFrame s s := rfl

theorem VoiceFrame.trans {a b c : State} (h : VoiceFrame a b) (g : VoiceFrame b c) : VoiceFrame a c := by
  unfold VoiceFrame at *
  rw [g, h]

theorem State.mapVoices_frame (s : State) (f : Voice → Voice) : VoiceFrame s (s.mapVoices f) := rfl
theorem State.setVoice_frame (s : State) (i : VoiceIx) (v : Option Voice) : VoiceFrame s (s.setVoice i v) := rfl
theorem State.dampKey_frame (s : State) (g : Group) (k : KeyIx) : VoiceFrame s (s.dampKey g k) := rfl

/-- Every voice of the table changed alike. -/
theorem State.voice_mapVoices (s : State) (f : Voice → Voice) (i : VoiceIx) :
    (s.mapVoices f).voice i = (s.voice i).map f := by
  unfold State.voice State.mapVoices
  exact tableMap_get _ _ _

theorem State.voice_setVoice (s : State) (i j : VoiceIx) (v : Option Voice) :
    (s.setVoice i v).voice j = if j = i then v else s.voice j := by
  unfold State.voice State.setVoice
  simp only [tablePut_get, eq_comm]

/-! ### Note-on (R93 to R98) -/

theorem State.shed_frame (i : VoiceIx) (cost : Nat) : ∀ (n : Nat) (s : State), VoiceFrame s (s.shed i cost n)
  | 0, s => VoiceFrame.refl s
  | n + 1, s => by
    unfold State.shed
    split
    · exact VoiceFrame.refl s
    · split
      · exact VoiceFrame.trans (s.setVoice_frame _ _) (State.shed_frame i cost n _)
      · exact VoiceFrame.refl s

/-- Shedding frees voices and changes none (R97). -/
theorem State.voice_shed (i : VoiceIx) (cost : Nat) :
    ∀ (n : Nat) (s : State) (j : VoiceIx), (s.shed i cost n).voice j = s.voice j ∨ (s.shed i cost n).voice j = none
  | 0, _, _ => .inl rfl
  | n + 1, s, j => by
    unfold State.shed
    split
    · exact .inl rfl
    · split
      · rename_i x _
        rcases State.voice_shed i cost n (s.setVoice x none) j with h | h
        · rw [h, State.voice_setVoice]
          split
          · exact .inr rfl
          · exact .inl rfl
        · exact .inr h
      · exact .inl rfl

/-- A note-on reaches the voice table alone. -/
theorem State.noteOn_frame (s : State) (src : Source) (k : KeyIx) (level : Nat) :
    VoiceFrame s (s.noteOn src k level).1 := by
  unfold State.noteOn
  simp only []
  split
  · exact s.dampKey_frame _ _
  · exact VoiceFrame.trans (s.dampKey_frame _ _)
      (VoiceFrame.trans (State.shed_frame _ _ _ _) (State.setVoice_frame _ _ _))

/-- A note-on that no window serves damps the key's voices of its group, nothing more, and is not voiced (R93, R94). -/
theorem State.noteOn_unserved {s : State} {src : Source} {k : KeyIx} {level : Nat}
    (h : findWindow s.windows k level = none) : s.noteOn src k level = (s.dampKey src.group k, none) := by
  unfold State.noteOn
  show (match findWindow s.windows k level with
    | none => _
    | some (w, win) => _ : State × Option VoiceIx) = _
  rw [h]

/-- A note-on that a window serves: the key is damped, a voice chosen, others shed for its cost, the voice started and named
in the answer (R93 to R98). -/
theorem State.noteOn_eq {s : State} {src : Source} {k : KeyIx} {level w : Nat} {win : Window}
    (h : findWindow s.windows k level = some (w, win)) :
    s.noteOn src k level =
      (((s.dampKey src.group k).shed (s.dampKey src.group k).chooseVoice win.cost 48).setVoice
        (s.dampKey src.group k).chooseVoice (some (startedVoice src k level w win.cost s.now)),
        some (s.dampKey src.group k).chooseVoice) := by
  have hn : ((s.dampKey src.group k).shed (s.dampKey src.group k).chooseVoice win.cost 48).now = s.now := by
    rw [State.shed_frame (s.dampKey src.group k).chooseVoice win.cost 48 (s.dampKey src.group k)]
    rfl
  unfold State.noteOn
  show (match findWindow s.windows k level with
    | none => _
    | some (w, win) => _ : State × Option VoiceIx) = _
  rw [h]
  simp only [hn]

/-- A note-on is voiced exactly where a window serves its key and level (R94). -/
theorem State.noteOn_voiced (s : State) (src : Source) (k : KeyIx) (level : Nat) :
    (s.noteOn src k level).2.isSome = (findWindow s.windows k level).isSome := by
  cases h : findWindow s.windows k level with
  | none => rw [State.noteOn_unserved h]; rfl
  | some x => rw [State.noteOn_eq (w := x.1) (win := x.2) h]; rfl

/-- A note-on that a window serves starts the voice it names (R98); every other voice is damped with the key, freed, or as it
was. -/
theorem State.noteOn_served {s : State} {src : Source} {k : KeyIx} {level w : Nat} {win : Window}
    (h : findWindow s.windows k level = some (w, win)) :
    ∃ i : VoiceIx, (s.noteOn src k level).2 = some i ∧
      (s.noteOn src k level).1.voice i = some (startedVoice src k level w win.cost s.now) ∧
      ∀ j : VoiceIx, j ≠ i →
        (s.noteOn src k level).1.voice j = (s.dampKey src.group k).voice j ∨ (s.noteOn src k level).1.voice j = none := by
  refine ⟨(s.dampKey src.group k).chooseVoice, ?_, ?_, ?_⟩
  · rw [State.noteOn_eq h]
  · rw [State.noteOn_eq h, State.voice_setVoice, if_pos rfl]
  · intro j hj
    rw [State.noteOn_eq h, State.voice_setVoice, if_neg hj]
    exact State.voice_shed _ _ _ _ _

/-! ### Note-off and pedal effects (R100 to R103) -/

theorem State.noteOff_frame (s : State) (src : Source) (k : KeyIx) (level : Nat) :
    VoiceFrame s (s.noteOff src k level) := rfl

/-- After a note-off no voice of its source and key is held. -/
theorem State.noteOff_held (s : State) (src : Source) (k : KeyIx) (level : Nat) (i : VoiceIx) (v : Voice)
    (h : (s.noteOff src k level).voice i = some v) (hs : v.source = src) (hk : v.key = k) : v.held = false := by
  unfold State.noteOff at h
  rw [State.voice_mapVoices] at h
  cases hv : s.voice i with
  | none => simp [hv] at h
  | some x =>
    simp only [hv, Option.map_some, Option.some.injEq] at h
    by_cases hr : x.reachedBy src k = true
    · simp only [hr, if_true] at h
      rw [← h]
    · rw [if_neg hr] at h
      subst h hs hk
      simpa [Voice.reachedBy] using hr

theorem State.damperUp_frame (s : State) (g : Group) : VoiceFrame s (s.damperUp g) := rfl
theorem State.damperDown_frame (s : State) (g : Group) : VoiceFrame s (s.damperDown g) := rfl

theorem State.sostenutoRelease_frame (s : State) (g : Group) (keys : KeySet) : VoiceFrame s (s.sostenutoRelease g keys) := by
  unfold State.sostenutoRelease
  split
  · exact VoiceFrame.refl s
  · exact s.mapVoices_frame _

theorem State.damperNotice_frame (s : State) (g : Group) (before after : Nat) :
    VoiceFrame s (s.damperNotice g before after) := by
  unfold State.damperNotice
  split
  · exact s.damperUp_frame g
  · split
    · exact s.damperDown_frame g
    · exact VoiceFrame.refl s

/-! ### The envelope (R104) -/

/-- A step of the envelope lowers it, and never below 0. -/
theorem stepEnvelope_lt {e r : Nat} (h : 1 ≤ e) : stepEnvelope e r < e := by
  unfold stepEnvelope
  omega

theorem stepEnvelope_le (e r : Nat) : stepEnvelope e r ≤ e - 1 := by
  unfold stepEnvelope
  omega

/-- What an envelope step makes of a voice: nothing but its envelope moves. -/
theorem stepVoice_some (damper : Group → Nat) (v : Voice) :
    stepVoice damper (some v) = none ∨
      ∃ e : Nat, e ≠ 0 ∧ e = stepEnvelope v.env (envelopeRate v (damper v.source.group)) ∧
        stepVoice damper (some v) = some { v with env := e } := by
  unfold stepVoice
  simp only []
  split
  · exact .inl rfl
  · exact .inr ⟨_, ‹_›, rfl, rfl⟩

@[simp] theorem stepVoice_none (damper : Group → Nat) : stepVoice damper none = none := rfl

end Sys2Proof.Machine
end

