-- ==== Sys2Proof/Laws/Transport.lean ====
section
/-! SUPPORT. What the transport's shared operations reach: its own record, the voices, the PLAYBACK pedals, the journal; and
which of them leave the takes as they are. -/

namespace Sys2Proof.Machine

/-- Nothing but the transport, the voices, the PLAYBACK group, the click, the journal, the links and the count of the free
values has changed. -/
def TransportFrame (s s' : State) : Prop :=
  s' = { s with
    voices := s'.voices, play := s'.play, playCapture := s'.playCapture, click := s'.click, transport := s'.transport
    journal := s'.journal, links := s'.links, drawn := s'.drawn }

theorem TransportFrame.refl (s : State) : TransportFrame s s := rfl

theorem TransportFrame.trans {a b c : State} (h : TransportFrame a b) (g : TransportFrame b c) : TransportFrame a c := by
  unfold TransportFrame at *
  rw [g, h]

theorem VoiceFrame.transport {s s' : State} (h : VoiceFrame s s') : TransportFrame s s' := by
  unfold VoiceFrame at h
  rw [h]
  rfl

theorem State.setTransport_frame (s : State) (x : Transport) : TransportFrame s (s.setTransport x) := rfl
theorem State.setTrack_frame (s : State) (i : TrackIx) (x : Track) : TransportFrame s (s.setTrack i x) := rfl
theorem State.append_frame (s : State) (b : JournalBody) (t : Time) : TransportFrame s (s.append b t) := rfl
theorem State.report_frame (s : State) (b : JournalBody) (c : Condition) : TransportFrame s (s.report b c) := rfl
theorem State.setPlay_frame (s : State) (i : PedalIx) (x : PlayChannel) : TransportFrame s (s.setPlay i x) := rfl

theorem TransportFrame.foldl {α : Type} (f : State → α → State) (h : ∀ (s : State) (x : α), TransportFrame s (f s x)) :
    ∀ (l : List α) (s : State), TransportFrame s (l.foldl f s)
  | [], s => TransportFrame.refl s
  | x :: l, s => (h s x).trans (TransportFrame.foldl f h l (f s x))

/-! ### The take store -/

theorem State.track_setTrack (s : State) (i j : TrackIx) (x : Track) :
    (s.setTrack i x).track j = if j = i then x else s.track j := by
  unfold State.track State.setTrack State.setTransport
  simp only [tablePut_get, eq_comm]

/-- The takes stand: every track has the records, the reserved slot and the mode it had. -/
def TakesKept (s s' : State) : Prop :=
  ∀ i : TrackIx, (s'.track i).recs = (s.track i).recs ∧ (s'.track i).reserved = (s.track i).reserved ∧
    (s'.track i).mode = (s.track i).mode

theorem TakesKept.refl (s : State) : TakesKept s s := fun _ => ⟨rfl, rfl, rfl⟩

theorem TakesKept.trans {a b c : State} (h : TakesKept a b) (g : TakesKept b c) : TakesKept a c :=
  fun i => ⟨(g i).1.trans (h i).1, (g i).2.1.trans (h i).2.1, (g i).2.2.trans (h i).2.2⟩

theorem TakesKept.of_transport {s s' : State} (h : s'.transport = s.transport) : TakesKept s s' := by
  intro i
  unfold State.track
  rw [h]
  exact ⟨rfl, rfl, rfl⟩

theorem TakesKept.foldl {α : Type} (f : State → α → State) (h : ∀ (s : State) (x : α), TakesKept s (f s x)) :
    ∀ (l : List α) (s : State), TakesKept s (l.foldl f s)
  | [], s => TakesKept.refl s
  | x :: l, s => (h s x).trans (TakesKept.foldl f h l (f s x))

theorem VoiceFrame.takes {s s' : State} (h : VoiceFrame s s') : TakesKept s s' :=
  .of_transport (by unfold VoiceFrame at h; rw [h])

/-- A track whose cursor or open notes alone change keeps its take. -/
theorem State.setTrack_takes (s : State) (i : TrackIx) (x : Track)
    (h : x.recs = (s.track i).recs ∧ x.reserved = (s.track i).reserved ∧ x.mode = (s.track i).mode) :
    TakesKept s (s.setTrack i x) := by
  intro j
  rw [State.track_setTrack]
  split
  · subst_vars
    exact h
  · exact ⟨rfl, rfl, rfl⟩

/-! ### States and records (R166) -/

theorem State.setTransportState_frame (s : State) (st : TransportState) : TransportFrame s (s.setTransportState st) := by
  unfold State.setTransportState
  simp only []
  split <;> rfl

theorem State.setTransportState_transport (s : State) (st : TransportState) :
    (s.setTransportState st).transport = { s.transport with state := st } := by
  unfold State.setTransportState
  simp only []
  split <;> rfl

/-! ### Open notes (R141) -/

theorem State.endNote_frame (s : State) (i : TrackIx) (k : KeyIx) (level : Nat) : TransportFrame s (s.endNote i k level) :=
  rfl

theorem State.endNote_takes (s : State) (i : TrackIx) (k : KeyIx) (level : Nat) : TakesKept s (s.endNote i k level) :=
  s.setTrack_takes i _ ⟨rfl, rfl, rfl⟩

theorem State.releaseTrack_frame (s : State) (i : TrackIx) : TransportFrame s (s.releaseTrack i) :=
  TransportFrame.foldl _ (fun x k => x.endNote_frame i k _) _ s

theorem State.releaseTrack_takes (s : State) (i : TrackIx) : TakesKept s (s.releaseTrack i) :=
  TakesKept.foldl _ (fun x k => x.endNote_takes i k _) _ s

theorem State.releaseAll_frame (s : State) : TransportFrame s s.releaseAll :=
  TransportFrame.foldl _ (fun x i => x.releaseTrack_frame i) _ s

theorem State.releaseAll_takes (s : State) : TakesKept s s.releaseAll :=
  TakesKept.foldl _ (fun x i => x.releaseTrack_takes i) _ s

/-! ### The PLAYBACK group (R54, R55) -/

theorem State.sostenutoChange_playback (s : State) (before after : Bool) :
    TransportFrame s (s.sostenutoChange .playback before after) ∧
      (s.sostenutoChange .playback before after).transport = s.transport := by
  cases before <;> cases after
  · exact ⟨rfl, rfl⟩
  · exact ⟨rfl, rfl⟩
  · have h := s.sostenutoRelease_frame .playback (s.capture .playback)
    refine ⟨TransportFrame.trans h.transport rfl, ?_⟩
    show (s.sostenutoRelease .playback (s.capture .playback)).transport = s.transport
    unfold VoiceFrame at h
    rw [h]
  · exact ⟨rfl, rfl⟩

theorem State.damperNotice_transport (s : State) (g : Group) (before after : Nat) :
    (s.damperNotice g before after).transport = s.transport := by
  have h := s.damperNotice_frame g before after
  unfold VoiceFrame at h
  rw [h]

theorem State.playbackLevels_frame (s : State) (levels : PedalIx → Nat) :
    TransportFrame s (s.playbackLevels levels) ∧ (s.playbackLevels levels).transport = s.transport := by
  let s1 : State := { s with play := tableOf (fun i =>
    { level := levels i, switch := judgeSwitch (s.playChannel i).switch (levels i) }) }
  have h := s1.sostenutoChange_playback (s.playChannel sostenutoIx).switch (s1.playChannel sostenutoIx).switch
  have e : s.playbackLevels levels =
      (s1.sostenutoChange .playback (s.playChannel sostenutoIx).switch (s1.playChannel sostenutoIx).switch).damperNotice
        .playback (s.playChannel damperIx).level (levels damperIx) := rfl
  rw [e, State.damperNotice_transport]
  exact ⟨TransportFrame.trans (b := s1) rfl (h.1.trans (State.damperNotice_frame _ _ _ _).transport), h.2⟩

theorem State.playRecord_frame (s : State) (i : PedalIx) : TransportFrame s (s.playRecord i) := rfl

theorem State.playRecords_frame (s before : State) : TransportFrame s (s.playRecords before) :=
  TransportFrame.foldl _ (fun x i => by
    show TransportFrame x (if (x.playChannel i).level = (before.playChannel i).level then x else x.playRecord i)
    split
    · exact TransportFrame.refl x
    · exact x.playRecord_frame i) _ s

theorem State.playRecords_takes (s before : State) : TakesKept s (s.playRecords before) :=
  TakesKept.foldl _ (fun x i => by
    show TakesKept x (if (x.playChannel i).level = (before.playChannel i).level then x else x.playRecord i)
    split
    · exact TakesKept.refl x
    · exact .of_transport rfl) _ s

theorem State.playbackReset_frame (s : State) : TransportFrame s s.playbackReset :=
  (s.playbackLevels_frame _).1.trans (State.playRecords_frame _ _)

theorem State.playbackReset_takes (s : State) : TakesKept s s.playbackReset :=
  TakesKept.trans (.of_transport (s.playbackLevels_frame _).2) (State.playRecords_takes _ _)

theorem State.playbackPedal_frame (s : State) (i : PedalIx) (level : Nat) :
    TransportFrame s (s.playbackPedal i level) ∧ (s.playbackPedal i level).transport = s.transport := by
  have effects (x : State) (sw sw' : Bool) (lv lv' : Nat) :
      TransportFrame x (x.pedalEffects .playback i sw sw' lv lv') ∧
        (x.pedalEffects .playback i sw sw' lv lv').transport = x.transport := by
    unfold State.pedalEffects
    split
    · exact x.sostenutoChange_playback sw sw'
    · split
      · exact ⟨(x.damperNotice_frame _ _ _).transport, x.damperNotice_transport _ _ _⟩
      · exact ⟨rfl, rfl⟩
  unfold State.playbackPedal
  simp only []
  split
  · exact ⟨TransportFrame.trans (s.setPlay_frame _ _) (effects _ _ _ _ _).1, (effects _ _ _ _ _).2⟩
  · exact ⟨TransportFrame.trans (b := (s.setPlay _ _).playRecord i) rfl (effects _ _ _ _ _).1, (effects _ _ _ _ _).2⟩

/-! ### Dispatch (R139, R140) -/

theorem State.playTake_frame (s : State) (i : TrackIx) (r : TakeRec) :
    TransportFrame s (s.playTake i r) ∧ TakesKept s (s.playTake i r) := by
  unfold State.playTake
  split
  · rename_i k l _
    let x : Track := { s.track i with opened := KeySet.add (s.track i).opened k }
    have h := State.noteOn_frame (s.setTrack i x) (.playback i) k l
    show TransportFrame s (State.append ((s.setTrack i x).noteOn (.playback i) k l).1
        (.trackOn i k l ((s.setTrack i x).noteOn (.playback i) k l).2.isSome) s.now) ∧
      TakesKept s (State.append ((s.setTrack i x).noteOn (.playback i) k l).1
        (.trackOn i k l ((s.setTrack i x).noteOn (.playback i) k l).2.isSome) s.now)
    exact ⟨(s.setTrack_frame i x).trans (h.transport.trans (State.append_frame _ _ _)),
      (s.setTrack_takes i x ⟨rfl, rfl, rfl⟩).trans (h.takes.trans (.of_transport rfl))⟩
  · split
    · exact ⟨s.endNote_frame _ _ _, s.endNote_takes _ _ _⟩
    · exact ⟨.refl s, .refl s⟩
  · exact ⟨(s.playbackPedal_frame _ _).1, .of_transport (s.playbackPedal_frame _ _).2⟩
  · exact ⟨.refl s, .refl s⟩
  · exact ⟨s.releaseTrack_frame i, s.releaseTrack_takes i⟩

/-- A record dispatched changes no take. -/
theorem State.dispatch_frame (s : State) (i : TrackIx) (r : TakeRec) (pos : Int) :
    TransportFrame s (s.dispatch i r pos) ∧ TakesKept s (s.dispatch i r pos) := by
  have h1 := s.setTrack_frame i { s.track i with cursor := (s.track i).cursor + 1, cursorPos := pos }
  have h2 := s.setTrack_takes i { s.track i with cursor := (s.track i).cursor + 1, cursorPos := pos } ⟨rfl, rfl, rfl⟩
  unfold State.dispatch
  simp only []
  split
  · exact ⟨h1.trans (State.playTake_frame _ _ _).1, h2.trans (State.playTake_frame _ _ _).2⟩
  · exact ⟨h1, h2⟩
  · exact ⟨h1, h2⟩

theorem State.dispatchTrack_frame (i : TrackIx) (pos : Int) : ∀ (n : Nat) (s : State),
    TransportFrame s (s.dispatchTrack i pos n) ∧ TakesKept s (s.dispatchTrack i pos n)
  | 0, s => ⟨.refl s, .refl s⟩
  | n + 1, s => by
    unfold State.dispatchTrack
    split
    · split
      · exact ⟨(s.dispatch_frame i _ _).1.trans (State.dispatchTrack_frame i pos n _).1,
          (s.dispatch_frame i _ _).2.trans (State.dispatchTrack_frame i pos n _).2⟩
      · exact ⟨.refl s, .refl s⟩
    · exact ⟨.refl s, .refl s⟩

/-- Dispatch at a position changes no take. -/
theorem State.dispatchAll_frame (s : State) : TransportFrame s s.dispatchAll ∧ TakesKept s s.dispatchAll := by
  have one (x : State) (i : TrackIx) :
      TransportFrame x (if x.recordedTrack i then x else x.dispatchTrack i s.transport.position (x.track i).recs.length) ∧
      TakesKept x (if x.recordedTrack i then x else x.dispatchTrack i s.transport.position (x.track i).recs.length) := by
    split
    · exact ⟨.refl x, .refl x⟩
    · exact State.dispatchTrack_frame _ _ _ _
  exact ⟨TransportFrame.foldl _ (fun x i => (one x i).1) _ s, TakesKept.foldl _ (fun x i => (one x i).2) _ s⟩

/-! ### Recording closed, STOP, the natural end -/

theorem State.closeRecording_frame (s : State) : TransportFrame s s.closeRecording := by
  unfold State.closeRecording
  split <;> rfl

theorem State.closeRecording_recording (s : State) : s.closeRecording.transport.recording = none := by
  unfold State.closeRecording
  split
  · assumption
  · rfl

theorem State.abandonWalk_frame (s : State) : TransportFrame s s.abandonWalk ∧ TakesKept s s.abandonWalk := by
  unfold State.abandonWalk
  split
  · exact ⟨rfl, fun _ => ⟨rfl, rfl, rfl⟩⟩
  · exact ⟨.refl s, .refl s⟩

theorem State.stopTail_frame (s : State) : TransportFrame s s.stopTail ∧ TakesKept s s.stopTail := by
  have h := s.abandonWalk_frame
  have h1 := h.1.trans ((State.releaseAll_frame _).trans (State.playbackReset_frame _))
  have h2 := h.2.trans ((State.releaseAll_takes _).trans (State.playbackReset_takes _))
  unfold State.stopTail
  simp only []
  generalize s.abandonWalk.releaseAll.playbackReset = x at h1 h2 ⊢
  refine ⟨h1.trans ((x.setTransport_frame { x.transport with guideSet := 0#88, acc := 0 }).trans
    (State.setTransportState_frame _ _)), h2.trans ?_⟩
  intro i
  unfold State.track
  rw [State.setTransportState_transport]
  exact ⟨rfl, rfl, rfl⟩

theorem State.stopTail_idle (s : State) :
    s.stopTail.transport.state = .idle ∧ s.stopTail.transport.guideSet = 0#88 ∧ s.stopTail.transport.acc = 0 := by
  unfold State.stopTail
  simp only []
  generalize s.abandonWalk.releaseAll.playbackReset = x
  rw [State.setTransportState_transport]
  exact ⟨rfl, rfl, rfl⟩

/-- STOP ends in IDLE with no guide wait, whatever was running (R146). -/
theorem State.stopTransport_idle (s : State) :
    s.stopTransport.transport.state = .idle ∧ s.stopTransport.transport.guideSet = 0#88 ∧
      s.stopTransport.transport.acc = 0 := by
  rw [State.stopTransport]
  exact State.stopTail_idle _

theorem State.stopTransport_frame (s : State) : TransportFrame s s.stopTransport := by
  rw [State.stopTransport]
  exact s.closeRecording_frame.trans (State.stopTail_frame _).1

theorem State.naturalEnd_frame (s : State) : TransportFrame s s.naturalEnd := by
  unfold State.naturalEnd
  split
  · exact s.stopTransport_frame
  · exact .refl s

/-! ### The guide wait (7.7) -/

theorem State.enterWaiting_frame (s : State) (keys : List KeyIx) : TransportFrame s (s.enterWaiting keys) := by
  unfold State.enterWaiting
  simp only []
  exact (State.setTransport_frame s _).trans ((State.setTransportState_frame _ _).trans (State.report_frame _ _ _))

theorem State.takePosition_frame (s : State) : TransportFrame s s.takePosition := by
  unfold State.takePosition
  split
  · exact s.enterWaiting_frame _
  · exact s.dispatchAll_frame.1.trans (State.naturalEnd_frame _)

theorem State.releaseWait_frame (s : State) : TransportFrame s s.releaseWait := by
  unfold State.releaseWait
  exact (s.report_frame _ _).trans
    ((State.dispatchAll_frame _).1.trans ((State.setTransportState_frame _ _).trans (State.naturalEnd_frame _)))

theorem State.guideStrike_frame (s : State) (k : KeyIx) (level : Nat) : TransportFrame s (s.guideStrike k level) := by
  unfold State.guideStrike
  split
  · simp only []
    split
    · exact (s.setTransport_frame _).trans (State.releaseWait_frame _)
    · exact s.setTransport_frame _
  · exact s.append_frame _ _

/-! ### Walks (R147, R148) -/

theorem State.playbackLocate_frame (s : State) (levels : PedalIx → Nat) : TransportFrame s (s.playbackLocate levels) :=
  (s.playbackLevels_frame _).1.trans ((State.playbackLevels_frame _ _).1.trans (State.playRecords_frame _ _))

theorem State.completeWalk_frame (s : State) (target : Int) (ret : WalkReturn) :
    TransportFrame s (s.completeWalk target ret) := by
  unfold State.completeWalk
  simp only []
  have h := (s.setTransport_frame { s.transport with
    tracks := tableMap (Track.walked target) s.transport.tracks, placed := true, position := target }).trans
    (State.playbackLocate_frame _ (fun c => s.walkLevel target c))
  split
  · exact h.trans (State.setTransportState_frame _ _)
  · exact h.trans ((State.setTransportState_frame _ _).trans (State.takePosition_frame _))
  · exact h.trans (State.setTransportState_frame _ _)

theorem State.beginWalk_frame (s : State) (target : Int) (ret : WalkReturn) : TransportFrame s (s.beginWalk target ret) := by
  unfold State.beginWalk
  simp only []
  split
  · exact (s.setTransportState_frame _).trans (State.completeWalk_frame _ _ _)
  · exact s.setTransportState_frame _

theorem State.locateTo_frame (s : State) (target : Int) (ret : WalkReturn) : TransportFrame s (s.locateTo target ret) := by
  unfold State.locateTo
  simp only []
  exact (s.setTransport_frame _).trans
    ((State.releaseAll_frame _).trans ((State.setTransport_frame _ _).trans (State.beginWalk_frame _ _ _)))

/-! ### Live events (7.8) -/

theorem State.poolFull_frame (s : State) (i : TrackIx) : TransportFrame s (s.poolFull i) :=
  s.closeRecording_frame.trans ((State.report_frame _ _ _).trans (State.stopTail_frame _).1)

theorem State.recordEvent_frame (s : State) (b : TakeBody) : TransportFrame s (s.recordEvent b) := by
  unfold State.recordEvent
  split
  · exact .refl s
  · generalize (if s.transport.state = .countIn then (0 : Int) else s.transport.position) = pos
    simp only []
    split
    · exact (s.setTrack_frame _ _).trans (State.setTransport_frame _ _)
    · exact s.poolFull_frame _

theorem State.transportKeyOn_frame (s : State) (k : KeyIx) (level : Nat) : TransportFrame s (s.transportKeyOn k level) := by
  unfold State.transportKeyOn
  split
  · exact s.recordEvent_frame _
  · exact s.recordEvent_frame _
  · exact s.guideStrike_frame k level
  · exact .refl s

theorem State.transportKeyOff_frame (s : State) (k : KeyIx) (level : Nat) :
    TransportFrame s (s.transportKeyOff k level) := by
  unfold State.transportKeyOff
  split
  · exact s.recordEvent_frame _
  · exact .refl s

theorem State.transportPedal_frame (s : State) (c : PedalIx) (level : Nat) : TransportFrame s (s.transportPedal c level) := by
  unfold State.transportPedal
  split
  · exact s.recordEvent_frame _
  · exact s.recordEvent_frame _
  · exact .refl s

/-! ### The tick clock (R137, R139) -/

theorem State.advancePosition_frame (s : State) : TransportFrame s s.advancePosition := by
  unfold State.advancePosition
  split <;> rfl

theorem State.clickAt_frame (s : State) (began : TransportState) : TransportFrame s (s.clickAt began) := by
  unfold State.clickAt
  simp only []
  split <;> rfl

theorem State.loopJump_frame (s : State) : TransportFrame s s.loopJump := by
  unfold State.loopJump
  simp only []
  exact s.releaseAll_frame.trans
    ((State.setTransport_frame _ _).trans ((State.append_frame _ _ _).trans (State.locateTo_frame _ _ _)))

theorem State.tick_frame (s : State) (began : TransportState) : TransportFrame s (s.tick began).1 := by
  have h := s.advancePosition_frame.trans (State.clickAt_frame _ began)
  unfold State.tick
  simp only []
  split
  · exact h.trans (State.loopJump_frame _)
  · refine h.trans (TransportFrame.trans ?_ (State.takePosition_frame _))
    split
    · exact State.setTransportState_frame _ _
    · exact .refl _

theorem State.ticks_frame (began : TransportState) : ∀ (n : Nat) (s : State), TransportFrame s (s.ticks began n)
  | 0, s => .refl s
  | n + 1, s => by
    unfold State.ticks
    simp only []
    split
    · exact (s.tick_frame began).trans (State.ticks_frame began n _)
    · exact s.tick_frame began

theorem State.clockStep_frame (s : State) : TransportFrame s s.clockStep := by
  unfold State.clockStep
  split
  · exact (s.setTransport_frame _).trans (State.ticks_frame _ _ _)
  · exact .refl s

end Sys2Proof.Machine
end

