-- ==== Sys2Proof/WellFormed.lean ====
section
/-! DEFINITION. The commands that an outside can send: what the interfaces of the part allow. -/

namespace Sys2Proof

/-- A request frame carries at most 60 payload bytes (R187). -/
def payloadOk (p : List Byte) : Bool := decide (p.length ≤ Config.maxPayload)

/-- A frame of UNKNOWN_REQUEST: a length above 60, completed at its length byte; or a code the part does not know, with the
payload its length byte announces (R187). -/
def unknownOk (code length : Byte) (p : List Byte) : Bool :=
  if Config.maxPayload < length.toNat then p == []
  else decide (code.toNat ∉ Machine.knownCodes) && decide (p.length = length.toNat)

/-- The attached memories have the sizes of 11.5 and 6.1. -/
def boardOk (b : Board) : Bool :=
  (match b.eeprom with
    | some im => decide (im.length = Config.imageBytes)
    | none => true) &&
  (match b.samples with
    | some ws => ws.all (fun x => decide (x.1 ≤ Config.lastWord))
    | none => true)

/-- A well-formed command. -/
def Instr.wf (i : Instr) : Bool :=
  match i with
  | .powerOnReset _ board => boardOk board
  | .unknownRequest _ _ code length p => unknownOk code length p
  | .warmReset _ _ => true
  | .calibrationLoad _ => true
  | .loadNoAnswer _ => true
  | .sampleHeaderCheck _ => true
  | .startUpDecision _ => true
  | .keyDepthReading _ _ _ => true
  | .pedalDepthReading _ _ _ => true
  | .leverRawChange _ _ => true
  | .leverDebounced _ => true
  | .encoderEdge _ _ => true
  | .indexPulse _ => true
  | .endSwitchRawChange _ _ _ => true
  | .endSwitchDebounced _ _ => true
  | .quietEvent _ => true
  | .waitingNotice _ => true
  | .stall _ => true
  | .timeout _ => true
  | .envelopeStep _ => true
  | .outputFrame _ => true
  | .rampStep _ => true
  | .jackContactRawChange _ _ _ _ => true
  | .jackContactDebounced _ _ _ => true
  | .supplyGoodAsserted _ => true
  | .supplyGoodDropped _ => true
  | .riseTimeout _ => true
  | .clickBurstEnd _ => true
  | .toneRunEnd _ => true
  | .clockStep _ => true
  | .locateWalkComplete _ => true
  | .commitPageAck _ => true
  | .commitPageTimeout _ => true
  | .eepromReadbackDone _ => true
  | .eepromReadbackNoAnswer _ => true
  | .presentRawChange _ _ _ => true
  | .linkJudgedPresent _ _ => true
  | .linkJudgedAbsent _ _ => true
  | .selectAsserted _ _ => true
  | .selectDeasserted _ _ => true
  | .poll _ _ p => payloadOk p
  | .readConditions _ _ p => payloadOk p
  | .ackConditions _ _ p => payloadOk p
  | .forceCondition _ _ p => payloadOk p
  | .setAttention _ _ p => payloadOk p
  | .linkReset _ _ p => payloadOk p
  | .readStatus _ _ p => payloadOk p
  | .seatClaim _ _ p => payloadOk p
  | .seatYield _ _ p => payloadOk p
  | .seatPass _ _ p => payloadOk p
  | .readJournal _ _ p => payloadOk p
  | .relay _ _ p => payloadOk p
  | .startRelease _ _ p => payloadOk p
  | .voteSilent _ _ p => payloadOk p
  | .setVolume _ _ p => payloadOk p
  | .panic _ _ p => payloadOk p
  | .setLayer _ _ p => payloadOk p
  | .play _ _ p => payloadOk p
  | .record _ _ p => payloadOk p
  | .stop _ _ p => payloadOk p
  | .pause _ _ p => payloadOk p
  | .locate _ _ p => payloadOk p
  | .setTempo _ _ p => payloadOk p
  | .setScale _ _ p => payloadOk p
  | .setTrackMode _ _ p => payloadOk p
  | .eraseTrack _ _ p => payloadOk p
  | .setLoop _ _ p => payloadOk p
  | .setMetronome _ _ p => payloadOk p
  | .loadBegin _ _ p => payloadOk p
  | .loadAppend _ _ p => payloadOk p
  | .loadEnd _ _ p => payloadOk p
  | .readTake _ _ p => payloadOk p
  | .readTransport _ _ p => payloadOk p
  | .readKey _ _ p => payloadOk p
  | .readTouch _ _ p => payloadOk p
  | .readPedals _ _ p => payloadOk p
  | .readRail _ _ p => payloadOk p
  | .readVoices _ _ p => payloadOk p
  | .readWindows _ _ p => payloadOk p
  | .readStartup _ _ p => payloadOk p
  | .writeKeyCal _ _ p => payloadOk p
  | .writePedalCal _ _ p => payloadOk p
  | .writeTouch _ _ p => payloadOk p
  | .writeCurve _ _ p => payloadOk p
  | .selectCurve _ _ p => payloadOk p
  | .writeRailCal _ _ p => payloadOk p
  | .commit _ _ p => payloadOk p
  | .learnBegin _ _ p => payloadOk p
  | .learnEnd _ _ p => payloadOk p
  | .railRecover _ _ p => payloadOk p
  | .runTest _ _ p => payloadOk p
  | .stopTest _ _ p => payloadOk p
  | .responseShiftedOut _ _ => true

end Sys2Proof
end

