-- ==== Sys2Proof/Tests/Slice0.lean ====
section
/-! SUPPORT. The model's own tests: the commands WellFormed refuses, the manual's worked figures, and for every statement with
hypotheses a state and operands that meet them. The expected results are the manual's. -/

namespace Sys2Proof.Tests

set_option Elab.async false

open Sys2Proof Sys2Proof.Machine

/-! ### Helpers -/

def sig : Straps := { seatDefault := .a, holdStart := false }

/-- The result is a next state that a test accepts. -/
def after (r : Result) (f : State → Bool) : Bool :=
  match r with
  | .next s => f s
  | .fault _ => false
  | .refused _ => false

theorem next_of {r : Result} {f : State → Bool} (h : after r f = true) : ∃ s : State, r = .next s ∧ f s = true := by
  cases r with
  | next s => exact ⟨s, rfl, h⟩
  | fault x => exact absurd h (by simp [after])
  | refused x => exact absurd h (by simp [after])

/-- A test of what an option holds. -/
theorem all_of {α : Type} {o : Option α} {p : α → Prop} [DecidablePred p] (h : o.all (fun x => decide (p x)) = true) :
    ∀ x : α, o = some x → p x := by
  rintro x rfl
  simpa using h

def upLink : LinkRec :=
  { select := true, presentRaw := { on := true, since := 0#32 }, transaction := .receiving [], view := .present 0 0,
    latched := 0#16, mask := defaultMask, onAck := true, watermark := 1 }

/-- RUNNING, both links present and in RECEIVING, link A in the seat, the rail PARKED and quiet. -/
def bench : State :=
  { State.reset with
    startUp := { State.reset.startUp with phase := .running, calSource := some .stored, samples := some (.present 1) }
    rail := { State.reset.rail with
      state := .parked, decided := true, park := true, quiet := { notAtRest := 0, start := none, quiet := true } }
    links := { a := upLink, b := upLink }
    seat := some .a
    led := .steady }

/-- A phase of start-up, with the part otherwise as on the bench. -/
def inPhase (p : Phase) : State :=
  { bench with
    startUp := { State.reset.startUp with phase := p, calSource := some .stored }
    seat := none, led := .dark }

/-- The rail in a state, driven or not, with quiet or without. -/
def railIn (st : RailState) (drive : Option Segment) (quiet : Bool) : State :=
  { bench with rail := { bench.rail with
      state := st, drive := drive, park := false, segCount := drive.map (fun _ => 1800)
      quiet := { notAtRest := 0, start := none, quiet := quiet } } }

def driven (dir : Travel) : Option Segment := some { dir := dir, start := 0#32, lastEdge := 0#32 }

/-- The bench with one link's view and one key's tracker replaced. -/
def keyIn (k : KeyIx) (st : KeyState) (last : Option (Nat × Time)) (s : State) : State :=
  s.setKey k { s.key k with state := st, last := last, evaluated := true }

def window : Window :=
  { keyLo := 0, keyHi := 87, levelLo := 1, levelHi := 127, base := 16, stride := 8, length := 8, loop := some 4, cost := 2 }

def voice39 : Voice :=
  { state := .sounding, source := .live, key := 39, level := 75, release := 64, held := true, window := 0, position := 6,
    env := 32767, start := 0#32, cost := 2 }

/-- Key 39 is DOWN and sounds on voice 0; jack J1 plays at the gain of volume 80; one record is unread by both links. -/
def stage : State :=
  { (keyIn 39 .down (some (800, 0#32)) bench).setVoice 0 (some voice39) with
    windows := [window]
    rail := { bench.rail with quiet := { notAtRest := 1, start := none, quiet := false } }
    jacks := { bench.jacks with j1 := { bench.jacks.j1 with
      tip := true, sleeve := true, tipRaw := { on := true, since := 0#32 }, sleeveRaw := { on := true, since := 0#32 },
      state := .seated, gain := 13001, enabled := true } }
    supply := .good
    supplyGood := true
    journal := [{ body := .keyOn 39 75 false true, time := 0#32 }]
    layer := true
    pending := [.envelopeStep 1000#32] }

/-! ### The checks of WellFormed -/

theorem test_wf_long_payload : (Instr.relay 0#32 .a (List.replicate 61 0#8)).wf = false := by decide
theorem test_wf_full_payload : (Instr.loadAppend 0#32 .a (List.replicate 60 0#8)).wf = true := by decide
theorem test_wf_known_code : (Instr.unknownRequest 0#32 .a 0x10#8 0#8 []).wf = false := by decide
theorem test_wf_unknown_code : (Instr.unknownRequest 0#32 .a 0x0B#8 1#8 [0#8]).wf = true := by decide
theorem test_wf_wrong_length : (Instr.unknownRequest 0#32 .a 0x0B#8 2#8 [0#8]).wf = false := by decide
theorem test_wf_overlong_frame : (Instr.unknownRequest 0#32 .a 0x10#8 61#8 [0#8]).wf = false := by decide
theorem test_wf_short_eeprom :
    (Instr.powerOnReset 0#32 { straps := sig, eeprom := some [0#8], samples := none }).wf = false := by decide
theorem test_wf_sample_address :
    (Instr.powerOnReset 0#32 { straps := sig, eeprom := none, samples := some [(0x1000000, 0#16)] }).wf = false := by
  decide
theorem test_wf_last_sample_address :
    (Instr.powerOnReset 0#32 { straps := sig, eeprom := none, samples := some [(0xFFFFFF, 0#16)] }).wf = true := by
  decide

/-- The table gives its rows no bits, so no word spells a command. -/
theorem test_no_word_spells_a_command : decodeTableWord 8 0x22 = none := by decide

/-! ### The manual's worked figures -/

/-- 1.4: R 80, B 940 has levels 207, 338, 510 and 768, and H 6 puts the upward points 6 below. -/
theorem test_levels_of_1_4 :
    let c : KeyCal := { defaultKeyCal with r := 80, b := 940 }
    (c.level 38, c.level 77, c.level 128, c.level 205) = (207, 338, 510, 768) ∧
      (c.upPoint defaultTouch 38, c.upPoint defaultTouch 77, c.upPoint defaultTouch 128) = (201, 332, 504) := by decide

/-- 1.4: last 700 at 1,000,000 and 800 at 1,000,200 cross strike at 1,000,136. -/
theorem test_crossing_of_1_4 :
    Reading.crossDown { time := 1000200#32, value := 800, last := some (700, 1000000#32) } 768 = some 1000136#32 := by decide

def copy29 (curve g : Nat) : WorkingCopy :=
  { defaultWorkingCopy with
    keys := tablePut defaultWorkingCopy.keys 39 { defaultKeyCal with d := 9800, g := g }, activeCurve := curve }

/-- 2.9: a fresh stroke across the wrap of the action time, and a repetition with una corda on. -/
theorem test_strikes_of_2_9 :
    strikeLevel (copy29 1 70) 39 .fresh 4294960000#32 5704#32 false = 75 ∧
      strikeLevel (copy29 1 70) 39 .short 0#32 4100#32 true = 83 := by decide +kernel

/-- 2.9, the limits: travel times 0, 400,000 and 2,500,000,000, and the trims 96 and 32. -/
theorem test_limits_of_2_9 :
    strikeLevel (copy29 1 70) 39 .fresh 0#32 0#32 false = 127 ∧ strikeLevel (copy29 1 70) 39 .fresh 0#32 0#32 true = 122 ∧
      strikeLevel (copy29 1 70) 39 .fresh 0#32 400000#32 false = 5 ∧
      strikeLevel (copy29 1 70) 39 .fresh 0#32 2500000000#32 false = 5 ∧
      strikeLevel (copy29 1 96) 39 .fresh 0#32 0#32 true = 127 ∧
      strikeLevel (copy29 0 32) 39 .fresh 0#32 400000#32 false = 5 := by decide +kernel

/-- 2.9: the release of 9,000 µs, and rounding on NORMAL at 42, 43 and 45. -/
theorem test_release_and_rounding_of_2_9 :
    releaseLevel (copy29 1 70) 39 0#32 9000#32 = 14 ∧ curveLevel (defaultCurve 1) 42 = 8 ∧
      curveLevel (defaultCurve 1) 43 = 9 ∧ curveLevel (defaultCurve 1) 45 = 9 := by decide +kernel

/-- 2.9: the default key at 20,000 µs on each of the four curves. -/
theorem test_curves_of_2_9 :
    (List.range 4).map (fun n => strikeLevel { defaultWorkingCopy with activeCurve := n } 0 .fresh 0#32 20000#32 false) =
      [67, 52, 31, 80] := by decide +kernel

/-- 3.6: readings 300, 520, 510 and 400 give levels 33, 64, 63 and 47, and the switch holds ON at 63. -/
theorem test_pedal_levels_of_3_6 :
    [300, 520, 510, 400].map (pedalLevel defaultPedalCal) = [33, 64, 63, 47] ∧
      (judgeSwitch false 63, judgeSwitch false 64, judgeSwitch true 63, judgeSwitch true 47) = (false, true, true, false) := by
  decide

/-- 5.6: the first step from E 32767 at the rates of the table, and the release rate of key 39 over the damper level. -/
theorem test_envelopes_of_5_6 :
    [2, 15, 32, 856, 1108, 16384].map (stepEnvelope 32767) = [32766, 32759, 32751, 32339, 32213, 24575] ∧
      [20, 21, 60, 95, 99].map (envelopeRate { voice39 with state := .releasing, release := 64 }) = [856, 845, 428, 53, 15] := by
  decide

/-- 6.3: one voice through the mix, and the edges of the clamp at full volume. -/
theorem test_mix_of_6_3 :
    voice39.gain = 11426 ∧ contribution 10000 11426 = 3486 ∧ contribution (-10000) 11426 = -3487 ∧
      scaled 3486 13001 = 177037 ∧ clamp24 (scaled 65538 32767) = 8388607 ∧
      clamp24 (scaled 65539 32767) ≠ scaled 65539 32767 ∧
      clamp24 (scaled (-65538) 32767) = -8388608 ∧ clamp24 (scaled (-65539) 32767) ≠ scaled (-65539) 32767 := by decide

/-- 6.5: the targets of volumes 64, 80 and 127. -/
theorem test_targets_of_6_5 : (squareGain 64, squareGain 80, squareGain 127) = (8321, 13001, 32767) := by decide

/-- 7.3: 115,000,000 and a step at t10 1200, s 100 gain 1 tick and leave 110,000,000. -/
theorem test_clock_step_of_7_3 :
    after (exec (.clockStep 1#32)
      { bench with transport := { bench.transport with
          state := .recording, acc := 115000000, recording := some { track := 0, owner := .a, lastPos := 0 } } })
      (fun s => decide (s.transport.acc = 110000000) && decide (s.transport.position = 1)) = true := by decide +kernel

/-- 11.2: TRANSPORT packs the state and the signed beats in 24 bits; KEY_ON carries repeat and voiced. -/
theorem test_records_of_11_2 :
    ({ body := .transport .playing (-1), time := 0x01020304#32 } : JournalRec).bytes =
        [0x09#8, 0x9F#8, 0xFF#8, 0xFF#8, 1#8, 2#8, 3#8, 4#8] ∧
      ({ body := .keyOn 39 75 true true, time := 0#32 } : JournalRec).bytes = [1#8, 39#8, 75#8, 3#8, 0#8, 0#8, 0#8, 0#8] := by
  decide

/-- 11.3: a NOTE_ON of key 87 at level 127 and delta 65535, the END mark, and the words R220 makes invalid. -/
theorem test_words_of_11_3 :
    takeOfWord 0x2BFFFFFF = some { body := .noteOn 87 127, delta := 65535 } ∧
      takeOfWord 0xC0800007 = some { body := .endMark, delta := 7 } ∧ takeOfWord 0x2C010000 = none ∧
      takeOfWord 0x40000001 = none ∧ takeOfWord 0x81800000 = none ∧ takeOfWord 0xC1000000 = none ∧
      takeOfWord 0xC0010000 = none := by decide

/-- R218: a volume byte of 200 gives 127, and an R of 5000 gives 400. -/
theorem test_clamped_fields : clampNat 0 127 (byteAt [2#8, 200#8] 1) = 127 ∧ (writtenCal [0#8, 0x13#8, 0x88#8]).r = 400 := by
  decide

/-- R187: the codes from 30h to 3Fh and 50h to 59h are known, those around them are not. -/
theorem test_known_codes :
    [0x01, 0x0A, 0x10, 0x11, 0x18, 0x20, 0x23, 0x30, 0x3F, 0x40, 0x46, 0x50, 0x59, 0x60, 0x61].all (· ∈ knownCodes) = true ∧
      [0x00, 0x0B, 0x12, 0x17, 0x19, 0x24, 0x2F, 0x47, 0x4F, 0x5A, 0x5F, 0x62, 0xFF].all (· ∉ knownCodes) = true := by decide

/-! ### What the hypotheses of the statements are met by: the commands in general, resets, start-up -/

theorem witness_StepRunsFrontCommand : State.reset.pending = [] := by decide

theorem witness_CommandsKeepOrder_held : ∃ s' : State, exec (.startRelease 1#32 .a []) (inPhase .held) = .next s' ∧
    (inPhase .held).startUp.phase = .held ∧ s'.startUp.phase = .running := by
  obtain ⟨s', h, hs⟩ := next_of (f := fun s => decide (s.startUp.phase = .running))
    (show after (exec (.startRelease 1#32 .a []) (inPhase .held)) _ = true by decide +kernel)
  exact ⟨s', h, rfl, by simpa using hs⟩

theorem witness_CommandsKeepOrder_samples : ∃ s' : State, exec (.sampleHeaderCheck 1#32) (inPhase .samples) = .next s' ∧
    (inPhase .samples).startUp.phase = .samples ∧ s'.startUp.phase ≠ .samples := by
  obtain ⟨s', h, hs⟩ := next_of (f := fun s => decide (s.startUp.phase ≠ .samples))
    (show after (exec (.sampleHeaderCheck 1#32) (inPhase .samples)) _ = true by decide +kernel)
  exact ⟨s', h, rfl, by simpa using hs⟩

def faulted (r : Result) : Bool :=
  match r with
  | .next _ => false
  | .fault _ => true
  | .refused _ => false

/-- A voice whose window is not there: the state that OUTPUT_FRAME stops on. -/
theorem witness_CommandsComplete_fault : ∃ f : Fault,
    exec (.outputFrame 1#32) (bench.setVoice 0 (some voice39)) = .fault f := by
  have h : faulted (exec (.outputFrame 1#32) (bench.setVoice 0 (some voice39))) = true := by decide +kernel
  revert h
  cases exec (.outputFrame 1#32) (bench.setVoice 0 (some voice39)) with
  | fault f => exact fun _ => ⟨f, rfl⟩
  | next _ => simp [faulted]
  | refused _ => simp [faulted]

theorem window_lawful : window.lawful := by
  refine ⟨by decide, by decide, by decide, by decide, by decide, by decide, ?_⟩
  intro o h
  cases h
  decide

theorem voice39_lawful : voice39.lawful [window] :=
  ⟨⟨window, rfl, by decide, by decide, rfl, by decide, by decide⟩, fun _ => rfl, by decide, by decide⟩

theorem stage_voices (i : VoiceIx) (v : Voice) (h : stage.voice i = some v) : v = voice39 := by
  have hall : ∀ j : VoiceIx, (stage.voice j).all (fun x => decide (x = voice39)) = true := by decide +kernel
  exact all_of (hall i) v h

theorem witness_VoiceLaw : VoiceLaw stage := by
  refine ⟨?_, ?_, by unfold Config.budget; decide +kernel⟩
  · intro w hw
    have : w = window := by simpa [stage] using hw
    exact this ▸ window_lawful
  · intro i v h
    exact stage_voices i v h ▸ voice39_lawful

theorem witness_PowerOnResetClears : ∃ (b : Board) (im : List Byte) (ws : List (Nat × SampleWord)),
    b.eeprom = some im ∧ im.length = 832 ∧ b.samples = some ws :=
  ⟨{ straps := sig, eeprom := some (List.replicate 832 0#8), samples := some [(0xFFFFFF, 1#16)] }, _, _,
    rfl, List.length_replicate, rfl⟩

theorem witness_PowerOnResetClears_memories_kept : ∃ b : Board, b.eeprom = none ∧ b.samples = none ∧ bench.commit = none :=
  ⟨{ straps := sig, eeprom := none, samples := none }, rfl, rfl, rfl⟩

/-- Track 2 is being recorded, with one record and its reserved slot. -/
def recordingState : State :=
  { bench with transport := { bench.transport with
      state := .recording, position := 70000, placed := true
      recording := some { track := 2, owner := .a, lastPos := 0 }
      tracks := tablePut bench.transport.tracks 2
        { resetTrack with recs := [{ body := .pedal 0 64, delta := 0 }], reserved := true } } }

/-- Link A has track 1 open for a load. -/
def loadingState : State :=
  { bench with transport := { bench.transport with
      load := some { track := 1, link := .a }, placed := false
      tracks := tablePut bench.transport.tracks 1 { resetTrack with recs := [], reserved := true, mode := .mute } } }

theorem witness_PoolLaw_recording : PoolLaw recordingState ∧ recordingState.transport.recording.isSome = true ∧
    recordingState.transport.load = none ∧ recordingState.trackOpen 1 = false := by
  refine ⟨⟨by unfold Config.poolSize; decide +kernel, ?_⟩, rfl, rfl, by decide +kernel⟩
  unfold recsLawful
  decide +kernel

theorem witness_PoolLaw_loading : PoolLaw loadingState ∧ loadingState.transport.recording = none ∧
    loadingState.transport.load = some { track := 1, link := .a } := by
  refine ⟨⟨by unfold Config.poolSize; decide +kernel, ?_⟩, rfl, rfl⟩
  unfold recsLawful
  decide +kernel

/-- A blank image is refused for its signature; the image a commit forms of the defaults is taken; 20 ms reach the bound. -/
theorem witness_LoadJudgesImage :
    State.reset.startUp.phase = .loading ∧ imageGround State.reset.eeprom = some .signature ∧
      imageGround (imageOf defaultWorkingCopy 255) = none ∧
      20000 ≤ (20000#32 - State.reset.startUp.phaseSince).toNat := by decide +kernel

theorem witness_EntryToRunning : (inPhase .samples).startUp.phase = .samples ∧
    (inPhase .samples).startUp.straps.holdStart = false ∧ (inPhase .samples).test = none ∧
    (inPhase .samples).journal.length ≤ 510 := by decide +kernel

theorem witness_EntryToRunning_hold : ∃ s : State, s.startUp.phase = .samples ∧ s.startUp.straps.holdStart = true :=
  ⟨{ inPhase .samples with startUp := { (inPhase .samples).startUp with straps := { sig with holdStart := true } } },
    rfl, rfl⟩

theorem witness_EntryToRunning_release :
    (inPhase .held).receiving .a = true ∧ (inPhase .held).test = none ∧ (inPhase .held).startUp.phase = .held ∧
      bench.receiving .a = true ∧ bench.startUp.phase = .running ∧
      (inPhase .checking).receiving .a = true ∧ (inPhase .checking).heldOrRunning = false := by decide +kernel

def undecided : State :=
  { inPhase .checking with rail := { bench.rail with
      state := .homing, decided := false, quiet := { notAtRest := 0, start := none, quiet := false } } }

theorem witness_StartUpDecision : undecided.startUp.phase = .checking ∧ undecided.rail.decided = false ∧
    5000 ≤ (5000#32 - undecided.startUp.phaseSince).toNat ∧ undecided.rail.quiet.quiet = false ∧
    undecided.rail.drive = none ∧ undecided.journal.length ≤ 510 := by decide +kernel

/-! ### Key sensing -/

theorem witness_KeyReadingReachesItsKey : State.reset.startUp.phase = .loading ∧ (38 : KeyIx) ≠ 39 := by decide

/-- The reading that just reaches onset (218 of the default key), from one that is just above it. -/
theorem witness_OnsetBeginsStroke :
    let s := keyIn 39 .rest (some (217, 0#32)) bench
    let c := s.keyCal 39
    s.running = true ∧ (s.key 39).state = .rest ∧ (s.key 39).last = some (217, 0#32) ∧
      c.plausible 218 = true ∧ c.r ≤ c.b ∧ ((217 : Nat) : Int) < c.level s.cal.touch.fOn ∧
      c.level s.cal.touch.fOn ≤ c.clamped 218 ∧ (c.clamped 218 : Int) < c.level s.cal.touch.fSt := by decide +kernel

/-- The reading that just reaches strike (740 of the default key), in ONSET and in RESTRIKE. -/
theorem witness_StrikeSoundsKeyOn :
    let s := keyIn 39 (.onset .fresh 0#32) (some (739, 100#32)) bench
    let c := s.keyCal 39
    s.running = true ∧ (s.key 39).state = .onset .fresh 0#32 ∧ (s.key 39).last = some (739, 100#32) ∧
      c.plausible 740 = true ∧ c.r ≤ c.b ∧ ((739 : Nat) : Int) < c.level s.cal.touch.fSt ∧
      c.level s.cal.touch.fSt ≤ c.clamped 740 ∧ s.test = none ∧ s.transport.state = .idle := by decide +kernel

theorem witness_StrikeSoundsKeyOn_repeat :
    let s := keyIn 39 (.restrike 50#32 20#32) (some (739, 100#32)) { stage with rail := bench.rail }
    (∃ tu : Time, (s.key 39).state = .restrike 50#32 tu) ∧ (s.key 39).last = some (739, 100#32) ∧ s.liveRoute = true ∧
      findWindow s.windows 39 75 = some (0, window) :=
  ⟨⟨20#32, by decide +kernel⟩, by decide +kernel, by decide +kernel, by decide +kernel⟩

/-- Release is crossed upward at 334 (340 less 6), onset at 212: the reading 333 just passes the first. -/
theorem witness_NotesEnd_release :
    let s := keyIn 39 (.rearmed 0#32) (some (334, 100#32)) stage
    let c := s.keyCal 39
    s.running = true ∧ (s.key 39).state = .rearmed 0#32 ∧ (s.key 39).last = some (334, 100#32) ∧ c.plausible 333 = true ∧
      c.r ≤ c.b ∧ (c.clamped 333 : Int) < c.upPoint s.cal.touch s.cal.touch.fRel ∧
      c.upPoint s.cal.touch s.cal.touch.fRel ≤ ((334 : Nat) : Int) ∧
      c.upPoint s.cal.touch s.cal.touch.fOn ≤ (c.clamped 333 : Int) ∧ s.test = none ∧ s.transport.state ≠ .recording ∧
      s.voice 0 = some voice39 ∧ voice39.reachedBy .live 39 = true := by decide +kernel

theorem witness_NotesEnd_fault :
    let s := stage.setKey 39 { stage.key 39 with implausible := 15 }
    s.running = true ∧ (s.key 39).implausible = 15 ∧ (s.keyCal 39).plausible 965 = false ∧
      (s.key 39).state = .down ∧ s.test = none ∧ s.transport.state ≠ .recording ∧ s.journal.length ≤ 510 := by
  decide +kernel

theorem witness_KeyCalibrationWrite :
    bench.receiving .a = true ∧ byteAt [87#8, 0#8, 0#8, 0#8, 0#8, 0#8, 0#8, 0#8] 0 = (87 : KeyIx).val ∧
      (bench.key 87).state = .rest ∧ (stage.key 39).state ≠ .rest := by decide +kernel

def learning : State :=
  { keyIn 39 (.learn (some (100, 300))) (some (300, 0#32)) (keyIn 40 (.learn (some (100, 299))) (some (299, 0#32)) bench) with
    learn := some { lo := 39, hi := 40, link := .a }
    rail := { bench.rail with quiet := { notAtRest := 2, start := none, quiet := false } } }

/-- A range of one key; a spread of exactly 200 is accepted and one of 199 is not. -/
theorem witness_LearnBeginsAndEnds :
    bench.receiving .a = true ∧ bench.heldOrRunning = true ∧ bench.seat = some .a ∧ bench.commit = none ∧
      bench.learn = none ∧ (87 : KeyIx).val ≤ (87 : KeyIx).val ∧
      learning.receiving .a = true ∧ learning.seat = some .a ∧ learning.learn.isSome = true ∧
      (learning.key 39).state = .learn (some (100, 300)) ∧ (learning.key 39).pendingCal = none ∧
      learnAccepted (some (100, 300)) = true ∧ learnAccepted (some (100, 299)) = false ∧ learnAccepted none = false := by
  decide +kernel

/-! ### Touch arithmetic -/

theorem witness_CrossingTimes : (699 : Int) < 700 ∧ (700 : Int) ≤ 700 := by decide

/-- The default fractions; the least and the greatest dip; a copy whose dip is 0. -/
theorem witness_TouchLevels :
    fractionsValid 38 77 128 205 = true ∧ fractionsValid 16 32 48 64 = true ∧ fractionsValid 192 208 224 240 = true ∧
      (8000 : Int) ≤ 8000 ∧ (12000 : Int) ≤ 12000 ∧
      defaultWorkingCopy.touch = defaultTouch ∧ defaultWorkingCopy.keys[(0 : KeyIx)] = defaultKeyCal ∧
      ({ defaultKeyCal with d := 0 } : KeyCal).d = 0 ∧ curveValid defaultWorkingCopy.curve = true := by decide +kernel

/-- The four default curves are valid, and so is one at the limits of R35. -/
theorem witness_CurveLevels :
    (∀ c : Fin 4, curveValid (defaultCurve c) = true) ∧
      curveValid (curveOf [(0, 1), (1, 1), (2, 1), (3, 1), (4, 1), (5, 1), (6, 127), (4000, 127)]) = true ∧
      ((defaultCurve 1)[(6 : Fin 7).castSucc].v : Int) ≤ 1799 ∧ (1799 : Int) < ((defaultCurve 1)[(6 : Fin 7).succ].v : Int) ∧
      ((defaultCurve 1)[(7 : Fin 8)].v : Int) ≤ 1800 := by decide +kernel

theorem witness_SelectCurve : bench.receiving .a = true ∧ [3#8].length ≤ 60 := by decide +kernel

theorem witness_CalibrationWrites : bench.receiving .a = true ∧ bench.rail.quiet.start = none ∧
    byteAt [2#8, 0#8, 0#8, 0#8, 200#8] 0 = (2 : PedalIx).val ∧ byteAt [3#8] 0 = (3 : Fin 4).val := by decide +kernel

/-! ### Pedals and inputs -/

/-- A channel at full for 500 ms exactly, and one that is disconnected. -/
theorem witness_PedalReadings :
    let s := bench.setLive 0 { bench.liveChannel 0 with atFull := some 0#32 }
    let u := bench.setLive 0 { bench.liveChannel 0 with connected := false }
    s.running = true ∧ s.transport.state = .idle ∧ (s.liveChannel 0).connected = true ∧
      (s.liveChannel 0).atFull = some 0#32 ∧ 500000 ≤ (500000#32 - 0#32).toNat ∧
      u.running = true ∧ u.transport.state = .idle ∧ (u.liveChannel 0).connected = false := by decide +kernel

theorem witness_OutputLaw : OutputLaw stage := by
  refine ⟨?_, ?_, fun h => absurd rfl h, by decide +kernel⟩ <;> intro i <;> cases i <;> decide +kernel

theorem witness_RawInputsAreHeld : (stage.jack .j1).enabled = true := by decide +kernel

/-- The lever stands still, has moved for less than 10 ms, and has moved for 10 ms. -/
theorem witness_DebouncedInputsAct_lever :
    let moved : State := { bench with rail := { bench.rail with leverRaw := { on := true, since := 0#32 } } }
    bench.rail.leverRaw.on = bench.rail.votes.lever ∧ (9999#32 - moved.rail.leverRaw.since).toNat < 10000 ∧
      moved.rail.leverRaw.on ≠ moved.rail.votes.lever ∧ 10000 ≤ (10000#32 - moved.rail.leverRaw.since).toNat ∧
      moved.rail.decided = true := by decide +kernel

theorem witness_MotorLaw_parked : MotorLaw bench.rail ∧ VoteLaw bench.rail := by
  refine ⟨⟨(fun g (h : none = some g) => by cases h), by decide, by decide⟩, ?_⟩
  show bench.rail.votes.any = false
  decide

/-- The stop switch is made for 5 ms on a rail driven inward by a vote. -/
theorem witness_DebouncedInputsAct_stop :
    let s : State := { railIn .movingIn (driven .inward) true with
      rail := { (railIn .movingIn (driven .inward) true).rail with
        stopRaw := { on := true, since := 0#32 }, votes := { lever := true, a := false, b := false } } }
    s.rail.stopRaw.on = true ∧ s.rail.stop = false ∧ 5000 ≤ (5000#32 - s.rail.stopRaw.since).toNat ∧ s.rail.park = false ∧
      s.rail.decided = true ∧ s.rail.state = .movingIn ∧ s.rail.drive = driven .inward ∧ s.rail.segCount = some 1800 ∧
      s.rail.votes.any = true ∧ s.journal.length < 512 ∧
      (4999#32 - (s.rail.rawSwitch .stop).since).toNat < 5000 := by decide +kernel

def plugged : State :=
  { bench with jacks := { bench.jacks with j2 := { bench.jacks.j2 with
      tipRaw := { on := true, since := 0#32 }, sleeveRaw := { on := true, since := 0#32 } } } }

theorem witness_DebouncedInputsAct_jack : OutputLaw plugged ∧ (plugged.jack .j2).tipRaw.on = true ∧
    (plugged.jack .j2).sleeveRaw.on = true ∧ 20000 ≤ (20000#32 - (plugged.jack .j2).tipRaw.since).toNat ∧
    20000 ≤ (20000#32 - (plugged.jack .j2).sleeveRaw.since).toNat ∧ (plugged.jack .j2).state = .empty ∧
    plugged.supply = .off ∧ plugged.supplyGood = false ∧ plugged.journal.length ≤ 510 := by
  refine ⟨⟨?_, ?_, ?_, by decide +kernel⟩, by decide +kernel⟩
  · intro i; cases i <;> decide +kernel
  · intro i; cases i <;> decide +kernel
  · intro _ i; cases i <;> decide +kernel

/-! ### The rail -/

/-- A count at the bounds of its range, and one an edge takes to 201 counts beyond an open end. -/
theorem witness_EncoderAndIndex :
    let s : State := { railIn .movingIn (driven .inward) true with rail := { (railIn .movingIn (driven .inward) true).rail with
      count := 2000 } }
    bench.rail.drive = none ∧ s.rail.drive = driven .inward ∧ s.rail.segCount = some 1800 ∧ s.rail.state = .movingIn ∧
      ((1800 : Nat) : Int) + 200 < max (-32768) (min 32767 (s.rail.count + 1)) ∧ s.rail.stop = false ∧
      -200 ≤ max (-32768) (min 32767 (s.rail.count + -1)) ∧
      max (-32768) (min 32767 (s.rail.count + -1)) ≤ ((1800 : Nat) : Int) + 200 ∧
      bench.rail.state = .parked := by decide +kernel

theorem witness_EncoderAndIndex_index :
    let s := railIn .movingOut (driven .outward) true
    s.rail.decided = true ∧ s.rail.state = .movingOut ∧ s.rail.votes.any = false := by decide +kernel

def quietIn (st : RailState) : State :=
  { railIn st none false with rail := { (railIn st none false).rail with
      quiet := { notAtRest := 0, start := some 0#32, quiet := false } } }

/-- The quiet time of 120 ms is not reached at 119,999 and is reached at 120,000, in each state that waits for it. -/
theorem witness_RailTimers_quiet :
    bench.rail.quiet.start = none ∧ (quietIn .parked).rail.quiet.start = some 0#32 ∧
      (119999#32 - 0#32).toNat < 1000 * (quietIn .parked).cal.touch.quietMs ∧
      1000 * (quietIn .parked).cal.touch.quietMs ≤ (120000#32 - 0#32).toNat ∧
      (quietIn .parked).rail.votes.any = false ∧ (quietIn .pausedIn).rail.stop = false ∧
      (quietIn (.pendingOut 0#32 false)).rail.park = false ∧ (quietIn .homing).rail.decided = true ∧
      (quietIn .homing).rail.drive = none := by decide +kernel

theorem witness_RailTimers_faults :
    8000000 ≤ (8000000#32 - 0#32).toNat ∧ (quietIn (.pendingIn 0#32 false)).rail.state = .pendingIn 0#32 false ∧
      (quietIn (.pendingOut 0#32 false)).rail.state = .pendingOut 0#32 false ∧
      (quietIn (.pendingIn 0#32 true)).rail.state = .pendingIn 0#32 true ∧
      (railIn .movingIn (driven .inward) true).rail.drive = driven .inward ∧
      (railIn .movingIn (driven .inward) true).rail.state.name ≠ .testing ∧ bench.rail.drive = none ∧
      (39999#32 - 0#32).toNat < 40000 ∧ 40000 ≤ (40000#32 - 0#32).toNat ∧
      (1499999#32 - 0#32).toNat < 1500000 ∧ 1500000 ≤ (1500000#32 - 0#32).toNat := by decide +kernel

theorem witness_VotesAndRecovery :
    bench.receiving .a = true ∧ bench.heldOrRunning = true ∧ (inPhase .checking).receiving .a = true ∧
      (inPhase .checking).heldOrRunning = false ∧ 1 < (2#8 : Byte).toNat ∧
      bench.rail.votes.put .a false = bench.rail.votes ∧ bench.rail.votes.put .a true ≠ bench.rail.votes ∧
      bench.rail.decided = true ∧ bench.rail.state = .parked ∧ (railIn .parked none false).rail.quiet.quiet = false ∧
      (railIn .parked none false).rail.state = .parked := by decide +kernel

theorem witness_VotesAndRecovery_turned :
    let s : State := { railIn .movingIn (driven .inward) true with rail := { (railIn .movingIn (driven .inward) true).rail with
      votes := { lever := false, a := true, b := false } } }
    s.rail.decided = true ∧ s.rail.state = .movingIn ∧ s.rail.quiet.quiet = true ∧ s.rail.park = false ∧
      (s.rail.votes.put .a false).any = false ∧ s.rail.votes.put .a false ≠ s.rail.votes := by decide +kernel

theorem witness_VotesAndRecovery_undecided : undecided.rail.decided = false ∧ (inPhase .held).heldOrRunning = true := by
  decide

theorem witness_VotesAndRecovery_recover :
    let s := railIn (.fault .stall) none false
    s.receiving .a = true ∧ s.rail.state = .fault .stall ∧ s.rail.decided = true ∧ s.rail.drive = none ∧
      s.rail.segCount = none ∧ s.rail.quiet.quiet = false ∧ s.rail.votes.any = false ∧
      bench.rail.state.isFault = false ∧ bench.running = true ∧ bench.seat = some .a := by decide +kernel

/-! ### Voices and output -/

theorem witness_VoicesAreChosenAndDecay_envelope : stage.voice 0 = some voice39 ∧ 1 ≤ voice39.env ∧ stage.voice 1 = none := by decide +kernel

theorem witness_Panic : stage.receiving .a = true ∧ stage.running = true ∧ (inPhase .samples).receiving .a = true ∧
    (inPhase .samples).running = false ∧ voice39.damp.state = .damping ∧ voice39.damp.env ≤ 32767 := by decide +kernel

/-- A note-off on another source than the voice's reaches no held voice. -/
theorem witness_Panic_no_held (i : VoiceIx) (v : Voice) (h : stage.voice i = some v) (hs : v.source = .playback 0) :
    v.key = 39 → v.held = false := by
  rw [stage_voices i v h] at hs
  cases hs

theorem witness_PlayControls : stage.receiving .b = true ∧ [2#8, 127#8].length ≤ 60 ∧ (stage.jack .j1).enabled = true ∧
    (stage.jack .j2).enabled = false := by decide +kernel

theorem witness_OutputFrames : stage.voice 0 = some voice39 ∧ stage.windows[voice39.window]? = some window ∧
    ¬(voice39.position + 2 < window.length) ∧ (stage.jack .j2).gain = 0 ∧ stage.voice 1 = none := by decide +kernel

/-- The last step of a ramp and the one before it; a tone run that is complete and one that is not. -/
theorem witness_RampsAndSourceEnds :
    let r : Ramp := { first := 0, last := 13001, total := 32, done := 30 }
    let s : State := { stage with jacks := { stage.jacks with j1 := { stage.jacks.j1 with ramp := some r } } }
    (s.jack .j1).ramp = some r ∧ r.done + 1 < r.total ∧ (s.jack .j2).ramp = none ∧
      ({ r with done := 31 } : Ramp).total ≤ ({ r with done := 31 } : Ramp).done + 1 ∧
      bench.tone ≠ some 96000 := by decide +kernel

theorem witness_RampsAndSourceEnds_tone :
    let s : State := { bench with tone := some 96000, test := some { continuous := true, run := .tone } }
    s.tone = some 96000 ∧ s.test = some { continuous := true, run := .tone } := by decide +kernel

def rising : State :=
  { stage with
    supply := .rising 0#32, supplyGood := false
    jacks := { stage.jacks with j1 := { stage.jacks.j1 with gain := 0, enabled := false } } }

theorem witness_SupplyFollowsItsInput : OutputLaw rising ∧ rising.supply = .rising 0#32 ∧ rising.supplyGood = false ∧
    50000 ≤ (50000#32 - 0#32).toNat ∧ (49999#32 - 0#32).toNat < 50000 ∧ stage.supply = .good ∧ bench.supply = .off := by
  refine ⟨⟨?_, ?_, ?_, by decide +kernel⟩, by decide +kernel⟩
  · intro i; cases i <;> decide +kernel
  · intro i; cases i <;> decide +kernel
  · intro _ i; cases i <;> decide +kernel

/-! ### The transport -/

theorem witness_ClockSteps : bench.transport.state.name = .idle ∧ recordingState.transport.state.clockRuns = true ∧
    recordingState.transport.acc + 1000 * recordingState.transport.tempo * recordingState.transport.scale < 125000000 ∧
    recordingState.transport.tempo ≤ 3000 ∧ recordingState.transport.scale ≤ 200 := by decide +kernel

/-- The fastest clock with the greatest remainder; the other tracks' records lie one tick beyond five ticks on. -/
theorem witness_ClockSteps_ticks :
    let s : State := { recordingState with transport := { recordingState.transport with
      acc := 124999999, tempo := 3000, scale := 200, position := -6 } }
    s.transport.state = .recording ∧ s.transport.acc < 125000000 ∧ s.transport.metronome.on = false ∧
      s.transport.position + 5 ≤ 2147483647 ∧
      (∀ (i : TrackIx) (r : TakeRec), s.recordedTrack i = false → (s.track i).recs[(s.track i).cursor]? = some r →
        s.transport.position + 5 < (s.track i).cursorPos + r.delta) := by
  refine ⟨by decide +kernel, by decide +kernel, by decide +kernel, by decide +kernel, ?_⟩
  intro i r hi
  revert r
  refine all_of ?_
  revert i
  decide +kernel

theorem witness_TempoAndScale : bench.receiving .b = true ∧ recordingState.transport.state.clockRuns = true := by
  decide +kernel

/-- Track 0 has a note at tick 480. -/
def takeState (st : TransportState) (position : Int) : State :=
  { bench with transport := { bench.transport with
      state := st, position := position
      tracks := tablePut bench.transport.tracks 0
        { resetTrack with recs := [{ body := .noteOn 40 64, delta := 480 }, { body := .endMark, delta := 240 }] } } }

theorem nothing_due : (∀ (i : TrackIx) (r : TakeRec), (takeState .idle (-1)).recordedTrack i = false →
    ((takeState .idle (-1)).track i).recs[((takeState .idle (-1)).track i).cursor]? = some r →
      (takeState .idle (-1)).transport.position < ((takeState .idle (-1)).track i).cursorPos + r.delta) ∧
    ∃ i : TrackIx, ((takeState .idle (-1)).track i).mode ≠ .mute ∧
      ((takeState .idle (-1)).track i).cursor < ((takeState .idle (-1)).track i).recs.length := by
  refine ⟨?_, 0, by decide +kernel⟩
  intro i r hi
  revert r
  refine all_of ?_
  revert i
  decide +kernel

theorem witness_PlayPauseStop_play :
    (takeState .idle (-1)).receiving .b = true ∧ (takeState .idle (-1)).running = true ∧
      (takeState .idle (-1)).transport.load = none ∧ (takeState .idle (-1)).transport.recording = none ∧
      (takeState .idle (-1)).transport.placed = true ∧
      loadingState.transport.load.isSome = true ∧ TransportState.countIn.playBusy = true ∧
      0 < (takeState .idle 481).walkReads 481 := by decide +kernel

theorem witness_PlayPauseStop_pause : TransportState.playing.pausesAs = some .playing ∧
    TransportState.waiting.pausesAs = some .waiting ∧ TransportState.recording.pausesAs = some .recording ∧
    TransportState.countIn.pausesAs = none := by decide

theorem witness_PlayPauseStop_stop : bench.transport.state = .idle ∧ bench.transport.acc = 0 ∧
    bench.transport.guideSet = 0#88 ∧ bench.transport.recording = none ∧ (∀ i : TrackIx, (bench.track i).opened = 0#88) ∧
    (∀ c : PedalIx, bench.playChannel c = { level := 0, switch := false }) ∧
    recordingState.transport.recording = some { track := 2, owner := .a, lastPos := 0 } := by decide +kernel

theorem witness_HeldLaw : HeldLaw stage := by
  intro i v h _
  rw [stage_voices i v h]
  decide +kernel

theorem witness_CaptureLaw : CaptureLaw bench ∧ ∃ s : State, CaptureLaw s ∧ s.liveCapture ≠ 0#88 := by
  refine ⟨⟨by decide +kernel, by decide +kernel, by decide +kernel⟩,
    { bench.setLive 1 { bench.liveChannel 1 with switch := true, level := 64 } with liveCapture := 1#88 },
    ⟨by decide +kernel, by decide +kernel, by decide +kernel⟩, by decide +kernel⟩

/-- Track 0 filled to leave the three free slots that RECORD may need. -/
def nearlyFull : State :=
  { bench with transport := { bench.transport with
      tracks := tablePut bench.transport.tracks 0
        { resetTrack with recs := List.replicate 8185 { body := .wait, delta := 1 } ++ [{ body := .endMark, delta := 0 }] } } }

theorem used_of_tracks (s : State) (a b c d : Track) (h : s.transport.tracks.toList = [a, b, c, d]) :
    s.transport.used = a.slots + b.slots + c.slots + d.slots := by
  simp [Transport.used, h, sumNat]
  omega

theorem witness_RecordAndLocate_record : PoolLaw bench ∧ 3 ≤ bench.freeSlots ∧ bench.transport.state = .idle ∧
    bench.transport.load = none ∧ bench.linkPresent .a = true ∧ bench.receiving .a = true := by
  refine ⟨⟨by unfold Config.poolSize; decide +kernel, ?_⟩, by decide +kernel⟩
  unfold recsLawful
  decide +kernel

theorem witness_RecordAndLocate_locate :
    TransportState.idle.locatesAs = some .idle ∧ TransportState.recording.locatesAs = none ∧
      0 < (takeState .idle 0).walkReads (max 0 (min 2147483647 (signed4At [0x7F#8, 0xFF#8, 0xFF#8, 0xFF#8] 0))) ∧
      (takeState .idle 0).walkReads (max 0 (min 2147483647 (signed4At [0xFF#8, 0xFF#8, 0xFF#8, 0xFF#8] 0))) = 0 ∧
      (takeState (.locating 481 .idle) 0).transport.state = .locating 481 .idle ∧ (0 : Int) ≤ 481 := by decide +kernel

theorem witness_DispatchedRecords :
    let s := takeState .playing 480
    (s.track 0).mode = .play ∧ (stage.track 0).mode = .play ∧ KeySet.has (s.track 0).opened 40 = false ∧
      findWindow stage.windows 40 64 = some (0, window) ∧ KeySet.has (KeySet.add 0#88 87) 87 = true ∧
      (loadingState.track 1).mode ≠ .play := by decide +kernel

theorem witness_GapsAreBridged : recordingState.transport.state = .recording ∧
    recordingState.transport.recording = some { track := 2, owner := .a, lastPos := 0 } ∧
    ((recordingState.transport.position - 0).toNat - 1) / 65535 + 1 ≤ recordingState.freeSlots ∧ 65535 < 65536 := by
  decide +kernel

theorem witness_TransportSettings :
    bench.receiving .a = true ∧ bench.running = true ∧ bench.transport.load = none ∧ (bench.track 3).opened = 0#88 ∧
      loadingState.transport.load = some { track := 1, link := .a } ∧
      [1#8, 0x80#8, 0#8, 0#8, 1#8, 0#8, 0#8, 0#8, 2#8, 255#8].length = 10 ∧
      ((be4At [1#8, 0x80#8, 0#8, 0#8, 1#8, 0#8, 0#8, 0#8, 2#8, 255#8] 1 % 2147483648 : Nat) : Int) <
        ((be4At [1#8, 0x80#8, 0#8, 0#8, 1#8, 0#8, 0#8, 0#8, 2#8, 255#8] 5 % 2147483648 : Nat) : Int) := by decide +kernel

/-- An append of twelve records that fits, and one that does not. -/
theorem witness_LoadsAndErase :
    let r : TakeRec := { body := .noteOn 87 127, delta := 65535 }
    loadingState.receiving .a = true ∧ loadingState.running = true ∧
      loadingState.transport.load = some { track := 1, link := .a } ∧ List.replicate 12 r ≠ [] ∧
      (List.replicate 12 r).length ≤ 12 ∧ r.body ≠ .endMark ∧ r.delta ≤ 65535 ∧ takeOfWord r.word = some r ∧
      (List.replicate 12 r).length ≤ loadingState.freeSlots ∧ bench.transport.load = none ∧ bench.linkPresent .a = true := by
  decide +kernel

theorem witness_LoadsAndErase_full : ∃ s : State, s.transport.load = some { track := 1, link := .a } ∧ s.freeSlots < 1 :=
  ⟨{ loadingState with transport := { loadingState.transport with
      tracks := tablePut loadingState.transport.tracks 0
        { resetTrack with recs := List.replicate 8190 { body := .wait, delta := 1 } } } }, rfl, by decide +kernel⟩

/-! ### The journal and the links -/

theorem present_lawful {n c g : Nat} {v : View} (h : v = .present c g) (hc : c ≤ n) (hg : g ≤ 255) : v.lawful n := by
  subst h
  exact ⟨hc, hg⟩

theorem absent_lawful {n k : Nat} {v : View} (h : v = .absent k) (hk : k ≤ 255) : v.lawful n := by
  subst h
  exact hk

theorem witness_JournalLaw : JournalLaw stage ∧ AttentionLaw stage := by
  refine ⟨⟨by decide +kernel, ?_, by decide +kernel⟩, ?_⟩ <;> intro l <;> cases l
  · exact present_lawful (c := 0) (g := 0) (by decide +kernel) (Nat.zero_le _) (by decide)
  · exact present_lawful (c := 0) (g := 0) (by decide +kernel) (Nat.zero_le _) (by decide)
  · decide +kernel
  · decide +kernel

/-- The ring full, one link a whole ring behind and the other at the newest end. -/
def fullRing : State :=
  { bench with
    journal := List.replicate 512 { body := .guideMet, time := 0#32 }
    links := { bench.links with b := { upLink with view := .present 512 255 } } }

theorem full_length : 512 ≤ fullRing.journal.length := by decide +kernel

theorem witness_Relay : fullRing.receiving .a = true ∧ JournalLaw fullRing ∧ (fullRing.link .a).view = .present 0 0 ∧
    (fullRing.link .b).view = .present (511 + 1) 255 ∧ fullRing.journal.length = 512 := by
  refine ⟨by decide +kernel, ⟨by decide +kernel, ?_, by decide +kernel⟩, by decide +kernel, by decide +kernel, by decide +kernel⟩
  intro l
  cases l
  · exact present_lawful (c := 0) (g := 0) (by decide +kernel) (Nat.zero_le _) (by decide)
  · exact present_lawful (n := fullRing.journal.length) (c := 512) (g := 255) (by decide +kernel) full_length (by decide)

theorem witness_Relay_absent : ∃ s : State, (s.link .b).view = .absent 255 ∧ s.receiving .a = true ∧ JournalLaw s := by
  refine ⟨{ bench with links := { bench.links with b := { upLink with view := .absent 255 } } }, rfl, by decide +kernel,
    by decide +kernel, ?_, by decide +kernel⟩
  intro l
  cases l
  · exact present_lawful (c := 0) (g := 0) (by decide +kernel) (Nat.zero_le _) (by decide)
  · exact absent_lawful (k := 255) (by decide +kernel) (by decide)

theorem witness_ReadJournal : stage.receiving .a = true ∧ stage.running = true ∧ (7#8 : Byte).toNat ≤ 7 ∧ 7 < (8#8 : Byte).toNat ∧
    (stage.link .a).view = .present 0 0 ∧ (inPhase .held).running = false := by decide +kernel

theorem witness_AttentionRequests : bench.receiving .a = true ∧ [0x1F#8, 0xFF#8, 1#8, 1#8, 0#8].length ≤ 60 ∧
    (bench.link .a).view = .present 0 0 := by decide +kernel

theorem witness_Transactions :
    let s : State := { bench with links := { bench.links with a := { upLink with transaction := .answering [1#8, 0#8] [0#8, 0#8] } } }
    (s.link .a).transaction = .answering [1#8, 0#8] [0#8, 0#8] ∧ s.receiving .a = false ∧ bench.receiving .a = true ∧
      requestLink (.poll 1#32 .a []) = some .a ∧ commandTime (.poll 1#32 .a []) = 1#32 ∧ 60 < (61#8 : Byte).toNat ∧
      (0x0F#8 : Byte).toNat < 0x10 ∧ 0x0A < (0x0F#8 : Byte).toNat ∧ (0 : Nat) < 1 ∧ 1 < [0#8, 0#8].length := by decide +kernel

theorem witness_PresenceIsJudged :
    let a : State := { bench with links := { bench.links with b := { upLink with view := .absent 255 } } }
    let g : State := { bench with links := { bench.links with
      b := { upLink with presentRaw := { on := false, since := 0#32 } } } }
    (a.link .b).presentRaw.on = true ∧ 10000 ≤ (10000#32 - (a.link .b).presentRaw.since).toNat ∧
      (a.link .b).view = .absent 255 ∧ (g.link .b).presentRaw.on = false ∧ (g.link .b).view = .present 0 0 ∧
      g.seat ≠ some .b ∧ g.transport.recording = none ∧ g.transport.load = none ∧
      (9999#32 - (a.link .b).presentRaw.since).toNat < 10000 := by decide +kernel

theorem witness_SeatRequests : (inPhase .held).seat = none ∧ (inPhase .held).receiving .a = true ∧
    (inPhase .held).linkPresent .a = true ∧ (inPhase .held).receiving .b = true ∧ (inPhase .held).learn = none ∧
    (inPhase .held).test = none ∧ (inPhase .held).journal.length ≤ 480 ∧ bench.seat = some .a ∧
    learning.learn = some { lo := 39, hi := 40, link := .a } ∧ learning.seat = some .a := by decide +kernel

theorem witness_ReadsChangeNothing : stage.receiving .a = true ∧ stage.running = true ∧ 47 + 1 ≤ 48 ∧
    0 + 1 ≤ stage.windows.length ∧ 1 ≤ (stage.track 0).recs.length ∧ stage.voice 1 = none := by decide +kernel

/-! ### The calibration store, the tests and the encodings -/

def commitAt (page : Nat) : Commit :=
  { page := page, image := imageOf defaultWorkingCopy 1, count := 1, sentAt := 0#32, changed := false }

def commits (page : Nat) : State := { bench with commit := some (commitAt page) }

theorem witness_StoreLaw : StoreLaw (commits 51) ∧ 51 ≤ 51 ∧ StoreLaw (commits 50) ∧ 50 < 51 ∧
    20000 ≤ (20000#32 - 0#32).toNat ∧ (19999#32 - 0#32).toNat < 20000 := by
  have hi : (imageOf defaultWorkingCopy 1).length = 832 := by decide +kernel
  have he : bench.eeprom.length = 832 := List.length_replicate
  have h : ∀ n : Nat, n ≤ 51 → StoreLaw (commits n) := by
    intro n hn
    refine ⟨he, Nat.zero_le _, ?_⟩
    intro c hc
    have : c = commitAt n := (Option.some.inj hc).symm
    subst this
    exact ⟨hn, hi, show 1 ≤ 255 by omega⟩
  exact ⟨h 51 (by omega), by decide, h 50 (by omega), by decide, by decide, by decide⟩

def testing (x : Test) : State := { bench with test := some x }

/-- An image that differs in its first byte, and one that equals the EEPROM's. -/
theorem witness_TestsRunAndEnd :
    bench.receiving .a = true ∧ bench.running = true ∧ bench.seat = some .a ∧ bench.test = none ∧ bench.commit = none ∧
      bench.rail.state = .parked ∧ bench.rail.votes.any = false ∧ (railIn .homing none false).rail.state ≠ .parked ∧
      TestKind.readback ≠ .railCycle ∧ (0#8 :: bench.eeprom.tail).getD 0 0#8 ≠ bench.eeprom.getD 0 0#8 ∧
      (20000#32 - 0#32).toNat = 20000 ∧ (19999#32 - 0#32).toNat < 20000 := by decide +kernel

theorem witness_EncodingsRoundTrip_copy : defaultWorkingCopy.legal := by
  unfold WorkingCopy.legal KeyCal.legal
  decide +kernel

theorem witness_EncodingsRoundTrip_word :
    let r : TakeRec := { body := .noteOff 87 127, delta := 65535 }
    r.delta ≤ 65535 ∧ (∀ (k : KeyIx) (level : Nat), (r.body = .noteOn k level ∨ r.body = .noteOff k level) → 1 ≤ level ∧ level ≤ 127) ∧
      (∀ (c : PedalIx) (level : Nat), r.body = .pedal c level → level ≤ 127) := by
  refine ⟨by decide, ?_, ?_⟩
  · rintro k level (h | h)
    · cases h
    · cases h; decide
  · intro c level h
    cases h

theorem witness_EncodingsRoundTrip_payload :
    takesOfPayload [1#8, 0#8, 1#8, 0#8, 5#8] 1 = some [{ body := .noteOn 0 1, delta := 5 }] := by decide

theorem witness_RequestsStayWithinTheirLink : ∃ s' : State, requestLink (.seatYield 1#32 .b []) = some .b ∧
    exec (.seatYield 1#32 .b []) bench = .next s' ∧ bench.seat ≠ some .b ∧ bench.learn = none ∧ bench.test = none ∧
    bench.seat.isSome = true := by
  obtain ⟨s', h, _⟩ := next_of (f := fun _ => true)
    (show after (exec (.seatYield 1#32 .b []) bench) _ = true by decide +kernel)
  exact ⟨s', rfl, h, by decide, rfl, rfl, rfl⟩

/-! ### The laws hold of a part at work, whose step answers a next state -/

theorem witness_step : ∃ s' : State, step stage = .next s' := by
  obtain ⟨s', h, _⟩ := next_of (f := fun _ => true) (show after (step stage) _ = true by decide +kernel)
  exact ⟨s', h⟩

/-- In HELD, with a key that stands below onset. -/
theorem witness_StillBeforeRunning : StillBeforeRunning (keyIn 39 .returning none (inPhase .held)) ∧ StillBeforeRunning stage :=
  ⟨⟨fun _ => by decide +kernel, fun _ => ⟨by decide +kernel, by decide +kernel⟩⟩, ⟨fun h => absurd h (by decide),
    fun h => absurd h (by decide)⟩⟩

theorem stage_key (k : KeyIx) : (stage.key k).pendingCal = none ∧ ((stage.key k).state = .down ∨ (stage.key k).state = .rest) := by
  revert k
  decide +kernel

theorem witness_CalibrationLaw : CalibrationLaw stage ∧ StoreLaw stage := by
  refine ⟨⟨witness_EncodingsRoundTrip_copy, ?_, ?_⟩, by decide +kernel, by decide +kernel, (fun c (h : none = some c) => by cases h)⟩
  · intro k c h
    rw [(stage_key k).1] at h
    cases h
  · intro k lo hi h
    rcases (stage_key k).2 with h' | h' <;> rw [h'] at h <;> cases h

theorem witness_RailLaw : RailLaw stage ∧ TestLaw stage := by
  refine ⟨⟨⟨(fun g (h : none = some g) => by cases h), by decide, by decide⟩, ?_, by decide +kernel, by decide +kernel, by decide +kernel⟩,
    by decide +kernel, by decide +kernel⟩
  show stage.rail.votes.any = false
  decide

theorem witness_VoicesStayWithinTheirBudget : VoiceLaw stage ∧ HeldLaw stage ∧ Memory.wf stage.sampleMem = true :=
  ⟨witness_VoiceLaw, witness_HeldLaw, rfl⟩

theorem witness_TransportLaw : TransportLaw recordingState ∧ TransportLaw stage := by
  refine ⟨⟨by decide +kernel, by decide +kernel, by decide +kernel, by decide +kernel⟩,
    ⟨by decide +kernel, by decide +kernel, by decide +kernel, by decide +kernel⟩⟩

theorem witness_SeatLaw : SeatLaw stage ∧ LearnCommitLaw stage ∧ LedLaw stage := by
  refine ⟨⟨?_, (fun x (h : none = some x) => by cases h), by decide⟩, .inl rfl, by show stage.led = stage.ledShows; decide +kernel⟩
  intro l h
  cases l
  · decide +kernel
  · exact absurd h (by decide)


/-! ### Further clauses of the statements above -/

/-- The reading that just reaches strike, with the transport in WAITING, in RECORDING and in COUNT_IN. -/
theorem witness_StrikeSoundsKeyOn_transport (st : TransportState) (hst : st = .waiting ∨ st = .recording ∨ st = .countIn) :
    let s := keyIn 39 (.onset .short 0#32) (some (739, 100#32))
      { recordingState with transport := { recordingState.transport with state := st } }
    s.running = true ∧ (s.key 39).state = .onset .short 0#32 ∧ (s.key 39).last = some (739, 100#32) ∧
      (s.keyCal 39).plausible 740 = true ∧ ((739 : Nat) : Int) < (s.keyCal 39).level s.cal.touch.fSt ∧
      (s.keyCal 39).level s.cal.touch.fSt ≤ (s.keyCal 39).clamped 740 ∧ s.test = none := by
  rcases hst with rfl | rfl | rfl <;> decide +kernel

/-- A FAULTY key one reading short of recovery and at it; one whose own calibration spans too little, with a write pending. -/
theorem witness_NotesEnd_recovery :
    let s := keyIn 39 (.faulty .readings) none bench
    let n : KeyCal := { defaultKeyCal with b := 299 }
    let u : State := { s with cal := { s.cal with keys := tablePut s.cal.keys 39 n } }
    s.running = true ∧ (s.key 39).state = .faulty .readings ∧ s.test = none ∧ 200 ≤ (s.keyCal 39).span ∧
      (s.keyCal 39).plausible 217 = true ∧ ((s.keyCal 39).clamped 217 : Int) < (s.keyCal 39).level s.cal.touch.fOn ∧
      ¬((s.keyCal 39).clamped 218 : Int) < (s.keyCal 39).level s.cal.touch.fOn ∧ (254 : Nat) < 255 ∧ 255 ≤ 255 ∧
      (u.keyCal 39).span < 200 ∧ (u.key 39).pendingCal = none ∧
      ({ u.key 39 with pendingCal := some defaultKeyCal } : Tracker).pendingCal = some defaultKeyCal := by decide +kernel

/-- A key not yet evaluated, in CHECKING: implausible at 35 and 965, at rest at 217, in RETURN at 218, and of no usable span. -/
theorem witness_StartUpDecision_key :
    let s := undecided
    s.startUp.phase = .checking ∧ (s.key 39).evaluated = false ∧ (s.key 39).state = .rest ∧ s.rail.quiet.quiet = false ∧
      s.test = none ∧ ((35 : Nat) : Int) < (s.keyCal 39).r - 64 ∧ ((s.keyCal 39).b : Int) + 64 < (965 : Nat) ∧
      ¬((s.keyCal 39).level s.cal.touch.fOn ≤ (s.keyCal 39).clamped 217) ∧
      (s.keyCal 39).level s.cal.touch.fOn ≤ (s.keyCal 39).clamped 218 ∧
      ({ defaultKeyCal with b := 299 } : KeyCal).span < 200 := by decide +kernel

/-- An index just past its range; a quiet timer that has run 40 ms to the microsecond, and one microsecond less. -/
theorem witness_CalibrationWrites_bounds :
    87 < byteAt [88#8] 0 ∧ 2 < byteAt [3#8] 0 ∧ 3 < byteAt [4#8] 0 ∧
      (quietIn .parked).rail.quiet.start = some 0#32 ∧ (quietIn .parked).receiving .a = true ∧
      (39999#32 - 0#32).toNat < 1000 * 40 ∧ 1000 * 40 ≤ (40000#32 - 0#32).toNat := by decide +kernel

/-- A channel short of 500 ms at full, a reading below 1000 and one at it, a published pedal in RECORDING, and a damper at
its bound of 100 over a voice whose key is up. -/
theorem witness_PedalReadings_clauses :
    let s := recordingState.setLive 2 { recordingState.liveChannel 2 with level := 100, atFull := some 0#32 }
    let v : Voice := { voice39 with held := false }
    s.running = true ∧ s.transport.state = .recording ∧ (s.liveChannel 2).connected = true ∧
      (499999#32 - 0#32).toNat < 500000 ∧ (999 : Depth).val < 1000 ∧ 1000 ≤ (1000 : Depth).val ∧
      100 ≤ (s.liveChannel 2).level ∧ (99 : Nat) < 100 ∧ v.state = .sounding ∧ v.held = false ∧ v.source = .live ∧
      KeySet.has s.liveCapture v.key = false ∧ (s.setVoice 5 (some v)).voice 5 = some v := by decide +kernel

/-- A raw end switch that has held its new level for 5 ms, on a rail in a given state. -/
def switched (x : EndSwitch) (on : Bool) (park stop : Bool) (st : RailState) : State :=
  { bench with rail := { bench.rail with
      state := st, park := park, stop := stop
      parkRaw := { on := if x = .park then on else park, since := 0#32 }
      stopRaw := { on := if x = .stop then on else stop, since := 0#32 } } }

/-- An opening, a switch that ends no move, both switches made, and the park switch ending each of its moves. -/
theorem witness_DebouncedInputsAct_switches :
    (let s := switched .park false true false .parked
     (s.rail.rawSwitch .park).on ≠ s.rail.madeSwitch .park ∧ (s.rail.rawSwitch .park).on = false ∧
       5000 ≤ (5000#32 - (s.rail.rawSwitch .park).since).toNat) ∧
    (let s := switched .stop true false false .homing
     (s.rail.rawSwitch .stop).on ≠ s.rail.madeSwitch .stop ∧ s.rail.park = false ∧ s.rail.state = .homing) ∧
    (let s := switched .stop true true false .parked
     (s.rail.rawSwitch .stop).on ≠ s.rail.madeSwitch .stop ∧ s.rail.decided = true ∧ s.rail.state.isFault = false ∧
       s.rail.park = true ∧ s.rail.state.name ≠ .testing) ∧
    (∀ st ∈ [RailState.movingOut, .pausedOut, .homing],
      let s := switched .park true false false st
      (s.rail.rawSwitch .park).on ≠ s.rail.madeSwitch .park ∧ s.rail.decided = true ∧ s.rail.stop = false ∧
        s.rail.state = st ∧ s.rail.votes.any = false ∧ s.journal.length ≤ 510) := by decide +kernel

/-- One contact of a jack that made, 20 ms ago; and the last seated jack with one contact open. -/
theorem witness_DebouncedInputsAct_contacts :
    (plugged.jack .j2).tipRaw.on ≠ (plugged.jack .j2).tip ∧ (plugged.jack .j2).state ≠ .partly ∧
      (let s : State := { stage with jacks := { stage.jacks with j1 := { stage.jacks.j1 with
          tipRaw := { on := false, since := 0#32 }, enabled := false } } }
       (s.jack .j1).state = .seated ∧ (s.jack .j1).tipRaw.on ≠ (s.jack .j1).tip ∧ s.supply = .good ∧
         (s.jack .j2).state ≠ .seated ∧ 20000 ≤ (20000#32 - (s.jack .j1).tipRaw.since).toNat ∧ s.journal.length ≤ 509 ∧
         (∀ k : JackIx, k = .j1 ∨ k = .j2 → (s.jack k).enabled = (s.jack k).mayEnable (decide (s.supply = .good)))) := by
  refine ⟨by decide +kernel, by decide +kernel, by decide +kernel, by decide +kernel, by decide +kernel, by decide +kernel,
    by decide +kernel, by decide +kernel, ?_⟩
  intro k _
  cases k <;> decide +kernel

/-- A notice not yet due, and a rail in a test that waits for quiet or is driven. -/
theorem witness_RailTimers_waits :
    (quietIn (.pendingIn 0#32 false)).rail.state = .pendingIn 0#32 false ∧ (7999999#32 - 0#32).toNat < 8000000 ∧
      (quietIn (.testing .outward 3 4)).rail.state = .testing .outward 3 4 ∧
      (quietIn (.testing .outward 3 4)).rail.drive = none ∧ (quietIn (.testing .outward 3 4)).rail.state.name = .testing := by
  decide +kernel

/-- Every voice sounds, at the whole budget of 96: a note-on through a window of cost 3 steals a voice and sheds another. -/
def crowded : State :=
  { stage with
    windows := [{ window with levelHi := 80 }, { window with levelLo := 81, cost := 3 }]
    voices := tableOf (fun i => some { voice39 with env := 1 + i.val }) }

theorem witness_VoicesAreChosenAndDecay_full : VoiceLaw crowded ∧
    findWindow crowded.windows 40 81 = some (1, { window with levelLo := 81, cost := 3 }) ∧ crowded.costSum = 96 ∧
    (∀ j : VoiceIx, (crowded.dampKey Source.live.group 40).voice j ≠ none) ∧ findWindow stage.windows 40 0 = none := by
  have hv : ∀ i : VoiceIx, crowded.voice i = some { voice39 with env := 1 + i.val } := by decide +kernel
  refine ⟨⟨?_, ?_, by unfold Config.budget; decide +kernel⟩, by decide +kernel, by decide +kernel, by decide +kernel,
    by decide +kernel⟩
  · intro w hw
    have : w = { window with levelHi := 80 } ∨ w = { window with levelLo := 81, cost := 3 } := by simpa [crowded] using hw
    rcases this with rfl | rfl <;>
      exact ⟨by decide, by decide, by decide, by decide, by decide, by decide, fun o h => by cases h; decide⟩
  · intro i v h
    obtain rfl := Option.some.inj (h ▸ hv i)
    refine ⟨⟨{ window with levelHi := 80 }, rfl, show 0 ≤ 39 by decide, show 39 ≤ 87 by decide, rfl,
      show 6 % 2 = 0 by decide, show 6 < 8 by decide⟩, fun _ => rfl, ?_, ?_⟩
    · exact Nat.le_add_right 1 i.val
    · have := i.isLt
      show 1 + i.val ≤ 32767
      omega

/-- A rail cycle in a phase, with no segment begun, both raw end switches made for 5 ms. -/
def cycling (phase : Travel) (park stop : Bool) : State :=
  { switched .park true park stop (.testing phase 123456 0) with test := some { continuous := true, run := .railCycle } }

/-- The rail cycle's turn, its end at the park switch, its fault with both switches made, its drive's 40 ms and 1.5 s, and the
edge that takes the count 201 beyond the open stop. -/
theorem witness_TestsRunAndEnd_cycle :
    (let s := cycling .inward false false
     let u : State := { s with rail := { s.rail with stopRaw := { on := true, since := 0#32 } } }
     u.test = some { continuous := true, run := .railCycle } ∧ u.rail.state = .testing .inward 123456 0 ∧
       u.rail.decided = true ∧ u.journal.length ≤ 508 ∧ (u.rail.rawSwitch .stop).on = true ∧
       u.rail.madeSwitch .stop = false ∧ 5000 ≤ (5000#32 - (u.rail.rawSwitch .stop).since).toNat ∧ u.rail.park = false ∧
       u.receiving .a = true ∧ u.running = true ∧ u.seat = some .a) ∧
    (let s := cycling .outward false false
     (s.rail.rawSwitch .park).on = true ∧ s.rail.madeSwitch .park = false ∧ s.rail.stop = false ∧
       s.rail.votes.any = false ∧ (s.rail.votes.put .a true).any = true) ∧
    (let s := cycling .outward false true
     s.rail.madeSwitch .park = false ∧ s.rail.stop = true) ∧
    (let s := cycling .inward true false
     let u : State := { s with rail := { s.rail with drive := driven .inward, segCount := some 1800, count := 2000 } }
     u.rail.drive = driven .inward ∧ 40000 ≤ (40000#32 - 0#32).toNat ∧ 1500000 ≤ (1500000#32 - 0#32).toNat ∧
       u.rail.stop = false ∧ u.rail.count < 32767 ∧ u.rail.segCount = some 1800 ∧
       ((1800 : Nat) : Int) + 200 ≤ u.rail.count) := by decide +kernel

/-- A scan that has judged every key but 39, and one that has judged 39. -/
theorem witness_TestsRunAndEnd_scan :
    let judged := KeySet.ofPred (fun k => k != 39)
    bench.running = true ∧ KeySet.has judged 39 = false ∧ KeySet.add judged 39 = BitVec.allOnes 88 ∧
      KeySet.has (KeySet.add 0#88 39) 39 = true ∧ KeySet.has 0#88 39 = false ∧
      KeySet.add 0#88 39 ≠ BitVec.allOnes 88 := by decide +kernel

/-- The transport a step before a tick: what is due lies at tick 480 of track 0. -/
def beforeTick (st : TransportState) (position : Int) (mode : TrackMode) : State :=
  { takeState st position with transport := { (takeState st position).transport with
      acc := 124999999
      tracks := tableOf (fun i => { (takeState st position).track i with
        mode := if i = 0 then mode else .mute
        recs := if i = 0 then [{ body := .noteOn 40 64, delta := 480 }, { body := .endMark, delta := 240 }] else [] }) } }

/-- Nothing is due at the next tick. -/
def undue (s : State) : Bool :=
  (List.finRange 4).all (fun i => (s.recordedTrack i) || ((s.track i).recs[(s.track i).cursor]?).all (fun r =>
    decide (s.transport.position + 1 < (s.track i).cursorPos + r.delta)))

/-- One tick is gained in each state, with nothing due; the count-in ends at 0; a loop's B-point and a guide note lie at 480. -/
theorem witness_ClockSteps_one_tick :
    (∀ st ∈ [TransportState.countIn, .recording, .playing], ∀ n ∈ [(-1 : Int), 100],
      let s := beforeTick st n .play
      let a := s.transport.acc + 1000 * s.transport.tempo * s.transport.scale
      s.transport.state = st ∧ 125000000 ≤ a ∧ a < 250000000 ∧ s.transport.position < 2147483647 ∧ undue s = true ∧
        s.journal.length ≤ 510 ∧ s.transport.recording = none) ∧
    (beforeTick .countIn (-1) .play).transport.position + 1 = 0 ∧ undue (beforeTick .playing 479 .guide) = false ∧
    0 < (beforeTick .playing 479 .play).walkReads 481 ∧
    (let s := beforeTick .playing 479 .guide
     (s.track 0).mode = .guide ∧
       ((s.track 0).recs.drop (s.track 0).cursor)[0]? = some { body := .noteOn 40 64, delta := 480 } ∧
       (s.track 0).cursorPos +
         ((((s.track 0).recs.drop (s.track 0).cursor).take 1).map (fun y => (y.delta : Int))).sum = 480) ∧
    (∀ i : TrackIx, ((beforeTick .playing 100 .mute).track i).mode = .mute) ∧
    ((beforeTick .playing 100 .play).track 0).mode ≠ .mute := by decide +kernel

/-- A guide wait for one key and for two. -/
theorem witness_DispatchedRecords_strikes :
    let s := beforeTick .waiting 479 .guide
    s.transport.state = .waiting ∧ KeySet.has 0#88 40 = false ∧ KeySet.has (KeySet.add 0#88 40) 40 = true ∧
      KeySet.drop (KeySet.add 0#88 40) 40 = 0#88 ∧ KeySet.drop (KeySet.add (KeySet.add 0#88 40) 41) 40 ≠ 0#88 ∧
      (s.track 0).cursor < (s.track 0).recs.length ∧ (s.track 0).mode ≠ .mute ∧ s.journal.length ≤ 510 := by decide +kernel

/-- A recording with room for an event across a gap of 70000 ticks, which takes two slots, and one with none. -/
theorem witness_RecordAndLocate_live :
    (70000 - 1) / 65535 + 1 = 2 ∧ 2 ≤ recordingState.freeSlots ∧
      recordingState.transport.recording = some { track := 2, owner := .a, lastPos := 0 } ∧
      recordingState.transport.state = .recording ∧
      (let s : State := { recordingState with transport := { recordingState.transport with
          tracks := tablePut recordingState.transport.tracks 0
            { resetTrack with recs := List.replicate 8187 { body := .wait, delta := 1 } } } }
       s.freeSlots < 2 ∧ (∀ i : TrackIx, (s.track i).opened = 0#88) ∧ (∀ c : PedalIx, (s.playChannel c).level = 0) ∧
         s.journal.length ≤ 510) := by decide +kernel

/-- A track in PLAY with the note of a held voice open, and room for its record. -/
theorem witness_TransportSettings_leaving :
    let v : Voice := { voice39 with source := .playback 3 }
    let s : State := { stage.setVoice 0 (some v) with transport := { stage.transport with
      tracks := tablePut stage.transport.tracks 3 { resetTrack with opened := KeySet.add 0#88 39 } } }
    s.receiving .a = true ∧ s.running = true ∧ (s.track 3).mode = .play ∧ TrackMode.mute ≠ .play ∧
      s.transport.state.name ≠ .locating ∧ s.transport.state.name ≠ .waiting ∧ s.transport.load = none ∧
      s.voice 0 = some v ∧ v.held = true ∧ KeySet.has (s.track 3).opened v.key = true ∧ s.journal.length + 1 ≤ 512 := by
  decide +kernel

/-- A board that gives one address twice and one beyond the memory. -/
theorem witness_PowerOnResetClears_samples : ∃ (b : Board) (ws : List (Nat × SampleWord)), b.samples = some ws ∧
    ((ws.filter (fun x => x.1 == 0)).getLast?).map (fun x => x.2) = some 2#16 ∧ (0 : Nat) ≤ 16777215 ∧
    16777215 < 16777216 ∧ (ws.filter (fun x => x.1 == 16777216)).length = 1 :=
  ⟨{ straps := sig, eeprom := none, samples := some [(0, 1#16), (0, 2#16), (16777216, 3#16)] }, _, rfl, by decide⟩

/-- The last channel to be evaluated in CHECKING, all else being decided, and the first; a reading at full and below it. -/
theorem witness_PedalReadings_evaluation :
    let s : State := { inPhase .checking with
      keys := tableMap (fun x => { x with evaluated := true }) bench.keys
      live := tableMap (fun x => { x with evaluated := true }) bench.live }
    let u := s.setLive 1 { s.liveChannel 1 with evaluated := false }
    u.startUp.phase = .checking ∧ (u.liveChannel 1).evaluated = false ∧ u.allKeysEvaluated = true ∧ u.rail.decided = true ∧
      (∀ j : PedalIx, j ≠ 1 → (u.liveChannel j).evaluated = true) ∧ (u.liveChannel 0).evaluated = true ∧
      ((inPhase .checking).liveChannel 1).evaluated = false ∧ ((inPhase .checking).liveChannel 0).evaluated = false ∧
      (1023 : Depth).val = 1023 ∧ (1022 : Depth).val ≠ 1023 ∧ (inPhase .loading).startUp.phase = .loading := by
  decide +kernel

/-- What each check of LEARN_BEGIN and LEARN_END is failed by. -/
theorem witness_LearnBeginsAndEnds_refusals :
    learning.receiving .a = true ∧ learning.learn.isSome = true ∧ (commits 51).commit.isSome = true ∧
      (commits 51).receiving .a = true ∧ bench.learn.isNone = true ∧ bench.seat ≠ some .b ∧ bench.receiving .b = true ∧
      (inPhase .checking).heldOrRunning = false ∧ 87 < byteAt [0#8, 88#8] 1 ∧ byteAt [5#8, 4#8] 1 < byteAt [5#8, 4#8] 0 := by
  decide +kernel

/-- The codes R219 gives no request are those the statement counts as unknown. -/
theorem test_unknown_codes : ∀ n : Fin 256, n.val ∉ knownCodes ↔
    ¬(0x01 ≤ n.val ∧ n.val ≤ 0x0A ∨ n.val = 0x10 ∨ n.val = 0x11 ∨ n.val = 0x18 ∨ 0x20 ≤ n.val ∧ n.val ≤ 0x23 ∨
      0x30 ≤ n.val ∧ n.val ≤ 0x3F ∨ 0x40 ≤ n.val ∧ n.val ≤ 0x46 ∨ 0x50 ≤ n.val ∧ n.val ≤ 0x59 ∨ n.val = 0x60 ∨
      n.val = 0x61) := by decide +kernel

/-- Link A goes with the seat, a rail cycle, a recording and an open load of its own, link B present behind it. -/
theorem witness_PresenceIsJudged_departure :
    let s : State := { recordingState with
      test := some { continuous := true, run := .railCycle }
      rail := { bench.rail with state := .testing .inward 0 0 }
      transport := { recordingState.transport with load := some { track := 1, link := .a } }
      links := { recordingState.links with a := { upLink with presentRaw := { on := false, since := 0#32 } } } }
    JournalLaw s ∧ AttentionLaw s ∧ (s.link .a).presentRaw.on = false ∧
      10000 ≤ (10000#32 - (s.link .a).presentRaw.since).toNat ∧ (s.link .a).view = .present 0 0 ∧ s.seat = some .a ∧
      s.transport.recording.map (fun x => x.owner) = some .a ∧ s.transport.load = some { track := 1, link := .a } ∧
      s.testKind = some .railCycle ∧ s.journal.length ≤ 140 ∧ s.linkPresent .b = true ∧
      learning.learn.map (fun x => x.link) = learning.seat := by
  refine ⟨⟨by decide +kernel, ?_, by decide +kernel⟩, ?_, by decide +kernel⟩
  · intro l
    cases l <;> exact present_lawful (c := 0) (g := 0) (by decide +kernel) (Nat.zero_le _) (by decide)
  · intro l
    cases l <;> decide +kernel

/-- Link B asks without the seat while a test runs under link A's, and while the rail stands in FAULT. -/
theorem witness_RequestsStayWithinTheirLink_seatless : ∃ s' : State,
    let s : State := { testing { continuous := true, run := .sensorScan 0#88 0#88 } with
      rail := { bench.rail with state := .fault .stall } }
    exec (.railRecover 1#32 .b []) s = .next s' ∧ SeatLaw s ∧ s.test.isSome = true ∧ s.seat ≠ some .b ∧
      s.rail.state = .fault .stall ∧ s.linkPresent .a = true := by
  obtain ⟨s', h, _⟩ := next_of (f := fun _ => true)
    (show after (exec (.railRecover 1#32 .b []) { testing { continuous := true, run := .sensorScan 0#88 0#88 } with
      rail := { bench.rail with state := .fault .stall } }) _ = true by decide +kernel)
  refine ⟨s', h, ⟨?_, (fun x (hx : none = some x) => by cases hx), fun _ => rfl⟩, rfl, by decide, rfl, by decide +kernel⟩
  intro l hl
  cases l
  · decide +kernel
  · exact absurd hl (by decide)
end Sys2Proof.Tests
end

section
/-! The time of a crossing (R8): the interpolated offset stays within the reading interval, and the time each crossing takes. -/

namespace Sys2Proof.Machine

/-- Interpolation between two readings: an offset in proportion `a` to `b` of an interval does not leave the interval. -/
theorem floorDiv_proportion_mem {delta a b : Int} (hdelta : 0 ≤ delta) (hpos : 0 < b) (ha : 0 ≤ a) (hab : a ≤ b) :
    0 ≤ floorDiv (delta * a) b ∧ floorDiv (delta * a) b ≤ delta := by
  rw [floorDiv, Int.fdiv_eq_ediv_of_nonneg _ hpos.le]
  constructor
  · exact Int.ediv_nonneg (Int.mul_nonneg hdelta ha) hpos.le
  · calc delta * a / b ≤ delta * b / b := Int.ediv_le_ediv hpos (Int.mul_le_mul_of_nonneg_left hab hdelta)
      _ = delta := Int.mul_ediv_cancel _ hpos.ne'

namespace Reading

/-- A tracker with no last reading takes the time of the reading itself. -/
theorem crossDown_of_no_last (t : Time) {x level : Int} (h : level ≤ x) :
    crossDown { time := t, value := x, last := none } level = some t := if_pos h

@[simp] theorem crossUp_of_no_last (t : Time) (x point : Int) :
    crossUp { time := t, value := x, last := none } point = none := rfl

theorem crossDown_of_last (t t0 : Time) {x v level : Int} (hv : v < level) (hx : level ≤ x) :
    crossDown { time := t, value := x, last := some (v, t0) } level =
      some (later t0 (floorDiv (elapsed t0 t * (level - v)) (x - v))) := if_pos ⟨hv, hx⟩

theorem crossUp_of_last (t t0 : Time) {x v point : Int} (hx : x < point) (hv : point ≤ v) :
    crossUp { time := t, value := x, last := some (v, t0) } point =
      some (later t0 (floorDiv (elapsed t0 t * (v - point)) (v - x))) := if_pos ⟨hx, hv⟩

/-- A tracker's present reading is clamped into its key's calibration. -/
@[simp] theorem of_value (tr : Tracker) (c : KeyCal) (t : Time) (raw : Nat) :
    (Reading.of tr c t raw).value = c.clamped raw := rfl

end Reading

/-- Settles O16: the guards of `crossDown` and `crossUp` put the level between the two readings, so the divisor is positive
and the offset is a proportion of the interval between them. -/
theorem crossingTimes : Obligations.CrossingTimes := by
  intro t t0 x v level now first delta
  have hdelta : 0 ≤ delta := Int.natCast_nonneg _
  refine ⟨fun hv hx => ?down, fun hx hv => ?up, fun hx => ?first, ?none, fun tr c raw => ?clamped, ?elapsed⟩
  case down =>
    have hpos : 0 < x - v := by omega
    exact ⟨Reading.crossDown_of_last t t0 hv hx, hpos,
      floorDiv_proportion_mem hdelta hpos (by omega) (by omega)⟩
  case up =>
    have hpos : 0 < v - x := by omega
    exact ⟨Reading.crossUp_of_last t t0 hx hv, hpos,
      floorDiv_proportion_mem hdelta hpos (by omega) (by omega)⟩
  case first => exact Reading.crossDown_of_no_last t hx
  case none => exact Reading.crossUp_of_no_last t x level
  case clamped => exact Reading.of_value tr c t raw
  case elapsed => rfl

end Sys2Proof.Machine
end

section
/-! Touch arithmetic (chapter 2): the curve level (R36), the spans, times and speeds (R32 to R34), the levels of a strike
and of a release (R37, R38), and SELECT_CURVE (R41). -/

namespace Sys2Proof.Machine

/-! ### Division rounded to nearest, halves up -/

theorem floorDiv_eq_ediv (a : Int) {b : Int} (hb : 0 ≤ b) : floorDiv a b = a / b := Int.fdiv_eq_ediv_of_nonneg a hb

/-- The rounding of R36 and R38: half of the divisor is added before the floor. -/
def roundDiv (x w : Int) : Int := floorDiv (x + floorDiv w 2) w

theorem roundDiv_eq_ediv (x : Int) {w : Int} (hw : 0 ≤ w) : roundDiv x w = (x + w / 2) / w := by
  rw [roundDiv, floorDiv_eq_ediv _ hw, floorDiv_eq_ediv w (by decide)]

theorem roundDiv_le_roundDiv {x y w : Int} (hw : 0 < w) (h : x ≤ y) : roundDiv x w ≤ roundDiv y w := by
  rw [roundDiv_eq_ediv x hw.le, roundDiv_eq_ediv y hw.le]
  exact Int.ediv_le_ediv hw (by omega)

theorem roundDiv_mul_self (m : Int) {w : Int} (hw : 0 < w) : roundDiv (m * w) w = m := by
  rw [roundDiv_eq_ediv _ hw.le, Int.add_comm, Int.add_mul_ediv_right _ _ hw.ne',
    Int.ediv_eq_zero_of_lt (by omega) (by omega), Int.zero_add]

/-- What the rounding leaves is at least minus half of the divisor, and less than half of it. -/
theorem roundDiv_nearest (x : Int) {w : Int} (hw : 0 < w) :
    -w ≤ 2 * (x - w * roundDiv x w) ∧ 2 * (x - w * roundDiv x w) < w := by
  have hdiv := Int.mul_ediv_add_emod (x + w / 2) w
  have hlo := Int.emod_nonneg (x + w / 2) hw.ne'
  have hhi := Int.emod_lt_of_pos (x + w / 2) hw
  rw [← roundDiv_eq_ediv x hw.le] at hdiv
  omega

/-! ### One segment of a curve -/

section Segment

variable {p q : Breakpoint}

theorem segmentLevel_eq (p q : Breakpoint) (v : Int) :
    segmentLevel p q v = p.l + roundDiv ((v - p.v) * ((q.l : Int) - p.l)) ((q.v : Int) - p.v) := rfl

theorem segmentLevel_start (hv : p.v < q.v) : segmentLevel p q p.v = p.l := by
  have hw : (0 : Int) < (q.v : Int) - p.v := by omega
  have hzero : roundDiv 0 ((q.v : Int) - p.v) = 0 := by simpa using roundDiv_mul_self 0 hw
  rw [segmentLevel_eq, Int.sub_self, Int.zero_mul, hzero, Int.add_zero]

theorem segmentLevel_end (hv : p.v < q.v) : segmentLevel p q q.v = q.l := by
  rw [segmentLevel_eq, Int.mul_comm, roundDiv_mul_self _ (by omega)]
  omega

theorem segmentLevel_mono (hv : p.v < q.v) (hl : p.l ≤ q.l) {v u : Int} (h : v ≤ u) :
    segmentLevel p q v ≤ segmentLevel p q u := by
  have hnumer : (v - p.v) * ((q.l : Int) - p.l) ≤ (u - p.v) * ((q.l : Int) - p.l) :=
    Int.mul_le_mul_of_nonneg_right (by omega) (by omega)
  rw [segmentLevel_eq, segmentLevel_eq]
  exact Int.add_le_add_left (roundDiv_le_roundDiv (by omega) hnumer) _

end Segment

/-! ### The conditions on a curve (R35) -/

theorem curveValid_iff (cv : Vector Breakpoint 8) : curveValid cv = true ↔
    cv[(0 : Fin 8)].v = 0 ∧ cv[(7 : Fin 8)].v ≤ 4000 ∧ (∀ i : Fin 8, 1 ≤ cv[i].l ∧ cv[i].l ≤ 127) ∧
      ∀ i : Fin 7, cv[i.castSucc].v < cv[i.succ].v ∧ cv[i.castSucc].l ≤ cv[i.succ].l := by
  simp [curveValid, toList_eq_map, and_assoc]

/-- A speed lies in segment i of a curve. -/
def InSegment (cv : Vector Breakpoint 8) (i : Fin 7) (v : Int) : Prop :=
  (cv[i.castSucc].v : Int) ≤ v ∧ v < (cv[i.succ].v : Int)

theorem curveLevel_of_last_le {cv : Vector Breakpoint 8} {v : Int} (h : (cv[(7 : Fin 8)].v : Int) ≤ v) :
    curveLevel cv v = cv[(7 : Fin 8)].l := if_pos h

section Curve

variable {cv : Vector Breakpoint 8} {i j : Fin 7} {v u : Int}

theorem curve_first_speed (h : curveValid cv = true) : cv[(0 : Fin 8)].v = 0 := by
  obtain ⟨hfirst, _⟩ := (curveValid_iff cv).mp h
  exact hfirst

theorem curve_last_speed_le (h : curveValid cv = true) : (cv[(7 : Fin 8)].v : Int) ≤ 4000 := by
  obtain ⟨_, hlast, _⟩ := (curveValid_iff cv).mp h
  exact Int.ofNat_le.mpr hlast

theorem curve_level_mem (h : curveValid cv = true) (k : Fin 8) : 1 ≤ (cv[k].l : Int) ∧ (cv[k].l : Int) ≤ 127 := by
  obtain ⟨_, _, hrange, _⟩ := (curveValid_iff cv).mp h
  have := hrange k
  omega

theorem curve_step (h : curveValid cv = true) (i : Fin 7) :
    cv[i.castSucc].v < cv[i.succ].v ∧ cv[i.castSucc].l ≤ cv[i.succ].l := by
  obtain ⟨_, _, _, hsteps⟩ := (curveValid_iff cv).mp h
  exact hsteps i

theorem curve_speeds_strictMono (h : curveValid cv = true) : StrictMono fun i : Fin 8 => cv[i].v :=
  Fin.strictMono_iff_lt_succ.mpr fun i => (curve_step h i).1

theorem curve_levels_monotone (h : curveValid cv = true) : Monotone fun i : Fin 8 => cv[i].l :=
  Fin.monotone_iff_le_succ.mpr fun i => (curve_step h i).2

/-- A breakpoint at or below a speed is no later than the start of the speed's segment. -/
theorem InSegment.le_castSucc (h : curveValid cv = true) (hi : InSegment cv i v) {k : Fin 8} (hk : (cv[k].v : Int) ≤ v) :
    k ≤ i.castSucc := by
  by_contra hlt
  have hsucc : i.succ ≤ k := Fin.castSucc_lt_iff_succ_le.mp (not_le.mp hlt)
  have hspeed : cv[i.succ].v ≤ cv[k].v := (curve_speeds_strictMono h).monotone hsucc
  have := hi.2
  omega

theorem InSegment.unique (h : curveValid cv = true) (hi : InSegment cv i v) (hj : InSegment cv j v) : i = j :=
  Fin.castSucc_injective 7 (le_antisymm (hj.le_castSucc h hi.1) (hi.le_castSucc h hj.1))

theorem exists_inSegment (h : curveValid cv = true) (hv : 0 ≤ v) (hlast : v < (cv[(7 : Fin 8)].v : Int)) :
    ∃ i, InSegment cv i v := by
  by_contra hnone
  have hall : ∀ k : Fin 8, (cv[k].v : Int) ≤ v := by
    intro k
    induction k using Fin.induction with
    | zero => rw [curve_first_speed h]; exact hv
    | succ i ih => exact not_lt.mp fun hlt => hnone ⟨i, ih, hlt⟩
  exact absurd (hall 7) (not_le.mpr hlast)

theorem curveLevel_of_inSegment (h : curveValid cv = true) (hi : InSegment cv i v) :
    curveLevel cv v = segmentLevel cv[i.castSucc] cv[i.succ] v := by
  have hlast : ¬ (cv[(7 : Fin 8)].v : Int) ≤ v := fun hle =>
    absurd (hi.le_castSucc h hle) (not_le.mpr (Fin.castSucc_lt_last i))
  rw [curveLevel, if_neg hlast]
  split
  next j hj =>
    have hin : InSegment cv j v := by simpa [InSegment] using List.find?_some hj
    rw [hin.unique h hi]
  next hnone => exact absurd hi (by simpa [InSegment] using List.find?_eq_none.mp hnone i (List.mem_finRange i))

/-- Within a segment, the curve level stays between the levels of its two breakpoints. -/
theorem curveLevel_mem_of_inSegment (h : curveValid cv = true) (hi : InSegment cv i v) :
    (cv[i.castSucc].l : Int) ≤ curveLevel cv v ∧ curveLevel cv v ≤ cv[i.succ].l := by
  obtain ⟨hspeed, hlevel⟩ := curve_step h i
  rw [curveLevel_of_inSegment h hi]
  exact ⟨(segmentLevel_start hspeed).symm.trans_le (segmentLevel_mono hspeed hlevel hi.1),
    (segmentLevel_mono hspeed hlevel hi.2.le).trans_eq (segmentLevel_end hspeed)⟩

theorem curveLevel_breakpoint (h : curveValid cv = true) (k : Fin 8) : curveLevel cv cv[k].v = cv[k].l := by
  induction k using Fin.lastCases with
  | last => exact curveLevel_of_last_le le_rfl
  | cast i =>
    have hspeed := (curve_step h i).1
    rw [curveLevel_of_inSegment h ⟨le_rfl, Int.ofNat_lt.mpr hspeed⟩, segmentLevel_start hspeed]

/-- No speed at or past a breakpoint has a lower level than the breakpoint. -/
theorem level_le_curveLevel (h : curveValid cv = true) (hv : 0 ≤ v) {k : Fin 8} (hk : (cv[k].v : Int) ≤ v) :
    (cv[k].l : Int) ≤ curveLevel cv v := by
  by_cases hlast : (cv[(7 : Fin 8)].v : Int) ≤ v
  · rw [curveLevel_of_last_le hlast]
    exact Int.ofNat_le.mpr (curve_levels_monotone h (Fin.le_last k))
  · obtain ⟨i, hi⟩ := exists_inSegment h hv (not_le.mp hlast)
    have hstart : cv[k].l ≤ cv[i.castSucc].l := curve_levels_monotone h (hi.le_castSucc h hk)
    exact (Int.ofNat_le.mpr hstart).trans (curveLevel_mem_of_inSegment h hi).1

theorem curveLevel_le_last (h : curveValid cv = true) (hv : 0 ≤ v) : curveLevel cv v ≤ cv[(7 : Fin 8)].l := by
  by_cases hlast : (cv[(7 : Fin 8)].v : Int) ≤ v
  · exact (curveLevel_of_last_le hlast).le
  · obtain ⟨i, hi⟩ := exists_inSegment h hv (not_le.mp hlast)
    exact (curveLevel_mem_of_inSegment h hi).2.trans
      (Int.ofNat_le.mpr (curve_levels_monotone h (Fin.le_last i.succ)))

theorem first_le_curveLevel (h : curveValid cv = true) (hv : 0 ≤ v) : (cv[(0 : Fin 8)].l : Int) ≤ curveLevel cv v :=
  level_le_curveLevel h hv (by rw [curve_first_speed h]; exact hv)

theorem curveLevel_mono (h : curveValid cv = true) (hv : 0 ≤ v) (hvu : v ≤ u) : curveLevel cv v ≤ curveLevel cv u := by
  by_cases hlast : (cv[(7 : Fin 8)].v : Int) ≤ v
  · rw [curveLevel_of_last_le hlast, curveLevel_of_last_le (hlast.trans hvu)]
  · obtain ⟨i, hi⟩ := exists_inSegment h hv (not_le.mp hlast)
    by_cases hend : u < (cv[i.succ].v : Int)
    · obtain ⟨hspeed, hlevel⟩ := curve_step h i
      rw [curveLevel_of_inSegment h hi, curveLevel_of_inSegment h ⟨hi.1.trans hvu, hend⟩]
      exact segmentLevel_mono hspeed hlevel hvu
    · exact (curveLevel_mem_of_inSegment h hi).2.trans (level_le_curveLevel h (hv.trans hvu) (not_lt.mp hend))

end Curve

/-- Settles O18: the level of a segment is a rounded proportion of its rise, exact at both ends and monotone, and the
breakpoints of a valid curve chain the segments together. -/
theorem curveLevels : Obligations.CurveLevels := by
  intro cv h v hv
  refine ⟨curveLevel_of_last_le, fun hlast => ?segment, fun i hlo hhi => ?within, curveLevel_breakpoint h, ?least, ?most,
    fun u => curveLevel_mono h hv⟩
  case segment =>
    obtain ⟨i, hi⟩ := exists_inSegment h hv hlast
    exact ⟨i, hi, fun j hj => InSegment.unique h hj hi⟩
  case within =>
    have hi : InSegment cv i v := ⟨hlo, hhi⟩
    have hwidth : (0 : Int) < (cv[i.succ].v : Int) - cv[i.castSucc].v := by have := (curve_step h i).1; omega
    have hformula := curveLevel_of_inSegment h hi
    obtain ⟨hmin, hmax⟩ := curveLevel_mem_of_inSegment h hi
    refine ⟨hformula, hmin, hmax, ?_⟩
    rw [hformula, segmentLevel_eq, add_sub_cancel_left]
    exact roundDiv_nearest _ hwidth
  case least => exact (curve_level_mem h 0).1.trans (first_le_curveLevel h hv)
  case most => exact (curveLevel_le_last h hv).trans (curve_level_mem h 7).2

/-! ### Spans (R32) -/

theorem fractionsValid_iff (fOn fRel fRa fSt : Nat) : fractionsValid fOn fRel fRa fSt = true ↔
    16 ≤ fOn ∧ fOn + 16 ≤ fRel ∧ fRel + 16 ≤ fRa ∧ fRa + 16 ≤ fSt ∧ fSt ≤ 240 := by
  simp [fractionsValid, and_assoc]

/-- The span of a lawful dip, between two fractions whose distance is bounded. -/
theorem spanBetween_mem {d fLo fHi : Nat} {least most : Int} (hd : 8000 ≤ (d : Int)) (hd' : (d : Int) ≤ 12000)
    (hpos : 0 ≤ least) (hleast : least ≤ (fHi : Int) - fLo) (hmost : (fHi : Int) - fLo ≤ most) :
    8000 * least / 256 ≤ spanBetween d fLo fHi ∧ spanBetween d fLo fHi ≤ 12000 * most / 256 := by
  rw [spanBetween, floorDiv_eq_ediv _ (by decide)]
  exact ⟨Int.ediv_le_ediv (by decide) (Int.mul_le_mul hd hleast hpos (by omega)),
    Int.ediv_le_ediv (by decide) (Int.mul_le_mul hd' hmost (by omega) (by decide))⟩

theorem spanBetween_of_no_dip {d : Nat} (hd : (d : Int) = 0) (fLo fHi : Nat) : spanBetween d fLo fHi = 0 := by
  simp [spanBetween, floorDiv, hd]

/-! ### Travel time and speed (R33, R34) -/

theorem travelTime_eq (ta tb : Time) : travelTime ta tb =
    max 250 (min 250000 (if 2147483648 ≤ (tb - ta).toNat then 250000 else (tb - ta).toNat)) := by
  rw [travelTime, clampNat_eq_max_min _ (by decide)]
  simp only [elapsed, Config.tooOld, ← not_le, ite_not]

theorem travelTime_mem (ta tb : Time) : 250 ≤ travelTime ta tb ∧ travelTime ta tb ≤ 250000 :=
  clampNat_mem _ (by decide)

theorem travelTime_of_short {ta tb : Time} (h : (tb - ta).toNat ≤ 250) : travelTime ta tb = 250 := by
  rw [travelTime_eq, if_neg (by omega)]
  omega

theorem travelTime_of_long {ta tb : Time} (h : 250000 < (tb - ta).toNat) : travelTime ta tb = 250000 := by
  rw [travelTime_eq]
  split <;> omega

theorem travelTime_self (t : Time) : travelTime t t = 250 := travelTime_of_short (by simp)

theorem travelTime_shift (ta tb u : Time) : travelTime (ta + u) (tb + u) = travelTime ta tb := by
  have hdiff : tb + u - (ta + u) = tb - ta := add_sub_add_right_eq_sub tb ta u
  rw [travelTime_eq, travelTime_eq, hdiff]

theorem speedOf_eq (span : Int) (time : Nat) :
    speedOf span time = max 0 (min 4000 (Int.fdiv (span * 1000) time)) := clamp_eq_max_min _ (by decide)

@[simp] theorem speedOf_no_span (time : Nat) : speedOf 0 time = 0 := by simp [speedOf_eq]

/-- With a travel time of 250 µs or more, a speed is at most four times the span. -/
theorem floorDiv_speed_le {span : Int} (h : 0 ≤ span) {time : Nat} (ht : 250 ≤ time) :
    floorDiv (span * 1000) time ≤ 4 * span := by
  rw [floorDiv_eq_ediv _ (Int.natCast_nonneg time)]
  refine Int.ediv_le_of_le_mul (by omega) ?_
  calc span * 1000 = 4 * span * 250 := by ring
    _ ≤ 4 * span * time := Int.mul_le_mul_of_nonneg_left (by omega) (by omega)

/-! ### The levels of a strike and of a release (R37, R38) -/

/-- The level of a strike over a given span: steps 2 to 6 (R34 to R37). -/
def strikeLevelOver (w : WorkingCopy) (k : KeyIx) (span : Int) (time : Nat) (on : Bool) : Nat :=
  (clamp 1 127 (unaCordaLevel (trimLevel (curveLevel w.curve (speedOf span time)) w.keys[k].g) on)).toNat

theorem strikeLevel_fresh (w : WorkingCopy) (k : KeyIx) (ta tb : Time) (on : Bool) : strikeLevel w k .fresh ta tb on =
    strikeLevelOver w k (spanBetween w.keys[k].d w.touch.fOn w.touch.fSt) (travelTime ta tb) on := rfl

theorem strikeLevel_short (w : WorkingCopy) (k : KeyIx) (ta tb : Time) (on : Bool) : strikeLevel w k .short ta tb on =
    strikeLevelOver w k (spanBetween w.keys[k].d w.touch.fRa w.touch.fSt) (travelTime ta tb) on := rfl

theorem strikeLevelOver_eq (w : WorkingCopy) (k : KeyIx) (span : Int) (time : Nat) (on : Bool) :
    strikeLevelOver w k span time on =
      (max 1 (min 127 (unaCordaLevel (trimLevel (curveLevel w.curve (speedOf span time)) w.keys[k].g) on))).toNat := by
  rw [strikeLevelOver, clamp_eq_max_min _ (by decide)]

theorem releaseLevel_eq (w : WorkingCopy) (k : KeyIx) (tUp tOff : Time) :
    (releaseLevel w k tUp tOff : Int) = max 1 (min 127 (floorDiv
      (speedOf (spanBetween w.keys[k].d w.touch.fRel w.touch.fRa) (travelTime tUp tOff) + 8) 16)) := by
  rw [releaseLevel, clamp_eq_max_min _ (by decide)]
  exact Int.toNat_of_nonneg (by omega)

/-- Settles O17: each level is its span, taken through the travel time, the speed and the clamps; the bounds come from the
extremes of a lawful dip and of valid fractions. -/
theorem touchLevels : Obligations.TouchLevels := by
  refine ⟨fun w k ta tb on => ?spans, fun ta tb span => ?times, fun w k tUp tOff => ?releases⟩
  case spans =>
    refine ⟨?fresh, ?short, rfl, fun hf hd hd' => ?bounds, fun ht hd => ?defaults, fun hd hc => ?noDip⟩
    case fresh => rw [strikeLevel_fresh, strikeLevelOver_eq]; rfl
    case short => rw [strikeLevel_short, strikeLevelOver_eq]; rfl
    case bounds =>
      obtain ⟨hOn, hRel, hRa, hSt, hmost⟩ := (fractionsValid_iff _ _ _ _).mp hf
      have hwhole := spanBetween_mem (fLo := w.touch.fOn) (fHi := w.touch.fSt) (least := 48) (most := 224) hd hd'
        (by decide) (by omega) (by omega)
      have hshort := spanBetween_mem (fLo := w.touch.fRa) (fHi := w.touch.fSt) (least := 16) (most := 192) hd hd'
        (by decide) (by omega) (by omega)
      have hrelease := spanBetween_mem (fLo := w.touch.fRel) (fHi := w.touch.fRa) (least := 16) (most := 192) hd hd'
        (by decide) (by omega) (by omega)
      exact ⟨hwhole.1, hwhole.2, hshort.1, hshort.2, hrelease.1, hrelease.2⟩
    case defaults => rw [ht, hd]; decide
    case noDip =>
      have hwhole := spanBetween_of_no_dip hd w.touch.fOn w.touch.fSt
      have hshort := spanBetween_of_no_dip hd w.touch.fRa w.touch.fSt
      have hspeed (span : Int) (h : span = 0) : speedOf span (travelTime ta tb) = 0 := by rw [h, speedOf_no_span]
      have hzero := curveLevel_breakpoint hc 0
      rw [curve_first_speed hc] at hzero
      exact ⟨hwhole, hshort, hspeed _ hwhole, hspeed _ hshort, hzero, fun v hv => first_le_curveLevel hc hv⟩
  case times =>
    obtain ⟨hmin, hmax⟩ := travelTime_mem ta tb
    refine ⟨?time, hmin, hmax, fun h => travelTime_of_short (by omega), travelTime_of_long, travelTime_shift ta tb, ?level,
      speedOf_eq span _, fun h => floorDiv_speed_le h hmin, by decide, fun hs hd => ?fastest, fun cv hc => ?curveEnd⟩
    case time => simp only [travelTime, clampNat, elapsed, Config.tooOld, ← not_le, ite_not]
    case level =>
      intro w k stroke on
      cases stroke with
      | fresh => rw [strikeLevel_fresh, strikeLevelOver_eq]; rfl
      | short => rw [strikeLevel_short, strikeLevelOver_eq]; rfl
    case fastest =>
      rw [travelTime_of_short hd, speedOf_eq, Int.fdiv_eq_ediv_of_nonneg _ (by decide)]
      omega
    case curveEnd =>
      have hlast := curve_last_speed_le hc
      exact ⟨hlast, curveLevel_of_last_le hlast⟩
  case releases =>
    intro diff time span v
    have htime : travelTime tUp tOff = time := travelTime_eq tUp tOff
    have hspeed : speedOf span time = v := speedOf_eq span time
    have hlevel : (releaseLevel w k tUp tOff : Int) = max 1 (min 127 (Int.fdiv (v + 8) 16)) := by
      rw [← hspeed, ← htime]; exact releaseLevel_eq w k tUp tOff
    obtain ⟨hlow, hhigh⟩ : -16 ≤ 2 * (v - 16 * Int.fdiv (v + 8) 16) ∧ 2 * (v - 16 * Int.fdiv (v + 8) 16) < 16 :=
      roundDiv_nearest v (w := 16) (by decide)
    have hv : 0 ≤ v := le_max_left 0 _
    have hself (h : tUp = tOff) : time = 250 := by rw [← htime, h, travelTime_self]
    refine ⟨hlevel, fun h => by omega, fun h => by omega, by omega, by omega, hself, fun h hcal ht => ?_⟩
    have hspan : span = 1992 := by simp only [span, hcal, ht]; decide
    have hquot : Int.fdiv (span * 1000) time = 7968 := by rw [hspan, hself h]; decide
    have hfull : v = 4000 := by simp only [v, hquot]; decide
    exact ⟨hspan, hquot, hfull, by omega⟩

/-! ### SELECT_CURVE (R41) -/

theorem State.selectCurve_of_no_commit {s : State} (h : s.commit = none) (n : Nat) : s.selectCurve n =
    if n = s.cal.activeCurve then s else { s with saved := false, cal := { s.cal with activeCurve := n } } := by
  simp only [State.selectCurve, eq_comm (a := n), State.calChanged, h, Option.map_none]

theorem execSelectCurve_eq {t : Time} {l : Link} {p : List Byte} {s : State} (h : s.receiving l = true)
    (hp : p.length ≤ 60) : execSelectCurve t l p s = .next ((s.stamp t).outcome l 0x54 p
      [s.beforeHeld, s.noSeat l, lengthNot p 1, (decide (3 < byteAt p 0), .badValue), s.commitBusy]
      ((s.stamp t).selectCurve (byteAt p 0)) (u1 (byteAt p 0))) :=
  State.request_outcome h hp rfl

theorem releaseLevel_activeCurve (w : WorkingCopy) (n : Nat) (k : KeyIx) (tUp tOff : Time) :
    releaseLevel { w with activeCurve := n } k tUp tOff = releaseLevel w k tUp tOff := rfl

theorem WorkingCopy.curve_activeCurve (w : WorkingCopy) (n : Fin 4) :
    WorkingCopy.curve { w with activeCurve := n.val } = w.curves[n] := dif_pos n.isLt

/-- Settles O19: the effect is read where every check passes, so where no commit is in progress. -/
theorem selectCurve : Obligations.SelectCurve := by
  intro t l p s h hp
  refine ⟨?_, releaseLevel_activeCurve, WorkingCopy.curve_activeCurve⟩
  refine (execSelectCurve_eq h hp).trans (congrArg _ (State.outcome_congr rfl fun hpass => ⟨?_, rfl⟩))
  have hbusy : s.commit.isSome = false := (firstFailing_eq_none _).mp hpass (s.commit.isSome, .busy) (by simp)
  exact State.selectCurve_of_no_commit (s := s.stamp t) (by simpa using hbusy) (byteAt p 0)

end Sys2Proof.Machine
end

section
/-! PANIC (R107): every voice is damped, damping frees it within 33 envelope steps (R104, R105), and a note-off finds none held. -/

namespace Sys2Proof.Machine

/-! ### The request -/

/-- An outcome whose first failing check is known refuses with that check's status. -/
theorem State.outcome_refused {s e : State} {l : Link} {code : Nat} {p payload : List Byte}
    {checks : List (Bool × Status)} {status : Status} (h : firstFailing checks = some status) :
    s.outcome l code p checks e payload = s.denied l code p status := by
  simp only [State.outcome, h]

theorem execPanic_eq {t : Time} {l : Link} {p : List Byte} {s : State} (h : s.receiving l = true)
    (hp : p.length ≤ 60) : execPanic t l p s = .next ((s.stamp t).outcome l 0x22 p
      [s.beforeRunning, lengthNot p 0] ((s.stamp t).mapVoices Voice.damp) (u1 s.voicesUsed)) :=
  State.request_outcome h hp rfl

/-- Before RUNNING comes first of PANIC's two checks, whatever the payload. -/
theorem execPanic_notReady {t : Time} {l : Link} {p : List Byte} {s : State} (h : s.receiving l = true)
    (hp : p.length ≤ 60) (hr : s.running = false) :
    execPanic t l p s = .next ((s.stamp t).denied l 0x22 p .notReady) := by
  have hfail : firstFailing [s.beforeRunning, lengthNot p 0] = some .notReady := by
    simp [State.beforeRunning, firstFailing_cons, hr]
  rw [execPanic_eq h hp, State.outcome_refused hfail]

theorem execPanic_badLength {t : Time} {l : Link} {p : List Byte} {s : State} (h : s.receiving l = true)
    (hp : p.length ≤ 60) (hr : s.running = true) (hne : p ≠ []) :
    execPanic t l p s = .next ((s.stamp t).denied l 0x22 p .badLength) := by
  have hfail : firstFailing [s.beforeRunning, lengthNot p 0] = some .badLength := by
    simp [State.beforeRunning, lengthNot, firstFailing_cons, hr, hne]
  rw [execPanic_eq h hp, State.outcome_refused hfail]

theorem State.mapVoices_eq_tableOf (s : State) (f : Voice → Voice) :
    s.mapVoices f = { s with voices := tableOf (fun i => (s.voice i).map f) } :=
  congrArg (fun table => { s with voices := table }) (tableOf_eq_tableMap (Option.map f) s.voices).symm

/-- The count of the voices out of FREE, taken over the indices of the table. -/
theorem State.voicesUsed_eq (s : State) :
    s.voicesUsed = ((List.finRange 48).filter (fun i => (s.voice i).isSome)).length := by
  rw [State.voicesUsed, toList_eq_map, List.filter_map, List.length_map]
  rfl

/-- PANIC taken in RUNNING with no payload: every voice is damped, and the reply counts them. -/
theorem execPanic_taken {t : Time} {l : Link} {s : State} (h : s.receiving l = true) (hr : s.running = true) :
    execPanic t l [] s = .next (State.replied
      { s with now := t, voices := tableOf (fun i => (s.voice i).map Voice.damp) } l 0x22 []
      (u1 ((List.finRange 48).filter (fun i => (s.voice i).isSome)).length)) := by
  have hpass : ∀ x ∈ [s.beforeRunning, lengthNot [] 0], x.1 = false := by simp [State.beforeRunning, lengthNot, hr]
  rw [execPanic_eq h (by simp), State.outcome_passed hpass, State.mapVoices_eq_tableOf, State.voicesUsed_eq]
  rfl

/-! ### The envelope of a damped voice -/

theorem envelopeRate_damping {v : Voice} (h : v.state = .damping) (d : Nat) : envelopeRate v d = 16384 := by
  simp only [envelopeRate, h]

/-- The envelope of a damping voice after one step. -/
def dampingStep (e : Nat) : Nat := stepEnvelope e 16384

/-- A damping voice that a step does not free keeps all but its envelope, which is not at 0. -/
theorem stepVoice_damping {damper : Group → Nat} {v w : Voice} (hv : v.state = .damping)
    (h : stepVoice damper (some v) = some w) : w = { v with env := dampingStep v.env } ∧ w.env ≠ 0 := by
  obtain hfree | ⟨e, hne, he, hstep⟩ := stepVoice_some damper v
  · cases hfree.symm.trans h
  · cases hstep.symm.trans h
    rw [envelopeRate_damping hv] at he
    exact ⟨by rw [he, dampingStep], hne⟩

/-- A damping voice still out of FREE after some steps: only its envelope has moved, and the last step left it above 0. -/
theorem iterate_stepVoice_damping {damper : Group → Nat} {v : Voice} (hv : v.state = .damping) {n : Nat} {w : Voice}
    (h : (stepVoice damper)^[n] (some v) = some w) :
    w = { v with env := dampingStep^[n] v.env } ∧ (n ≠ 0 → w.env ≠ 0) := by
  induction n generalizing w with
  | zero => exact ⟨(Option.some.inj h).symm, fun hn => absurd rfl hn⟩
  | succ n ih =>
    rw [Function.iterate_succ_apply'] at h ⊢
    cases hprev : (stepVoice damper)^[n] (some v) with
    | none => rw [hprev] at h; cases h
    | some u =>
      rw [hprev] at h
      obtain ⟨rfl, -⟩ := ih hprev
      obtain ⟨hw, hne⟩ := stepVoice_damping (v := { v with env := dampingStep^[n] v.env }) hv h
      exact ⟨hw, fun _ => hne⟩

/-- At the damping rate a higher envelope stays at least as high. -/
theorem dampingStep_monotone : Monotone dampingStep := by
  intro a b hab
  simp only [dampingStep, stepEnvelope]
  omega

/-- A full envelope, and so any envelope, is at 0 after 33 steps at the damping rate. -/
theorem iterate_dampingStep {e : Nat} (he : e ≤ 32767) : dampingStep^[33] e = 0 :=
  Nat.le_zero.mp <| calc
    dampingStep^[33] e ≤ dampingStep^[33] 32767 := dampingStep_monotone.iterate 33 he
    _ = 0 := rfl

/-- A damping voice is FREE after 33 envelope steps: still out of it, its envelope would be both 0 and above 0. -/
theorem damping_freed {damper : Group → Nat} {v : Voice} (hv : v.state = .damping) (he : v.env ≤ 32767) :
    (stepVoice damper)^[33] (some v) = none := by
  rw [Option.eq_none_iff_forall_ne_some]
  intro w h
  obtain ⟨rfl, hne⟩ := iterate_stepVoice_damping hv h
  exact hne (by decide) (iterate_dampingStep he)

/-! ### The note-off that finds no held voice -/

theorem State.mapVoices_eq_self {s : State} {f : Voice → Voice}
    (h : ∀ (i : VoiceIx) (v : Voice), s.voice i = some v → f v = v) : s.mapVoices f = s := by
  have htable : (s.mapVoices f).voices = s.voices := table_ext fun i => by
    change (s.mapVoices f).voice i = s.voice i
    rw [State.voice_mapVoices]
    cases hv : s.voice i with
    | none => rfl
    | some v => rw [Option.map_some, h i v hv]
  exact congrArg (fun table => { s with voices := table }) htable

/-- A note-off changes only the held voices of its source and key. -/
theorem State.noteOff_eq_self {s : State} {src : Source} {k : KeyIx} (level : Nat)
    (h : ∀ (i : VoiceIx) (v : Voice), s.voice i = some v → v.source = src → v.key = k → v.held = false) :
    s.noteOff src k level = s := by
  refine State.mapVoices_eq_self fun i v hv => if_neg fun hr => ?_
  obtain ⟨⟨hheld, hsrc⟩, hkey⟩ : (v.held = true ∧ v.source = src) ∧ v.key = k := by simpa [Voice.reachedBy] using hr
  simp [h i v hv hsrc hkey] at hheld

theorem State.voice_damped_not_held {s : State} {i : VoiceIx} {v : Voice}
    (h : (s.mapVoices Voice.damp).voice i = some v) : v.held = false := by
  rw [State.voice_mapVoices] at h
  obtain ⟨_, -, rfl⟩ := Option.map_eq_some_iff.mp h
  rfl

/-- Settles O28: its request by the first of two checks that fails, its envelopes by `damping_freed`, its note-offs by
`State.noteOff_eq_self`. -/
theorem panic : Obligations.Panic := by
  refine ⟨fun t l p s h hp => ⟨?taken, fun hr _ => execPanic_notReady h hp hr, execPanic_badLength h hp,
      fun hr _ => ⟨.notReady, execPanic_notReady h hp hr, .inl rfl⟩⟩,
    fun damper v hv he => ⟨damping_freed hv he, ?stays⟩, fun s src k level => State.noteOff_eq_self level, ?damped⟩
  case taken =>
    rintro hr rfl
    exact execPanic_taken h hr
  case stays =>
    intro n w h
    obtain ⟨rfl, -⟩ := iterate_stepVoice_damping hv h
    exact hv
  case damped =>
    intro s src k level
    exact State.noteOff_eq_self level fun _ _ h _ _ => State.voice_damped_not_held h

end Sys2Proof.Machine
end

section
/-! SET_TEMPO and SET_SCALE (R138): the two requests, the clock's rate from its next step, and the values after either reset. -/

namespace Sys2Proof.Machine

/-! ### The requests -/

theorem execSetTempo_eq {t : Time} {l : Link} {p : List Byte} {s : State} (h : s.receiving l = true)
    (hp : p.length ≤ 60) : execSetTempo t l p s = .next ((s.stamp t).outcome l 0x35 p
      [s.beforeRunning, lengthNot p 2]
      { s with now := t, transport := { s.transport with tempo := clampNat 200 3000 (be2At p 0) } }
      (u2 (clampNat 200 3000 (be2At p 0)))) :=
  State.request_outcome h hp rfl

theorem execSetScale_eq {t : Time} {l : Link} {p : List Byte} {s : State} (h : s.receiving l = true)
    (hp : p.length ≤ 60) : execSetScale t l p s = .next ((s.stamp t).outcome l 0x36 p
      [s.beforeRunning, lengthNot p 1]
      { s with now := t, transport := { s.transport with scale := clampNat 25 200 (byteAt p 0) } }
      (u1 (clampNat 25 200 (byteAt p 0)))) :=
  State.request_outcome h hp rfl

/-! ### The clock -/

/-- A clock step whose accumulator stays below the tick unit passes no tick: it adds to the accumulator alone (R137). -/
theorem State.clockStep_below_unit {s : State} (hruns : s.transport.state.clockRuns = true)
    (hbelow : s.transport.acc + 1000 * s.transport.tempo * s.transport.scale < 125000000) :
    s.clockStep = s.setTransport
      { s.transport with acc := s.transport.acc + 1000 * s.transport.tempo * s.transport.scale } := by
  simp only [State.clockStep, Config.tickUnit, hruns, if_true, Nat.mod_eq_of_lt hbelow, Nat.div_eq_of_lt hbelow, State.ticks]

/-! ### The resets -/

/-- The transport after either reset is that of power-on, over the tracks the reset leaves (R136, R167). -/
theorem State.resetBlocks_transport (s : State) (kind : ResetKind) (straps : Straps) (tracks : Vector Track 4)
    (store : TakeStoreOutcome) : (s.resetBlocks kind straps tracks store).transport = resetTransport tracks := by
  rw [State.resetBlocks, State.judgeLed_frame]

/-- Settles O34: the requests by their clamps, the rate by a step that passes no tick, the defaults by `resetTransport`. -/
theorem tempoAndScale : Obligations.TempoAndScale := by
  refine ⟨fun t l p s h hp => ⟨?tempo, ?scale⟩, ?rate, ?powerOn, ?warm⟩
  case tempo =>
    have hclamp := clampNat_eq_max_min (lo := 200) (hi := 3000) (be2At p 0) (by decide)
    exact hclamp ▸ execSetTempo_eq h hp
  case scale =>
    have hclamp := clampNat_eq_max_min (lo := 25) (hi := 200) (byteAt p 0) (by decide)
    exact hclamp ▸ execSetScale_eq h hp
  case rate =>
    rintro t s _ hruns hbelow ⟨⟩
    exact congrArg (fun x : State => x.transport.acc) (State.clockStep_below_unit (s := s.stamp t) hruns hbelow)
  case powerOn =>
    rintro t b s _ ⟨⟩
    rw [State.powerOn, State.resetBlocks_transport]
    exact ⟨rfl, rfl⟩
  case warm =>
    rintro t x s _ ⟨⟩
    rw [State.warm, State.resetBlocks_transport]
    exact ⟨rfl, rfl⟩

end Sys2Proof.Machine
end

section
/-! The WAIT records that bridge a gap (R135): their number, and the records a live event and a load add to their track. -/

namespace Sys2Proof.Machine

/-! ### The number of WAIT records -/

theorem gapWaits_eq (g : Nat) : gapWaits g = (g - 1) / 65535 := rfl

/-- The WAIT records leave a gap's rest between 1 and the greatest delta. -/
theorem gapRest_mem {g : Nat} (h : 1 ≤ g) : 1 ≤ g - gapWaits g * 65535 ∧ g - gapWaits g * 65535 ≤ 65535 := by
  rw [gapWaits_eq]
  omega

theorem gapWaits_of_le {g : Nat} (h : g ≤ 65535) : gapWaits g = 0 := by
  rw [gapWaits_eq]
  omega

/-! ### The records added -/

/-- The records that bring an event over a gap: its WAIT records, and its own record after the gap's rest. -/
def bridged (gap : Nat) (body : TakeBody) : List TakeRec :=
  waitRecs (gapWaits gap) ++ [{ body := body, delta := gap - gapWaits gap * 65535 }]

/-- A live event in RECORDING with room for its records: they end the recorded track, and the event's position becomes the
last (R154). -/
theorem State.recordEvent_fits {s : State} {r : Recording} (body : TakeBody) (hstate : s.transport.state = .recording)
    (hrec : s.transport.recording = some r)
    (hfits : gapWaits (s.transport.position - r.lastPos).toNat + 1 ≤ s.freeSlots) :
    s.recordEvent body = s.setTransport { s.transport with
      tracks := tablePut s.transport.tracks r.track { s.track r.track with
        recs := (s.track r.track).recs ++ bridged (s.transport.position - r.lastPos).toNat body }
      recording := some { r with lastPos := s.transport.position } } := by
  have hpos : (if s.transport.state = .countIn then 0 else s.transport.position) = s.transport.position :=
    if_neg (by simp [hstate])
  rw [State.recordEvent, hrec]
  simp only [hpos]
  rw [if_pos hfits, List.append_assoc]
  rfl

/-- Records that fit are added to their track as the load supplies them (R162). -/
theorem State.appendLoad_fits {s : State} (i : TrackIx) {rs : List TakeRec} (h : rs.length ≤ s.freeSlots) :
    (s.appendLoad i rs).1 = s.setTrack i { s.track i with recs := (s.track i).recs ++ rs } := by
  rw [State.appendLoad, if_pos h]

/-- Settles O38: the gap's figures by division, the recorded track by `State.recordEvent_fits`. -/
theorem gapsAreBridged : Obligations.GapsAreBridged := by
  refine ⟨fun g hg => ⟨gapWaits_eq g, gapRest_mem (by omega)⟩, fun _ => gapWaits_of_le, by decide, by decide, by decide,
    by decide, ?recorded, ?loaded⟩
  case recorded =>
    intro s r body hstate hrec gap hfits
    rw [State.recordEvent_fits body hstate hrec hfits]
    refine ⟨?_, rfl⟩
    have hrecs (x : Track) : (tablePut s.transport.tracks r.track x)[r.track] = x := by
      rw [tablePut_get, if_pos rfl]
    exact (congrArg Track.recs (hrecs _)).trans (List.append_assoc ..).symm
  case loaded =>
    intro s i rs h
    rw [State.appendLoad_fits i h, State.track_setTrack, if_pos rfl]

end Sys2Proof.Machine
end

section
/-! RELAY (R183): its request, and what any append does to each link by the view it has (R176). -/

namespace Sys2Proof.Machine

/-! ### Each link after an append -/

theorem State.unread_of_present {s : State} {l : Link} {c g : Nat} (h : (s.link l).view = .present c g) :
    s.unread l = s.journal.length - c := by
  rw [State.unread, h, unreadOf]

/-- A present link's cursor stands in the ring. -/
theorem JournalLaw.cursor_le {s : State} {l : Link} {c g : Nat} (hlaw : JournalLaw s)
    (h : (s.link l).view = .present c g) : c ≤ s.journal.length := by
  obtain ⟨-, hviews, -⟩ := hlaw
  have hview := hviews l
  rw [h] at hview
  exact hview.1

theorem State.append_link_frame (s : State) (b : JournalBody) (t : Time) (l : Link) :
    (s.append b t).link l =
      { s.link l with view := ((s.append b t).link l).view, latched := ((s.append b t).link l).latched } := by
  rw [State.append_link]
  exact LinkRec.onAppend_frame _ _

theorem State.append_view_of_absent {s : State} {l : Link} {n : Nat} (b : JournalBody) (t : Time)
    (h : (s.link l).view = .absent n) : ((s.append b t).link l).view = .absent (min 255 (n + 1)) := by
  rw [State.append_link, LinkRec.onAppend_view, h]

theorem State.append_view_of_room {s : State} {l : Link} {c g : Nat} (b : JournalBody) (t : Time)
    (h : (s.link l).view = .present c g) (hroom : s.journal.length < 512) :
    ((s.append b t).link l).view = .present c g := by
  rw [State.append_link, LinkRec.onAppend_view, h, decide_eq_false (Nat.not_le.mpr hroom)]
  rfl

/-- A full ring moves each cursor that was past its oldest record one place back. -/
theorem State.append_view_of_kept {s : State} {l : Link} {c g : Nat} (b : JournalBody) (t : Time)
    (h : (s.link l).view = .present (c + 1) g) (hfull : s.journal.length = 512) :
    ((s.append b t).link l).view = .present c g := by
  rw [State.append_link, LinkRec.onAppend_view, h, decide_eq_true hfull.ge]
  rfl

theorem State.append_view_of_lost {s : State} {l : Link} {g : Nat} (b : JournalBody) (t : Time)
    (h : (s.link l).view = .present 0 g) (hfull : s.journal.length = 512) :
    ((s.append b t).link l).view = .present 0 (min 255 (g + 1)) := by
  rw [State.append_link, LinkRec.onAppend_view, h, decide_eq_true hfull.ge]
  rfl

theorem State.append_unread_of_room {s : State} {l : Link} {c g : Nat} (b : JournalBody) (t : Time)
    (h : (s.link l).view = .present c g) (hc : c ≤ s.journal.length) (hroom : s.journal.length < 512) :
    (s.append b t).unread l = s.unread l + 1 := by
  rw [State.unread_of_present (State.append_view_of_room b t h hroom), State.unread_of_present h,
    State.append_ring_length s b t hroom.le]
  omega

theorem State.append_unread_of_kept {s : State} {l : Link} {c g : Nat} (b : JournalBody) (t : Time)
    (h : (s.link l).view = .present (c + 1) g) (hc : c + 1 ≤ s.journal.length) (hfull : s.journal.length = 512) :
    (s.append b t).unread l = s.unread l + 1 := by
  rw [State.unread_of_present (State.append_view_of_kept b t h hfull), State.unread_of_present h,
    State.append_ring_length s b t hfull.le]
  omega

theorem State.append_unread_of_lost {s : State} {l : Link} {g : Nat} (b : JournalBody) (t : Time)
    (h : (s.link l).view = .present 0 g) (hfull : s.journal.length = 512) : (s.append b t).unread l = 512 := by
  rw [State.unread_of_present (State.append_view_of_lost b t h hfull), State.append_ring_length s b t hfull.le]
  omega

/-- An append raises GAP on a link that had not read the record a full ring loses (R176). -/
theorem State.append_latched_of_lost {s : State} {l : Link} (b : JournalBody) (t : Time)
    (hfull : s.journal.length = 512) (hlost : (s.link l).view.losesRecord = true) :
    ((s.append b t).link l).latched = (s.link l).latched ||| Condition.gap.mask := by
  rw [State.append_link, LinkRec.onAppend_latched, if_pos ⟨decide_eq_true hfull.ge, hlost⟩]

theorem State.append_latched_of_room {s : State} (l : Link) (b : JournalBody) (t : Time)
    (hroom : s.journal.length < 512) : ((s.append b t).link l).latched = (s.link l).latched := by
  rw [State.append_link, LinkRec.onAppend_latched, if_neg fun h => Nat.not_le.mpr hroom (of_decide_eq_true h.1)]

theorem State.append_latched_of_kept {s : State} {l : Link} (b : JournalBody) (t : Time)
    (hkept : (s.link l).view.losesRecord = false) : ((s.append b t).link l).latched = (s.link l).latched := by
  rw [State.append_link, LinkRec.onAppend_latched, if_neg fun h => Bool.eq_false_iff.mp hkept h.2]

/-- The JOURNAL condition (R184) after an append: presence and watermark are those before it. -/
theorem State.append_journalCondition_iff (s : State) (b : JournalBody) (t : Time) (l : Link) :
    (s.append b t).journalCondition l = true ↔
      s.linkPresent l = true ∧ (s.link l).watermark ≤ (s.append b t).unread l := by
  rw [State.journalCondition, State.append_linkPresent, State.append_link_frame, Bool.and_eq_true, decide_eq_true_eq]

/-! ### The request -/

theorem execRelay_eq {t : Time} {l : Link} {p : List Byte} {s : State} (h : s.receiving l = true)
    (hp : p.length ≤ 60) : execRelay t l p s = .next ((s.stamp t).outcome l 0x11 p
      [s.beforeRunning, lengthNot p 3, (!s.linkPresent l, .wrongState)] ((s.stamp t).relayed l p)
      (timeField t ++ u2 (((s.stamp t).relayed l p).unread l))) :=
  State.request_outcome h hp rfl

/-- Settles O41: the request by its checks, each link by its view and the room of the ring at the append. -/
theorem relay : Obligations.Relay := by
  intro t l p s h hp hlaw
  refine ⟨(s.stamp t).relayed l p, execRelay_eq h hp, rfl, State.append_ring _ _ _, fun j =>
    ⟨State.append_link_frame _ _ _ j, State.append_journalCondition_iff _ _ _ j, fun n hv => ?absent,
      fun c g hv hroom => ?room, fun c g hv hfull => ?kept, fun g hv hfull => ?lost⟩⟩
  case absent =>
    have hkept : (s.link j).view.losesRecord = false := by rw [hv]; rfl
    exact ⟨State.append_view_of_absent _ _ hv, State.append_latched_of_kept (s := s.stamp t) _ _ hkept⟩
  case room =>
    have hcursor := hlaw.cursor_le hv
    exact ⟨State.append_view_of_room _ _ hv hroom, State.append_unread_of_room (s := s.stamp t) _ _ hv hcursor hroom,
      State.append_latched_of_room (s := s.stamp t) j _ _ hroom⟩
  case kept =>
    have hcursor := hlaw.cursor_le hv
    have hkept : (s.link j).view.losesRecord = false := by rw [hv]; rfl
    exact ⟨State.append_view_of_kept _ _ hv hfull, State.append_unread_of_kept (s := s.stamp t) _ _ hv hcursor hfull,
      State.append_latched_of_kept (s := s.stamp t) _ _ hkept⟩
  case lost =>
    have hlost : (s.link j).view.losesRecord = true := by rw [hv]; rfl
    exact ⟨State.append_view_of_lost _ _ hv hfull, State.append_unread_of_lost (s := s.stamp t) _ _ hv hfull,
      State.append_latched_of_lost (s := s.stamp t) _ _ hfull hlost⟩

end Sys2Proof.Machine
end

section
/-! READ_JOURNAL (R180): its checks, what it returns, and the view, the ring and the other link after it. -/

namespace Sys2Proof.Machine

/-! ### A request refused -/

theorem State.checked_refused {s : State} {checks : List (Bool × Status)} {status : Status} (effect : State × Reply)
    (h : firstFailing checks = some status) : s.checked checks effect = (s, Reply.no status) := by
  obtain ⟨x, hx, rfl⟩ := Option.map_eq_some_iff.mp h
  rw [State.checked, hx]

theorem State.checked_passed {s : State} {checks : List (Bool × Status)} (effect : State × Reply)
    (h : firstFailing checks = none) : s.checked checks effect = effect := by
  rw [State.checked, Option.map_eq_none_iff.mp h]

/-- More than 60 payload bytes are refused by the link unit, whatever the request (R187). -/
theorem State.request_overlong {s : State} {t : Time} {l : Link} {code : Nat} {p : List Byte}
    {rule : State → State × Reply} (h : s.receiving l = true) (hp : 60 < p.length) :
    s.request t l code p rule = .next ((s.stamp t).denied l code p .badLength) := by
  simp only [State.request, State.receiving_stamp, h, if_true, Config.maxPayload, hp, State.denied]

/-! ### What a read returns -/

theorem gapEntry_eq (gap most : Nat) : gapEntry gap most = decide (0 < gap ∧ 1 ≤ most) :=
  (Bool.decide_and _ _).symm

@[simp] theorem State.readRecords_stamp (s : State) (t : Time) (cursor gap most : Nat) :
    (s.stamp t).readRecords cursor gap most = s.readRecords cursor gap most := rfl

theorem State.readRecords_eq (s : State) (cursor gap most : Nat) : s.readRecords cursor gap most =
    (s.journal.drop cursor).take (if gapEntry gap most then most - 1 else most) := by
  rw [State.readRecords]
  cases gapEntry gap most <;> rfl

theorem State.readRecords_length {s : State} {l : Link} {cursor gap : Nat} (most : Nat)
    (h : (s.link l).view = .present cursor gap) : (s.readRecords cursor gap most).length =
      min (if gapEntry gap most then most - 1 else most) (s.unread l) := by
  rw [State.readRecords_eq, List.length_take, List.length_drop, State.unread_of_present h]

theorem JournalRec.bytes_length (r : JournalRec) : r.bytes.length = 8 := rfl

theorem gapBytes_length (count : Nat) (time : Time) : (gapBytes count time).length = 8 := rfl

theorem JournalRec.flatMap_bytes_length (rs : List JournalRec) : (rs.flatMap JournalRec.bytes).length = 8 * rs.length := by
  rw [List.length_flatMap, List.map_congr_left (fun r _ => JournalRec.bytes_length r), List.map_const',
    List.sum_replicate, smul_eq_mul, Nat.mul_comm]

/-- The entries of a read, 8 bytes each, keep to its maximum: the gap's entry takes the place of a record. -/
theorem State.readEntries_length_le (s : State) (cursor gap most : Nat) :
    (s.readEntries cursor gap most).length ≤ 8 * most := by
  rw [State.readEntries, List.length_append, JournalRec.flatMap_bytes_length, State.readRecords_eq]
  have htake := List.length_take_le (if gapEntry gap most then most - 1 else most) (s.journal.drop cursor)
  cases htold : gapEntry gap most with
  | false =>
    simp only [htold, Bool.false_eq_true, if_false, List.length_nil] at htake ⊢
    omega
  | true =>
    have hmost : 1 ≤ most := (of_decide_eq_true ((gapEntry_eq gap most).symm.trans htold)).2
    simp only [htold, if_true, gapBytes_length] at htake ⊢
    omega

/-! ### A view replaced -/

theorem State.setView_link_self (s : State) (l : Link) (v : View) :
    (s.setView l v).link l = { s.link l with view := v } :=
  PerLink.get_put_self _ _ _

theorem State.setView_link_other (s : State) (l : Link) (v : View) :
    (s.setView l v).link (otherLink l) = s.link (otherLink l) :=
  PerLink.get_put_other _ _ _

theorem State.setView_link_frame (s : State) (l : Link) (v : View) (j : Link) :
    (s.setView l v).link j = { s.link j with view := ((s.setView l v).link j).view } := by
  by_cases h : j = l
  · rw [h, State.setView_link_self]
  · have hlink : (s.setView l v).link j = s.link j := (PerLink.get_put _ _ _ _).trans (if_neg h)
    rw [hlink]

/-! ### Removal with a link present (R177) -/

/-- The older of a cursor and of the view's own, where the view has one. -/
def View.olderThan (cursor : Nat) : View → Nat
  | .present c _ => min c cursor
  | .absent _ => cursor

theorem State.oldestCursor_of_present {s : State} {l : Link} {c g : Nat} (h : (s.link l).view = .present c g) :
    s.oldestCursor = some ((s.link (otherLink l)).view.olderThan c) := by
  cases l with
  | a =>
    have ha : s.links.a.view = .present c g := h
    change _ = some (s.links.b.view.olderThan c)
    rw [State.oldestCursor, ha]
    cases s.links.b.view with
    | present d _ => exact congrArg some (Nat.min_comm c d)
    | absent _ => rfl
  | b =>
    have hb : s.links.b.view = .present c g := h
    change _ = some (s.links.a.view.olderThan c)
    rw [State.oldestCursor, hb]
    cases s.links.a.view <;> rfl

theorem State.judgeRemoval_journal_of_present {s : State} {l : Link} {c g : Nat}
    (h : (s.link l).view = .present c g) :
    s.judgeRemoval.journal = s.journal.drop ((s.link (otherLink l)).view.olderThan c) := by
  rw [State.judgeRemoval, State.oldestCursor_of_present h]

/-! ### The state after a read -/

/-- The view of a link that has read: its cursor past the records returned, a gap that was told at 0. -/
def State.readView (s : State) (cursor gap most : Nat) : View :=
  .present (cursor + (s.readRecords cursor gap most).length) (if gapEntry gap most then 0 else gap)

theorem State.readOn_of_none {s : State} {cursor gap most : Nat} (l : Link)
    (h : s.readRecords cursor gap most = []) :
    s.readOn l cursor gap most = s.setView l (s.readView cursor gap most) :=
  if_pos (List.length_eq_zero_iff.mpr h)

theorem State.readOn_of_some {s : State} {cursor gap most : Nat} (l : Link)
    (h : s.readRecords cursor gap most ≠ []) :
    s.readOn l cursor gap most = (s.setView l (s.readView cursor gap most)).judgeRemoval :=
  if_neg (mt List.length_eq_zero_iff.mp h)

/-- A read replaces the reader's view, and judges removal where it returned a record. -/
theorem State.readOn_cases (s : State) (l : Link) (cursor gap most : Nat) :
    s.readOn l cursor gap most = s.setView l (s.readView cursor gap most) ∨
      s.readOn l cursor gap most = (s.setView l (s.readView cursor gap most)).judgeRemoval :=
  (em _).imp (State.readOn_of_none l) (State.readOn_of_some l)

theorem State.readOn_unread (s : State) (l : Link) (cursor gap most : Nat) (j : Link) :
    (s.readOn l cursor gap most).unread j = (s.setView l (s.readView cursor gap most)).unread j := by
  obtain h | h := s.readOn_cases l cursor gap most
  · rw [h]
  · rw [h, State.judgeRemoval_unread]

theorem State.readOn_gapCount (s : State) (l : Link) (cursor gap most : Nat) (j : Link) :
    ((s.readOn l cursor gap most).link j).view.gapCount =
      ((s.setView l (s.readView cursor gap most)).link j).view.gapCount := by
  obtain h | h := s.readOn_cases l cursor gap most
  · rw [h]
  · rw [h, State.judgeRemoval_gapCount]

theorem State.readOn_link_frame (s : State) (l : Link) (cursor gap most : Nat) (j : Link) :
    (s.readOn l cursor gap most).link j =
      { s.link j with view := ((s.readOn l cursor gap most).link j).view } := by
  obtain h | h := s.readOn_cases l cursor gap most
  · rw [h]
    exact State.setView_link_frame _ _ _ _
  · rw [h, State.judgeRemoval_link, State.setView_link_frame]

theorem State.readOn_frame (s : State) (l : Link) (cursor gap most : Nat) :
    s.readOn l cursor gap most =
      { s with
        journal := (s.readOn l cursor gap most).journal
        links := (s.readOn l cursor gap most).links } := by
  obtain h | h := s.readOn_cases l cursor gap most
  · rw [h]
    rfl
  · rw [h]
    exact State.judgeRemoval_frame _

theorem State.readOn_unread_self (s : State) (l : Link) (cursor gap most : Nat) :
    (s.readOn l cursor gap most).unread l =
      s.journal.length - cursor - (s.readRecords cursor gap most).length := by
  have hview : ((s.setView l (s.readView cursor gap most)).link l).view = s.readView cursor gap most := by
    rw [State.setView_link_self]
  rw [State.readOn_unread, State.unread_of_present hview, State.setView_journal, Nat.sub_add_eq]

theorem State.readOn_gapCount_self (s : State) (l : Link) (cursor gap most : Nat) :
    ((s.readOn l cursor gap most).link l).view.gapCount = if gapEntry gap most then 0 else gap := by
  rw [State.readOn_gapCount, State.setView_link_self]
  rfl

theorem State.readOn_unread_other (s : State) (l : Link) (cursor gap most : Nat) :
    (s.readOn l cursor gap most).unread (otherLink l) = s.unread (otherLink l) := by
  rw [State.readOn_unread, State.unread, State.setView_link_other, State.setView_journal, State.unread]

theorem State.readOn_gapCount_other (s : State) (l : Link) (cursor gap most : Nat) :
    ((s.readOn l cursor gap most).link (otherLink l)).view.gapCount = (s.link (otherLink l)).view.gapCount := by
  rw [State.readOn_gapCount, State.setView_link_other]

theorem State.readOn_journal_of_none {s : State} {cursor gap most : Nat} (l : Link)
    (h : s.readRecords cursor gap most = []) : (s.readOn l cursor gap most).journal = s.journal := by
  rw [State.readOn_of_none l h, State.setView_journal]

/-- After a read that returned records, the ring starts at the older of the new cursor and the other link's (R177). -/
theorem State.readOn_journal_of_some {s : State} {cursor gap most : Nat} (l : Link)
    (h : s.readRecords cursor gap most ≠ []) : (s.readOn l cursor gap most).journal = s.journal.drop
      ((s.link (otherLink l)).view.olderThan (cursor + (s.readRecords cursor gap most).length)) := by
  have hview : ((s.setView l (s.readView cursor gap most)).link l).view = s.readView cursor gap most := by
    rw [State.setView_link_self]
  rw [State.readOn_of_some l h, State.judgeRemoval_journal_of_present hview, State.setView_journal,
    State.setView_link_other]

/-! ### The request -/

/-- The checks of READ_JOURNAL that its payload and the phase decide. -/
def State.readChecks (s : State) (p : List Byte) : List (Bool × Status) :=
  [s.beforeRunning, lengthNot p 1, (decide (7 < byteAt p 0), .badValue)]

theorem execReadJournal_refused {t : Time} {l : Link} {p : List Byte} {s : State} {status : Status}
    (h : s.receiving l = true) (hp : p.length ≤ 60) (hfail : firstFailing (s.readChecks p) = some status) :
    execReadJournal t l p s = .next ((s.stamp t).denied l 0x10 p status) := by
  have hrule : ruleReadJournal l p (s.stamp t) = (s.stamp t, Reply.no status) := State.checked_refused _ hfail
  rw [execReadJournal, State.request_taken h hp, hrule, State.denied]

/-- One byte up to 7, in RUNNING, passes the checks. -/
theorem State.readChecks_pass {s : State} {b : Byte} (hr : s.running = true) (hb : b.toNat ≤ 7) :
    firstFailing (s.readChecks [b]) = none := by
  simp [State.readChecks, State.beforeRunning, lengthNot, byteAt, firstFailing_cons, hr, hb]

theorem execReadJournal_absent {t : Time} {l : Link} {b : Byte} {s : State} {n : Nat} (h : s.receiving l = true)
    (hr : s.running = true) (hb : b.toNat ≤ 7) (hv : (s.link l).view = .absent n) :
    execReadJournal t l [b] s = .next ((s.stamp t).denied l 0x10 [b] .wrongState) := by
  have hrule : ruleReadJournal l [b] (s.stamp t) = (s.stamp t, Reply.no .wrongState) := by
    refine (State.checked_passed _ (State.readChecks_pass (s := s.stamp t) hr hb)).trans ?_
    rw [State.link_stamp, hv]
  rw [execReadJournal, State.request_taken h (by simp), hrule, State.denied]

/-- READ_JOURNAL taken: its entries, the unread count and the gap count as the read leaves them. -/
theorem execReadJournal_taken {t : Time} {l : Link} {b : Byte} {s : State} {cursor gap : Nat}
    (h : s.receiving l = true) (hr : s.running = true) (hb : b.toNat ≤ 7)
    (hv : (s.link l).view = .present cursor gap) :
    execReadJournal t l [b] s = .next (((s.stamp t).readOn l cursor gap b.toNat).replied l 0x10 [b]
      ((s.stamp t).readEntries cursor gap b.toNat ++
        u2 (s.journal.length - cursor - (s.readRecords cursor gap b.toNat).length) ++
        u1 (if gapEntry gap b.toNat then 0 else gap))) := by
  have hrule : ruleReadJournal l [b] (s.stamp t) = ((s.stamp t).readOn l cursor gap b.toNat,
      Reply.ok ((s.stamp t).readEntries cursor gap b.toNat ++
        u2 (((s.stamp t).readOn l cursor gap b.toNat).unread l) ++
        u1 (((s.stamp t).readOn l cursor gap b.toNat).link l).view.gapCount)) := by
    refine (State.checked_passed _ (State.readChecks_pass (s := s.stamp t) hr hb)).trans ?_
    rw [State.link_stamp, hv]
    rfl
  rw [execReadJournal, State.request_taken h (by simp), hrule, State.readOn_unread_self, State.readOn_gapCount_self]
  rfl

/-- Settles O42: the refusals by the first check that fails, a read taken by its records and by `State.readOn`'s lemmas. -/
theorem readJournal : Obligations.ReadJournal := by
  refine fun t l s h _ => ⟨fun p hr hp => ?notReady, fun p hr hp => ?badLength, fun b hr hb => ?badValue,
    fun b n hr hb hv => execReadJournal_absent h hr hb hv, ?taken⟩
  case notReady =>
    exact execReadJournal_refused h hp (by simp [State.readChecks, State.beforeRunning, firstFailing_cons, hr])
  case badLength =>
    by_cases hlong : p.length ≤ 60
    · exact execReadJournal_refused h hlong
        (by simp [State.readChecks, State.beforeRunning, lengthNot, firstFailing_cons, hr, hp])
    · exact State.request_overlong h (Nat.not_le.mp hlong)
  case badValue =>
    exact execReadJournal_refused h (by simp)
      (by simp [State.readChecks, State.beforeRunning, lengthNot, byteAt, firstFailing_cons, hr, hb])
  case taken =>
    intro b cursor gap hr hb hv told room records gap' unread entries
    have htold : gapEntry gap b.toNat = told := gapEntry_eq _ _
    have hrecords : s.readRecords cursor gap b.toNat = records := by rw [State.readRecords_eq, htold]
    have hentries : (s.stamp t).readEntries cursor gap b.toNat = entries := by
      rw [State.readEntries, htold]
      exact congrArg (_ ++ List.flatMap _ ·) hrecords
    have hcount : records.length = min room (s.unread l) := by
      rw [← hrecords, State.readRecords_length _ hv, htold]
    have hfit : entries.length ≤ 56 := by
      have := (s.stamp t).readEntries_length_le cursor gap b.toNat
      rw [hentries] at this
      omega
    have htaken := execReadJournal_taken (t := t) h hr hb hv
    have hunread := (s.stamp t).readOn_unread_self l cursor gap b.toNat
    have hgap := (s.stamp t).readOn_gapCount_self l cursor gap b.toNat
    have hleft (hsome : records ≠ []) :=
      State.readOn_journal_of_some (s := s.stamp t) l (fun hnone => hsome (hrecords.symm.trans hnone))
    rw [hentries, hrecords, htold] at htaken
    rw [State.readRecords_stamp, hrecords] at hunread hleft
    rw [htold] at hgap
    exact ⟨hcount, hfit, (s.stamp t).readOn l cursor gap b.toNat, htaken, hunread, hgap,
      fun hnone => State.readOn_journal_of_none (s := s.stamp t) l (hrecords.trans hnone), hleft,
      (s.stamp t).readOn_link_frame l cursor gap b.toNat, (s.stamp t).readOn_unread_other l cursor gap b.toNat,
      (s.stamp t).readOn_gapCount_other l cursor gap b.toNat, (s.stamp t).readOn_frame l cursor gap b.toNat⟩

end Sys2Proof.Machine
end

section
/-! The seat (R199 to R201): what a seat change hands on, and the three seat requests. -/

namespace Sys2Proof.Machine

/-! ### Records told: the ring and the latched conditions -/

/-- At most `n` records are appended, and no latched condition is cleared. -/
structure State.Tells (n : Nat) (s s' : State) : Prop where
  ring : s.journal.length + n ≤ 512 → ∃ more : List JournalRec, more.length ≤ n ∧ s'.journal = s.journal ++ more
  latched : ∀ (l : Link) (i : Nat), (s.link l).latched.getLsbD i = true → (s'.link l).latched.getLsbD i = true

section Tells
variable {a b c : State} {m n : Nat}

/-- What leaves the ring and the links alone tells nothing. -/
theorem State.Tells.of_unchanged (hj : b.journal = a.journal) (hl : b.links = a.links) : a.Tells n b :=
  ⟨fun _ => ⟨[], Nat.zero_le n, by rw [hj, List.append_nil]⟩, fun l i h => by rwa [State.link, hl]⟩

theorem State.Tells.refl (s : State) : s.Tells n s := .of_unchanged rfl rfl

theorem State.Tells.trans (h : a.Tells m b) (g : b.Tells n c) : a.Tells (m + n) c := by
  refine ⟨fun hroom => ?_, fun l i hi => g.latched l i (h.latched l i hi)⟩
  obtain ⟨first, hfirst, hb⟩ := h.ring (by omega)
  have hlength : b.journal.length = a.journal.length + first.length := by rw [hb, List.length_append]
  obtain ⟨rest, hrest, hc⟩ := g.ring (by omega)
  refine ⟨first ++ rest, ?_, by rw [hc, hb, List.append_assoc]⟩
  rw [List.length_append]
  omega

theorem State.Tells.mono (h : a.Tells m b) (hmn : m ≤ n) : a.Tells n b :=
  Nat.add_sub_of_le hmn ▸ h.trans (.refl (n := n - m) b)

end Tells

theorem LinkRec.raise_latched_of_latched {r : LinkRec} {i : Nat} (c : Condition) (h : r.latched.getLsbD i = true) :
    (r.raise c).latched.getLsbD i = true := by
  rw [LinkRec.raise, BitVec.getLsbD_or, h, Bool.true_or]

theorem LinkRec.onAppend_latched_of_latched {r : LinkRec} {i : Nat} (full : Bool) (h : r.latched.getLsbD i = true) :
    (r.onAppend full).latched.getLsbD i = true := by
  rw [LinkRec.onAppend_latched]
  split
  · exact LinkRec.raise_latched_of_latched .gap h
  · exact h

theorem State.report_tells (s : State) (b : JournalBody) (c : Condition) : s.Tells 1 (s.report b c) := by
  refine ⟨fun hroom => ⟨[{ body := b, time := s.now }], le_rfl, ?_⟩, fun l i h => ?_⟩
  · rw [State.report_ring, if_pos (by omega)]
  · rw [State.report, State.raise_link, State.append_link]
    exact LinkRec.raise_latched_of_latched c (LinkRec.onAppend_latched_of_latched _ h)

theorem Condition.mask_bit (c : Condition) : c.mask.getLsbD c.bit = true := by cases c <;> rfl

/-- A reported condition is latched on both links. -/
theorem State.report_latched (s : State) (b : JournalBody) (c : Condition) (l : Link) :
    ((s.report b c).link l).latched.getLsbD c.bit = true := by
  rw [State.report, State.raise_link, LinkRec.raise, BitVec.getLsbD_or, Condition.mask_bit, Bool.or_true]

/-! ### What the rail tells in a chain of entries -/

theorem State.endSegment_tells (s : State) : s.Tells 0 s.endSegment := by
  unfold State.endSegment
  split <;> exact .of_unchanged rfl rfl

theorem State.setRail_tells (s : State) (r : Rail) : s.Tells 0 (s.setRail r) := .of_unchanged rfl rfl

/-- An entry appends its RAIL record. -/
theorem State.enterRail_tells (s : State) (st : RailState) : s.Tells 1 (s.enterRail st) := by
  rw [State.enterRail, State.judgeLed_frame]
  exact ((s.setRail_tells _).trans (State.report_tells _ _ _)).trans (n := 0) (.of_unchanged rfl rfl)

theorem State.beginMove_tells (s : State) (dir : Travel) : s.Tells 1 (s.beginMove dir) :=
  (s.setRail_tells _).trans (State.enterRail_tells (s.startSegment dir) _)

/-- The motor switched off, the counts set, and a state entered. -/
theorem State.endSegment_enterRail_tells (s : State) (r : Rail) (st : RailState) :
    s.Tells 1 ((s.endSegment.setRail r).enterRail st) :=
  (s.endSegment_tells.trans (State.setRail_tells _ r)).trans (State.enterRail_tells _ st)

theorem State.arriveEngaged_tells (s : State) : s.Tells 1 s.arriveEngaged := s.endSegment_enterRail_tells _ _

theorem State.arriveParked_tells (s : State) : s.Tells 1 s.arriveParked := s.endSegment_enterRail_tells _ _

/-- What a rule of a state entered does: an entry, a move begun, an arrival, or a segment of homing or of a cycle. -/
theorem State.railRule_cases {s s' : State} (h : s.railRule = some s') :
    (∃ st, s' = s.enterRail st) ∨ (∃ dir, s' = s.beginMove dir) ∨ s' = s.arriveEngaged ∨ s' = s.arriveParked ∨
      ∃ dir, s' = s.startSegment dir := by
  unfold State.railRule at h
  cases hst : s.rail.state <;>
    simp only [hst, Option.ite_none_right_eq_some, Option.ite_none_left_eq_some, Option.some.injEq, reduceCtorEq] at h
  all_goals obtain ⟨-, rfl⟩ := h
  case parked | engaged => exact .inl ⟨_, rfl⟩
  case pendingIn | pausedIn | pendingOut | pausedOut => exact .inr (.inl ⟨_, rfl⟩)
  case movingIn => exact .inr (.inr (.inl rfl))
  case movingOut => exact .inr (.inr (.inr (.inl rfl)))
  case homing | testing => exact .inr (.inr (.inr (.inr ⟨_, rfl⟩)))

theorem State.railRule_tells {s s' : State} (h : s.railRule = some s') : s.Tells 1 s' := by
  obtain ⟨st, rfl⟩ | ⟨dir, rfl⟩ | rfl | rfl | ⟨dir, rfl⟩ := State.railRule_cases h
  · exact s.enterRail_tells st
  · exact s.beginMove_tells dir
  · exact s.arriveEngaged_tells
  · exact s.arriveParked_tells
  · exact (s.setRail_tells _).mono (Nat.zero_le 1)

theorem State.settleFor_tells (n : Nat) : ∀ s : State, s.Tells n (State.settleFor n s) := by
  induction n with
  | zero => exact State.Tells.refl
  | succ n ih =>
    intro s
    unfold State.settleFor
    split
    · exact ((State.railRule_tells ‹_›).trans (ih _)).mono (by omega)
    · exact .refl s

/-- A rail cycle aborted enters one state, and settles from it. -/
theorem State.abortCycle_tells (s : State) : s.Tells 9 s.abortCycle := by
  have entered {s1 : State} (h : s.Tells 1 s1) : s.Tells 9 s1.settle := h.trans (State.settleFor_tells 8 s1)
  unfold State.abortCycle
  split
  · split
    · exact entered s.arriveParked_tells
    · split
      · exact entered s.arriveEngaged_tells
      · split <;> exact entered (s.endSegment_tells.trans (State.enterRail_tells _ _))
  · exact .refl s

/-! ### What the end of a learn reaches -/

/-- Nothing but the trackers, the calibration, its saved mark, quiet and the mark of a commit in progress has changed. -/
def LearnFrame (s s' : State) : Prop :=
  s' = { s with
    keys := s'.keys, cal := s'.cal, saved := s'.saved, commit := s'.commit
    rail := { s.rail with quiet := s'.rail.quiet } } ∧
  s'.commit.isSome = s.commit.isSome

theorem LearnFrame.refl (s : State) : LearnFrame s s := ⟨rfl, rfl⟩

theorem LearnFrame.trans {a b c : State} (h : LearnFrame a b) (g : LearnFrame b c) : LearnFrame a c := by
  obtain ⟨hb, hcommit⟩ := h
  obtain ⟨hc, hcommit'⟩ := g
  refine ⟨?_, hcommit'.trans hcommit⟩
  rw [hc, hb]

theorem State.setKey_learnFrame (s : State) (k : KeyIx) (x : Tracker) : LearnFrame s (s.setKey k x) := ⟨rfl, rfl⟩

theorem State.setQuiet_learnFrame (s : State) (q : Quiet) : LearnFrame s (s.setQuiet q) := ⟨rfl, rfl⟩

/-- A record taken into the working copy marks a commit in progress as changed, and ends none (R204). -/
theorem State.setKeyCal_calChanged_learnFrame (s : State) (k : KeyIx) (c : KeyCal) (o : Origin) :
    LearnFrame s (s.setKeyCal k c o).calChanged := ⟨rfl, Option.isSome_map⟩

theorem State.applyPending_learnFrame (s : State) (k : KeyIx) : LearnFrame s (s.applyPending k) := by
  unfold State.applyPending
  split
  · exact .refl s
  · exact ((s.setKey_learnFrame _ _).trans (State.setKeyCal_calChanged_learnFrame _ _ _ _)).trans
      (State.setKey_learnFrame _ _ _)

theorem State.endLearnKey_learnFrame (s : State) (k : KeyIx) : LearnFrame s (s.endLearnKey k) := by
  have atRest {s1 : State} (h : LearnFrame s s1) (x : Tracker) :
      LearnFrame s ((s1.setKey k x).applyPending k).keyReturned :=
    ((h.trans (s1.setKey_learnFrame k x)).trans (State.applyPending_learnFrame _ k)).trans
      (State.setQuiet_learnFrame _ _)
  unfold State.endLearnKey
  split
  · split
    · split
      · exact atRest (s.setKeyCal_calChanged_learnFrame _ _ _) _
      · exact atRest (.refl s) _
    · exact atRest (.refl s) _
  · exact s.setKey_learnFrame _ _

theorem State.foldl_endLearnKey_learnFrame (ks : List KeyIx) (s : State) :
    LearnFrame s (ks.foldl (fun x k => x.endLearnKey k) s) := by
  induction ks generalizing s with
  | nil => exact .refl s
  | cons k ks ih => exact (s.endLearnKey_learnFrame k).trans (ih _)

theorem State.quietAfterLearn_learnFrame (s : State) : LearnFrame s s.quietAfterLearn := by
  unfold State.quietAfterLearn
  split
  · exact s.setQuiet_learnFrame _
  · exact .refl s

/-- The end of a learn: no learn is active, its keys are judged, and its CAL record follows (R28, R29). -/
theorem State.endLearn_eq (s : State) : ∃ s1 : State, LearnFrame { s with learn := none } s1 ∧
    s.endLearn = s1.report (.calLearnDone s.learnAcceptedCount s.learnRejectedCount) .cal :=
  ⟨_, (State.foldl_endLearnKey_learnFrame _ _).trans (State.quietAfterLearn_learnFrame _), rfl⟩

/-! ### What a seat change hands on keeps (R201) -/

/-- One step of the hand-on: at most `n` records follow, a commit in progress goes on, and the seat, the layer setting, the
votes and the transport are kept. -/
structure State.HandsOn (n : Nat) (s s' : State) : Prop where
  now : s'.now = s.now
  seat : s'.seat = s.seat
  commit : s'.commit.isSome = s.commit.isSome
  layer : s'.layer = s.layer
  votes : s'.rail.votes = s.rail.votes
  transport : s'.transport = s.transport
  tells : s.Tells n s'

theorem State.HandsOn.refl {n : Nat} (s : State) : s.HandsOn n s := ⟨rfl, rfl, rfl, rfl, rfl, rfl, .refl s⟩

theorem State.HandsOn.trans {a b c : State} {m n : Nat} (h : a.HandsOn m b) (g : b.HandsOn n c) :
    a.HandsOn (m + n) c :=
  ⟨g.now.trans h.now, g.seat.trans h.seat, g.commit.trans h.commit, g.layer.trans h.layer, g.votes.trans h.votes,
    g.transport.trans h.transport, h.tells.trans g.tells⟩

theorem State.HandsOn.mono {a b : State} {m n : Nat} (h : a.HandsOn m b) (hmn : m ≤ n) : a.HandsOn n b :=
  { h with tells := h.tells.mono hmn }

theorem State.report_handsOn (s : State) (b : JournalBody) (c : Condition) : s.HandsOn 1 (s.report b c) :=
  ⟨rfl, rfl, rfl, rfl, rfl, rfl, s.report_tells b c⟩

theorem State.endLearn_handsOn (s : State) : s.HandsOn 1 s.endLearn := by
  obtain ⟨s1, ⟨hs1, hcommit⟩, hend⟩ := s.endLearn_eq
  have hkept : s.HandsOn 0 s1 := by
    rw [hs1]
    exact ⟨rfl, rfl, hcommit, rfl, rfl, rfl, .of_unchanged rfl rfl⟩
  rw [hend]
  exact hkept.trans (s1.report_handsOn _ _)

theorem State.endLearn_learn (s : State) : s.endLearn.learn = none := by
  obtain ⟨s1, ⟨hs1, -⟩, hend⟩ := s.endLearn_eq
  rw [hend, State.report_learn, hs1]

/-! ### The test aborted -/

theorem State.abortCycle_handsOn (s : State) : s.HandsOn 9 s.abortCycle := by
  obtain ⟨hframe, hmove⟩ := s.abortCycle_railOnly
  obtain ⟨-, -, -, -, -, -, hvotes, -⟩ := hmove.kept
  refine ⟨?_, ?_, ?_, ?_, hvotes, ?_, s.abortCycle_tells⟩ <;> rw [hframe]

theorem State.finishRun_handsOn (s : State) (code detail : Nat) (m : Measure) (completed : Bool) :
    s.HandsOn 1 (s.finishRun code detail m completed) := by
  unfold State.finishRun
  split
  · exact .refl s
  · exact (s.report_handsOn _ _).trans (n := 0) ⟨rfl, rfl, rfl, rfl, rfl, rfl, .of_unchanged rfl rfl⟩

theorem State.finishRun_learn (s : State) (code detail : Nat) (m : Measure) (completed : Bool) :
    (s.finishRun code detail m completed).learn = s.learn := by
  unfold State.finishRun
  split <;> rfl

/-- A run that ends with a code other than 0 leaves no test active (R217). -/
theorem State.finishRun_test_of_failed (s : State) {code : Nat} (h : code ≠ 0) (detail : Nat) (m : Measure)
    (completed : Bool) : (s.finishRun code detail m completed).test = none := by
  unfold State.finishRun
  split
  · assumption
  · exact if_neg fun hpass => h hpass.1

theorem State.abortTest_of_none {s : State} (h : s.test = none) (detail : Nat) : s.abortTest detail = s := by
  rw [State.abortTest, h]

/-- An abort stops the rail cycle or the tone of the run, and ends the run with the code ABORTED. -/
theorem State.abortTest_of_some {s : State} (h : s.test ≠ none) (detail : Nat) : ∃ s1 : State,
    (s1 = s.abortCycle ∨ s1 = { s with tone := none } ∨ s1 = s) ∧
      s.abortTest detail = s1.finishRun 255 detail .none false := by
  obtain ⟨x, hx⟩ := Option.ne_none_iff_exists'.mp h
  rw [State.abortTest, hx]
  refine ⟨_, ?_, rfl⟩
  cases x.run with
  | railCycle => exact .inl rfl
  | tone => exact .inr (.inl rfl)
  | sensorScan _ _ => exact .inr (.inr rfl)
  | readback _ _ => exact .inr (.inr rfl)

theorem State.abortTest_test (s : State) (detail : Nat) : (s.abortTest detail).test = none := by
  by_cases h : s.test = none
  · rw [State.abortTest_of_none h, h]
  · obtain ⟨s1, -, habort⟩ := State.abortTest_of_some h detail
    rw [habort, State.finishRun_test_of_failed s1 (by decide)]

theorem State.abortTest_learn (s : State) (detail : Nat) : (s.abortTest detail).learn = s.learn := by
  by_cases h : s.test = none
  · rw [State.abortTest_of_none h]
  · obtain ⟨s1, hs1, habort⟩ := State.abortTest_of_some h detail
    rw [habort, State.finishRun_learn]
    obtain rfl | rfl | rfl := hs1
    · rw [s.abortCycle_railOnly.1]
    · rfl
    · rfl

theorem State.abortTest_handsOn (s : State) (detail : Nat) : s.HandsOn 10 (s.abortTest detail) := by
  by_cases h : s.test = none
  · rw [State.abortTest_of_none h]
    exact .refl s
  · obtain ⟨s1, hs1, habort⟩ := State.abortTest_of_some h detail
    have hstopped : s.HandsOn 9 s1 := by
      obtain rfl | rfl | rfl := hs1
      · exact s.abortCycle_handsOn
      · exact ⟨rfl, rfl, rfl, rfl, rfl, rfl, .of_unchanged rfl rfl⟩
      · exact .refl s1
    rw [habort]
    exact hstopped.trans (s1.finishRun_handsOn _ _ _ _)

/-! ### A seat change -/

/-- The holder changed, with its SEAT record and condition, before anything is handed on. -/
def State.seatRecorded (s : State) (after : Option Link) (cause : SeatCause) : State :=
  State.report { s with seat := after } (.seat after s.seat cause) .seat

/-- The end of a learn that runs under the holder before. -/
def State.endLearnUnder (s : State) (before : Option Link) : State :=
  match s.learn with
  | some x => if before = some x.link then s.endLearn else s
  | none => s

/-- A seat change in R201's order: the record, the learn, the test. -/
theorem State.seatChange_eq (s : State) (after : Option Link) (cause : SeatCause) :
    s.seatChange after cause = ((s.seatRecorded after cause).endLearnUnder s.seat).abortTest 2 := rfl

theorem State.endLearnUnder_of_none {s : State} (h : s.learn = none) (before : Option Link) :
    s.endLearnUnder before = s := by
  rw [State.endLearnUnder, h]

theorem State.endLearnUnder_of_holder {s : State} {x : Learn} {before : Option Link} (h : s.learn = some x)
    (hx : before = some x.link) : s.endLearnUnder before = s.endLearn := by
  rw [State.endLearnUnder, h]
  exact if_pos hx

theorem State.endLearnUnder_handsOn (s : State) (before : Option Link) : s.HandsOn 1 (s.endLearnUnder before) := by
  unfold State.endLearnUnder
  split
  · split
    · exact s.endLearn_handsOn
    · exact .refl s
  · exact .refl s

/-- After its record a seat change hands on, with at most 11 records. -/
theorem State.seatChange_handsOn (s : State) (after : Option Link) (cause : SeatCause) :
    (s.seatRecorded after cause).HandsOn 11 (s.seatChange after cause) :=
  ((s.seatRecorded after cause).endLearnUnder_handsOn s.seat).trans (State.abortTest_handsOn _ 2)

/-- With no learn and no test active, there is nothing to hand on. -/
theorem State.seatChange_of_idle {s : State} (hlearn : s.learn = none) (htest : s.test = none) (after : Option Link)
    (cause : SeatCause) : s.seatChange after cause = s.seatRecorded after cause := by
  rw [State.seatChange_eq, State.endLearnUnder_of_none (s := s.seatRecorded after cause) hlearn,
    State.abortTest_of_none (s := s.seatRecorded after cause) htest]

theorem State.seatChange_learn {s : State} {x : Learn} (hlearn : s.learn = some x) (hseat : s.seat = some x.link)
    (after : Option Link) (cause : SeatCause) : (s.seatChange after cause).learn = none := by
  rw [State.seatChange_eq, State.abortTest_learn,
    State.endLearnUnder_of_holder (s := s.seatRecorded after cause) hlearn hseat, State.endLearn_learn]

theorem State.seatChange_test (s : State) (after : Option Link) (cause : SeatCause) :
    (s.seatChange after cause).test = none := State.abortTest_test _ 2

@[simp] theorem State.seatChange_seat (s : State) (after : Option Link) (cause : SeatCause) :
    (s.seatChange after cause).seat = after := (s.seatChange_handsOn after cause).seat

@[simp] theorem State.seatChange_now (s : State) (after : Option Link) (cause : SeatCause) :
    (s.seatChange after cause).now = s.now := (s.seatChange_handsOn after cause).now

/-- The SEAT record comes first among the records of a seat change. -/
theorem State.seatChange_ring {s : State} (h : s.journal.length ≤ 500) (after : Option Link) (cause : SeatCause) :
    ∃ more : List JournalRec, (s.seatChange after cause).journal =
      s.journal ++ { body := .seat after s.seat cause, time := s.now } :: more := by
  have hrecord : (s.seatRecorded after cause).journal =
      s.journal ++ [{ body := .seat after s.seat cause, time := s.now }] := by
    have hroom : s.journal.length < 512 := by omega
    exact (State.report_ring _ _ _).trans (congrArg (· ++ _) (if_pos hroom))
  obtain ⟨more, -, hmore⟩ := (s.seatChange_handsOn after cause).tells.ring (by
    rw [hrecord, List.length_append, List.length_singleton]
    omega)
  exact ⟨more, by rw [hmore, hrecord, List.append_assoc, List.singleton_append]⟩

theorem State.seatChange_latched (s : State) (after : Option Link) (cause : SeatCause) (l : Link) :
    ((s.seatChange after cause).link l).latched.getLsbD 6 = true :=
  (s.seatChange_handsOn after cause).tells.latched l 6 (State.report_latched _ _ .seat l)

/-! ### The requests -/

theorem State.stamp_of_now {s : State} {t : Time} (h : s.now = t) : s.stamp t = s := by
  subst h
  rfl

theorem State.claimSeat_of_holder {s : State} {l : Link} (h : s.seat = some l) : s.claimSeat l = s :=
  if_pos (by rw [State.holds_eq, h, beq_self_eq_true])

theorem State.claimSeat_of_vacant {s : State} (l : Link) (h : s.seat = none) :
    s.claimSeat l = s.seatChange (some l) .claim :=
  if_neg (by rw [State.holds_eq, h]; simp)

/-- A claim leaves the claimant in the seat, whoever held it: a claim while the other link holds it is refused before. -/
@[simp] theorem State.claimSeat_seat (s : State) (l : Link) : (s.claimSeat l).seat = some l := by
  unfold State.claimSeat
  split
  · exact beq_iff_eq.mp ‹_›
  · exact s.seatChange_seat _ _

theorem execSeatClaim_eq {t : Time} {l : Link} {p : List Byte} {s : State} (h : s.receiving l = true)
    (hp : p.length ≤ 60) : execSeatClaim t l p s = .next ((s.stamp t).outcome l 0x08 p
      [lengthNot p 0, (!s.linkPresent l, .wrongState), (s.holds (otherLink l), .busy)]
      ((s.stamp t).claimSeat l) (u1 (linkCode l))) :=
  State.request_outcome h hp (by rw [ruleSeatClaim, State.claimSeat_seat]; rfl)

theorem execSeatYield_eq {t : Time} {l : Link} {p : List Byte} {s : State} (h : s.receiving l = true)
    (hp : p.length ≤ 60) : execSeatYield t l p s = .next ((s.stamp t).outcome l 0x09 p
      [lengthNot p 0, s.noSeat l] ((s.stamp t).seatChange none .yieldSeat) (u1 0)) :=
  State.request_outcome h hp (by rw [ruleSeatYield, State.seatChange_seat]; rfl)

theorem execSeatPass_eq {t : Time} {l : Link} {p : List Byte} {s : State} (h : s.receiving l = true)
    (hp : p.length ≤ 60) : execSeatPass t l p s = .next ((s.stamp t).outcome l 0x0A p
      [lengthNot p 0, s.noSeat l, (!s.linkPresent (otherLink l), .wrongState)]
      ((s.stamp t).seatChange (some (otherLink l)) .pass) (u1 (linkCode (otherLink l)))) :=
  State.request_outcome h hp (by rw [ruleSeatPass, State.seatChange_seat]; rfl)

/-- A claim while the other link holds the seat is refused (R199). -/
theorem execSeatClaim_busy {t : Time} {l : Link} {s : State} (h : s.receiving l = true)
    (hpresent : s.linkPresent l = true) (hseat : s.seat = some (otherLink l)) :
    execSeatClaim t l [] s = .next ((s.stamp t).denied l 0x08 [] .busy) := by
  rw [execSeatClaim_eq h (by simp), State.outcome_refused (status := .busy)]
  simp [lengthNot, firstFailing_cons, hpresent, State.holds_eq, hseat]

/-- Settles O46: each request by its checks in order, its change by the lemmas about `State.seatChange`. -/
theorem seatRequests : Obligations.SeatRequests := by
  intro t l p s h hp record
  have hchange (after : Option Link) (cause : SeatCause) : record ((s.stamp t).seatChange after cause) after cause := by
    have hkept := (s.stamp t).seatChange_handsOn after cause
    refine ⟨State.seatChange_seat _ _ _, fun hlearn htest => ?_,
      fun hroom => State.seatChange_ring (s := s.stamp t) (hroom.trans (by decide)) after cause,
      State.seatChange_latched _ _ _, fun x hlearn hseat => State.seatChange_learn (s := s.stamp t) hlearn hseat _ _,
      State.seatChange_test _ _ _, hkept.commit, hkept.layer, hkept.votes, hkept.transport⟩
    rw [State.seatChange_of_idle (s := s.stamp t) hlearn htest]
    exact State.report_ring _ _ _
  refine ⟨⟨_, execSeatClaim_eq h hp, State.claimSeat_of_holder (s := s.stamp t), ?vacant, ?second⟩,
    ⟨_, execSeatYield_eq h hp, hchange none .yieldSeat⟩, ⟨_, execSeatPass_eq h hp, hchange (some (otherLink l)) .pass⟩⟩
  case vacant =>
    intro hseat
    rw [State.claimSeat_of_vacant (s := s.stamp t) l hseat]
    exact hchange (some l) .claim
  case second =>
    intro hseat _ _ hother hpresent
    have hnow : ((s.stamp t).claimSeat l).now = t := by
      rw [State.claimSeat_of_vacant (s := s.stamp t) l hseat, State.seatChange_now, State.stamp_now]
    have hbusy := execSeatClaim_busy (t := t) hother hpresent
      (by rw [State.claimSeat_seat, otherLink_otherLink])
    rw [State.stamp_of_now hnow] at hbusy
    exact hbusy

end Sys2Proof.Machine
end

section
/-! One step of the queue, and the state right after power-on reset: every block stands at its reset value, so every law holds. -/

namespace Sys2Proof.Machine

/-- Settles O1: both halves are `step`, case by case of the queue. -/
theorem stepRunsFrontCommand : Obligations.StepRunsFrontCommand := by
  intro i s
  refine ⟨rfl, fun hempty => ?_⟩
  rw [step, hempty]

/-! ### The blocks of the reset state -/

theorem State.reset_key (k : KeyIx) : State.reset.key k = resetTracker := by simp [State.key, State.reset]

theorem State.reset_voice (i : VoiceIx) : State.reset.voice i = none := by simp [State.voice, State.reset]

theorem State.reset_track (i : TrackIx) : State.reset.track i = resetTrack := by
  simp [State.track, State.reset, resetTransport]

theorem State.reset_jack (i : JackIx) : State.reset.jack i = State.reset.jacks.j1 := by cases i <;> rfl

theorem State.reset_link (l : Link) : State.reset.link l = State.reset.links.a := by cases l <;> rfl

theorem State.reset_keysAwake : State.reset.keysAwake = 0 := by
  simp [State.keysAwake, State.reset_key, resetTracker, KeyState.atRest]

theorem State.reset_costSum : State.reset.costSum = 0 := by
  rw [State.costSum, toList_eq_map, List.map_map]
  have hfree : (costOf ∘ fun i : VoiceIx => State.reset.voices[i]) = fun _ => 0 := funext fun i =>
    congrArg costOf (State.reset_voice i)
  rw [hfree]
  decide

/-- The calibration defaults are legal (R4, R5, 2.7, R45, R65). -/
theorem defaultWorkingCopy_legal : defaultWorkingCopy.legal := by
  refine ⟨fun k => ?_, by decide, by decide, by decide, by decide, by decide, by decide, by decide, fun c => ?_, by decide,
    by decide⟩
  · simp [defaultWorkingCopy, defaultKeyCal, KeyCal.legal]
  · simp [defaultWorkingCopy, defaultPedalCal]

/-! ### The laws -/

theorem State.reset_stillBeforeRunning : StillBeforeRunning State.reset :=
  ⟨fun _ k => by rw [State.reset_key]; rfl, fun _ => ⟨State.reset_voice, rfl, rfl, rfl⟩⟩

theorem State.reset_calibrationLaw : CalibrationLaw State.reset := by
  refine ⟨defaultWorkingCopy_legal, fun k c h => ?_, fun k lo hi h => ?_⟩ <;> rw [State.reset_key] at h <;> cases h

theorem State.reset_storeLaw : StoreLaw State.reset :=
  ⟨List.length_replicate, by decide, fun c h => (by cases h)⟩

theorem State.reset_railLaw : RailLaw State.reset :=
  ⟨⟨fun g h => (by cases h), fun h => (by rcases h with h | h <;> cases h), fun _ => rfl⟩, trivial,
    ⟨State.reset_keysAwake.symm, fun _ => ⟨rfl, rfl⟩, fun _ => ⟨rfl, rfl⟩⟩⟩

theorem State.reset_voiceLaw : VoiceLaw State.reset := by
  refine ⟨fun w (h : w ∈ []) => (by cases h), fun i v h => ?_, ?_⟩
  · rw [State.reset_voice] at h
    cases h
  · rw [State.reset_costSum]
    decide

theorem State.reset_heldLaw : HeldLaw State.reset := fun i v h => by
  rw [State.reset_voice] at h
  cases h

theorem State.reset_outputLaw : OutputLaw State.reset := by
  refine ⟨fun i => ?_, fun i => ?_, fun _ i => ?_, fun _ => rfl, fun _ => rfl⟩
  · rw [State.reset_jack]
    rfl
  · rw [State.reset_jack]
    rfl
  · rw [State.reset_jack]
    exact ⟨rfl, rfl⟩

theorem State.reset_poolLaw : PoolLaw State.reset := by
  refine ⟨by decide, fun i => ?_⟩
  rw [State.reset_track]
  exact ⟨rfl, rfl, rfl⟩

theorem State.reset_journalLaw : JournalLaw State.reset ∧ AttentionLaw State.reset := by
  refine ⟨⟨by decide, fun l => ?_, .inl rfl⟩, fun l => ?_⟩ <;> rw [State.reset_link]
  · exact Nat.zero_le _
  · decide

theorem State.reset_seatLaw : SeatLaw State.reset :=
  ⟨fun l (h : none = some l) => (by cases h), fun x (h : none = some x) => (by cases h), fun h => (by cases h)⟩

/-- Settles O6: law by law, from the reset value of each block. -/
theorem resetIsLawful : Obligations.ResetIsLawful :=
  ⟨State.reset_stillBeforeRunning, State.reset_calibrationLaw, State.reset_storeLaw,
    ⟨fun _ => rfl, fun _ => rfl, fun _ _ => rfl⟩, State.reset_railLaw, State.reset_voiceLaw, State.reset_sampleMem_wf,
    State.reset_heldLaw, State.reset_outputLaw,
    ⟨⟨fun h => (by cases h), fun h => absurd rfl h⟩, by decide, rfl, fun h => (by cases h)⟩,
    State.reset_poolLaw, State.reset_journalLaw.1, State.reset_journalLaw.2, State.reset_seatLaw, .inl rfl,
    ⟨⟨fun h => (by cases h), fun h => (by cases h)⟩, ⟨fun h => (by cases h), fun h => (by cases h)⟩⟩, by unfold LedLaw; decide⟩

end Sys2Proof.Machine
end

section
/-! What a command can do: one constructor for each change a command makes, with the conditions under which it is made. Every
law that each step keeps is judged against these, and no proof opens `exec` again. -/

namespace Sys2Proof.Machine

/-- The two resets. -/
inductive ResetEffect : Instr → State → State → Prop where
  | powerOn {t : Time} {b : Board} {s : State} : ResetEffect (.powerOnReset t b) s (s.powerOn b)
  | warm {t : Time} {x : Straps} {s : State} : ResetEffect (.warmReset t x) s (s.warm x)

/-- The steps of start-up, up to the entry to RUNNING. -/
inductive StartUpEffect : Instr → State → State → Prop where
  | load {t : Time} {s : State} (phase : s.startUp.phase = .loading) : StartUpEffect (.calibrationLoad t) s s.loadImage
  | loadNoAnswer {t : Time} {s : State} (phase : s.startUp.phase = .loading) :
      StartUpEffect (.loadNoAnswer t) s (s.loadRefused .noAnswer)
  | headerCheck {t : Time} {s : State} (phase : s.startUp.phase = .samples) : StartUpEffect (.sampleHeaderCheck t) s s.checkHeader
  | decision {t : Time} {s : State} (phase : s.startUp.phase = .checking) (undecided : s.rail.decided = false) :
      StartUpEffect (.startUpDecision t) s s.decideRail
  | release {t : Time} {l : Link} {p : List Byte} {s : State} (phase : s.startUp.phase = .held) :
      StartUpEffect (.startRelease t l p) s s.enterRunning

/-- A depth reading of a key. -/
inductive KeyEffect : Instr → State → State → Prop where
  | keyReading {t : Time} {k : KeyIx} {r : Depth} {s : State} : KeyEffect (.keyDepthReading t k r) s (s.keyReading k r.val)

/-- A depth reading of a pedal channel. -/
inductive PedalEffect : Instr → State → State → Prop where
  | pedalReading {t : Time} {c : PedalIx} {r : Depth} {s : State} :
      PedalEffect (.pedalDepthReading t c r) s (s.pedalReading c r.val)

/-- The rail controller, and the tests that its events end. -/
inductive RailEffect : Instr → State → State → Prop where
  | leverRaw {t : Time} {on : Bool} {s : State} :
      RailEffect (.leverRawChange t on) s (s.setRail { s.rail with leverRaw := s.rail.leverRaw.turn on t })
  | lever {t : Time} {s : State} : RailEffect (.leverDebounced t) s s.leverFollows
  | edge {t : Time} {sense : Travel} {s : State} : RailEffect (.encoderEdge t sense) s (s.edgeSeen sense)
  | index {t : Time} {s : State} : RailEffect (.indexPulse t) s s.indexSeen
  | switchRaw {t : Time} {x : EndSwitch} {closed : Bool} {s : State} : RailEffect (.endSwitchRawChange t x closed) s
      (s.setRail (s.rail.putRaw x ((s.rail.rawSwitch x).turn closed t)))
  | switch {t : Time} {x : EndSwitch} {s : State} : RailEffect (.endSwitchDebounced t x) s (s.switchFollows x)
  | quiet {t : Time} {s : State} : RailEffect (.quietEvent t) s s.judgeQuiet
  | notice {t : Time} {s : State} : RailEffect (.waitingNotice t) s s.notice
  | stall {t : Time} {s : State} (driven : s.rail.drive.isSome = true) : RailEffect (.stall t) s (s.railFault .stall)
  | timeout {t : Time} {s : State} (driven : s.rail.drive.isSome = true) : RailEffect (.timeout t) s (s.railFault .timeout)
  | vote {t : Time} {l : Link} {p : List Byte} {on : Bool} {s : State} (ready : s.heldOrRunning = true) :
      RailEffect (.voteSilent t l p) s (s.setVotes (s.rail.votes.put l on))
  | recover {t : Time} {l : Link} {p : List Byte} {s : State} (run : s.running = true) (holds : s.holds l = true)
      (fault : s.rail.state.isFault = true) : RailEffect (.railRecover t l p) s s.recoverRail

/-- The service tests. -/
inductive TestEffect : Instr → State → State → Prop where
  | toneEnd {t : Time} {s : State} (done : s.tone = some Config.toneFrames) : TestEffect (.toneRunEnd t) s s.toneDone
  | readback {t : Time} {s : State} : TestEffect (.eepromReadbackDone t) s s.readbackDone
  | readbackNoAnswer {t : Time} {s : State} : TestEffect (.eepromReadbackNoAnswer t) s s.readbackExpires
  | runTest {t : Time} {l : Link} {p : List Byte} {kind : TestKind} {continuous : Bool} {s e : State}
      (run : s.running = true) (holds : s.holds l = true) (idle : s.test = none)
      (starts : s.startTest kind continuous = some e) : TestEffect (.runTest t l p) s e
  | stopTest {t : Time} {l : Link} {p : List Byte} {s : State} (run : s.running = true) (holds : s.holds l = true) :
      TestEffect (.stopTest t l p) s (s.abortTest 1)

/-- The voices as a whole, and the layer setting. -/
inductive VoiceEffect : Instr → State → State → Prop where
  | envelope {t : Time} {s : State} : VoiceEffect (.envelopeStep t) s { s with voices := tableMap (stepVoice s.damper) s.voices }
  | panic {t : Time} {l : Link} {p : List Byte} {s : State} : VoiceEffect (.panic t l p) s (s.mapVoices Voice.damp)
  | setLayer {t : Time} {l : Link} {p : List Byte} {on : Bool} {s : State} (holds : s.holds l = true) :
      VoiceEffect (.setLayer t l p) s { s with layer := on }

/-- The headphone output, its jacks and their supply. -/
inductive OutputEffect : Instr → State → State → Prop where
  | outputFrame {t : Time} {s : State} {sum : Int × Int} (words : s.voiceSum = some sum) : OutputEffect (.outputFrame t) s (s.frame sum)
  | ramp {t : Time} {s : State} : OutputEffect (.rampStep t) s { s with jacks := s.jacks.map Jack.rampStep }
  | contactRaw {t : Time} {j : JackIx} {c : Contacts} {closed : Bool} {s : State} :
      OutputEffect (.jackContactRawChange t j c closed) s (s.setJack j ((s.jack j).turn c closed t)).judgeEnabled
  | contact {t : Time} {j : JackIx} {c : Contacts} {s : State} : OutputEffect (.jackContactDebounced t j c) s (s.debounceJack j c)
  | supplyGood {t : Time} {s : State} : OutputEffect (.supplyGoodAsserted t) s s.supplyAsserts
  | supplyLost {t : Time} {s : State} : OutputEffect (.supplyGoodDropped t) s s.supplyDrops
  | riseTimeout {t : Time} {s : State} : OutputEffect (.riseTimeout t) s s.riseExpires
  | clickEnd {t : Time} {s : State} : OutputEffect (.clickBurstEnd t) s
      { s with click := s.click.filter (fun c => decide (c.done < Config.clickFrames)) }
  | readStatus {t : Time} {l : Link} {p : List Byte} {s : State} : OutputEffect (.readStatus t l p) s s.clearClips
  | setVolume {t : Time} {l : Link} {p : List Byte} {js : List JackIx} {s : State} (codes : jacksOfCode (byteAt p 0) = some js) :
      OutputEffect (.setVolume t l p) s (s.setVolumes js (clampNat 0 127 (byteAt p 1)))

/-- The transport. -/
inductive TransportEffect : Instr → State → State → Prop where
  | clock {t : Time} {s : State} : TransportEffect (.clockStep t) s s.clockStep
  | walkEnd {t : Time} {s : State} : TransportEffect (.locateWalkComplete t) s s.walkEnds
  | play {t : Time} {l : Link} {p : List Byte} {s : State} (run : s.running = true) (noLoad : s.transport.load = none)
      (free : s.transport.state.playBusy = false) : TransportEffect (.play t l p) s s.startPlay
  | record {t : Time} {l : Link} {p : List Byte} {i : TrackIx} {s : State} (run : s.running = true)
      (noLoad : s.transport.load = none) (idle : s.transport.state = .idle) (present : s.linkPresent l = true) :
      TransportEffect (.record t l p) s (s.beginRecord i (byteAt p 1) l)
  | stop {t : Time} {l : Link} {p : List Byte} {s : State} (run : s.running = true) : TransportEffect (.stop t l p) s s.stopTransport
  | pause {t : Time} {l : Link} {p : List Byte} {x : PausedFrom} {s : State} (run : s.running = true)
      (pauses : s.transport.state.pausesAs = some x) : TransportEffect (.pause t l p) s (s.pauseAs x)
  | locate {t : Time} {l : Link} {p : List Byte} {ret : WalkReturn} {s : State} (run : s.running = true)
      (noLoad : s.transport.load = none) (locates : s.transport.state.locatesAs = some ret) :
      TransportEffect (.locate t l p) s (s.locate (clamp 0 Config.maxPosition (signed4At p 0)) ret)
  | setTempo {t : Time} {l : Link} {p : List Byte} {n : Nat} {s : State} :
      TransportEffect (.setTempo t l p) s (s.setTransport { s.transport with tempo := n })
  | setScale {t : Time} {l : Link} {p : List Byte} {n : Nat} {s : State} :
      TransportEffect (.setScale t l p) s (s.setTransport { s.transport with scale := n })
  | setMode {t : Time} {l : Link} {p : List Byte} {i : TrackIx} {m : TrackMode} {s : State} (run : s.running = true) :
      TransportEffect (.setTrackMode t l p) s (s.setMode i m)
  | erase {t : Time} {l : Link} {p : List Byte} {i : TrackIx} {s : State} (run : s.running = true)
      (noLoad : s.transport.load = none) (idle : s.transport.state = .idle) : TransportEffect (.eraseTrack t l p) s (s.eraseTrack i)
  | setLoop {t : Time} {l : Link} {p : List Byte} {x : Loop} {s : State} :
      TransportEffect (.setLoop t l p) s (s.setTransport { s.transport with loop := x })
  | setMetronome {t : Time} {l : Link} {p : List Byte} {x : Metronome} {s : State} :
      TransportEffect (.setMetronome t l p) s (s.setTransport { s.transport with metronome := x })
  | loadBegin {t : Time} {l : Link} {p : List Byte} {i : TrackIx} {s : State} (run : s.running = true)
      (noLoad : s.transport.load = none) (idle : s.transport.state = .idle) : TransportEffect (.loadBegin t l p) s (s.openLoad i l)
  | loadAppend {t : Time} {l : Link} {p : List Byte} {i : TrackIx} {rs : List TakeRec} {s : State} (run : s.running = true)
      (own : s.loadOf l = some i) (taken : takesOfPayload p (byteAt p 0) = some rs) :
      TransportEffect (.loadAppend t l p) s (s.appendLoad i rs).1
  | loadEnd {t : Time} {l : Link} {p : List Byte} {i : TrackIx} {s : State} (run : s.running = true)
      (own : s.loadOf l = some i) : TransportEffect (.loadEnd t l p) s (s.closeLoad i (be2At p 0))

/-- The links' own records and the journal. -/
inductive LinkEffect : Instr → State → State → Prop where
  | presentRaw {t : Time} {l : Link} {on : Bool} {s : State} : LinkEffect (.presentRawChange t l on) s
      (s.setLink l { s.link l with presentRaw := (s.link l).presentRaw.turn on t })
  | present {t : Time} {l : Link} {s : State} : LinkEffect (.linkJudgedPresent t l) s (s.judgePresent l)
  | select {t : Time} {l : Link} {s : State} : LinkEffect (.selectAsserted t l) s
      (s.setLink l { s.link l with select := true, transaction := (s.link l).transaction.selected })
  | deselect {t : Time} {l : Link} {s : State} : LinkEffect (.selectDeasserted t l) s
      (s.setLink l { s.link l with select := false, transaction := .idle })
  | shifted {t : Time} {l : Link} {s : State} : LinkEffect (.responseShiftedOut t l) s
      (s.setLink l { s.link l with transaction := (s.link l).transaction.shifted })
  | readConditions {t : Time} {l : Link} {p : List Byte} {s : State} : LinkEffect (.readConditions t l p) s
      (if (s.link l).onAck then s else s.setLatched l 0#16)
  | ackConditions {t : Time} {l : Link} {p : List Byte} {s : State} : LinkEffect (.ackConditions t l p) s
      (s.setLatched l ((s.link l).cleared (condsAt p 0)))
  | forceCondition {t : Time} {l : Link} {p : List Byte} {s : State} : LinkEffect (.forceCondition t l p) s
      (s.setLatched l ((s.link l).raised (condsAt p 0)))
  | setAttention {t : Time} {l : Link} {p : List Byte} {onAck : Bool} {s : State}
      (named : CondSet.named (condsAt p 0) = true) : LinkEffect (.setAttention t l p) s
      (s.setSettings l (condsAt p 0) onAck (clampNat 1 256 (be2At p 3)))
  | linkReset {t : Time} {l : Link} {p : List Byte} {s : State} : LinkEffect (.linkReset t l p) s (s.linkResetOn l)
  | readJournal {t : Time} {l : Link} {p : List Byte} {cursor gap : Nat} {s : State}
      (view : (s.link l).view = .present cursor gap) : LinkEffect (.readJournal t l p) s (s.readOn l cursor gap (byteAt p 0))
  | relay {t : Time} {l : Link} {p : List Byte} {s : State} : LinkEffect (.relay t l p) s (s.relayed l p)

/-- The seat, and a link that goes. -/
inductive SeatEffect : Instr → State → State → Prop where
  | seatClaim {t : Time} {l : Link} {p : List Byte} {s : State} (present : s.linkPresent l = true)
      (free : s.holds (otherLink l) = false) : SeatEffect (.seatClaim t l p) s (s.claimSeat l)
  | seatYield {t : Time} {l : Link} {p : List Byte} {s : State} (holds : s.holds l = true) :
      SeatEffect (.seatYield t l p) s (s.seatChange none .yieldSeat)
  | seatPass {t : Time} {l : Link} {p : List Byte} {s : State} (holds : s.holds l = true)
      (present : s.linkPresent (otherLink l) = true) :
      SeatEffect (.seatPass t l p) s (s.seatChange (some (otherLink l)) .pass)
  | absent {t : Time} {l : Link} {s : State} : SeatEffect (.linkJudgedAbsent t l) s (s.judgeAbsent l)

/-- The working copy, and the learn. -/
inductive CalibrationEffect : Instr → State → State → Prop where
  | writeKeyCal {t : Time} {l : Link} {p : List Byte} {k : KeyIx} {s : State} (ready : s.heldOrRunning = true)
      (holds : s.holds l = true) : CalibrationEffect (.writeKeyCal t l p) s (s.writeCal k (writtenCal p))
  | writePedalCal {t : Time} {l : Link} {p : List Byte} {i : PedalIx} {s : State} (holds : s.holds l = true)
      (apart : (writtenPedal p).rest + 200 ≤ (writtenPedal p).full) :
      CalibrationEffect (.writePedalCal t l p) s (s.setPedalCal i (writtenPedal p))
  | writeTouch {t : Time} {l : Link} {p : List Byte} {s : State} (holds : s.holds l = true)
      (valid : fractionsValid (writtenTouch p).fOn (writtenTouch p).fRel (writtenTouch p).fRa (writtenTouch p).fSt = true) :
      CalibrationEffect (.writeTouch t l p) s (s.writeTouch (writtenTouch p))
  | writeCurve {t : Time} {l : Link} {p : List Byte} {i : Fin 4} {s : State} (holds : s.holds l = true)
      (valid : curveValid (writtenCurve p) = true) : CalibrationEffect (.writeCurve t l p) s (s.writeCurve i (writtenCurve p))
  | selectCurve {t : Time} {l : Link} {p : List Byte} {s : State} (holds : s.holds l = true) (index : byteAt p 0 ≤ 3) :
      CalibrationEffect (.selectCurve t l p) s (s.selectCurve (byteAt p 0))
  | writeRailCal {t : Time} {l : Link} {p : List Byte} {s : State} (holds : s.holds l = true) :
      CalibrationEffect (.writeRailCal t l p) s (s.setCEng (clampNat 400 4000 (be2At p 0)))
  | learnBegin {t : Time} {l : Link} {p : List Byte} {s : State} (ready : s.heldOrRunning = true) (holds : s.holds l = true)
      (noLearn : s.learn = none) (noCommit : s.commit = none) :
      CalibrationEffect (.learnBegin t l p) s (s.beginLearn (byteAt p 0) (byteAt p 1) l)
  | learnEnd {t : Time} {l : Link} {p : List Byte} {s : State} (holds : s.holds l = true) :
      CalibrationEffect (.learnEnd t l p) s s.endLearn

/-- The commit of the working copy. -/
inductive CommitEffect : Instr → State → State → Prop where
  | commit {t : Time} {l : Link} {p : List Byte} {s : State} (holds : s.holds l = true) (noCommit : s.commit = none)
      (noLearn : s.learn = none) : CommitEffect (.commit t l p) s s.beginCommit
  | pageAck {t : Time} {s : State} : CommitEffect (.commitPageAck t) s s.pageDone
  | pageTimeout {t : Time} {s : State} : CommitEffect (.commitPageTimeout t) s s.pageExpires

/-- The change that a command makes of the state stamped with its arrival, its response apart, by the block that makes it. -/
inductive Effect (i : Instr) (s : State) : State → Prop where
  | unchanged : Effect i s s
  | reset {e : State} (h : ResetEffect i s e) : Effect i s e
  | startUp {e : State} (h : StartUpEffect i s e) : Effect i s e
  | key {e : State} (h : KeyEffect i s e) : Effect i s e
  | pedal {e : State} (h : PedalEffect i s e) : Effect i s e
  | rail {e : State} (h : RailEffect i s e) : Effect i s e
  | test {e : State} (h : TestEffect i s e) : Effect i s e
  | voice {e : State} (h : VoiceEffect i s e) : Effect i s e
  | output {e : State} (h : OutputEffect i s e) : Effect i s e
  | transport {e : State} (h : TransportEffect i s e) : Effect i s e
  | link {e : State} (h : LinkEffect i s e) : Effect i s e
  | seat {e : State} (h : SeatEffect i s e) : Effect i s e
  | calibration {e : State} (h : CalibrationEffect i s e) : Effect i s e
  | commit {e : State} (h : CommitEffect i s e) : Effect i s e

/-! ### Requests -/

/-- The state that a checked request leaves, response apart: as it was, or the effect where every check passes. -/
theorem State.checked_holds {P : State → Prop} {s : State} {checks : List (Bool × Status)} {e : State × Reply} (refused : P s)
    (taken : firstFailing checks = none → P e.1) : P (s.checked checks e).1 := by
  unfold State.checked
  split
  · exact refused
  · exact taken (by simp only [firstFailing, ‹_ = none›, Option.map_none])

/-- A response is the last thing a command leaves. -/
def Leaves (i : Instr) (s s' : State) : Prop :=
  ∃ e : State, Effect i (s.stamp (commandTime i)) e ∧
    (s' = e ∨ ∃ (l : Link) (q : List Byte) (r : Reply), requestLink i = some l ∧ s' = e.answer l q r)

theorem leaves_of_next {i : Instr} {s e s' : State} (h : (.next e : Result) = .next s')
    (he : Effect i (s.stamp (commandTime i)) e) : Leaves i s s' := ⟨e, he, .inl (by cases h; rfl)⟩

/-- A timed event that is due acts; one that is not leaves the stamped state (log entry 2). -/
theorem leaves_whenDue {i : Instr} {s e s' : State} {due : Bool}
    (h : (s.stamp (commandTime i)).whenDue due e = .next s') (he : due = true → Effect i (s.stamp (commandTime i)) e) :
    Leaves i s s' := by
  unfold State.whenDue at h
  cases hdue : due <;> rw [hdue] at h
  · exact leaves_of_next h .unchanged
  · exact leaves_of_next h (he hdue)

/-- A request leaves what its rule does, and its response (R187). -/
theorem leaves_request {i : Instr} {s s' : State} {t : Time} {l : Link} {code : Nat} {p : List Byte}
    {rule : State → State × Reply} (ht : commandTime i = t) (hl : requestLink i = some l)
    (h : s.request t l code p rule = .next s') (hr : Effect i (s.stamp t) (rule (s.stamp t)).1) : Leaves i s s' := by
  subst ht
  rcases s.request_cases (t := commandTime i) (l := l) (code := code) (p := p) (rule := rule) with h' | h' | h' <;>
    rw [h'] at h <;> injection h with h
  · exact ⟨_, .unchanged, .inl h.symm⟩
  · exact ⟨_, .unchanged, .inr ⟨l, _, _, hl, h.symm⟩⟩
  · exact ⟨_, hr, .inr ⟨l, _, _, hl, h.symm⟩⟩

/-- A reading request leaves nothing but its response. -/
theorem leaves_read {i : Instr} {s s' : State} {t : Time} {l : Link} {code : Nat} {p : List Byte}
    {rule : State → State × Reply} (ht : commandTime i = t) (hl : requestLink i = some l)
    (h : s.request t l code p rule = .next s') (hr : (rule (s.stamp t)).1 = s.stamp t) : Leaves i s s' :=
  leaves_request ht hl h (by rw [hr]; exact .unchanged)

theorem TransportState.eq_idle_of_name {st : TransportState} (h : st.name = .idle) : st = .idle := by
  cases st <;> first | rfl | cases h

/-- The checks all pass where the first passes and the rest do. -/
@[simp] theorem firstFailing_cons_eq_none {x : Bool × Status} {rest : List (Bool × Status)} :
    firstFailing (x :: rest) = none ↔ x.1 = false ∧ firstFailing rest = none := by
  obtain ⟨b, st⟩ := x
  rw [firstFailing_cons]
  cases b <;> simp

section Checks
variable {s : State}

@[simp] theorem State.beforeRunning_passes : s.beforeRunning.1 = false ↔ s.running = true := by simp [State.beforeRunning]
@[simp] theorem State.beforeHeld_passes : s.beforeHeld.1 = false ↔ s.heldOrRunning = true := by simp [State.beforeHeld]
@[simp] theorem State.noSeat_passes {l : Link} : (s.noSeat l).1 = false ↔ s.holds l = true := by simp [State.noSeat]
@[simp] theorem State.commitBusy_passes : s.commitBusy.1 = false ↔ s.commit = none := by simp [State.commitBusy]
@[simp] theorem State.loadOpen_eq_false : s.loadOpen = false ↔ s.transport.load = none := by simp [State.loadOpen]

end Checks

/-- A reading request changes nothing, whichever check it stops at. -/
theorem State.checked_unchanged {s : State} {checks : List (Bool × Status)} {e : State × Reply} (h : e.1 = s) :
    (s.checked checks e).1 = s :=
  State.checked_holds (P := fun x => x = s) rfl fun _ => h

/-! ### The rules of the requests -/

section Rules
variable {t : Time} {l : Link} {p : List Byte} {s : State}

theorem readTake_unchanged : (ruleReadTake p s).1 = s := by
  refine State.checked_unchanged ?_
  split
  · split <;> rfl
  · rfl

theorem readTransport_unchanged : (ruleReadTransport p s).1 = s := State.checked_unchanged (by split <;> rfl)
theorem readKey_unchanged : (ruleReadKey p s).1 = s := State.checked_unchanged (by split <;> rfl)
theorem readTouch_unchanged : (ruleReadTouch p s).1 = s := State.checked_unchanged (by split <;> rfl)

theorem readConditions_effect : Effect (.readConditions t l p) s (ruleReadConditions l p s).1 :=
  State.checked_holds .unchanged fun _ => .link .readConditions

theorem ackConditions_effect : Effect (.ackConditions t l p) s (ruleAckConditions l p s).1 :=
  State.checked_holds .unchanged fun _ => .link .ackConditions

theorem forceCondition_effect : Effect (.forceCondition t l p) s (ruleForceCondition l p s).1 :=
  State.checked_holds .unchanged fun _ => .link .forceCondition

theorem setAttention_effect : Effect (.setAttention t l p) s (ruleSetAttention l p s).1 := by
  refine State.checked_holds .unchanged fun hc => ?_
  simp at hc
  split
  · exact .link (.setAttention hc.2)
  · exact .unchanged

theorem linkReset_effect : Effect (.linkReset t l p) s (ruleLinkReset l p s).1 :=
  State.checked_holds .unchanged fun _ => .link .linkReset

theorem readStatus_effect : Effect (.readStatus t l p) s (ruleReadStatus p s).1 :=
  State.checked_holds .unchanged fun _ => .output .readStatus

theorem seatClaim_effect : Effect (.seatClaim t l p) s (ruleSeatClaim l p s).1 := by
  refine State.checked_holds .unchanged fun hc => ?_
  simp at hc
  obtain ⟨-, hpresent, hother⟩ := hc
  exact .seat (.seatClaim hpresent hother)

theorem seatYield_effect : Effect (.seatYield t l p) s (ruleSeatYield l p s).1 := by
  refine State.checked_holds .unchanged fun hc => ?_
  simp at hc
  exact .seat (.seatYield hc.2)

theorem seatPass_effect : Effect (.seatPass t l p) s (ruleSeatPass l p s).1 := by
  refine State.checked_holds .unchanged fun hc => ?_
  simp at hc
  obtain ⟨-, hholds, hpresent⟩ := hc
  exact .seat (.seatPass hholds hpresent)

theorem readJournal_effect : Effect (.readJournal t l p) s (ruleReadJournal l p s).1 := by
  refine State.checked_holds .unchanged fun _ => ?_
  split
  · exact .unchanged
  · exact .link (.readJournal ‹_›)

theorem relay_effect : Effect (.relay t l p) s (ruleRelay l p s).1 := State.checked_holds .unchanged fun _ => .link .relay

theorem startRelease_effect : Effect (.startRelease t l p) s (ruleStartRelease p s).1 := by
  refine State.checked_holds .unchanged fun hc => .startUp (.release ?_)
  simp [State.heldOrRunning, State.running] at hc
  obtain ⟨-, hready, hrun⟩ := hc
  exact hready.resolve_right hrun

theorem voteSilent_effect : Effect (.voteSilent t l p) s (ruleVoteSilent l p s).1 := by
  refine State.checked_holds .unchanged fun hc => ?_
  simp at hc
  split
  · exact .rail (.vote hc.1)
  · exact .unchanged

theorem setVolume_effect : Effect (.setVolume t l p) s (ruleSetVolume p s).1 := by
  refine State.checked_holds .unchanged fun _ => ?_
  split
  · exact .output (.setVolume ‹_›)
  · exact .unchanged

theorem panic_effect : Effect (.panic t l p) s (rulePanic p s).1 := State.checked_holds .unchanged fun _ => .voice .panic

theorem setLayer_effect : Effect (.setLayer t l p) s (ruleSetLayer l p s).1 := by
  refine State.checked_holds .unchanged fun hc => ?_
  simp at hc
  obtain ⟨-, hholds, -⟩ := hc
  split
  · exact .voice (.setLayer hholds)
  · exact .unchanged

theorem play_effect : Effect (.play t l p) s (rulePlay p s).1 := by
  refine State.checked_holds .unchanged fun hc => ?_
  simp at hc
  obtain ⟨hrun, -, hload, hfree⟩ := hc
  exact .transport (.play hrun hload hfree)

theorem record_effect : Effect (.record t l p) s (ruleRecord l p s).1 := by
  refine State.checked_holds .unchanged fun hc => ?_
  simp at hc
  obtain ⟨hrun, -, -, hload, hidle, hpresent⟩ := hc
  split
  · dsimp only
    exact .transport (.record hrun hload (TransportState.eq_idle_of_name hidle) hpresent)
  · exact .unchanged

theorem stop_effect : Effect (.stop t l p) s (ruleStop p s).1 := by
  refine State.checked_holds .unchanged fun hc => ?_
  simp at hc
  dsimp only
  exact .transport (.stop hc.1)

theorem pause_effect : Effect (.pause t l p) s (rulePause p s).1 := by
  refine State.checked_holds .unchanged fun hc => ?_
  simp at hc
  split
  · exact .transport (.pause hc.1 ‹_›)
  · exact .unchanged

theorem locate_effect : Effect (.locate t l p) s (ruleLocate p s).1 := by
  refine State.checked_holds .unchanged fun hc => ?_
  simp at hc
  obtain ⟨hrun, -, hload⟩ := hc
  split
  · exact .transport (.locate hrun hload ‹_›)
  · exact .unchanged

theorem setTempo_effect : Effect (.setTempo t l p) s (ruleSetTempo p s).1 :=
  State.checked_holds .unchanged fun _ => .transport .setTempo

theorem setScale_effect : Effect (.setScale t l p) s (ruleSetScale p s).1 :=
  State.checked_holds .unchanged fun _ => .transport .setScale

theorem setTrackMode_effect : Effect (.setTrackMode t l p) s (ruleSetTrackMode p s).1 := by
  refine State.checked_holds .unchanged fun hc => ?_
  simp at hc
  split
  · exact .transport (.setMode hc.1)
  · exact .unchanged

theorem eraseTrack_effect : Effect (.eraseTrack t l p) s (ruleEraseTrack p s).1 := by
  refine State.checked_holds .unchanged fun hc => ?_
  simp at hc
  obtain ⟨hrun, -, -, hload, hidle⟩ := hc
  split
  · exact .transport (.erase hrun hload (TransportState.eq_idle_of_name hidle))
  · exact .unchanged

theorem setLoop_effect : Effect (.setLoop t l p) s (ruleSetLoop p s).1 := by
  refine State.checked_holds .unchanged fun _ => ?_
  split
  · split
    · exact .unchanged
    · exact .transport .setLoop
  · exact .unchanged

theorem setMetronome_effect : Effect (.setMetronome t l p) s (ruleSetMetronome p s).1 := by
  refine State.checked_holds .unchanged fun _ => ?_
  split
  · exact .transport .setMetronome
  · exact .unchanged

theorem loadBegin_effect : Effect (.loadBegin t l p) s (ruleLoadBegin l p s).1 := by
  refine State.checked_holds .unchanged fun hc => ?_
  simp at hc
  obtain ⟨hrun, -, -, hload, hidle, -⟩ := hc
  split
  · exact .transport (.loadBegin hrun hload (TransportState.eq_idle_of_name hidle))
  · exact .unchanged

theorem loadAppend_effect : Effect (.loadAppend t l p) s (ruleLoadAppend l p s).1 := by
  refine State.checked_holds .unchanged fun hc => ?_
  simp at hc
  split
  · exact .unchanged
  · split
    · exact .unchanged
    · split
      · exact .unchanged
      · exact .transport (.loadAppend hc.1 ‹_› ‹_›)

theorem loadEnd_effect : Effect (.loadEnd t l p) s (ruleLoadEnd l p s).1 := by
  refine State.checked_holds .unchanged fun hc => ?_
  simp at hc
  split
  · exact .unchanged
  · exact .transport (.loadEnd hc.1 ‹_›)

theorem writeKeyCal_effect : Effect (.writeKeyCal t l p) s (ruleWriteKeyCal l p s).1 := by
  refine State.checked_holds .unchanged fun hc => ?_
  simp at hc
  obtain ⟨hready, hholds, -⟩ := hc
  split
  · exact .calibration (.writeKeyCal hready hholds)
  · exact .unchanged

theorem writePedalCal_effect : Effect (.writePedalCal t l p) s (ruleWritePedalCal l p s).1 := by
  refine State.checked_holds .unchanged fun hc => ?_
  simp at hc
  obtain ⟨-, hholds, -, -, hapart, -⟩ := hc
  split
  · exact .calibration (.writePedalCal hholds hapart)
  · exact .unchanged

theorem writeTouch_effect : Effect (.writeTouch t l p) s (ruleWriteTouch l p s).1 := by
  refine State.checked_holds .unchanged fun hc => ?_
  simp at hc
  obtain ⟨-, hholds, -, hvalid, -⟩ := hc
  exact .calibration (.writeTouch hholds hvalid)

theorem writeCurve_effect : Effect (.writeCurve t l p) s (ruleWriteCurve l p s).1 := by
  refine State.checked_holds .unchanged fun hc => ?_
  simp at hc
  obtain ⟨-, hholds, -, ⟨-, hvalid⟩, -⟩ := hc
  split
  · exact .calibration (.writeCurve hholds hvalid)
  · exact .unchanged

theorem selectCurve_effect : Effect (.selectCurve t l p) s (ruleSelectCurve l p s).1 := by
  refine State.checked_holds .unchanged fun hc => ?_
  simp at hc
  obtain ⟨-, hholds, -, hindex, -⟩ := hc
  exact .calibration (.selectCurve hholds hindex)

theorem writeRailCal_effect : Effect (.writeRailCal t l p) s (ruleWriteRailCal l p s).1 := by
  refine State.checked_holds .unchanged fun hc => ?_
  simp at hc
  obtain ⟨-, hholds, -⟩ := hc
  exact .calibration (.writeRailCal hholds)

theorem commit_effect : Effect (.commit t l p) s (ruleCommit l p s).1 := by
  refine State.checked_holds .unchanged fun hc => ?_
  simp at hc
  obtain ⟨-, hholds, -, ⟨hcommit, hlearn⟩, -⟩ := hc
  exact .commit (.commit hholds hcommit hlearn)

theorem learnBegin_effect : Effect (.learnBegin t l p) s (ruleLearnBegin l p s).1 := by
  refine State.checked_holds .unchanged fun hc => ?_
  simp at hc
  obtain ⟨hready, hholds, -, -, hlearn, hcommit⟩ := hc
  exact .calibration (.learnBegin hready hholds hlearn hcommit)

theorem learnEnd_effect : Effect (.learnEnd t l p) s (ruleLearnEnd l p s).1 := by
  refine State.checked_holds .unchanged fun hc => ?_
  simp at hc
  obtain ⟨-, hholds, -⟩ := hc
  exact .calibration (.learnEnd hholds)

theorem railRecover_effect : Effect (.railRecover t l p) s (ruleRailRecover l p s).1 := by
  refine State.checked_holds .unchanged fun hc => ?_
  simp at hc
  obtain ⟨hrun, hholds, -, hfault⟩ := hc
  exact .rail (.recover hrun hholds hfault)

theorem runTest_effect : Effect (.runTest t l p) s (ruleRunTest l p s).1 := by
  refine State.checked_holds .unchanged fun hc => ?_
  simp at hc
  obtain ⟨hrun, hholds, -⟩ := hc
  split
  · split
    · exact .unchanged
    · rename_i hbusy
      split
      · exact .test (.runTest hrun hholds (by simpa using (not_or.mp hbusy).1) ‹_›)
      · exact .unchanged
  · exact .unchanged

theorem stopTest_effect : Effect (.stopTest t l p) s (ruleStopTest l p s).1 := by
  refine State.checked_holds .unchanged fun hc => ?_
  simp at hc
  obtain ⟨hrun, hholds, -⟩ := hc
  exact .test (.stopTest hrun hholds)

end Rules

/-- What every command leaves: one of the changes above, and its response. -/
theorem exec_leaves {i : Instr} {s s' : State} (h : exec i s = .next s') : Leaves i s s' := by
  cases i with
  | powerOnReset t b => exact leaves_of_next h (.reset .powerOn)
  | warmReset t x => exact leaves_of_next h (.reset .warm)
  | calibrationLoad t => exact leaves_whenDue h fun hd => .startUp (.load (by simpa using hd))
  | loadNoAnswer t =>
    refine leaves_whenDue h fun hd => .startUp (.loadNoAnswer ?_)
    simp only [Bool.and_eq_true, beq_iff_eq] at hd
    exact hd.1
  | sampleHeaderCheck t => exact leaves_whenDue h fun hd => .startUp (.headerCheck (by simpa using hd))
  | startUpDecision t =>
    refine leaves_whenDue h fun hd => ?_
    simp only [Bool.and_eq_true, beq_iff_eq, Bool.not_eq_true'] at hd
    obtain ⟨⟨hphase, hdecided⟩, -⟩ := hd
    exact .startUp (.decision hphase hdecided)
  | keyDepthReading t k r => exact leaves_of_next h (.key .keyReading)
  | pedalDepthReading t c r => exact leaves_of_next h (.pedal .pedalReading)
  | leverRawChange t on => exact leaves_of_next h (.rail .leverRaw)
  | leverDebounced t => exact leaves_whenDue h fun _ => .rail .lever
  | encoderEdge t sense => exact leaves_of_next h (.rail .edge)
  | indexPulse t => exact leaves_of_next h (.rail .index)
  | endSwitchRawChange t x closed => exact leaves_of_next h (.rail .switchRaw)
  | endSwitchDebounced t x => exact leaves_whenDue h fun _ => .rail .switch
  | quietEvent t => exact leaves_of_next h (.rail .quiet)
  | waitingNotice t => exact leaves_of_next h (.rail .notice)
  | stall t =>
    refine leaves_whenDue h fun hd => .rail (.stall ?_)
    unfold Rail.stalled at hd
    split at hd
    · exact Option.isSome_iff_exists.mpr ⟨_, ‹_›⟩
    · cases hd
  | timeout t =>
    refine leaves_whenDue h fun hd => .rail (.timeout ?_)
    unfold Rail.timedOut at hd
    split at hd
    · exact Option.isSome_iff_exists.mpr ⟨_, ‹_›⟩
    · cases hd
  | envelopeStep t => exact leaves_of_next h (.voice .envelope)
  | outputFrame t =>
    simp only [exec, execOutputFrame] at h
    split at h
    · exact leaves_of_next h (.output (.outputFrame ‹_›))
    · cases h
  | rampStep t => exact leaves_of_next h (.output .ramp)
  | jackContactRawChange t j c closed => exact leaves_of_next h (.output .contactRaw)
  | jackContactDebounced t j c => exact leaves_of_next h (.output .contact)
  | supplyGoodAsserted t => exact leaves_of_next h (.output .supplyGood)
  | supplyGoodDropped t => exact leaves_of_next h (.output .supplyLost)
  | riseTimeout t => exact leaves_of_next h (.output .riseTimeout)
  | clickBurstEnd t => exact leaves_of_next h (.output .clickEnd)
  | toneRunEnd t => exact leaves_whenDue h fun hd => .test (.toneEnd (by simpa using hd))
  | clockStep t => exact leaves_of_next h (.transport .clock)
  | locateWalkComplete t => exact leaves_of_next h (.transport .walkEnd)
  | commitPageAck t => exact leaves_of_next h (.commit .pageAck)
  | commitPageTimeout t => exact leaves_of_next h (.commit .pageTimeout)
  | eepromReadbackDone t => exact leaves_of_next h (.test .readback)
  | eepromReadbackNoAnswer t => exact leaves_of_next h (.test .readbackNoAnswer)
  | presentRawChange t l on => exact leaves_of_next h (.link .presentRaw)
  | linkJudgedPresent t l => exact leaves_whenDue h fun _ => .link .present
  | linkJudgedAbsent t l => exact leaves_whenDue h fun _ => .seat .absent
  | selectAsserted t l => exact leaves_of_next h (.link .select)
  | selectDeasserted t l => exact leaves_of_next h (.link .deselect)
  | responseShiftedOut t l => exact leaves_of_next h (.link .shifted)
  | unknownRequest t l code length p =>
    simp only [exec, execUnknownRequest, State.whenDue, State.refuseFrame, Host.Outcome.next.injEq] at h
    refine ⟨_, .unchanged, ?_⟩
    subst h
    split
    · split
      · exact .inr ⟨l, _, _, rfl, rfl⟩
      · split
        · exact .inl rfl
        · exact .inr ⟨l, _, _, rfl, rfl⟩
    · exact .inl rfl
  | poll t l p => exact leaves_read rfl rfl h (State.checked_unchanged rfl)
  | readTake t l p => exact leaves_read rfl rfl h readTake_unchanged
  | readTransport t l p => exact leaves_read rfl rfl h readTransport_unchanged
  | readKey t l p => exact leaves_read rfl rfl h readKey_unchanged
  | readTouch t l p => exact leaves_read rfl rfl h readTouch_unchanged
  | readPedals t l p => exact leaves_read rfl rfl h (State.checked_unchanged rfl)
  | readRail t l p => exact leaves_read rfl rfl h (State.checked_unchanged rfl)
  | readVoices t l p => exact leaves_read rfl rfl h (State.checked_unchanged rfl)
  | readWindows t l p => exact leaves_read rfl rfl h (State.checked_unchanged rfl)
  | readStartup t l p => exact leaves_read rfl rfl h (State.checked_unchanged rfl)
  | readConditions t l p => exact leaves_request rfl rfl h readConditions_effect
  | ackConditions t l p => exact leaves_request rfl rfl h ackConditions_effect
  | forceCondition t l p => exact leaves_request rfl rfl h forceCondition_effect
  | setAttention t l p => exact leaves_request rfl rfl h setAttention_effect
  | linkReset t l p => exact leaves_request rfl rfl h linkReset_effect
  | readStatus t l p => exact leaves_request rfl rfl h readStatus_effect
  | seatClaim t l p => exact leaves_request rfl rfl h seatClaim_effect
  | seatYield t l p => exact leaves_request rfl rfl h seatYield_effect
  | seatPass t l p => exact leaves_request rfl rfl h seatPass_effect
  | readJournal t l p => exact leaves_request rfl rfl h readJournal_effect
  | relay t l p => exact leaves_request rfl rfl h relay_effect
  | startRelease t l p => exact leaves_request rfl rfl h startRelease_effect
  | voteSilent t l p => exact leaves_request rfl rfl h voteSilent_effect
  | setVolume t l p => exact leaves_request rfl rfl h setVolume_effect
  | panic t l p => exact leaves_request rfl rfl h panic_effect
  | setLayer t l p => exact leaves_request rfl rfl h setLayer_effect
  | play t l p => exact leaves_request rfl rfl h play_effect
  | record t l p => exact leaves_request rfl rfl h record_effect
  | stop t l p => exact leaves_request rfl rfl h stop_effect
  | pause t l p => exact leaves_request rfl rfl h pause_effect
  | locate t l p => exact leaves_request rfl rfl h locate_effect
  | setTempo t l p => exact leaves_request rfl rfl h setTempo_effect
  | setScale t l p => exact leaves_request rfl rfl h setScale_effect
  | setTrackMode t l p => exact leaves_request rfl rfl h setTrackMode_effect
  | eraseTrack t l p => exact leaves_request rfl rfl h eraseTrack_effect
  | setLoop t l p => exact leaves_request rfl rfl h setLoop_effect
  | setMetronome t l p => exact leaves_request rfl rfl h setMetronome_effect
  | loadBegin t l p => exact leaves_request rfl rfl h loadBegin_effect
  | loadAppend t l p => exact leaves_request rfl rfl h loadAppend_effect
  | loadEnd t l p => exact leaves_request rfl rfl h loadEnd_effect
  | writeKeyCal t l p => exact leaves_request rfl rfl h writeKeyCal_effect
  | writePedalCal t l p => exact leaves_request rfl rfl h writePedalCal_effect
  | writeTouch t l p => exact leaves_request rfl rfl h writeTouch_effect
  | writeCurve t l p => exact leaves_request rfl rfl h writeCurve_effect
  | selectCurve t l p => exact leaves_request rfl rfl h selectCurve_effect
  | writeRailCal t l p => exact leaves_request rfl rfl h writeRailCal_effect
  | commit t l p => exact leaves_request rfl rfl h commit_effect
  | learnBegin t l p => exact leaves_request rfl rfl h learnBegin_effect
  | learnEnd t l p => exact leaves_request rfl rfl h learnEnd_effect
  | railRecover t l p => exact leaves_request rfl rfl h railRecover_effect
  | runTest t l p => exact leaves_request rfl rfl h runTest_effect
  | stopTest t l p => exact leaves_request rfl rfl h stopTest_effect

end Sys2Proof.Machine
end

section
/-! The acts of the transport: every shared operation of chapter 7 is a chain of a few acts, so what each act keeps, every
operation keeps. An act is as large as the laws of voices, capture sets and the journal need it to be. -/

namespace Sys2Proof.Machine

-- One declaration after another: side by side they open more threads than the check's memory limit holds.
set_option Elab.async false

open Relation

/-- One act of the transport. `ticking`: the acts of the clock alone, the click and the draw of a free position. -/
inductive PlayStep (ticking : Prop) : State → State → Prop where
  | move {s : State} {x : Transport} (h : ∀ i : TrackIx, x.tracks[i].opened = s.transport.tracks[i].opened) :
      PlayStep ticking s (s.setTransport x)
  | log {s : State} {b : JournalBody} {t : Time} : PlayStep ticking s (s.append b t)
  | raise {s : State} {c : Condition} (latched : c ≠ .journal) : PlayStep ticking s (s.raise c)
  | opens {s : State} {i : TrackIx} {k : KeyIx} {level : Nat} : PlayStep ticking s
      ((s.setTrack i { s.track i with opened := KeySet.add (s.track i).opened k }).noteOn (.playback i) k level).1
  | closes {s : State} {i : TrackIx} {k : KeyIx} {level : Nat} : PlayStep ticking s
      ((s.setTrack i { s.track i with opened := KeySet.drop (s.track i).opened k }).noteOff (.playback i) k level)
  | pedal {s : State} {i : PedalIx} {level : Nat} : PlayStep ticking s (s.playbackPedal i level)
  | levels {s : State} {f : PedalIx → Nat} : PlayStep ticking s (s.playbackLevels f)
  | sound {s : State} {c : Option Click} {n : Nat} (h : ticking) : PlayStep ticking s { s with click := c, drawn := n }

/-- A chain of acts of the transport. -/
def Plays (ticking : Prop) : State → State → Prop := ReflTransGen (PlayStep ticking)

section Acts
variable {ticking : Prop} {a b c : State}

theorem Plays.refl (s : State) : Plays ticking s s := ReflTransGen.refl

theorem Plays.trans (h : Plays ticking a b) (g : Plays ticking b c) : Plays ticking a c := ReflTransGen.trans h g

theorem PlayStep.plays (h : PlayStep ticking a b) : Plays ticking a b := ReflTransGen.single h

/-- What every act keeps, a chain of acts keeps. -/
theorem Plays.keeps {P : State → Prop} (h : ∀ x y : State, PlayStep ticking x y → P x → P y) (g : Plays ticking a b)
    (ha : P a) : P b := by
  induction g with
  | refl => exact ha
  | tail _ hstep ih => exact h _ _ hstep ih

theorem Plays.foldl {α : Type} {f : State → α → State} (h : ∀ (s : State) (x : α), Plays ticking s (f s x)) :
    ∀ (l : List α) (s : State), Plays ticking s (l.foldl f s)
  | [], s => .refl s
  | x :: l, s => (h s x).trans (Plays.foldl h l (f s x))

variable (s : State)

theorem State.append_plays (b : JournalBody) (t : Time) : Plays ticking s (s.append b t) := PlayStep.log.plays

theorem State.report_plays (b : JournalBody) (c : Condition) (latched : c ≠ .journal := by nofun) :
    Plays ticking s (s.report b c) :=
  PlayStep.log.plays.trans (PlayStep.raise latched).plays

variable {s}

/-- The transport's record changes but for its tracks. -/
theorem State.setTransport_plays {x : Transport}
    (h : ∀ i : TrackIx, x.tracks[i].opened = s.transport.tracks[i].opened := by intro i; rfl) : Plays ticking s (s.setTransport x) := (PlayStep.move h).plays

theorem State.setTrack_plays {i : TrackIx} {x : Track} (h : x.opened = (s.track i).opened := by rfl) : Plays ticking s (s.setTrack i x) := by
  refine State.setTransport_plays fun j => ?_
  rw [tablePut_get]
  split
  · subst_vars
    exact h
  · rfl

variable (s)

/-! ### States, open notes, the PLAYBACK group -/

theorem State.setTransportState_plays (st : TransportState) : Plays ticking s (s.setTransportState st) := by
  unfold State.setTransportState
  simp only []
  split
  · exact State.setTransport_plays
  · exact Plays.trans State.setTransport_plays (State.report_plays _ _ _)

theorem State.endNote_plays (i : TrackIx) (k : KeyIx) (level : Nat) : Plays ticking s (s.endNote i k level) :=
  PlayStep.closes.plays.trans (State.append_plays _ _ _)

theorem State.releaseTrack_plays (i : TrackIx) : Plays ticking s (s.releaseTrack i) :=
  Plays.foldl (fun x k => x.endNote_plays i k _) _ s

theorem State.releaseAll_plays : Plays ticking s s.releaseAll := Plays.foldl (fun x i => x.releaseTrack_plays i) _ s

theorem State.playRecords_plays (before : State) : Plays ticking s (s.playRecords before) :=
  Plays.foldl (fun x i => by
    show Plays ticking x (if (x.playChannel i).level = (before.playChannel i).level then x else x.playRecord i)
    split
    · exact .refl x
    · exact x.append_plays _ _) _ s

theorem State.playbackReset_plays : Plays ticking s s.playbackReset :=
  PlayStep.levels.plays.trans (State.playRecords_plays _ _)

theorem State.playbackLocate_plays (f : PedalIx → Nat) : Plays ticking s (s.playbackLocate f) :=
  (PlayStep.levels.plays.trans PlayStep.levels.plays).trans (State.playRecords_plays _ _)

/-! ### Dispatch -/

theorem State.playTake_plays (i : TrackIx) (r : TakeRec) : Plays ticking s (s.playTake i r) := by
  unfold State.playTake
  split
  · exact PlayStep.opens.plays.trans (State.append_plays _ _ _)
  · split
    · exact s.endNote_plays _ _ _
    · exact .refl s
  · exact PlayStep.pedal.plays
  · exact .refl s
  · exact s.releaseTrack_plays i

theorem State.dispatch_plays (i : TrackIx) (r : TakeRec) (pos : Int) : Plays ticking s (s.dispatch i r pos) := by
  have hcursor : Plays ticking s (s.setTrack i { s.track i with cursor := (s.track i).cursor + 1, cursorPos := pos }) :=
    State.setTrack_plays
  unfold State.dispatch
  simp only []
  split
  · exact hcursor.trans (State.playTake_plays _ _ _)
  · exact hcursor
  · exact hcursor

theorem State.dispatchTrack_plays (i : TrackIx) (pos : Int) :
    ∀ (n : Nat) (s : State), Plays ticking s (s.dispatchTrack i pos n)
  | 0, s => .refl s
  | n + 1, s => by
    unfold State.dispatchTrack
    split
    · split
      · exact (s.dispatch_plays i _ _).trans (State.dispatchTrack_plays i pos n _)
      · exact .refl s
    · exact .refl s

theorem State.dispatchAll_plays : Plays ticking s s.dispatchAll :=
  Plays.foldl (fun x i => by
    show Plays ticking x
      (if x.recordedTrack i then x else x.dispatchTrack i s.transport.position (x.track i).recs.length)
    split
    · exact .refl x
    · exact State.dispatchTrack_plays _ _ _ _) _ s

/-! ### Recording closed, STOP, the natural end -/

theorem State.closeRecording_plays : Plays ticking s s.closeRecording := by
  unfold State.closeRecording
  split
  · exact .refl s
  · exact Plays.trans State.setTrack_plays State.setTransport_plays

theorem State.abandonWalk_plays : Plays ticking s s.abandonWalk := by
  unfold State.abandonWalk
  split
  · exact State.setTransport_plays
  · exact .refl s

theorem State.stopTail_plays : Plays ticking s s.stopTail := by
  have hrest := (s.abandonWalk_plays (ticking := ticking)).trans ((State.releaseAll_plays _).trans (State.playbackReset_plays _))
  unfold State.stopTail
  simp only []
  generalize s.abandonWalk.releaseAll.playbackReset = x at hrest ⊢
  exact hrest.trans (Plays.trans State.setTransport_plays (State.setTransportState_plays _ _))

theorem State.stopTransport_plays : Plays ticking s s.stopTransport := s.closeRecording_plays.trans (State.stopTail_plays _)

theorem State.naturalEnd_plays : Plays ticking s s.naturalEnd := by
  unfold State.naturalEnd
  split
  · exact s.stopTransport_plays
  · exact .refl s

/-! ### The guide wait, walks -/

theorem State.enterWaiting_plays (keys : List KeyIx) : Plays ticking s (s.enterWaiting keys) := by
  unfold State.enterWaiting
  exact (Plays.trans State.setTransport_plays (State.setTransportState_plays _ _)).trans (State.report_plays _ _ _)

theorem State.takePosition_plays : Plays ticking s s.takePosition := by
  unfold State.takePosition
  split
  · exact s.enterWaiting_plays _
  · exact s.dispatchAll_plays.trans (State.naturalEnd_plays _)

theorem State.releaseWait_plays : Plays ticking s s.releaseWait :=
  (((s.report_plays _ _).trans (State.dispatchAll_plays _)).trans (State.setTransportState_plays _ _)).trans
    (State.naturalEnd_plays _)

theorem State.guideStrike_plays (k : KeyIx) (level : Nat) : Plays ticking s (s.guideStrike k level) := by
  unfold State.guideStrike
  split
  · simp only []
    split
    · exact Plays.trans State.setTransport_plays (State.releaseWait_plays _)
    · exact State.setTransport_plays
  · exact s.append_plays _ _

theorem State.completeWalk_plays (target : Int) (ret : WalkReturn) : Plays ticking s (s.completeWalk target ret) := by
  have hwalked : Plays ticking s ((s.setTransport { s.transport with
      tracks := tableMap (Track.walked target) s.transport.tracks, placed := true, position := target }).playbackLocate
        (fun c => s.walkLevel target c)) :=
    (State.setTransport_plays fun i => by rw [tableMap_get]; rfl).trans (State.playbackLocate_plays _ _)
  unfold State.completeWalk
  simp only []
  split
  · exact hwalked.trans (State.setTransportState_plays _ _)
  · exact (hwalked.trans (State.setTransportState_plays _ _)).trans (State.takePosition_plays _)
  · exact hwalked.trans (State.setTransportState_plays _ _)

theorem State.beginWalk_plays (target : Int) (ret : WalkReturn) : Plays ticking s (s.beginWalk target ret) := by
  unfold State.beginWalk
  simp only []
  split
  · exact (s.setTransportState_plays _).trans (State.completeWalk_plays _ _ _)
  · exact s.setTransportState_plays _

theorem State.locateTo_plays (target : Int) (ret : WalkReturn) : Plays ticking s (s.locateTo target ret) := by
  unfold State.locateTo
  exact ((Plays.trans State.setTransport_plays (State.releaseAll_plays _)).trans
    State.setTransport_plays).trans (State.beginWalk_plays _ _ _)

theorem State.walkEnds_plays : Plays ticking s s.walkEnds := by
  unfold State.walkEnds
  split
  · exact s.completeWalk_plays _ _
  · exact .refl s

/-! ### Live events -/

theorem State.poolFull_plays (i : TrackIx) : Plays ticking s (s.poolFull i) :=
  (s.closeRecording_plays.trans (State.report_plays _ _ _)).trans (State.stopTail_plays _)

theorem State.recordEvent_plays (b : TakeBody) : Plays ticking s (s.recordEvent b) := by
  unfold State.recordEvent
  split
  · exact .refl s
  · generalize (if s.transport.state = .countIn then (0 : Int) else s.transport.position) = pos
    simp only []
    split
    · exact Plays.trans State.setTrack_plays State.setTransport_plays
    · exact s.poolFull_plays _

theorem State.transportKeyOn_plays (k : KeyIx) (level : Nat) : Plays ticking s (s.transportKeyOn k level) := by
  unfold State.transportKeyOn
  split
  · exact s.recordEvent_plays _
  · exact s.recordEvent_plays _
  · exact s.guideStrike_plays k level
  · exact .refl s

theorem State.transportKeyOff_plays (k : KeyIx) (level : Nat) : Plays ticking s (s.transportKeyOff k level) := by
  unfold State.transportKeyOff
  split
  · exact s.recordEvent_plays _
  · exact .refl s

theorem State.transportPedal_plays (i : PedalIx) (level : Nat) : Plays ticking s (s.transportPedal i level) := by
  unfold State.transportPedal
  split
  · exact s.recordEvent_plays _
  · exact s.recordEvent_plays _
  · exact .refl s

/-! ### The tick clock -/

theorem State.clickRequest_plays (h : ticking) (accent : Bool) : Plays ticking s (s.clickRequest accent) :=
  (PlayStep.sound h).plays

theorem State.advancePosition_plays (h : ticking) : Plays ticking s s.advancePosition := by
  unfold State.advancePosition
  split
  · exact State.setTransport_plays
  · exact (State.setTransport_plays (x := { s.transport with position := (Config.freePosition s.drawn).toInt })
      fun _ => rfl).trans (PlayStep.sound h).plays

theorem State.clickAt_plays (h : ticking) (began : TransportState) : Plays ticking s (s.clickAt began) := by
  unfold State.clickAt
  simp only []
  split
  · exact s.clickRequest_plays h _
  · exact .refl s

theorem State.loopJump_plays : Plays ticking s s.loopJump := by
  unfold State.loopJump
  exact ((s.releaseAll_plays.trans State.setTransport_plays).trans (State.append_plays _ _ _)).trans
    (State.locateTo_plays _ _ _)

theorem State.tick_plays (h : ticking) (began : TransportState) : Plays ticking s (s.tick began).1 := by
  have hclick := (s.advancePosition_plays h).trans (State.clickAt_plays _ h began)
  unfold State.tick
  simp only []
  split
  · exact hclick.trans (State.loopJump_plays _)
  · refine (hclick.trans ?_).trans (State.takePosition_plays _)
    split
    · exact State.setTransportState_plays _ _
    · exact .refl _

theorem State.ticks_plays (h : ticking) (began : TransportState) : ∀ (n : Nat) (s : State), Plays ticking s (s.ticks began n)
  | 0, s => .refl s
  | n + 1, s => by
    unfold State.ticks
    simp only []
    split
    · exact (s.tick_plays h began).trans (State.ticks_plays h began n _)
    · exact s.tick_plays h began

theorem State.clockStep_plays (h : ticking) : Plays ticking s s.clockStep := by
  unfold State.clockStep
  split
  · exact Plays.trans State.setTransport_plays (State.ticks_plays h _ _ _)
  · exact .refl s

/-! ### The transport's requests -/

theorem State.startPlay_plays : Plays ticking s s.startPlay := by
  unfold State.startPlay
  split
  · split
    · exact (s.setTransportState_plays _).trans (State.takePosition_plays _)
    · exact s.beginWalk_plays _ _
  · exact (s.setTransportState_plays _).trans (State.takePosition_plays _)
  · exact (s.setTransportState_plays _).trans (State.takePosition_plays _)
  · exact .refl s

theorem State.recordSet_plays (i : TrackIx) (l : Link) : Plays ticking s (s.recordSet i l) := by
  unfold State.recordSet
  exact (Plays.trans State.setTrack_plays (State.setTransport_plays fun j => by rw [tableMap_get]; rfl)).trans
    (State.playbackReset_plays _)

theorem State.recordStart_plays (h : ticking) (bars : Nat) : Plays ticking s (s.recordStart bars) := by
  unfold State.recordStart
  split
  · exact (Plays.trans State.setTransport_plays (State.setTransportState_plays _ _)).trans
      (State.takePosition_plays _)
  · exact (Plays.trans State.setTransport_plays (State.setTransportState_plays _ _)).trans
      (State.clickRequest_plays _ h _)

theorem State.beginRecord_plays (h : ticking) (i : TrackIx) (bars : Nat) (l : Link) :
    Plays ticking s (s.beginRecord i bars l) := by
  have hset := s.recordSet_plays i l (ticking := ticking)
  unfold State.beginRecord
  generalize s.recordSet i l = x at hset ⊢
  simp only []
  split
  · exact hset.trans (Plays.trans State.setTrack_plays (State.recordStart_plays _ h _))
  · exact hset.trans (State.poolFull_plays _ _)

theorem State.pauseAs_plays (x : PausedFrom) : Plays ticking s (s.pauseAs x) := by
  unfold State.pauseAs
  exact ((Plays.trans State.setTransport_plays (State.setTransportState_plays _ _)).trans
    (State.releaseAll_plays _)).trans State.setTransport_plays

theorem State.locate_plays (target : Int) (ret : WalkReturn) : Plays ticking s (s.locate target ret) := by
  unfold State.locate
  split
  · exact s.beginWalk_plays _ _
  · exact s.locateTo_plays _ _

theorem State.setMode_plays (i : TrackIx) (m : TrackMode) : Plays ticking s (s.setMode i m) := by
  have hmode : Plays ticking s (s.setTrack i { s.track i with mode := m }) := State.setTrack_plays
  unfold State.setMode
  simp only []
  split
  · exact hmode.trans (State.releaseTrack_plays _ _)
  · exact hmode

theorem State.eraseTrack_plays (i : TrackIx) : Plays ticking s (s.eraseTrack i) := by
  unfold State.eraseTrack
  exact Plays.trans State.setTrack_plays State.setTransport_plays

theorem State.openLoad_plays (i : TrackIx) (l : Link) : Plays ticking s (s.openLoad i l) := by
  unfold State.openLoad
  exact Plays.trans State.setTrack_plays State.setTransport_plays

theorem State.abortLoad_plays (cause : LoadAbort) : Plays ticking s (s.abortLoad cause) := by
  unfold State.abortLoad
  split
  · exact .refl s
  · exact (Plays.trans State.setTrack_plays State.setTransport_plays).trans (State.report_plays _ _ _)

theorem State.appendLoad_plays (i : TrackIx) (rs : List TakeRec) : Plays ticking s (s.appendLoad i rs).1 := by
  unfold State.appendLoad
  split
  · exact State.setTrack_plays
  · exact s.abortLoad_plays _

theorem State.closeLoad_plays (i : TrackIx) (delta : Nat) : Plays ticking s (s.closeLoad i delta) := by
  unfold State.closeLoad
  exact Plays.trans State.setTrack_plays State.setTransport_plays

end Acts

/-! ### What a chain of acts reaches -/

/-- Nothing but the transport, the voices, the PLAYBACK group, the journal and the links has changed. -/
def TakeFrame (s s' : State) : Prop :=
  s' = { s with
    voices := s'.voices, play := s'.play, playCapture := s'.playCapture, transport := s'.transport
    journal := s'.journal, links := s'.links }

theorem TakeFrame.refl (s : State) : TakeFrame s s := rfl

theorem TakeFrame.trans {a b c : State} (h : TakeFrame a b) (g : TakeFrame b c) : TakeFrame a c := by
  unfold TakeFrame at *
  rw [g, h]

theorem TakeFrame.transport {s s' : State} (h : TakeFrame s s') : TransportFrame s s' := by
  unfold TakeFrame at h
  rw [h]
  rfl

theorem VoiceFrame.take {s s' : State} (h : VoiceFrame s s') : TakeFrame s s' := by
  unfold VoiceFrame at h
  rw [h]
  rfl

theorem State.sostenutoChange_take (s : State) (before after : Bool) :
    TakeFrame s (s.sostenutoChange .playback before after) := by
  unfold State.sostenutoChange
  split
  · rfl
  · exact (s.sostenutoRelease_frame _ _).take.trans rfl
  · exact .refl s

theorem State.pedalEffects_take (s : State) (i : PedalIx) (sw sw' : Bool) (lv lv' : Nat) :
    TakeFrame s (s.pedalEffects .playback i sw sw' lv lv') := by
  unfold State.pedalEffects
  split
  · exact s.sostenutoChange_take sw sw'
  · split
    · exact (s.damperNotice_frame _ _ _).take
    · exact .refl s

theorem State.playbackPedal_take (s : State) (i : PedalIx) (level : Nat) : TakeFrame s (s.playbackPedal i level) := by
  unfold State.playbackPedal
  refine TakeFrame.trans ?_ (State.pedalEffects_take _ _ _ _ _ _)
  split <;> rfl

theorem State.playbackLevels_take (s : State) (f : PedalIx → Nat) : TakeFrame s (s.playbackLevels f) := by
  unfold State.playbackLevels
  refine TakeFrame.trans ?_ (State.damperNotice_frame _ _ _ _).take
  exact TakeFrame.trans (b := { s with play := tableOf fun i =>
    { level := f i, switch := judgeSwitch (s.playChannel i).switch (f i) } }) rfl (State.sostenutoChange_take _ _ _)

/-- What an act of the transport reaches, but for the clock's. -/
theorem PlayStep.take {a b : State} (h : PlayStep False a b) : TakeFrame a b := by
  cases h with
  | move _ => rfl
  | log => rfl
  | raise => rfl
  | opens => exact TakeFrame.trans (b := a.setTrack _ _) rfl (State.noteOn_frame _ _ _ _).take
  | closes => exact TakeFrame.trans (b := a.setTrack _ _) rfl (State.noteOff_frame _ _ _ _).take
  | pedal => exact a.playbackPedal_take _ _
  | levels => exact a.playbackLevels_take _
  | sound h => exact h.elim

/-- What every act of the transport reaches. -/
theorem PlayStep.frame {ticking : Prop} {a b : State} (h : PlayStep ticking a b) : TransportFrame a b := by
  cases h with
  | move _ => rfl
  | log => rfl
  | raise => rfl
  | opens => exact TransportFrame.trans (b := a.setTrack _ _) rfl (State.noteOn_frame _ _ _ _).transport
  | closes => exact TransportFrame.trans (b := a.setTrack _ _) rfl (State.noteOff_frame _ _ _ _).transport
  | pedal => exact (a.playbackPedal_take _ _).transport
  | levels => exact (a.playbackLevels_take _).transport
  | sound _ => rfl

theorem Plays.take {a b : State} (h : Plays False a b) : TakeFrame a b :=
  h.keeps (P := TakeFrame a) (fun _ _ hstep ha => ha.trans hstep.take) (.refl a)

theorem Plays.frame {ticking : Prop} {a b : State} (h : Plays ticking a b) : TransportFrame a b :=
  h.keeps (P := TransportFrame a) (fun _ _ hstep ha => ha.trans hstep.frame) (.refl a)

/-- Every command of the transport is a chain of its acts. -/
theorem TransportEffect.plays {i : Instr} {s e : State} (h : TransportEffect i s e) : Plays True s e := by
  cases h with
  | clock => exact s.clockStep_plays trivial
  | walkEnd => exact s.walkEnds_plays
  | play => exact s.startPlay_plays
  | record => exact s.beginRecord_plays trivial _ _ _
  | stop => exact s.stopTransport_plays
  | pause => exact s.pauseAs_plays _
  | locate => exact s.locate_plays _ _
  | setTempo => exact State.setTransport_plays
  | setScale => exact State.setTransport_plays
  | setMode => exact s.setMode_plays _ _
  | erase => exact s.eraseTrack_plays _
  | setLoop => exact State.setTransport_plays
  | setMetronome => exact State.setTransport_plays
  | loadBegin => exact s.openLoad_plays _ _
  | loadAppend => exact s.appendLoad_plays _ _
  | loadEnd => exact s.closeLoad_plays _ _

end Sys2Proof.Machine
end

section
/-! What each block's commands leave as it was: an equation per block, from those of the operations it is made of. -/

namespace Sys2Proof.Machine

/-- A frame equation carries over what a state satisfies with the named fields replaced. -/
theorem holds_of_frame {P : State → Prop} {e x : State} (h : e = x) (hx : P x) : P e := h ▸ hx

/-! ### The rail and the tests -/

/-- Nothing but the rail, the test, its results, the tone, the journal, the links and the LED has changed. -/
def TestFrame (s s' : State) : Prop :=
  s' = { s with
    rail := s'.rail, journal := s'.journal, links := s'.links, led := s'.led, ledSince := s'.ledSince, test := s'.test
    runs := s'.runs, lastResult := s'.lastResult, tone := s'.tone }

theorem TestFrame.refl (s : State) : TestFrame s s := rfl

theorem TestFrame.trans {a b c : State} (h : TestFrame a b) (g : TestFrame b c) : TestFrame a c := by
  unfold TestFrame at *
  rw [g, h]

theorem RailFrame.test {s s' : State} (h : RailFrame s s') : TestFrame s s' := by
  unfold RailFrame at h
  rw [h]
  rfl

theorem State.setRail_frame (s : State) (r : Rail) : RailFrame s (s.setRail r) := rfl

theorem State.enterRail_frame (s : State) (st : RailState) : RailFrame s (s.enterRail st) := (s.enterRail_railOnly st).1

theorem State.settle_frame (s : State) : RailFrame s s.settle := s.settle_railOnly.1

theorem State.arriveParked_frame (s : State) : RailFrame s s.arriveParked := s.arriveParked_railOnly.1

theorem State.arriveEngaged_frame (s : State) : RailFrame s s.arriveEngaged := s.arriveEngaged_railOnly.1

theorem State.endSegment_frame (s : State) : RailFrame s s.endSegment := s.endSegment_railOnly.1

section Tests
variable (s : State)

theorem State.finishRun_frame (code detail : Nat) (m : Measure) (completed : Bool) :
    TestFrame s (s.finishRun code detail m completed) := by
  unfold State.finishRun
  split <;> rfl

theorem State.beginRun_frame (kind : TestKind) (continuous : Bool) : TestFrame s (s.beginRun kind continuous) := by
  cases kind <;> rfl

theorem State.takeCycle_frame {s s' : State} (h : s.takeCycle = some s') : RailFrame s s' := by
  unfold State.takeCycle at h
  split at h
  · cases h
    exact (s.enterRail_frame _).trans (State.settle_frame _)
  · cases h

theorem State.nextRun_frame : TestFrame s s.nextRun := by
  unfold State.nextRun
  split
  · rfl
  · split
    · split
      · exact (State.takeCycle_frame ‹_›).test
      · exact s.finishRun_frame _ _ _ _
    · exact s.beginRun_frame _ _

theorem State.endRun_frame (code detail : Nat) (m : Measure) : TestFrame s (s.endRun code detail m) :=
  (s.finishRun_frame _ _ _ _).trans (State.nextRun_frame _)

theorem State.abortTest_frame (detail : Nat) : TestFrame s (s.abortTest detail) := by
  unfold State.abortTest
  split
  · rfl
  · refine TestFrame.trans ?_ (State.finishRun_frame _ _ _ _ _)
    split
    · exact s.abortCycle_railOnly.1.test
    · rfl
    · rfl

theorem State.railFault_frame (cause : RailFault) : TestFrame s (s.railFault cause) := by
  have hfault : RailFrame s ((s.endSegment.setRail { s.endSegment.rail with segCount := none }).enterRail (.fault cause)) :=
    (s.endSegment_frame.trans (State.setRail_frame _ _)).trans (State.enterRail_frame _ _)
  unfold State.railFault
  simp only []
  split
  · exact hfault.test.trans (State.endRun_frame _ _ _ _)
  · exact hfault.test

theorem State.testInwardDone_frame : RailFrame s s.testInwardDone := by
  have hdone (r : Rail) : RailFrame s (s.endSegment.setRail r) := s.endSegment_frame.trans (State.setRail_frame _ _)
  unfold State.testInwardDone
  simp only []
  split
  · exact ((hdone _).trans (State.enterRail_frame _ _)).trans (State.settle_frame _)
  · exact hdone _

theorem State.testOutwardDone_frame : TestFrame s s.testOutwardDone := by
  unfold State.testOutwardDone
  split
  · exact ((s.arriveParked_frame.test.trans (State.finishRun_frame _ _ _ _ _)).trans (State.settle_frame _).test).trans
      (State.nextRun_frame _)
  · rfl

theorem State.switchChanged_frame (x : EndSwitch) (made : Bool) : TestFrame s (s.switchChanged x made) := by
  have hengaged : TestFrame s s.arriveEngaged.settle := (s.arriveEngaged_frame.trans (State.settle_frame _)).test
  have hparked : TestFrame s s.arriveParked.settle := (s.arriveParked_frame.trans (State.settle_frame _)).test
  unfold State.switchChanged
  split
  · split
    · rfl
    · split
      · exact s.railFault_frame _
      · split
        · exact hengaged
        · exact hengaged
        · exact hparked
        · exact hparked
        · exact hparked
        · exact s.testInwardDone_frame.test
        · exact s.testOutwardDone_frame
        · rfl
  · rfl

theorem State.indexSeen_frame : TestFrame s s.indexSeen := by
  have hset : TestFrame s (s.setRail { s.rail with count := 0 }) := rfl
  have hparked := hset.trans ((State.arriveParked_frame _).trans (State.settle_frame _)).test
  unfold State.indexSeen
  simp only []
  split
  · split
    · exact hparked
    · exact hparked
    · exact hparked
    · exact hset.trans (State.testOutwardDone_frame _)
    · exact hset
  · exact hset

theorem State.edgeSeen_frame (sense : Travel) : TestFrame s (s.edgeSeen sense) := by
  unfold State.edgeSeen
  simp only []
  split
  · exact (State.setRail_frame _ _).test.trans (State.railFault_frame _ _)
  · rfl

theorem State.judgeQuiet_frame : RailFrame s s.judgeQuiet := by
  unfold State.judgeQuiet State.quietArrives State.setQuiet
  split
  · exact (State.setRail_frame _ _).trans (State.settle_frame _)
  · rfl

theorem State.notice_frame : RailFrame s s.notice := by
  unfold State.notice
  split
  · split <;> rfl
  · split <;> rfl
  · rfl

theorem State.recoverRail_frame : TestFrame s s.recoverRail := by
  have hhoming := s.enterRail_frame .homing
  unfold State.recoverRail
  simp only []
  split
  · exact hhoming.test.trans (State.railFault_frame _ _)
  · split
    · exact (hhoming.trans ((State.arriveParked_frame _).trans (State.settle_frame _))).test
    · exact (hhoming.trans (State.settle_frame _)).test

theorem RailEffect.frame {i : Instr} {s e : State} (h : RailEffect i s e) : TestFrame s e := by
  cases h with
  | leverRaw => rfl
  | lever => exact (s.setVotes_frame _).test
  | edge => exact s.edgeSeen_frame _
  | index => exact s.indexSeen_frame
  | switchRaw => rfl
  | switch => exact (State.setRail_frame _ _).test.trans (State.switchChanged_frame _ _ _)
  | quiet => exact s.judgeQuiet_frame.test
  | notice => exact s.notice_frame.test
  | stall => exact s.railFault_frame _
  | timeout => exact s.railFault_frame _
  | vote => exact (s.setVotes_frame _).test
  | recover => exact s.recoverRail_frame

theorem State.toneDone_frame : TestFrame s s.toneDone := by
  have htone : TestFrame s { s with tone := none } := rfl
  unfold State.toneDone
  simp only []
  split
  · split
    · exact htone.trans (State.endRun_frame _ _ _ _)
    · exact htone
  · exact htone

theorem State.readbackDone_frame : TestFrame s s.readbackDone := by
  unfold State.readbackDone
  split
  · split <;> exact s.endRun_frame _ _ _
  · rfl

theorem State.readbackExpires_frame : TestFrame s s.readbackExpires := by
  unfold State.readbackExpires
  split
  · split
    · exact s.endRun_frame _ _ _
    · rfl
  · rfl

theorem State.startTest_frame {kind : TestKind} {continuous : Bool} {s e : State} (h : s.startTest kind continuous = some e) :
    TestFrame s e := by
  have hbegun : TestFrame s (State.beginRun { s with runs := 0 } kind continuous) :=
    TestFrame.trans (b := { s with runs := 0 }) rfl (State.beginRun_frame _ _ _)
  cases kind with
  | railCycle => exact hbegun.trans (State.takeCycle_frame h).test
  | sensorScan => cases h; exact hbegun
  | tone => cases h; exact hbegun
  | readback => cases h; exact hbegun

theorem TestEffect.frame {i : Instr} {s e : State} (h : TestEffect i s e) : TestFrame s e := by
  cases h with
  | toneEnd => exact s.toneDone_frame
  | readback => exact s.readbackDone_frame
  | readbackNoAnswer => exact s.readbackExpires_frame
  | runTest _ _ _ starts => exact State.startTest_frame starts
  | stopTest => exact s.abortTest_frame _

end Tests

/-! ### The keys -/

/-- Nothing but the trackers, the calibration and its marks, and what a stroke reaches has changed. -/
def StrokeFrame (s s' : State) : Prop :=
  s' = { s with
    keys := s'.keys, saved := s'.saved, commit := s'.commit, play := s'.play, playCapture := s'.playCapture
    cal := { s.cal with keys := s'.cal.keys, origins := s'.cal.origins }
    voices := s'.voices, transport := s'.transport, journal := s'.journal, links := s'.links }

theorem StrokeFrame.refl (s : State) : StrokeFrame s s := rfl

theorem StrokeFrame.trans {a b c : State} (h : StrokeFrame a b) (g : StrokeFrame b c) : StrokeFrame a c := by
  unfold StrokeFrame at *
  rw [g, h]

theorem TakeFrame.stroke {s s' : State} (h : TakeFrame s s') : StrokeFrame s s' := by
  unfold TakeFrame at h
  rw [h]
  rfl

section Keys
variable (s : State)

theorem State.key_setKey (k j : KeyIx) (x : Tracker) : (s.setKey k x).key j = if j = k then x else s.key j := by
  unfold State.key State.setKey
  simp only [tablePut_get, eq_comm]

theorem State.setKey_frame (k : KeyIx) (x : Tracker) : StrokeFrame s (s.setKey k x) := rfl

theorem State.setKeyState_frame (k : KeyIx) (st : KeyState) : StrokeFrame s (s.setKeyState k st) := rfl

theorem State.applyCal_frame (k : KeyIx) (c : KeyCal) : StrokeFrame s (s.applyCal k c) := rfl

theorem State.applyPending_frame (k : KeyIx) : StrokeFrame s (s.applyPending k) := by
  unfold State.applyPending
  split
  · rfl
  · exact (s.setKey_frame _ _).trans (State.applyCal_frame _ _ _)

theorem State.passToLearn_frame (k : KeyIx) : StrokeFrame s (s.passToLearn k) := by
  unfold State.passToLearn
  split <;> rfl

theorem State.enterRest_frame (k : KeyIx) : StrokeFrame s (s.enterRest k) :=
  ((s.setKey_frame _ _).trans (State.applyPending_frame _ _)).trans (State.passToLearn_frame _ _)

theorem State.append_take (b : JournalBody) (t : Time) : TakeFrame s (s.append b t) := rfl

theorem State.report_take (b : JournalBody) (c : Condition) : TakeFrame s (s.report b c) := rfl

theorem State.keyOn_frame (k : KeyIx) (stroke : Stroke) (ta tb : Time) (rep : Bool) :
    TakeFrame s (s.keyOn k stroke ta tb rep) := by
  unfold State.keyOn
  simp only []
  split
  · exact ((s.noteOn_frame _ _ _).take.trans (State.append_take _ _ _)).trans (State.transportKeyOn_plays _ _ _).take
  · exact (s.append_take _ _).trans (State.transportKeyOn_plays _ _ _).take

theorem State.keyOff_frame (k : KeyIx) (level : Nat) (cause : OffCause) (time : Time) :
    TakeFrame s (s.keyOff k level cause time) :=
  ((s.noteOff_frame _ _ _).take.trans (State.append_take _ _ _)).trans (State.transportKeyOff_plays _ _ _).take

/-- What one transition of a key's tracker can do (R11 to R16). -/
inductive Transits (s : State) (k : KeyIx) : State → Prop where
  | moves {st : KeyState} (strikes : st.strikes = true → s.running = true ∨ (s.key k).state.strikes = true)
      (note : st.noteOn = (s.key k).state.noteOn) (learns : ∀ seen, st ≠ .learn seen) : Transits s k (s.setKeyState k st)
  | rests (note : (s.key k).state.noteOn = false) : Transits s k (s.enterRest k)
  | strikes {stroke : Stroke} {ta tb : Time} {rep : Bool} (was : (s.key k).state.strikes = true) :
      Transits s k ((s.setKeyState k .down).keyOn k stroke ta tb rep)
  | releases {level : Nat} {t : Time} (was : (s.key k).state.strikes = true) :
      Transits s k ((s.setKeyState k .returning).keyOff k level .played t)

theorem map_eq_some_pair {α β γ : Type} {o : Option α} {f : α → β × γ} {b : β} {c : γ} (h : o.map f = some (b, c)) :
    ∃ a : α, b = (f a).1 := by
  obtain ⟨a, -, ha⟩ := Option.map_eq_some_iff.mp h
  exact ⟨a, by rw [ha]⟩

variable {s}

/-- Every transition is one of these. -/
theorem State.transition_transits {k : KeyIx} {c : KeyCal} {x : Reading} {fromDown f : Bool} {s' : State}
    (h : s.transition k c x fromDown = some (s', f)) : Transits s k s' := by
  unfold State.transition at h
  simp only [] at h
  split at h
  case h_1 hst =>
    obtain ⟨tc, rfl⟩ := map_eq_some_pair h
    refine .moves (fun hs => ?_) ?_ fun _ hl => ?_ <;> split at * <;> simp_all [KeyState.strikes, KeyState.noteOn]
  case h_2 hst =>
    split at h
    · cases h
      exact .strikes (by rw [hst]; rfl)
    · split at h
      · obtain ⟨-, rfl⟩ := map_eq_some_pair h
        exact .rests (by rw [hst]; rfl)
      · obtain ⟨-, rfl⟩ := map_eq_some_pair h
        exact .moves (fun hs => by cases hs) (by rw [hst]; rfl) (fun _ hl => by cases hl)
  case h_3 hst =>
    obtain ⟨tc, rfl⟩ := map_eq_some_pair h
    exact .moves (fun _ => .inr (by rw [hst]; rfl)) (by rw [hst]; rfl) (fun _ hl => by cases hl)
  case h_4 hst =>
    split at h
    · cases h
      exact .moves (fun _ => .inr (by rw [hst]; rfl)) (by rw [hst]; rfl) (fun _ hl => by cases hl)
    · obtain ⟨tc, rfl⟩ := map_eq_some_pair h
      exact .releases (by rw [hst]; rfl)
  case h_5 hst =>
    split at h
    · cases h
      exact .strikes (by rw [hst]; rfl)
    · obtain ⟨tc, rfl⟩ := map_eq_some_pair h
      exact .moves (fun _ => .inr (by rw [hst]; rfl)) (by rw [hst]; rfl) (fun _ hl => by cases hl)
  case h_6 hst =>
    split at h
    · rename_i htc
      cases h
      refine .moves (fun _ => .inl ?_) (by rw [hst]; rfl) (fun _ hl => by cases hl)
      by_contra hrun
      rw [if_neg hrun] at htc
      cases htc
    · obtain ⟨-, rfl⟩ := map_eq_some_pair h
      exact .rests (by rw [hst]; rfl)
  case h_7 => cases h
  case h_8 => cases h

/-- What every transition keeps, the transitions of one reading keep (R9). -/
theorem State.transitions_keeps {P : State → Prop} {k : KeyIx} {c : KeyCal} {x : Reading}
    (h : ∀ a b : State, Transits a k b → P a → P b) : ∀ (n : Nat) (s : State) (fromDown : Bool), P s →
      P (s.transitions k c x fromDown n)
  | 0, _, _, hs => hs
  | n + 1, s, fromDown, hs => by
    unfold State.transitions
    split
    · exact State.transitions_keeps h n _ _ (h _ _ (State.transition_transits ‹_›) hs)
    · exact hs

theorem Transits.frame {k : KeyIx} {s' : State} (h : Transits s k s') : StrokeFrame s s' := by
  cases h with
  | moves _ _ _ => rfl
  | rests _ => exact s.enterRest_frame k
  | strikes _ => exact (s.setKeyState_frame _ _).trans (State.keyOn_frame _ _ _ _ _ _).stroke
  | releases _ => exact (s.setKeyState_frame _ _).trans (State.keyOff_frame _ _ _ _ _).stroke

variable (s)

theorem State.recoverKey_frame (k : KeyIx) (cause : FaultCause) : StrokeFrame s (s.recoverKey k cause) := by
  unfold State.recoverKey
  exact (((s.applyPending_frame _).trans (State.setKey_frame _ _ _)).trans (State.report_take _ _ _).stroke).trans
    (State.passToLearn_frame _ _)

theorem State.enterFaulty_frame (k : KeyIx) (stored : Nat) : StrokeFrame s (s.enterFaulty k stored) := by
  unfold State.enterFaulty
  simp only []
  split
  · exact (s.keyOff_frame _ _ _ _).stroke.trans (StrokeFrame.trans (State.setKey_frame _ _ _) (State.report_take _ _ _).stroke)
  · exact StrokeFrame.trans (State.setKey_frame _ _ _) (State.report_take _ _ _).stroke

/-- One act of a tracker on a reading: its record alone, a transition, an entry to FAULTY, a recovery, a depth learned. -/
inductive KeyAct (raw : Nat) (k : KeyIx) : State → State → Prop where
  | note {s : State} {x : Tracker} (state : x.state = (s.key k).state) (pending : x.pendingCal = (s.key k).pendingCal)
      (waits : x.learnWaiting = (s.key k).learnWaiting) (evaluated : x.evaluated = (s.key k).evaluated) :
      KeyAct raw k s (s.setKey k x)
  | transit {s s' : State} (h : Transits s k s') : KeyAct raw k s s'
  | faults {s : State} {stored : Nat} : KeyAct raw k s (s.enterFaulty k stored)
  | recovers {s : State} {cause c : FaultCause} (was : (s.key k).state = .faulty c) : KeyAct raw k s (s.recoverKey k cause)
  | learns {s : State} {x : Tracker} {seen : Option (Nat × Nat)} (was : (s.key k).state = .learn seen)
      (state : x.state = .learn (some (widen seen raw))) (pending : x.pendingCal = (s.key k).pendingCal)
      (evaluated : x.evaluated = (s.key k).evaluated) : KeyAct raw k s (s.setKey k x)

/-- The acts of a tracker on one reading. -/
def KeyActs (raw : Nat) (k : KeyIx) : State → State → Prop := Relation.ReflTransGen (KeyAct raw k)

variable {s}

theorem KeyAct.acts {raw : Nat} {k : KeyIx} {s' : State} (h : KeyAct raw k s s') : KeyActs raw k s s' :=
  Relation.ReflTransGen.single h

theorem KeyActs.trans {raw : Nat} {k : KeyIx} {a b c : State} (h : KeyActs raw k a b) (g : KeyActs raw k b c) :
    KeyActs raw k a c := Relation.ReflTransGen.trans h g

/-- What every act keeps, a chain of acts keeps. -/
theorem KeyActs.keeps {raw : Nat} {k : KeyIx} {P : State → Prop} {s' : State} (g : KeyActs raw k s s')
    (h : ∀ a b : State, KeyAct raw k a b → P a → P b) (hs : P s) : P s' := by
  induction g with
  | refl => exact hs
  | tail _ hstep ih => exact h _ _ hstep ih

theorem KeyAct.frame {raw : Nat} {k : KeyIx} {s' : State} (h : KeyAct raw k s s') : StrokeFrame s s' := by
  cases h with
  | note => rfl
  | transit h => exact h.frame
  | faults => exact s.enterFaulty_frame _ _
  | recovers => exact s.recoverKey_frame _ _
  | learns => rfl

variable (s)

/-- A record of the key's tracker that leaves its state. -/
theorem State.setKey_acts {raw : Nat} {k : KeyIx} {x : Tracker} (state : x.state = (s.key k).state := by rfl)
    (pending : x.pendingCal = (s.key k).pendingCal := by rfl)
    (waits : x.learnWaiting = (s.key k).learnWaiting := by rfl)
    (evaluated : x.evaluated = (s.key k).evaluated := by rfl) : KeyActs raw k s (s.setKey k x) :=
  (KeyAct.note state pending waits evaluated).acts

theorem State.faultyReading_acts {k : KeyIx} {c : FaultCause} (h : (s.key k).state = .faulty c) (cause : FaultCause) (raw : Nat) :
    KeyActs raw k s (s.faultyReading k cause raw) := by
  unfold State.faultyReading
  simp only []
  split
  · exact s.setKey_acts
  · rename_i cal _
    generalize (if (cal.plausible raw && _) = true then (s.key k).recovery + 1 else 0 : Nat) = run
    split
    · exact KeyActs.trans s.setKey_acts (KeyAct.recovers (c := c) (by rw [State.key_setKey, if_pos rfl]; exact h)).acts
    · exact s.setKey_acts

theorem State.playedReading_acts (k : KeyIx) (raw : Nat) : KeyActs raw k s (s.playedReading k raw) := by
  unfold State.playedReading
  simp only []
  generalize (if (s.keyCal k).plausible raw = true then 0 else (s.key k).implausible + 1) = run
  split
  · exact KeyAct.faults.acts
  · refine KeyActs.trans ?_ (State.setKey_acts _)
    exact State.transitions_keeps (P := KeyActs raw k s) (fun _ _ h ha => ha.trans (KeyAct.transit h).acts) _ _ _ s.setKey_acts

theorem State.trackerReading_acts (k : KeyIx) (raw : Nat) : KeyActs raw k s (s.trackerReading k raw) := by
  unfold State.trackerReading
  split
  · refine KeyAct.acts ?_
    exact .learns ‹_› rfl rfl rfl
  · exact s.faultyReading_acts ‹_› _ _
  · exact s.playedReading_acts _ _

theorem State.trackerReading_frame (k : KeyIx) (raw : Nat) : StrokeFrame s (s.trackerReading k raw) :=
  (s.trackerReading_acts k raw).keeps (P := StrokeFrame s) (fun _ _ h ha => ha.trans h.frame) (.refl s)

/-! ### What a reading keeps that no tracker and no calibration is part of -/

/-- Nothing but the trackers and the calibration with its marks has changed. -/
def RestFrame (s s' : State) : Prop :=
  s' = { s with
    keys := s'.keys, saved := s'.saved, commit := s'.commit
    cal := { s.cal with keys := s'.cal.keys, origins := s'.cal.origins } }

theorem RestFrame.trans {a b c : State} (h : RestFrame a b) (g : RestFrame b c) : RestFrame a c := by
  unfold RestFrame at *
  rw [g, h]

theorem State.setKey_rest (k : KeyIx) (x : Tracker) : RestFrame s (s.setKey k x) := rfl

theorem State.applyPending_rest (k : KeyIx) : RestFrame s (s.applyPending k) := by
  unfold State.applyPending
  split <;> rfl

theorem State.passToLearn_rest (k : KeyIx) : RestFrame s (s.passToLearn k) := by
  unfold State.passToLearn
  split <;> rfl

theorem State.enterRest_rest (k : KeyIx) : RestFrame s (s.enterRest k) :=
  ((s.setKey_rest _ _).trans (State.applyPending_rest _ _)).trans (State.passToLearn_rest _ _)

variable {s}

/-- What a stroke's notes and records keep, and no tracker and no calibration is part of, every act of a tracker keeps. -/
theorem KeyAct.keeps {P : State → Prop} (hrest : ∀ a b : State, RestFrame a b → P a → P b)
    (hon : ∀ (a : State) (k : KeyIx) (stroke : Stroke) (ta tb : Time) (rep : Bool), P a → P (a.keyOn k stroke ta tb rep))
    (hoff : ∀ (a : State) (k : KeyIx) (level : Nat) (cause : OffCause) (t : Time), P a → P (a.keyOff k level cause t))
    (hreport : ∀ (a : State) (b : JournalBody) (c : Condition), c ≠ .journal → P a → P (a.report b c)) {raw : Nat} {k : KeyIx} {s' : State}
    (h : KeyAct raw k s s') (hs : P s) : P s' := by
  cases h with
  | note => exact hrest _ _ (s.setKey_rest _ _) hs
  | transit h =>
    cases h with
    | moves => exact hrest _ _ (s.setKey_rest _ _) hs
    | rests => exact hrest _ _ (s.enterRest_rest _) hs
    | strikes => exact hon _ _ _ _ _ _ (hrest _ _ (s.setKey_rest _ _) hs)
    | releases => exact hoff _ _ _ _ _ (hrest _ _ (s.setKey_rest _ _) hs)
  | faults =>
    have hfaulty (a : State) (ha : P a) (x : Tracker) : P ((a.setKey k x).keyFaultRecord k false .readings) :=
      hreport _ _ _ nofun (hrest _ _ (a.setKey_rest k x) ha)
    unfold State.enterFaulty
    simp only []
    split
    · exact hfaulty _ (hoff _ _ _ _ _ hs) _
    · exact hfaulty _ hs _
  | recovers =>
    unfold State.recoverKey
    exact hrest _ _ (State.passToLearn_rest _ _)
      (hreport _ _ _ nofun (hrest _ _ (State.setKey_rest _ _ _) (hrest _ _ (s.applyPending_rest _) hs)))
  | learns => exact hrest _ _ (s.setKey_rest _ _) hs

/-- The same for a tracker's reading as a whole. -/
theorem State.trackerReading_keeps {P : State → Prop} (hrest : ∀ a b : State, RestFrame a b → P a → P b)
    (hon : ∀ (a : State) (k : KeyIx) (stroke : Stroke) (ta tb : Time) (rep : Bool), P a → P (a.keyOn k stroke ta tb rep))
    (hoff : ∀ (a : State) (k : KeyIx) (level : Nat) (cause : OffCause) (t : Time), P a → P (a.keyOff k level cause t))
    (hreport : ∀ (a : State) (b : JournalBody) (c : Condition), c ≠ .journal → P a → P (a.report b c)) (k : KeyIx) (raw : Nat) (hs : P s) :
    P (s.trackerReading k raw) :=
  (s.trackerReading_acts k raw).keeps (fun _ _ h ha => h.keeps hrest hon hoff hreport ha) hs

variable (s)

/-! ### A key at the end of a learn -/

/-- The depths that a key has learned are taken, where they lie far enough apart (R28). -/
def State.learnTaken (s : State) (k : KeyIx) (seen : Option (Nat × Nat)) : State :=
  match seen with
  | some (lo, hi) => if lo + 200 ≤ hi then (s.setKeyCal k { s.keyCal k with r := lo, b := hi } .learned).calChanged else s
  | none => s

/-- A key leaves LEARN for REST, which the rail is told (R25, R28). -/
def State.leaveLearn (s : State) (k : KeyIx) : State :=
  ((s.setKey k { s.key k with state := .rest, last := none, learnWaiting := false }).applyPending k).keyReturned

theorem State.endLearnKey_cases (k : KeyIx) :
    (∃ seen : Option (Nat × Nat), (s.key k).state = .learn seen ∧ s.endLearnKey k = (s.learnTaken k seen).leaveLearn k) ∨
    ((∀ seen, (s.key k).state ≠ .learn seen) ∧ s.endLearnKey k = s.setKey k { s.key k with learnWaiting := false }) := by
  unfold State.endLearnKey
  cases hst : (s.key k).state with
  | learn seen => exact .inl ⟨seen, rfl, rfl⟩
  | rest => exact .inr ⟨nofun, rfl⟩
  | onset => exact .inr ⟨nofun, rfl⟩
  | down => exact .inr ⟨nofun, rfl⟩
  | rearmed => exact .inr ⟨nofun, rfl⟩
  | restrike => exact .inr ⟨nofun, rfl⟩
  | returning => exact .inr ⟨nofun, rfl⟩
  | faulty => exact .inr ⟨nofun, rfl⟩

/-! ### A key's reading as a whole -/

/-- Nothing but what a stroke reaches, the start-up record, the rail, the test with its results, and the LED has changed. -/
def KeyFrame (s s' : State) : Prop :=
  s' = { s with
    keys := s'.keys, saved := s'.saved, commit := s'.commit, startUp := s'.startUp, test := s'.test
    cal := { s.cal with keys := s'.cal.keys, origins := s'.cal.origins }
    runs := s'.runs, lastResult := s'.lastResult, play := s'.play, playCapture := s'.playCapture, rail := s'.rail
    voices := s'.voices, transport := s'.transport, journal := s'.journal, links := s'.links, led := s'.led
    ledSince := s'.ledSince }

theorem KeyFrame.refl : KeyFrame s s := rfl

theorem KeyFrame.trans {a b c : State} (h : KeyFrame a b) (g : KeyFrame b c) : KeyFrame a c := by
  unfold KeyFrame at *
  rw [g, h]

theorem StrokeFrame.key {s s' : State} (h : StrokeFrame s s') : KeyFrame s s' := by
  unfold StrokeFrame at h
  rw [h]
  rfl

theorem RailFrame.key {s s' : State} (h : RailFrame s s') : KeyFrame s s' := by
  unfold RailFrame at h
  rw [h]
  rfl

/-- A phase change reaches the start-up record and the LED. -/
theorem State.setPhase_frame (p : Phase) : s.setPhase p =
    { s with startUp := (s.setPhase p).startUp, led := (s.setPhase p).led, ledSince := (s.setPhase p).ledSince } := by
  unfold State.setPhase
  rw [State.judgeLed_frame]

theorem State.judgeChecking_frame : s.judgeChecking = { s with
    startUp := s.judgeChecking.startUp, led := s.judgeChecking.led, ledSince := s.judgeChecking.ledSince } := by
  unfold State.judgeChecking
  split
  · exact s.setPhase_frame _
  · rfl

theorem State.evaluateKey_frame (k : KeyIx) (raw : Nat) : KeyFrame s (s.evaluateKey k raw) := rfl

theorem State.reportSensors_frame : s.reportSensors = { s with
    startUp := s.reportSensors.startUp, led := s.reportSensors.led, ledSince := s.reportSensors.ledSince } := by
  unfold State.reportSensors
  split
  · exact holds_of_frame (P := fun x => x = { s with startUp := x.startUp, led := x.led, ledSince := x.ledSince })
      (State.judgeChecking_frame _) rfl
  · rfl

theorem State.keyLeft_frame : RailFrame s s.keyLeft := s.endQuiet_frame _

theorem State.keyReturned_frame : RailFrame s s.keyReturned := rfl

theorem State.restReport_frame (before after : Bool) : RailFrame s (s.restReport before after) := by
  cases before <;> cases after
  · rfl
  · exact s.keyReturned_frame
  · exact s.keyLeft_frame
  · rfl

/-- Nothing but the test, its results, the journal and the links has changed. -/
def ScanFrame (s s' : State) : Prop :=
  s' = { s with test := s'.test, runs := s'.runs, lastResult := s'.lastResult, journal := s'.journal, links := s'.links }

theorem ScanFrame.trans {a b c : State} (h : ScanFrame a b) (g : ScanFrame b c) : ScanFrame a c := by
  unfold ScanFrame at *
  rw [g, h]

theorem State.finishRun_scan (code detail : Nat) (m : Measure) (completed : Bool) :
    ScanFrame s (s.finishRun code detail m completed) := by
  unfold State.finishRun
  split <;> rfl

variable {s}

/-- A run that passed goes on with the test it was; one that failed leaves none. -/
theorem State.finishRun_test {x : Test} (hx : s.test = some x) (code detail : Nat) (m : Measure) (completed : Bool) :
    (s.finishRun code detail m completed).test = if code = 0 ∧ x.continuous = true then some x else none := by
  unfold State.finishRun
  rw [hx]

/-- A sensor scan that ends leaves the tone and the rail as they were, whatever run follows. -/
theorem State.endRun_scan {a b : KeySet} {continuous : Bool}
    (h : s.test = some { continuous := continuous, run := .sensorScan a b }) (code detail : Nat) (m : Measure) :
    ScanFrame s (s.endRun code detail m) := by
  have htest := State.finishRun_test h code detail m true
  refine ScanFrame.trans (s.finishRun_scan code detail m true) ?_
  unfold State.endRun State.nextRun
  rw [htest]
  split
  · rfl
  · rename_i hx
    split at hx <;> cases hx
    rfl

variable (s)

theorem State.scanReading_frame (k : KeyIx) (c : KeyCal) (raw : Nat) : ScanFrame s (s.scanReading k c raw) := by
  unfold State.scanReading
  split
  · simp only []
    split
    · rfl
    · generalize (if c.span < Config.leastSpan ∨ c.plausible raw = false then _ else _ : KeySet) = failing
      split
      · refine ScanFrame.trans ?_ (State.endRun_scan rfl _ _ _)
        rfl
      · rfl
  · rfl

theorem ScanFrame.key {s s' : State} (h : ScanFrame s s') : KeyFrame s s' := by
  unfold ScanFrame at h
  rw [h]
  rfl

/-- What the rail is told of a key once a reading has made of it what it is (R19). -/
def State.restTold (s a : State) (k : KeyIx) : State := a.restReport (s.key k).state.atRest (a.key k).state.atRest

/-- A reading is discarded in LOADING, evaluates its key in CHECKING where none has, and else reaches the tracker (R3, R22). -/
theorem State.keyReading_cases (k : KeyIx) (raw : Nat) :
    (s.startUp.phase = .loading ∧ s.keyReading k raw = s) ∨
    (s.startUp.phase = .checking ∧ (s.key k).evaluated = false ∧
      s.keyReading k raw = (s.restTold (s.evaluateKey k raw) k).reportSensors.scanReading k (s.keyCal k) raw) ∨
    (s.startUp.phase ≠ .loading ∧ (s.startUp.phase = .checking → (s.key k).evaluated = true) ∧
      s.keyReading k raw = (s.restTold (s.trackerReading k raw) k).scanReading k (s.keyCal k) raw) := by
  unfold State.keyReading State.restTold
  by_cases hphase : s.startUp.phase = .loading
  · exact .inl ⟨hphase, if_pos hphase⟩
  · rw [if_neg hphase]
    cases hevaluates : decide (s.startUp.phase = .checking) && !(s.key k).evaluated
    · refine .inr (.inr ⟨hphase, fun hchecking => ?_, rfl⟩)
      simpa [hchecking] using hevaluates
    · obtain ⟨hchecking, hevaluated⟩ := Bool.and_eq_true_iff.mp hevaluates
      exact .inr (.inl ⟨of_decide_eq_true hchecking, by simpa using hevaluated, rfl⟩)

theorem State.restTold_frame (a : State) (k : KeyIx) : RailFrame a (s.restTold a k) := a.restReport_frame _ _

theorem State.keyReading_frame (k : KeyIx) (raw : Nat) : KeyFrame s (s.keyReading k raw) := by
  rcases s.keyReading_cases k raw with ⟨-, h⟩ | ⟨-, -, h⟩ | ⟨-, -, h⟩ <;> rw [h]
  · exact .refl s
  · refine KeyFrame.trans ?_ (State.scanReading_frame _ _ _ _).key
    exact ((s.evaluateKey_frame k raw).trans (s.restTold_frame _ k).key).trans
      (holds_of_frame (P := fun x => KeyFrame _ x) (State.reportSensors_frame _) rfl)
  · exact ((s.trackerReading_frame k raw).key.trans (s.restTold_frame _ k).key).trans (State.scanReading_frame _ _ _ _).key

theorem KeyEffect.frame {i : Instr} {s e : State} (h : KeyEffect i s e) : KeyFrame s e := by
  cases h with
  | keyReading => exact s.keyReading_frame _ _

end Keys

end Sys2Proof.Machine
end

section
/-! What the commands of the other blocks leave as it was; and how a law that every command keeps is a law of every step. -/

namespace Sys2Proof.Machine

/-! ### The pedals -/

/-- Nothing but the LIVE group and the transport's blocks has changed. -/
def LiveFrame (s s' : State) : Prop :=
  s' = { s with
    live := s'.live, liveCapture := s'.liveCapture, voices := s'.voices, play := s'.play, playCapture := s'.playCapture
    transport := s'.transport, journal := s'.journal, links := s'.links }

theorem LiveFrame.trans {a b c : State} (h : LiveFrame a b) (g : LiveFrame b c) : LiveFrame a c := by
  unfold LiveFrame at *
  rw [g, h]

theorem TakeFrame.live {s s' : State} (h : TakeFrame s s') : LiveFrame s s' := by
  unfold TakeFrame at h
  rw [h]
  rfl

section Blocks
variable (s : State)

theorem State.setLive_frame (i : PedalIx) (x : LiveChannel) : LiveFrame s (s.setLive i x) := rfl

theorem State.setCapture_frame (g : Group) (m : KeySet) : LiveFrame s (s.setCapture g m) := by cases g <;> rfl

theorem State.sostenutoChange_frame (g : Group) (before after : Bool) : LiveFrame s (s.sostenutoChange g before after) := by
  unfold State.sostenutoChange
  split
  · exact s.setCapture_frame _ _
  · exact (s.sostenutoRelease_frame _ _).take.live.trans (State.setCapture_frame _ _ _)
  · rfl

theorem State.pedalEffects_frame (g : Group) (i : PedalIx) (sw sw' : Bool) (lv lv' : Nat) :
    LiveFrame s (s.pedalEffects g i sw sw' lv lv') := by
  unfold State.pedalEffects
  split
  · exact s.sostenutoChange_frame _ _ _
  · split
    · exact (s.damperNotice_frame _ _ _).take.live
    · rfl

theorem State.publish_frame (i : PedalIx) : LiveFrame s (s.publish i) := by
  unfold State.publish
  exact ((s.append_take _ _).live.trans (State.setLive_frame _ _ _)).trans (State.transportPedal_plays _ _ _).take.live

theorem State.reportPedals_frame : s.reportPedals = { s with
    startUp := s.reportPedals.startUp, led := s.reportPedals.led, ledSince := s.reportPedals.ledSince } := by
  unfold State.reportPedals
  split
  · exact holds_of_frame (P := fun x => x = { s with startUp := x.startUp, led := x.led, ledSince := x.ledSince })
      (State.judgeChecking_frame _) rfl
  · rfl

theorem State.pedalReadingAfter_frame (i : PedalIx) (raw : Nat) : LiveFrame s (s.pedalReadingAfter i raw) := by
  unfold State.pedalReadingAfter
  simp only []
  split
  · rfl
  · refine LiveFrame.trans ?_ (State.pedalEffects_frame _ _ _ _ _ _ _)
    split
    · exact (s.setLive_frame _ _).trans (State.publish_frame _ _)
    · rfl

/-- Nothing but what a pedal's movement reaches, the start-up record and the LED has changed. -/
def PedalFrame (s s' : State) : Prop :=
  s' = { s with
    live := s'.live, liveCapture := s'.liveCapture, startUp := s'.startUp, voices := s'.voices, play := s'.play
    playCapture := s'.playCapture, transport := s'.transport, journal := s'.journal, links := s'.links, led := s'.led
    ledSince := s'.ledSince }

theorem LiveFrame.pedal {s s' : State} (h : LiveFrame s s') : PedalFrame s s' := by
  unfold LiveFrame at h
  rw [h]
  rfl

theorem State.pedalReading_frame (i : PedalIx) (raw : Nat) : PedalFrame s (s.pedalReading i raw) := by
  unfold State.pedalReading
  split
  · rfl
  · split
    · exact holds_of_frame (P := fun x => PedalFrame _ x) (State.reportPedals_frame _) rfl
    · exact (s.pedalReadingAfter_frame _ _).pedal

theorem PedalEffect.frame {i : Instr} {s e : State} (h : PedalEffect i s e) : PedalFrame s e := by
  cases h with
  | pedalReading => exact s.pedalReading_frame _ _

/-! ### The voices and the headphone output -/

theorem VoiceEffect.frame {i : Instr} {s e : State} (h : VoiceEffect i s e) :
    e = { s with voices := e.voices, layer := e.layer } := by
  cases h with
  | envelope => rfl
  | panic => rfl
  | setLayer => rfl

/-- Nothing but the jacks, their supply, the output's sources and samples, the voices, the journal, the links and the LED has
changed. -/
def OutputFrame (s s' : State) : Prop :=
  s' = { s with
    jacks := s'.jacks, supply := s'.supply, supplyGood := s'.supplyGood, click := s'.click, tone := s'.tone
    output := s'.output, voices := s'.voices, journal := s'.journal, links := s'.links, led := s'.led
    ledSince := s'.ledSince }

theorem OutputFrame.refl (s : State) : OutputFrame s s := rfl

theorem OutputFrame.trans {a b c : State} (h : OutputFrame a b) (g : OutputFrame b c) : OutputFrame a c := by
  unfold OutputFrame at *
  rw [g, h]

/-- Nothing but the jacks, their supply, the journal, the links and the LED has changed. -/
def SupplyFrame (s s' : State) : Prop :=
  s' = { s with
    jacks := s'.jacks, supply := s'.supply, supplyGood := s'.supplyGood, journal := s'.journal, links := s'.links
    led := s'.led, ledSince := s'.ledSince }

theorem SupplyFrame.refl (s : State) : SupplyFrame s s := rfl

theorem SupplyFrame.trans {a b c : State} (h : SupplyFrame a b) (g : SupplyFrame b c) : SupplyFrame a c := by
  unfold SupplyFrame at *
  rw [g, h]

theorem SupplyFrame.output {s s' : State} (h : SupplyFrame s s') : OutputFrame s s' := by
  unfold SupplyFrame at h
  rw [h]
  rfl

theorem State.setSupply_frame (x : Supply) : SupplyFrame s (s.setSupply x) := by
  unfold State.setSupply SupplyFrame
  rw [State.judgeLed_frame]
  rfl

/-- The supply follows its request: it rises, and is GOOD at once where its input says so; it goes OFF; or it stands (R125 to
R127). -/
theorem State.judgeSupply_cases :
    (s.supply = .off ∧ s.anySeated = true ∧ s.judgeSupply =
      if (s.setSupply (.rising s.now)).supplyGood then (s.setSupply (.rising s.now)).setSupply .good
      else s.setSupply (.rising s.now)) ∨
    (s.supply ≠ .off ∧ s.anySeated = false ∧ s.judgeSupply = s.setSupply .off) ∨
    ((s.supply = .off ↔ s.anySeated = false) ∧ s.judgeSupply = s) := by
  unfold State.judgeSupply
  cases hseated : s.anySeated <;> cases hsupply : s.supply
  case true.off => exact .inl ⟨rfl, rfl, rfl⟩
  case false.rising => exact .inr (.inl ⟨nofun, rfl, rfl⟩)
  case false.good => exact .inr (.inl ⟨nofun, rfl, rfl⟩)
  case false.failed => exact .inr (.inl ⟨nofun, rfl, rfl⟩)
  case false.off => exact .inr (.inr ⟨⟨fun _ => rfl, fun _ => rfl⟩, rfl⟩)
  all_goals exact .inr (.inr ⟨⟨nofun, nofun⟩, rfl⟩)

theorem State.judgeSupply_frame : SupplyFrame s s.judgeSupply := by
  have hset := s.setSupply_frame
  rcases s.judgeSupply_cases with ⟨-, -, h⟩ | ⟨-, -, h⟩ | ⟨-, h⟩ <;> rw [h]
  · split
    · exact (hset _).trans (State.setSupply_frame _ _)
    · exact hset _
  · exact hset _
  · exact .refl s

theorem State.debounceJack_frame (j : JackIx) (c : Contacts) : SupplyFrame s (s.debounceJack j c) := by
  unfold State.debounceJack
  simp only []
  refine SupplyFrame.trans ?_ (State.judgeSupply_frame _)
  split <;> rfl

theorem State.supplyAsserts_frame : SupplyFrame s s.supplyAsserts := by
  unfold State.supplyAsserts
  simp only []
  split
  · exact SupplyFrame.trans (b := { s with supplyGood := true }) rfl (State.setSupply_frame _ _)
  · rfl

theorem State.supplyDrops_frame : SupplyFrame s s.supplyDrops := by
  unfold State.supplyDrops
  simp only []
  split
  · exact SupplyFrame.trans (b := { s with supplyGood := false }) rfl (State.setSupply_frame _ _)
  · rfl

theorem State.riseExpires_frame : SupplyFrame s s.riseExpires := by
  unfold State.riseExpires
  split
  · split
    · exact s.setSupply_frame _
    · rfl
  · rfl

theorem State.setVolumes_frame (js : List JackIx) (volume : Nat) : SupplyFrame s (s.setVolumes js volume) := by
  unfold State.setVolumes
  induction js generalizing s with
  | nil => rfl
  | cons j js ih => exact SupplyFrame.trans (b := s.setJack j _) rfl (ih _)

theorem OutputEffect.frame {i : Instr} {s e : State} (h : OutputEffect i s e) : OutputFrame s e := by
  cases h with
  | outputFrame => rfl
  | ramp => rfl
  | contactRaw => rfl
  | contact => exact (s.debounceJack_frame _ _).output
  | supplyGood => exact (s.supplyAsserts_frame).output
  | supplyLost => exact (s.supplyDrops_frame).output
  | riseTimeout => exact (s.riseExpires_frame).output
  | clickEnd => rfl
  | readStatus => rfl
  | setVolume => exact (s.setVolumes_frame _ _).output

/-! ### The links -/

/-- Nothing but the journal and the links has changed. -/
def LinkFrame (s s' : State) : Prop := s' = { s with journal := s'.journal, links := s'.links }

theorem LinkFrame.trans {a b c : State} (h : LinkFrame a b) (g : LinkFrame b c) : LinkFrame a c := by
  unfold LinkFrame at *
  rw [g, h]

theorem State.setLink_frame (l : Link) (r : LinkRec) : LinkFrame s (s.setLink l r) := rfl

theorem State.judgePresent_frame (l : Link) : LinkFrame s (s.judgePresent l) := by
  unfold State.judgePresent
  split
  · rfl
  · simp only []
    refine LinkFrame.trans ?_ (State.judgeRemoval_frame _)
    split <;> rfl

theorem State.linkResetOn_frame (l : Link) : LinkFrame s (s.linkResetOn l) :=
  (s.setLink_frame _ _).trans (State.judgeRemoval_frame _)

theorem LinkEffect.frame {i : Instr} {s e : State} (h : LinkEffect i s e) : LinkFrame s e := by
  cases h with
  | presentRaw => rfl
  | present => exact s.judgePresent_frame _
  | select => rfl
  | deselect => rfl
  | shifted => rfl
  | readConditions => split <;> rfl
  | ackConditions => rfl
  | forceCondition => rfl
  | setAttention => rfl
  | linkReset => exact s.linkResetOn_frame _
  | readJournal => exact s.readOn_frame _ _ _ _
  | relay => rfl

/-! ### The seat -/

/-- Nothing but the seat, the learn with its keys and calibration, the rail, the test, the journal, the links and the LED has
changed. -/
def HandFrame (s s' : State) : Prop :=
  s' = { s with
    seat := s'.seat, learn := s'.learn, keys := s'.keys, cal := s'.cal, saved := s'.saved, commit := s'.commit
    rail := s'.rail, test := s'.test, runs := s'.runs, lastResult := s'.lastResult, tone := s'.tone
    journal := s'.journal, links := s'.links, led := s'.led, ledSince := s'.ledSince }

theorem HandFrame.trans {a b c : State} (h : HandFrame a b) (g : HandFrame b c) : HandFrame a c := by
  unfold HandFrame at *
  rw [g, h]

theorem TestFrame.hand {s s' : State} (h : TestFrame s s') : HandFrame s s' := by
  unfold TestFrame at h
  rw [h]
  rfl

theorem RailFrame.hand {s s' : State} (h : RailFrame s s') : HandFrame s s' := h.test.hand

theorem LinkFrame.hand {s s' : State} (h : LinkFrame s s') : HandFrame s s' := by
  unfold LinkFrame at h
  rw [h]
  rfl

theorem LearnFrame.hand {s s' : State} (h : LearnFrame s s') : HandFrame s s' := by
  rw [HandFrame, h.1]

theorem State.report_hand (b : JournalBody) (c : Condition) : HandFrame s (s.report b c) := rfl

theorem State.endLearn_frame : HandFrame s s.endLearn := by
  obtain ⟨s1, h, heq⟩ := s.endLearn_eq
  rw [heq]
  exact (HandFrame.trans (b := { s with learn := none }) rfl h.hand).trans (State.report_hand _ _ _)

theorem State.endLearnUnder_frame (before : Option Link) : HandFrame s (s.endLearnUnder before) := by
  unfold State.endLearnUnder
  split
  · split
    · exact s.endLearn_frame
    · rfl
  · rfl

theorem State.seatRecorded_frame (after : Option Link) (cause : SeatCause) : HandFrame s (s.seatRecorded after cause) := rfl

theorem State.seatChange_frame (after : Option Link) (cause : SeatCause) : HandFrame s (s.seatChange after cause) := by
  rw [State.seatChange_eq]
  exact ((s.seatRecorded_frame after cause).trans (State.endLearnUnder_frame _ _)).trans (State.abortTest_frame _ _).hand

/-- Nothing but what a seat change reaches, and the transport's blocks, has changed. -/
def SeatFrame (s s' : State) : Prop :=
  s' = { s with
    seat := s'.seat, learn := s'.learn, keys := s'.keys, cal := s'.cal, saved := s'.saved, commit := s'.commit
    rail := s'.rail, test := s'.test, runs := s'.runs, lastResult := s'.lastResult, tone := s'.tone
    voices := s'.voices, play := s'.play, playCapture := s'.playCapture, transport := s'.transport
    journal := s'.journal, links := s'.links, led := s'.led, ledSince := s'.ledSince }

theorem SeatFrame.trans {a b c : State} (h : SeatFrame a b) (g : SeatFrame b c) : SeatFrame a c := by
  unfold SeatFrame at *
  rw [g, h]

theorem HandFrame.seat {s s' : State} (h : HandFrame s s') : SeatFrame s s' := by
  unfold HandFrame at h
  rw [h]
  rfl

theorem TakeFrame.seat {s s' : State} (h : TakeFrame s s') : SeatFrame s s' := by
  unfold TakeFrame at h
  rw [h]
  rfl

theorem State.ownerAbsent_plays (l : Link) : Plays False s (s.ownerAbsent l) := by
  unfold State.ownerAbsent
  split
  · split
    · exact s.stopTransport_plays
    · exact .refl s
  · exact .refl s

theorem State.loaderAbsent_plays (l : Link) : Plays False s (s.loaderAbsent l) := by
  unfold State.loaderAbsent
  split
  · split
    · exact s.abortLoad_plays _
    · exact .refl s
  · exact .refl s

/-- A link that has gone: its cursor and its part in removal are given up (R178). -/
def State.departed (s : State) (l : Link) : State := (s.setView l (.absent 0)).judgeRemoval

/-- A link that has gone gives up the seat, where it holds it (R202). -/
def State.unseated (s : State) (l : Link) : State := if s.seat = some l then s.seatChange none .absent else s

/-- A present link judged absent departs, gives up the seat, its recording and its load, in this order (R178, R202). -/
theorem State.judgeAbsent_cases (l : Link) :
    (s.linkPresent l = false ∧ s.judgeAbsent l = s) ∨
    (s.linkPresent l = true ∧ s.judgeAbsent l = (((s.departed l).unseated l).ownerAbsent l).loaderAbsent l) := by
  unfold State.judgeAbsent State.linkPresent State.departed State.unseated
  cases (s.link l).view with
  | absent n => exact .inl ⟨rfl, rfl⟩
  | present c g => exact .inr ⟨rfl, rfl⟩

theorem State.departed_frame (l : Link) : LinkFrame s (s.departed l) := (s.setLink_frame _ _).trans (State.judgeRemoval_frame _)

theorem State.unseated_frame (l : Link) : HandFrame s (s.unseated l) := by
  unfold State.unseated
  split
  · exact s.seatChange_frame _ _
  · rfl

theorem State.judgeAbsent_frame (l : Link) : SeatFrame s (s.judgeAbsent l) := by
  rcases s.judgeAbsent_cases l with ⟨-, h⟩ | ⟨-, h⟩ <;> rw [h]
  · rfl
  · refine SeatFrame.trans ?_ ((State.ownerAbsent_plays _ l).trans (State.loaderAbsent_plays _ l)).take.seat
    exact ((s.departed_frame l).hand.trans (State.unseated_frame _ l)).seat

theorem State.claimSeat_frame (l : Link) : HandFrame s (s.claimSeat l) := by
  unfold State.claimSeat
  split
  · rfl
  · exact s.seatChange_frame _ _

theorem SeatEffect.frame {i : Instr} {s e : State} (h : SeatEffect i s e) : SeatFrame s e := by
  cases h with
  | seatClaim => exact (s.claimSeat_frame _).seat
  | seatYield => exact (s.seatChange_frame _ _).seat
  | seatPass => exact (s.seatChange_frame _ _).seat
  | absent => exact s.judgeAbsent_frame _

/-! ### The working copy and the commit -/

theorem State.beginLearnKey_frame (k : KeyIx) : HandFrame s (s.beginLearnKey k) := by
  unfold State.beginLearnKey
  split
  · exact HandFrame.trans (b := s.setKey k _) rfl (State.keyLeft_frame _).hand
  · rfl

theorem State.beginLearn_frame (lo hi : Nat) (l : Link) : HandFrame s (s.beginLearn lo hi l) := by
  have hfold (ks : List KeyIx) : ∀ x : State, HandFrame x (ks.foldl (fun x k => x.beginLearnKey k) x) := by
    induction ks with
    | nil => exact fun _ => rfl
    | cons k ks ih => exact fun x => (x.beginLearnKey_frame k).trans (ih _)
  refine HandFrame.trans (b := State.withholdQuiet { s with learn := some { lo := lo, hi := hi, link := l } }) ?_ (hfold _ _)
  exact HandFrame.trans (b := { s with learn := some { lo := lo, hi := hi, link := l } }) rfl (State.endQuiet_frame _ _).hand

theorem State.writeCal_frame (k : KeyIx) (c : KeyCal) : HandFrame s (s.writeCal k c) := by
  unfold State.writeCal
  split <;> rfl

theorem CalibrationEffect.frame {i : Instr} {s e : State} (h : CalibrationEffect i s e) : HandFrame s e := by
  cases h with
  | writeKeyCal => exact s.writeCal_frame _ _
  | writePedalCal => rfl
  | writeTouch => exact HandFrame.trans (b := State.calChanged { s with cal := _ }) rfl (State.judgeQuiet_frame _).hand
  | writeCurve => rfl
  | selectCurve =>
    unfold State.selectCurve
    split <;> rfl
  | writeRailCal => rfl
  | learnBegin => exact s.beginLearn_frame _ _ _
  | learnEnd => exact s.endLearn_frame

/-- Nothing but the commit, the store and the calibration's marks, the journal, the links, the LED and the count of the free
values has changed. -/
def CommitFrame (s s' : State) : Prop :=
  s' = { s with
    commit := s'.commit, eeprom := s'.eeprom, drawn := s'.drawn, commitCount := s'.commitCount, saved := s'.saved
    committed := s'.committed, journal := s'.journal, links := s'.links, led := s'.led, ledSince := s'.ledSince }

theorem CommitEffect.frame {i : Instr} {s e : State} (h : CommitEffect i s e) : CommitFrame s e := by
  unfold CommitFrame
  cases h with
  | commit => rfl
  | pageAck =>
    unfold State.pageDone
    split
    · rfl
    · simp only []
      split
      · rfl
      · unfold State.commitDone
        rw [State.judgeLed_frame]
        rfl
  | pageTimeout =>
    unfold State.pageExpires
    split
    · rfl
    · split <;> rfl

/-! ### Start-up -/

/-- Nothing but the calibration with its count, the start-up record, the windows and what a seat change reaches has changed. -/
def StartUpFrame (s s' : State) : Prop :=
  s' = { s with
    commitCount := s'.commitCount, startUp := s'.startUp, windows := s'.windows
    seat := s'.seat, learn := s'.learn, keys := s'.keys, cal := s'.cal, saved := s'.saved, commit := s'.commit
    rail := s'.rail, test := s'.test, runs := s'.runs, lastResult := s'.lastResult, tone := s'.tone
    journal := s'.journal, links := s'.links, led := s'.led, ledSince := s'.ledSince }

theorem StartUpFrame.trans {a b c : State} (h : StartUpFrame a b) (g : StartUpFrame b c) : StartUpFrame a c := by
  unfold StartUpFrame at *
  rw [g, h]

theorem HandFrame.startUp {s s' : State} (h : HandFrame s s') : StartUpFrame s s' := by
  unfold HandFrame at h
  rw [h]
  rfl

theorem State.setPhase_startUpFrame (p : Phase) : StartUpFrame s (s.setPhase p) := by
  unfold StartUpFrame
  rw [State.setPhase_frame]

theorem State.judgeLed_startUpFrame : StartUpFrame s s.judgeLed := by
  unfold StartUpFrame
  rw [State.judgeLed_frame]

theorem State.raise_startUpFrame (c : Condition) : StartUpFrame s (s.raise c) := rfl

theorem State.report_startUpFrame (b : JournalBody) (c : Condition) : StartUpFrame s (s.report b c) := rfl

theorem State.endLoad_frame : StartUpFrame s s.endLoad := by
  unfold State.endLoad
  exact (s.setPhase_startUpFrame _).trans rfl

theorem State.loadRefused_frame (g : Ground) : StartUpFrame s (s.loadRefused g) := by
  refine StartUpFrame.trans ?_ (State.endLoad_frame _)
  rfl

theorem State.loadTaken_frame (image : List Byte) : StartUpFrame s (s.loadTaken image) := by
  refine StartUpFrame.trans ?_ (State.endLoad_frame _)
  rfl

theorem State.loadImage_frame : StartUpFrame s s.loadImage := by
  unfold State.loadImage
  split
  · exact s.loadRefused_frame _
  · exact s.loadTaken_frame _

theorem State.judgeSeatDefault_frame : HandFrame s s.judgeSeatDefault := by
  unfold State.judgeSeatDefault
  split
  · exact s.seatChange_frame _ _
  · rfl

theorem State.enterRunning_frame : StartUpFrame s s.enterRunning := by
  unfold State.enterRunning
  simp only []
  refine StartUpFrame.trans (StartUpFrame.trans ?_ (State.raise_startUpFrame _ _)) (State.judgeLed_startUpFrame _)
  refine StartUpFrame.trans ?_ (State.judgeSeatDefault_frame _).startUp
  split
  · exact (s.setPhase_startUpFrame _).trans (State.report_startUpFrame _ _ _)
  · exact s.setPhase_startUpFrame _

theorem State.checkHeader_frame : StartUpFrame s s.checkHeader := by
  unfold State.checkHeader
  simp only []
  split
  · exact StartUpFrame.trans (b := { s with windows := _, startUp := _ }) rfl (State.setPhase_startUpFrame _ _)
  · exact StartUpFrame.trans (b := { s with windows := _, startUp := _ }) rfl (State.enterRunning_frame _)

/-- Nothing but the rail, the start-up record, the journal, the links and the LED has changed. -/
def DecisionFrame (s s' : State) : Prop :=
  s' = { s with
    rail := s'.rail, startUp := s'.startUp, journal := s'.journal, links := s'.links, led := s'.led, ledSince := s'.ledSince }

theorem DecisionFrame.trans {a b c : State} (h : DecisionFrame a b) (g : DecisionFrame b c) : DecisionFrame a c := by
  unfold DecisionFrame at *
  rw [g, h]

theorem RailFrame.decision {s s' : State} (h : RailFrame s s') : DecisionFrame s s' := by
  unfold RailFrame at h
  rw [h]
  rfl

theorem DecisionFrame.startUp {s s' : State} (h : DecisionFrame s s') : StartUpFrame s s' := by
  unfold DecisionFrame at h
  rw [h]
  rfl

theorem State.decideRail_frame : DecisionFrame s s.decideRail := by
  unfold State.decideRail
  simp only []
  refine DecisionFrame.trans ?_ (State.settle_frame _).decision
  have hrail (r : Rail) (st : RailState) : DecisionFrame s ((s.setRail r).enterRail st) :=
    ((s.setRail_frame r).trans (State.enterRail_frame _ _)).decision
  exact (hrail _ _).trans
    (holds_of_frame (P := fun x => DecisionFrame _ x) (State.judgeChecking_frame _) rfl)

theorem State.quietAfterLearn_frame : RailFrame s s.quietAfterLearn := by
  unfold State.quietAfterLearn
  split <;> rfl

theorem StartUpEffect.frame {i : Instr} {s e : State} (h : StartUpEffect i s e) : StartUpFrame s e := by
  cases h with
  | load => exact s.loadImage_frame
  | loadNoAnswer => exact s.loadRefused_frame _
  | headerCheck => exact s.checkHeader_frame
  | decision => exact s.decideRail_frame.startUp
  | release => exact s.enterRunning_frame

end Blocks

/-! ### A law of every step -/

/-- What the queue, the arrival time and a response leave, and every change keeps, every command keeps. -/
theorem exec_keeps {P : State → Prop} (hstamp : ∀ (s : State) (t : Time), P s → P (s.stamp t))
    (hanswer : ∀ (s : State) (l : Link) (q : List Byte) (r : Reply), P s → P (s.answer l q r))
    (heffect : ∀ (i : Instr) (s e : State), Effect i s e → P s → P e) {i : Instr} {s s' : State} (h : exec i s = .next s')
    (hs : P s) : P s' := by
  obtain ⟨e, he, rfl | ⟨l, q, r, -, rfl⟩⟩ := exec_leaves h
  · exact heffect _ _ _ he (hstamp s _ hs)
  · exact hanswer e l q r (heffect _ _ _ he (hstamp s _ hs))

/-- The same for a step, whose command leaves the queue's rest. -/
theorem step_keeps {P : State → Prop} (hqueue : ∀ (s : State) (is : List Instr), P s → P { s with pending := is })
    (hstamp : ∀ (s : State) (t : Time), P s → P (s.stamp t))
    (hanswer : ∀ (s : State) (l : Link) (q : List Byte) (r : Reply), P s → P (s.answer l q r))
    (heffect : ∀ (i : Instr) (s e : State), Effect i s e → P s → P e) {s s' : State} (hs : P s) (h : step s = .next s') :
    P s' := by
  unfold step at h
  split at h
  · cases h
    exact hs
  · exact exec_keeps hstamp hanswer heffect h (hqueue s _ hs)

end Sys2Proof.Machine
end

section
/-! The headphone output stays safe (R119, R120, R125 to R127). -/

namespace Sys2Proof.Machine

/-! ### Resets -/

/-- Either reset leaves every block at its reset state, over some tracks. -/
theorem ResetEffect.eq_resetBlocks {i : Instr} {s e : State} (h : ResetEffect i s e) :
    ∃ (s0 : State) (kind : ResetKind) (straps : Straps) (tracks : Vector Track 4) (store : TakeStoreOutcome),
      e = s0.resetBlocks kind straps tracks store := by
  cases h with
  | powerOn => exact ⟨_, _, _, _, _, rfl⟩
  | warm => exact ⟨_, _, _, _, _, rfl⟩

/-! ### One jack -/

/-- What the output's laws say of one jack: its state is that of its contacts, it is enabled exactly while it may be, and it is
silent while the supply is not GOOD. -/
def Jack.lawful (good : Bool) (j : Jack) : Prop :=
  j.state = jackStateOf j.tip j.sleeve ∧ j.enabled = j.mayEnable good ∧ (good = false → j.gain = 0 ∧ j.ramp = none)

/-- What a judgement of enabled needs of a jack, and what the contacts and the supply keep. -/
def Jack.judgeable (good : Bool) (j : Jack) : Prop :=
  j.state = jackStateOf j.tip j.sleeve ∧ (good = false → j.gain = 0 ∧ j.ramp = none)

/-- The supply is GOOD, as a flag. -/
def State.good (s : State) : Bool := decide (s.supply = .good)

theorem outputLaw_iff (s : State) :
    OutputLaw s ↔ (∀ i : JackIx, (s.jack i).lawful s.good) ∧ (s.supply = .off ↔ s.anySeated = false) := by
  constructor
  · rintro ⟨hstate, henabled, hgain, hseated⟩
    exact ⟨fun i => ⟨hstate i, henabled i, fun hg => hgain (by simpa [State.good] using hg) i⟩, hseated⟩
  · rintro ⟨hjack, hseated⟩
    refine ⟨fun i => (hjack i).1, fun i => (hjack i).2.1, fun hg i => (hjack i).2.2 (by simpa [State.good] using hg), hseated⟩

theorem Jack.lawful.judgeable {good : Bool} {j : Jack} (h : j.lawful good) : j.judgeable good := ⟨h.1, h.2.2⟩

@[simp] theorem Jack.judge_state (good : Bool) (j : Jack) : (j.judge good).state = j.state := by
  unfold Jack.judge
  split
  · rfl
  · split <;> rfl
  · rfl

/-- A jack whose enabled has been judged is lawful. -/
theorem Jack.judge_lawful {good : Bool} {j : Jack} (h : j.judgeable good) : (j.judge good).lawful good := by
  obtain ⟨hstate, hgain⟩ := h
  unfold Jack.judge
  split
  case h_1 hoff hmay =>
    exact ⟨hstate, hmay.symm, fun hg => by rw [hg] at hmay; simp [Jack.mayEnable] at hmay⟩
  case h_2 hon hmay =>
    split
    · exact ⟨hstate, hmay.symm, fun hg => by simp_all⟩
    · exact ⟨hstate, hmay.symm, fun _ => ⟨rfl, rfl⟩⟩
  case h_3 hnot hnot' =>
    refine ⟨hstate, ?_, hgain⟩
    cases henabled : j.enabled <;> cases hmay : j.mayEnable good <;> simp_all

/-- A disabled jack at rest stays at rest whatever volume it takes. -/
theorem Jack.setVolume_lawful {good : Bool} {j : Jack} (h : j.lawful good) (volume : Nat) : (j.setVolume volume).lawful good := by
  obtain ⟨hstate, henabled, hgain⟩ := h
  unfold Jack.setVolume
  simp only []
  split
  · rename_i hmoves
    refine ⟨hstate, henabled, fun hg => ?_⟩
    rw [henabled, hg] at hmoves
    simp [Jack.mayEnable] at hmoves
  · exact ⟨hstate, henabled, hgain⟩

theorem Jack.rampStep_lawful {good : Bool} {j : Jack} (h : j.lawful good) : j.rampStep.lawful good := by
  obtain ⟨hstate, henabled, hgain⟩ := h
  unfold Jack.rampStep
  split
  · exact ⟨hstate, henabled, hgain⟩
  · rename_i r hramp
    exact ⟨hstate, henabled, fun hg => by simp [(hgain hg).2] at hramp⟩

@[simp] theorem Jack.setVolume_state (j : Jack) (volume : Nat) : (j.setVolume volume).state = j.state := by
  unfold Jack.setVolume
  simp only []
  split <;> rfl

@[simp] theorem Jack.rampStep_state (j : Jack) : j.rampStep.state = j.state := by
  unfold Jack.rampStep
  split <;> rfl

/-! ### Both jacks -/

section Both
variable {s : State}

theorem State.anySeated_of_states {s' : State} (h : ∀ i : JackIx, (s'.jack i).state = (s.jack i).state) :
    s'.anySeated = s.anySeated := by
  have h1 : s'.jacks.j1.state = s.jacks.j1.state := h .j1
  have h2 : s'.jacks.j2.state = s.jacks.j2.state := h .j2
  rw [State.anySeated, h1, h2, State.anySeated]

@[simp] theorem State.jack_mapped (f : Jack → Jack) (s : State) (i : JackIx) :
    State.jack { s with jacks := s.jacks.map f } i = f (s.jack i) := PerJack.get_map _ _ _

/-- What keeps each jack's law and its state keeps the output's law. -/
theorem OutputLaw.mapped (h : OutputLaw s) {f : Jack → Jack} (hf : ∀ (good : Bool) (j : Jack), j.lawful good → (f j).lawful good)
    (hstate : ∀ j : Jack, (f j).state = j.state) : OutputLaw { s with jacks := s.jacks.map f } := by
  rw [outputLaw_iff] at h ⊢
  obtain ⟨hjack, hseated⟩ := h
  refine ⟨fun i => ?_, ?_⟩
  · rw [State.jack_mapped]
    exact hf _ _ (hjack i)
  · rw [State.anySeated_of_states (s := s) fun i => by rw [State.jack_mapped, hstate]]
    exact hseated

/-- The supply judged over jacks that are judgeable: each jack is lawful with it. -/
theorem State.judgeEnabled_jack (s : State) (i : JackIx) : s.judgeEnabled.jack i = (s.jack i).judge s.good :=
  State.jack_mapped _ _ _

theorem State.judgeEnabled_outputLaw (hjack : ∀ i : JackIx, (s.jack i).judgeable s.good)
    (hseated : s.supply = .off ↔ s.anySeated = false) : OutputLaw s.judgeEnabled := by
  refine (outputLaw_iff _).mpr ⟨fun i => ?_, ?_⟩
  · rw [State.judgeEnabled_jack]
    exact Jack.judge_lawful (hjack i)
  · rw [State.anySeated_of_states (s := s) fun i => by rw [State.judgeEnabled_jack, Jack.judge_state]]
    exact hseated

/-- The jacks as a new supply state finds them: silent where it leaves GOOD. -/
def State.supplied (s : State) (x : Supply) : State :=
  { s with
    supply := x, jacks := if s.supply = Supply.good ∧ x ≠ Supply.good then s.jacks.map Jack.mute else s.jacks }

theorem State.supplied_jack (s : State) (x : Supply) (i : JackIx) : (s.supplied x).jack i =
    if s.supply = Supply.good ∧ x ≠ Supply.good then (s.jack i).mute else s.jack i := by
  unfold State.supplied State.jack
  split
  · exact PerJack.get_map _ _ _
  · rfl

theorem State.supplied_anySeated (s : State) (x : Supply) : (s.supplied x).anySeated = s.anySeated :=
  State.anySeated_of_states fun i => by
    rw [State.supplied_jack]
    split <;> rfl

theorem State.supplied_judgeable (hjack : ∀ i : JackIx, (s.jack i).judgeable s.good) (x : Supply) (i : JackIx) :
    ((s.supplied x).jack i).judgeable (s.supplied x).good := by
  obtain ⟨hstate, hgain⟩ := hjack i
  rw [State.supplied_jack]
  split
  · exact ⟨hstate, fun _ => ⟨rfl, rfl⟩⟩
  · rename_i hkeeps
    refine ⟨hstate, fun hx => hgain ?_⟩
    have hx : x ≠ Supply.good := of_decide_eq_false hx
    simpa [State.good] using fun hgood => hkeeps ⟨hgood, hx⟩

/-- A change of the supply leaves the output lawful where OFF is its state exactly with no jack SEATED. -/
theorem State.setSupply_outputLaw (hjack : ∀ i : JackIx, (s.jack i).judgeable s.good) (x : Supply)
    (hseated : x = .off ↔ s.anySeated = false) : OutputLaw (s.setSupply x) := by
  have hlaw : OutputLaw (s.supplied x).judgeEnabled :=
    State.judgeEnabled_outputLaw (State.supplied_judgeable hjack x) (by rw [State.supplied_anySeated]; exact hseated)
  exact holds_of_frame (State.judgeLed_frame _) hlaw

theorem State.setSupply_anySeated (s : State) (x : Supply) : (s.setSupply x).anySeated = s.anySeated := by
  calc (s.setSupply x).anySeated = (s.supplied x).judgeEnabled.anySeated :=
        holds_of_frame (P := fun y => y.anySeated = _) (State.judgeLed_frame _) rfl
    _ = (s.supplied x).anySeated := State.anySeated_of_states fun i => by rw [State.judgeEnabled_jack, Jack.judge_state]
    _ = s.anySeated := s.supplied_anySeated x

/-- The supply that has followed its request leaves the output lawful. -/
theorem State.judgeSupply_outputLaw (hjack : ∀ i : JackIx, (s.jack i).lawful s.good) : OutputLaw s.judgeSupply := by
  have hset (x : Supply) := State.setSupply_outputLaw (fun i => (hjack i).judgeable) x
  rcases s.judgeSupply_cases with ⟨-, hseated, h⟩ | ⟨-, hseated, h⟩ | ⟨hseated, h⟩ <;> rw [h]
  · have hrising := hset (.rising s.now) (by simp [hseated])
    split
    · have hlaw := (outputLaw_iff _).mp hrising
      exact State.setSupply_outputLaw (fun i => (hlaw.1 i).judgeable) .good
        (by rw [State.setSupply_anySeated]; simp [hseated])
    · exact hrising
  · exact hset .off (by simp [hseated])
  · exact (outputLaw_iff _).mpr ⟨hjack, hseated⟩

theorem State.setJack_jack (s : State) (i j : JackIx) (x : Jack) : (s.setJack i x).jack j = if j = i then x else s.jack j :=
  PerJack.get_put _ _ _ _

/-- A jack replaced by one that is judgeable. -/
theorem State.setJack_judgeable (hjack : ∀ i : JackIx, (s.jack i).lawful s.good) {i : JackIx} {x : Jack}
    (hx : x.judgeable s.good) (j : JackIx) : ((s.setJack i x).jack j).judgeable (s.setJack i x).good := by
  rw [State.setJack_jack]
  split
  · exact hx
  · exact (hjack j).judgeable

theorem OutputLaw.setVolume (h : OutputLaw s) (i : JackIx) (volume : Nat) :
    OutputLaw (s.setJack i ((s.jack i).setVolume volume)) := by
  rw [outputLaw_iff] at h ⊢
  obtain ⟨hjack, hseated⟩ := h
  refine ⟨fun j => ?_, ?_⟩
  · rw [State.setJack_jack]
    split
    · exact Jack.setVolume_lawful (hjack i) volume
    · exact hjack j
  · rw [State.anySeated_of_states (s := s) fun j => by
      rw [State.setJack_jack]
      split
      · subst_vars; exact Jack.setVolume_state _ _
      · rfl]
    exact hseated

/-! ### Every change of the output -/

theorem OutputLaw.turn (h : OutputLaw s) (i : JackIx) (c : Contacts) (closed : Bool) (t : Time) :
    OutputLaw (s.setJack i ((s.jack i).turn c closed t)).judgeEnabled := by
  obtain ⟨hjack, hseated⟩ := (outputLaw_iff _).mp h
  refine State.judgeEnabled_outputLaw (State.setJack_judgeable hjack (hjack i).judgeable) ?_
  rw [State.anySeated_of_states (s := s) fun j => by
    rw [State.setJack_jack]
    split
    · subst_vars; rfl
    · rfl]
  exact hseated

theorem OutputLaw.debounceJack (h : OutputLaw s) (i : JackIx) (c : Contacts) : OutputLaw (s.debounceJack i c) := by
  obtain ⟨hjack, -⟩ := (outputLaw_iff _).mp h
  have hset := State.setJack_judgeable (i := i) hjack (x := (s.jack i).debounce c s.now) ⟨rfl, (hjack i).2.2⟩
  unfold State.debounceJack
  simp only []
  refine State.judgeSupply_outputLaw fun j => ?_
  rw [State.judgeEnabled_jack]
  split
  · exact Jack.judge_lawful (hset j)
  · exact Jack.judge_lawful (hset j)

theorem OutputLaw.setSupply (h : OutputLaw s) {x : Supply} (hon : s.supply ≠ .off) (hx : x ≠ .off) :
    OutputLaw (s.setSupply x) := by
  obtain ⟨hjack, hseated⟩ := (outputLaw_iff _).mp h
  exact State.setSupply_outputLaw (fun i => (hjack i).judgeable) x (by simp [hx, ← hseated, hon])

theorem OutputLaw.setVolumes (h : OutputLaw s) (js : List JackIx) (volume : Nat) : OutputLaw (s.setVolumes js volume) := by
  unfold State.setVolumes
  induction js generalizing s with
  | nil => exact h
  | cons j js ih => exact ih (h.setVolume j volume)

theorem OutputEffect.outputLaw {i : Instr} {e : State} (he : OutputEffect i s e) (h : OutputLaw s) : OutputLaw e := by
  cases he with
  | outputFrame => exact h.mapped (fun _ _ hj => hj) (fun _ => rfl)
  | ramp => exact h.mapped (fun _ _ => Jack.rampStep_lawful) Jack.rampStep_state
  | contactRaw => exact h.turn _ _ _ _
  | contact => exact h.debounceJack _ _
  | supplyGood =>
    unfold State.supplyAsserts
    simp only []
    split
    · exact OutputLaw.setSupply (s := { s with supplyGood := true }) h (by simp_all) nofun
    · exact h
  | supplyLost =>
    unfold State.supplyDrops
    simp only []
    split
    · exact OutputLaw.setSupply (s := { s with supplyGood := false }) h (by simp_all) nofun
    · exact h
  | riseTimeout =>
    unfold State.riseExpires
    split
    · split
      · exact h.setSupply (by simp_all) nofun
      · exact h
    · exact h
  | clickEnd => exact h
  | readStatus => exact h.mapped (fun _ _ hj => hj) (fun _ => rfl)
  | setVolume => exact h.setVolumes _ _

end Both

theorem State.resetBlocks_outputLaw (s : State) (kind : ResetKind) (straps : Straps) (tracks : Vector Track 4)
    (store : TakeStoreOutcome) : OutputLaw (s.resetBlocks kind straps tracks store) := by
  have hjack (j : Jack) : (resetJack j s.now).lawful false := ⟨rfl, rfl, fun _ => ⟨rfl, rfl⟩⟩
  refine holds_of_frame (State.judgeLed_frame _) ((outputLaw_iff _).mpr ⟨fun i => ?_, ?_⟩)
  · have hreset : State.jack { s with jacks := s.jacks.map (fun j => resetJack j s.now) } i = _ := State.jack_mapped _ s i
    exact hreset ▸ hjack (s.jack i)
  · exact ⟨fun _ => rfl, fun _ => rfl⟩

/-- Settles O57: only the output's own commands and the resets reach the jacks and their supply. -/
theorem outputStaysSafe : Obligations.OutputStaysSafe := by
  intro s s' hs hstep
  refine step_keeps (fun _ _ h => h) (fun _ _ h => h) (fun _ _ _ _ h => h) (fun i s e he h => ?_) hs hstep
  cases he with
  | unchanged => exact h
  | reset he =>
    obtain ⟨s0, kind, straps, tracks, store, rfl⟩ := he.eq_resetBlocks
    exact s0.resetBlocks_outputLaw kind straps tracks store
  | startUp he => exact holds_of_frame he.frame h
  | key he => exact holds_of_frame he.frame h
  | pedal he => exact holds_of_frame he.frame h
  | rail he => exact holds_of_frame he.frame h
  | test he => exact holds_of_frame he.frame h
  | voice he => exact holds_of_frame he.frame h
  | output he => exact he.outputLaw h
  | transport he => exact holds_of_frame he.plays.frame h
  | link he => exact holds_of_frame he.frame h
  | seat he => exact holds_of_frame he.frame h
  | calibration he => exact holds_of_frame he.frame h
  | commit he => exact holds_of_frame he.frame h

end Sys2Proof.Machine
end

section
/-! The commands in order (R1, R208): the arrival time, the queue, the start-up phase; and every command completes. -/

namespace Sys2Proof.Machine

/-! ### The arrival time and the queue -/

theorem Effect.now_pending {i : Instr} {s e : State} (h : Effect i s e) : e.now = s.now ∧ e.pending = s.pending := by
  cases h with
  | unchanged => exact ⟨rfl, rfl⟩
  | reset h =>
    cases h with
    | powerOn =>
      unfold State.powerOn State.resetBlocks State.cutCommit
      refine holds_of_frame (P := fun x => x.now = s.now ∧ x.pending = s.pending) (State.judgeLed_frame _) ?_
      cases s.commit <;> exact ⟨rfl, rfl⟩
    | warm =>
      unfold State.warm State.resetBlocks State.cutCommit
      refine holds_of_frame (P := fun x => x.now = s.now ∧ x.pending = s.pending) (State.judgeLed_frame _) ?_
      cases s.commit <;> exact ⟨rfl, rfl⟩
  | startUp h => rw [h.frame]; exact ⟨rfl, rfl⟩
  | key h => rw [h.frame]; exact ⟨rfl, rfl⟩
  | pedal h => rw [h.frame]; exact ⟨rfl, rfl⟩
  | rail h => rw [h.frame]; exact ⟨rfl, rfl⟩
  | test h => rw [h.frame]; exact ⟨rfl, rfl⟩
  | voice h => rw [h.frame]; exact ⟨rfl, rfl⟩
  | output h => rw [h.frame]; exact ⟨rfl, rfl⟩
  | transport h => rw [h.plays.frame]; exact ⟨rfl, rfl⟩
  | link h => rw [h.frame]; exact ⟨rfl, rfl⟩
  | seat h => rw [h.frame]; exact ⟨rfl, rfl⟩
  | calibration h => rw [h.frame]; exact ⟨rfl, rfl⟩
  | commit h => rw [h.frame]; exact ⟨rfl, rfl⟩

/-! ### The start-up phase -/

section Phases
variable (s : State)

@[simp] theorem State.setPhase_phase (p : Phase) : (s.setPhase p).startUp.phase = p :=
  holds_of_frame (P := fun x => x.startUp.phase = p) (State.judgeLed_frame _) rfl

/-- CHECKING ends in SAMPLES or goes on (R208). -/
def PhaseChecks (s e : State) : Prop :=
  e.startUp.phase = s.startUp.phase ∨ (s.startUp.phase = .checking ∧ e.startUp.phase = .samples)

theorem State.judgeChecking_phase : PhaseChecks s s.judgeChecking := by
  unfold State.judgeChecking
  split
  · rename_i hlast
    exact .inr ⟨hlast.1, s.setPhase_phase _⟩
  · exact .inl rfl

theorem State.reportSensors_phase : PhaseChecks s s.reportSensors := by
  unfold State.reportSensors
  split
  · exact State.judgeChecking_phase { s with startUp := _ }
  · exact .inl rfl

theorem State.reportPedals_phase : PhaseChecks s s.reportPedals := by
  unfold State.reportPedals
  split
  · exact State.judgeChecking_phase { s with startUp := _ }
  · exact .inl rfl

/-- A reading's handling up to its report leaves the phase. -/
theorem PhaseChecks.of_startUp {a b c d : State} (h : a.startUp.phase = s.startUp.phase) (hb : PhaseChecks a b)
    (hc : c.startUp = b.startUp) (hd : d.startUp.phase = c.startUp.phase) : PhaseChecks s d := by
  unfold PhaseChecks at *
  rw [hd, hc, ← h]
  exact hb

theorem State.keyReading_phase (k : KeyIx) (raw : Nat) : PhaseChecks s (s.keyReading k raw) := by
  have hscan (x : State) (c : KeyCal) : (x.scanReading k c raw).startUp = x.startUp := by
    rw [State.scanReading_frame]
  rcases s.keyReading_cases k raw with ⟨-, h⟩ | ⟨-, -, h⟩ | ⟨-, -, h⟩ <;> rw [h]
  · exact .inl rfl
  · rw [PhaseChecks, hscan]
    exact PhaseChecks.of_startUp s (by rw [s.restTold_frame]; rfl) (State.reportSensors_phase _) rfl rfl
  · left
    rw [hscan, s.restTold_frame, State.trackerReading_frame]

theorem State.pedalReading_phase (i : PedalIx) (raw : Nat) : PhaseChecks s (s.pedalReading i raw) := by
  unfold State.pedalReading
  split
  · exact .inl rfl
  · split
    · exact State.reportPedals_phase (s.setLive i _)
    · left
      rw [State.pedalReadingAfter_frame]

theorem HandFrame.startUp_eq {s s' : State} (h : HandFrame s s') : s'.startUp = s.startUp := by rw [h]

theorem State.enterRunning_phase : s.enterRunning.startUp.phase = .running := by
  have hcal : ∀ x : State, x.startUp.phase = .running →
      (x.judgeSeatDefault.raise .startup).judgeLed.startUp.phase = .running := by
    intro x hx
    refine holds_of_frame (P := fun y => y.startUp.phase = .running) (State.judgeLed_frame _) ?_
    show x.judgeSeatDefault.startUp.phase = .running
    rw [x.judgeSeatDefault_frame.startUp_eq, hx]
  unfold State.enterRunning
  simp only []
  split
  · exact hcal _ (s.setPhase_phase _)
  · exact hcal _ (s.setPhase_phase _)

theorem State.checkHeader_phase :
    s.checkHeader.startUp.phase = if s.startUp.straps.holdStart then .held else .running := by
  unfold State.checkHeader
  simp only []
  split
  · exact State.setPhase_phase _ _
  · exact State.enterRunning_phase _

theorem State.endLoad_phase : s.endLoad.startUp.phase = .checking := State.setPhase_phase _ _

theorem State.decideRail_phase : PhaseChecks s s.decideRail := by
  unfold State.decideRail
  simp only []
  rw [PhaseChecks, (State.settle_frame _).hand.startUp_eq]
  refine PhaseChecks.of_startUp s ?_ (State.judgeChecking_phase _) rfl rfl
  show (State.enterRail _ _).startUp.phase = _
  rw [(State.enterRail_frame _ _).hand.startUp_eq]
  rfl

/-- How a command moves the start-up phase (R208). -/
inductive PhaseMove (i : Instr) (s : State) : Phase → Prop where
  | stays : PhaseMove i s s.startUp.phase
  | loaded (was : s.startUp.phase = .loading) : PhaseMove i s .checking
  | checked (was : s.startUp.phase = .checking) : PhaseMove i s .samples
  | sampled {t : Time} (was : s.startUp.phase = .samples) (event : i = .sampleHeaderCheck t) :
      PhaseMove i s (if s.startUp.straps.holdStart then .held else .running)
  | released {t : Time} {l : Link} {p : List Byte} (was : s.startUp.phase = .held) (request : i = .startRelease t l p) :
      PhaseMove i s .running

variable {s}

theorem PhaseMove.of_eq {i : Instr} {p : Phase} (h : p = s.startUp.phase) : PhaseMove i s p := h ▸ .stays

theorem PhaseChecks.move {i : Instr} {e : State} (h : PhaseChecks s e) : PhaseMove i s e.startUp.phase := by
  rcases h with h | ⟨hwas, h⟩
  · exact .of_eq h
  · rw [h]
    exact .checked hwas

/-- Every command but the two resets leaves the phase or moves it to the next one. -/
theorem Effect.phase {i : Instr} {e : State} (h : Effect i s e) (hreset : ¬ ResetEffect i s e) :
    PhaseMove i s e.startUp.phase := by
  cases h with
  | unchanged => exact .stays
  | reset h => exact absurd h hreset
  | startUp h =>
    cases h with
    | load phase =>
      unfold State.loadImage
      split
      · rw [State.loadRefused, State.endLoad_phase]
        exact .loaded phase
      · rw [State.loadTaken, State.endLoad_phase]
        exact .loaded phase
    | loadNoAnswer phase =>
      rw [State.loadRefused, State.endLoad_phase]
      exact .loaded phase
    | headerCheck phase =>
      rw [State.checkHeader_phase]
      exact .sampled phase rfl
    | decision => exact s.decideRail_phase.move
    | release phase =>
      rw [State.enterRunning_phase]
      exact .released phase rfl
  | key h =>
    cases h with
    | keyReading => exact (s.keyReading_phase _ _).move
  | pedal h =>
    cases h with
    | pedalReading => exact (s.pedalReading_phase _ _).move
  | rail h => exact .of_eq (by rw [h.frame])
  | test h => exact .of_eq (by rw [h.frame])
  | voice h => exact .of_eq (by rw [h.frame])
  | output h => exact .of_eq (by rw [h.frame])
  | transport h => exact .of_eq (by rw [h.plays.frame])
  | link h => exact .of_eq (by rw [h.frame])
  | seat h => exact .of_eq (by rw [h.frame])
  | calibration h => exact .of_eq (by rw [h.frame])
  | commit h => exact .of_eq (by rw [h.frame])

end Phases

/-- What a command leaves, its response put aside. -/
theorem exec_effect {i : Instr} {s s' : State} (h : exec i s = .next s') :
    ∃ e : State, Effect i (s.stamp (commandTime i)) e ∧ s' = { e with links := s'.links } := by
  obtain ⟨e, he, rfl | ⟨l, q, r, -, rfl⟩⟩ := exec_leaves h
  · exact ⟨_, he, rfl⟩
  · exact ⟨e, he, rfl⟩

/-- Settles O2: every change keeps the arrival time and the queue, and moves the phase by `PhaseMove`. -/
theorem commandsKeepOrder : Obligations.CommandsKeepOrder := by
  intro i s s' h
  obtain ⟨e, he, hs'⟩ := exec_effect h
  obtain ⟨hnow, hpending⟩ := he.now_pending
  rw [hs']
  refine ⟨hnow, hpending, fun hon hwarm => ?_⟩
  have hreset : ¬ ResetEffect i (s.stamp (commandTime i)) e := by
    intro hr
    cases hr with
    | powerOn => exact hon _ rfl
    | warm => exact hwarm _ rfl
  have hmove := he.phase hreset
  show (e.startUp.phase = s.startUp.phase ∨ _) ∧ (_ → e.startUp.phase = _ → _) ∧ (_ → e.startUp.phase ≠ _ → _ ∧ e.startUp.phase = _)
  generalize e.startUp.phase = p at hmove
  have hphase : (s.stamp (commandTime i)).startUp = s.startUp := rfl
  cases hmove with
  | stays => exact ⟨.inl rfl, fun h h' => absurd (h.symm.trans h') nofun, fun h h' => absurd h h'⟩
  | loaded was => rw [hphase] at was; rw [was]; exact ⟨.inr rfl, nofun, nofun⟩
  | checked was => rw [hphase] at was; rw [was]; exact ⟨.inr rfl, nofun, nofun⟩
  | sampled was event =>
    subst event
    rw [hphase] at was
    rw [was]
    refine ⟨.inr ?_, nofun, fun _ _ => ⟨rfl, rfl⟩⟩
    rw [hphase]
    split <;> rfl
  | released was request =>
    subst request
    rw [hphase] at was
    rw [was]
    exact ⟨.inr rfl, fun _ _ => ⟨_, _, rfl⟩, nofun⟩

/-! ### Completion -/

theorem State.request_completes (s : State) (t : Time) (l : Link) (code : Nat) (p : List Byte)
    (rule : State → State × Reply) : ∃ s' : State, s.request t l code p rule = .next s' := by
  rcases s.request_cases (t := t) (l := l) (code := code) (p := p) (rule := rule) with h | h | h <;> exact ⟨_, h⟩

/-- Every command but OUTPUT_FRAME goes on to a next state. -/
theorem exec_completes (i : Instr) (s : State) (h : ∀ t : Time, i ≠ .outputFrame t) : ∃ s' : State, exec i s = .next s' := by
  cases i with
  | outputFrame t => exact absurd rfl (h t)
  | _ => first | exact ⟨_, rfl⟩ | exact s.request_completes _ _ _ _ _

/-- A lawful voice has the address of its word pair (R112, R114). -/
theorem Voice.lawful.words {v : Voice} {s : State} (hv : v.lawful s.windows) (hw : ∀ w ∈ s.windows, w.lawful) :
    ∃ x : Int × Int, s.voiceWords v = some x := by
  obtain ⟨⟨w, hwindow, hlo, hhi, -, hposition⟩, -⟩ := hv
  obtain ⟨-, -, heven, -, -, hbound, -⟩ := hw w (List.mem_of_getElem? hwindow)
  have haddress : v.address w + 1 ≤ Config.lastWord := by
    have hstride : (v.key.val - w.keyLo) * w.stride ≤ (w.keyHi - w.keyLo) * w.stride :=
      Nat.mul_le_mul_right _ (by omega)
    unfold Voice.address
    omega
  unfold State.voiceWords
  rw [hwindow]
  simp only [haddress, if_true]
  exact ⟨_, rfl⟩

/-- Under the law of the voices every output frame has its sum (R117). -/
theorem VoiceLaw.voiceSum {s : State} (h : VoiceLaw s) : ∃ sum : Int × Int, s.voiceSum = some sum := by
  obtain ⟨hwindows, hvoices, -⟩ := h
  have hall : ∀ v ∈ s.voices.toList, ∀ x : Voice, v = some x → x.lawful s.windows := by
    intro v hv x hx
    obtain ⟨i, hi, rfl⟩ := List.getElem_of_mem hv
    exact hvoices ⟨i, by simpa using hi⟩ x (by simpa [State.voice] using hx)
  unfold State.voiceSum
  generalize ((0, 0) : Int × Int) = acc
  generalize s.voices.toList = vs at hall
  induction vs generalizing acc with
  | nil => exact ⟨acc, rfl⟩
  | cons v vs ih =>
    have hrest := fun a => ih (acc := a) fun u hu => hall u (List.mem_cons_of_mem _ hu)
    rw [List.foldl_cons]
    cases v with
    | none => exact hrest acc
    | some x =>
      obtain ⟨w, hwords⟩ := (hall _ List.mem_cons_self x rfl).words hwindows
      simp only [hwords, Option.map_some]
      exact hrest _

/-- Settles O3: the requests and the timed events complete by their shape, OUTPUT_FRAME by the law of the voices. -/
theorem commandsComplete : Obligations.CommandsComplete := by
  intro i s
  by_cases hframe : ∃ t : Time, i = .outputFrame t
  · obtain ⟨t, rfl⟩ := hframe
    refine ⟨fun r h => ?_, fun _ _ => rfl, fun hlaw => ?_⟩
    · simp only [exec, execOutputFrame] at h
      split at h <;> cases h
    · obtain ⟨sum, hsum⟩ := VoiceLaw.voiceSum (s := s.stamp t) hlaw
      exact ⟨(s.stamp t).frame sum, by simp only [exec, execOutputFrame, hsum]⟩
  · obtain ⟨s', h⟩ := exec_completes i s fun t ht => hframe ⟨t, ht⟩
    rw [h]
    exact ⟨nofun, nofun, fun _ => ⟨s', rfl⟩⟩

end Sys2Proof.Machine
end

section
/-! A key's reading reaches its key (R3): no other key's tracker or calibration, whatever its acts. -/

namespace Sys2Proof.Machine

/-- The other keys have their trackers and their calibrations as they were. -/
def OthersKept (k : KeyIx) (s s' : State) : Prop :=
  ∀ j : KeyIx, j ≠ k → s'.key j = s.key j ∧ s'.keyCal j = s.keyCal j ∧ s'.cal.origins[j] = s.cal.origins[j]

section Others
variable {k : KeyIx} {s : State}

theorem OthersKept.refl (s : State) : OthersKept k s s := fun _ _ => ⟨rfl, rfl, rfl⟩

theorem OthersKept.trans {a b c : State} (h : OthersKept k a b) (g : OthersKept k b c) : OthersKept k a c := by
  intro j hj
  obtain ⟨h1, h2, h3⟩ := h j hj
  obtain ⟨g1, g2, g3⟩ := g j hj
  exact ⟨g1.trans h1, g2.trans h2, g3.trans h3⟩

/-- What leaves the trackers and the working copy leaves the other keys. -/
theorem OthersKept.of_eq {s' : State} (hkeys : s'.keys = s.keys) (hcal : s'.cal = s.cal) : OthersKept k s s' := by
  intro j _
  unfold State.key State.keyCal
  rw [hkeys, hcal]
  exact ⟨rfl, rfl, rfl⟩

theorem TakeFrame.others {s' : State} (h : TakeFrame s s') : OthersKept k s s' := .of_eq (by rw [h]) (by rw [h])

theorem State.setKey_others (s : State) (x : Tracker) : OthersKept k s (s.setKey k x) := by
  intro j hj
  rw [State.key_setKey, if_neg hj]
  exact ⟨rfl, rfl, rfl⟩

theorem State.setKeyCal_others (s : State) (c : KeyCal) (o : Origin) : OthersKept k s (s.setKeyCal k c o) := by
  intro j hj
  refine ⟨rfl, ?_, ?_⟩
  · show (tablePut s.cal.keys k c)[j] = _
    rw [tablePut_get, if_neg (Ne.symm hj)]
    rfl
  · show (tablePut s.cal.origins k o)[j] = _
    rw [tablePut_get, if_neg (Ne.symm hj)]

theorem State.applyCal_others (s : State) (c : KeyCal) : OthersKept k s (s.applyCal k c) :=
  ((s.setKeyCal_others c .written).trans (.of_eq (s' := (s.setKeyCal k c .written).calChanged) rfl rfl)).trans
    (State.setKey_others _ _)

theorem State.applyPending_others (s : State) : OthersKept k s (s.applyPending k) := by
  unfold State.applyPending
  split
  · exact .refl s
  · exact (s.setKey_others _).trans (State.applyCal_others _ _)

theorem State.passToLearn_others (s : State) : OthersKept k s (s.passToLearn k) := by
  unfold State.passToLearn
  split
  · exact s.setKey_others _
  · exact .refl s

theorem State.enterRest_others (s : State) : OthersKept k s (s.enterRest k) :=
  ((s.setKey_others _).trans (State.applyPending_others _)).trans (State.passToLearn_others _)

theorem Transits.others {s' : State} (h : Transits s k s') : OthersKept k s s' := by
  cases h with
  | moves => exact s.setKey_others _
  | rests => exact s.enterRest_others
  | strikes => exact OthersKept.trans (s.setKey_others _) (State.keyOn_frame _ _ _ _ _ _).others
  | releases => exact OthersKept.trans (s.setKey_others _) (State.keyOff_frame _ _ _ _ _).others

theorem State.enterFaulty_others (s : State) (stored : Nat) : OthersKept k s (s.enterFaulty k stored) := by
  have hfaulty (a : State) (x : Tracker) : OthersKept k a ((a.setKey k x).keyFaultRecord k false .readings) :=
    (a.setKey_others x).trans (State.report_take _ _ _).others
  unfold State.enterFaulty
  simp only []
  split
  · exact (s.keyOff_frame _ _ _ _).others.trans (hfaulty _ _)
  · exact hfaulty _ _

theorem State.recoverKey_others (s : State) (cause : FaultCause) : OthersKept k s (s.recoverKey k cause) := by
  unfold State.recoverKey
  exact ((s.applyPending_others.trans (State.setKey_others _ _)).trans (State.report_take _ _ _).others).trans
    (State.passToLearn_others _)

theorem KeyAct.others {raw : Nat} {s' : State} (h : KeyAct raw k s s') : OthersKept k s s' := by
  cases h with
  | note => exact s.setKey_others _
  | transit h => exact h.others
  | faults => exact s.enterFaulty_others _
  | recovers => exact s.recoverKey_others _
  | learns => exact s.setKey_others _

theorem State.trackerReading_others (s : State) (raw : Nat) : OthersKept k s (s.trackerReading k raw) :=
  (s.trackerReading_acts k raw).keeps (P := OthersKept k s) (fun _ _ h ha => ha.trans h.others) (.refl s)

theorem State.keyReading_others (s : State) (raw : Nat) : OthersKept k s (s.keyReading k raw) := by
  have htold (a : State) : OthersKept k a (s.restTold a k) :=
    .of_eq (by rw [s.restTold_frame]) (by rw [s.restTold_frame])
  have hsensors (a : State) : OthersKept k a a.reportSensors :=
    .of_eq (by rw [State.reportSensors_frame]) (by rw [State.reportSensors_frame])
  have hscan (a : State) (c : KeyCal) : OthersKept k a (a.scanReading k c raw) :=
    .of_eq (by rw [State.scanReading_frame]) (by rw [State.scanReading_frame])
  have hevaluated : OthersKept k s (s.evaluateKey k raw) := s.setKey_others _
  rcases s.keyReading_cases k raw with ⟨-, h⟩ | ⟨-, -, h⟩ | ⟨-, -, h⟩ <;> rw [h]
  · exact .refl s
  · exact ((hevaluated.trans (htold _)).trans (hsensors _)).trans (hscan _ _)
  · exact ((s.trackerReading_others raw).trans (htold _)).trans (hscan _ _)

end Others

/-- Settles O10: the frame of a reading, and the other keys through each of its acts. -/
theorem keyReadingReachesItsKey : Obligations.KeyReadingReachesItsKey := by
  intro t k r s
  refine ⟨_, rfl, fun hphase => ?_, fun j hj => ?_, ?_⟩
  · show (s.stamp t).keyReading k r.val = _
    unfold State.keyReading
    exact if_pos hphase
  · exact (s.stamp t).keyReading_others r.val j hj
  · exact (s.stamp t).keyReading_frame k r.val

end Sys2Proof.Machine
end

section
/-! The working copy stays legal, and the image keeps its size (R5, R35, R45, R65, R205, R206). -/

namespace Sys2Proof.Machine

-- One declaration after another: side by side they open more threads than the check's memory limit holds.
set_option Elab.async false

/-! ### The image's size -/

theorem length_flatMap_of_length {α β : Type} {f : α → List β} {n : Nat} (h : ∀ x : α, (f x).length = n) (l : List α) :
    (l.flatMap f).length = l.length * n := by
  induction l with
  | nil => simp
  | cons x l ih =>
    rw [List.flatMap_cons, List.length_append, h, ih, List.length_cons]
    ring

theorem curveBytes_length (cv : Vector Breakpoint 8) : (curveBytes cv).length = 24 := by
  unfold curveBytes
  rw [length_flatMap_of_length (n := 3) fun _ => rfl]
  simp

/-- The image that a commit forms has its 832 bytes (R206). -/
theorem imageOf_length (w : WorkingCopy) (count : Nat) : (imageOf w count).length = Config.imageBytes := by
  unfold imageOf imageBody
  simp only [List.length_append, length_flatMap_of_length curveBytes_length, u1_length, u2_length,
    length_flatMap_of_length (f := fun k : KeyIx => keyCalBytes w.keys[k] ++ u1 w.origins[k].code) (n := 8) fun _ => rfl,
    length_flatMap_of_length (f := fun p : PedalCal => u2 p.rest ++ u2 p.full) (n := 4) fun _ => rfl]
  simp [Config.imageBytes]

theorem fitImage_length (bytes : List Byte) : (fitImage bytes).length = Config.imageBytes := by
  unfold fitImage
  rw [List.length_take, List.length_append, List.length_replicate]
  omega

theorem pageOf_length {image : List Byte} {page : Nat} (h : image.length = Config.imageBytes) (hp : page ≤ Config.lastPage) :
    (pageOf image page).length = Config.pageBytes := by
  unfold pageOf
  rw [List.length_take, List.length_drop, h]
  simp only [Config.imageBytes, Config.lastPage, Config.pageBytes] at *
  omega

theorem putPage_length {image bytes : List Byte} {page : Nat} (h : image.length = Config.imageBytes)
    (hp : page ≤ Config.lastPage) (hb : bytes.length = Config.pageBytes) :
    (putPage image page bytes).length = Config.imageBytes := by
  unfold putPage
  rw [List.length_append, List.length_append, List.length_take, List.length_drop, h, hb]
  simp only [Config.imageBytes, Config.lastPage, Config.pageBytes] at *
  omega

/-! ### Legal copies -/

theorem byteAt_le (p : List Byte) (i : Nat) : byteAt p i ≤ 255 := Nat.le_of_lt_succ (BitVec.isLt _)

theorem be2At_le (p : List Byte) (i : Nat) : be2At p i ≤ 65535 := by
  have := byteAt_le p i
  have := byteAt_le p (i + 1)
  unfold be2At
  omega

/-- The repairs of a touch block make it legal (R39). -/
theorem repairTouch_legal (t : Touch) :
    fractionsValid (repairTouch t).fOn (repairTouch t).fRel (repairTouch t).fRa (repairTouch t).fSt = true ∧
      2 ≤ (repairTouch t).hyst ∧ (repairTouch t).hyst ≤ 32 ∧ 40 ≤ (repairTouch t).quietMs ∧
      (repairTouch t).quietMs ≤ 500 := by
  obtain ⟨hlo, hhi⟩ := clampNat_mem (lo := 2) (hi := 32) t.hyst (by omega)
  obtain ⟨qlo, qhi⟩ := clampNat_mem (lo := 40) (hi := 500) t.quietMs (by omega)
  refine ⟨?_, hlo, hhi, qlo, qhi⟩
  unfold repairTouch
  simp only []
  split
  · assumption
  · rfl

/-- The repair of a pedal pair makes it legal (R45). -/
theorem repairPedal_legal (p : PedalCal) : (repairPedal p).rest + 200 ≤ (repairPedal p).full ∧ (repairPedal p).full ≤ 1023 := by
  unfold repairPedal
  simp only []
  split
  · decide
  · have := (clampNat_mem (lo := 0) (hi := 1023) p.full (by omega)).2
    dsimp only at *
    omega

theorem defaultCurve_valid : ∀ c : Fin 4, curveValid (defaultCurve c) = true := by decide

/-- The repairs of a loaded image give a legal copy, whatever it held (R205). -/
theorem repairCopy_imageFields_legal (image : List Byte) : (repairCopy (imageFields image)).legal := by
  obtain ⟨hfractions, htouch⟩ := repairTouch_legal (imageFields image).touch
  refine ⟨fun k => ?_, hfractions, htouch.1, htouch.2.1, htouch.2.2.1, htouch.2.2.2, fun c => ?_, ?_, fun c => ?_, ?_⟩
  · unfold repairCopy imageFields
    simp only [tableMap_get, tableOf_get]
    exact ⟨(clampNat_mem (lo := 0) (hi := 1023) _ (by omega)).2, (clampNat_mem (lo := 0) (hi := 1023) _ (by omega)).2,
      be2At_le _ _, byteAt_le _ _⟩
  · unfold repairCopy
    simp only [tableOf_get]
    split
    · assumption
    · exact defaultCurve_valid c
  · unfold repairCopy
    simp only []
    split
    · decide
    · omega
  · unfold repairCopy
    simp only [tableMap_get]
    exact repairPedal_legal _
  · exact ⟨(clampNat_mem _ (by omega)).1, (clampNat_mem _ (by omega)).2⟩

/-! ### What each operation keeps of the two laws -/

/-- The records that may come to the working copy from one tracker are legal. -/
def Tracker.calLegal (x : Tracker) : Prop :=
  (∀ c : KeyCal, x.pendingCal = some c → c.legal) ∧
  (∀ lo hi : Nat, x.state = .learn (some (lo, hi)) → lo ≤ 1023 ∧ hi ≤ 1023)

/-- The working copy and the store are lawful. -/
def StoredLaw (s : State) : Prop := CalibrationLaw s ∧ StoreLaw s

theorem calibrationLaw_iff (s : State) : CalibrationLaw s ↔ s.cal.legal ∧ ∀ k : KeyIx, (s.key k).calLegal := by
  constructor
  · rintro ⟨hcal, hpending, hlearn⟩
    exact ⟨hcal, fun k => ⟨hpending k, hlearn k⟩⟩
  · rintro ⟨hcal, hkeys⟩
    exact ⟨hcal, fun k => (hkeys k).1, fun k => (hkeys k).2⟩

theorem WorkingCopy.legal.keyCal {w : WorkingCopy} (h : w.legal) (k : KeyIx) : w.keys[k].legal := h.1 k

section Laws
variable {s : State}

/-- The laws see the trackers, the working copy, the store and the commit alone. -/
theorem StoredLaw.congr {s' : State} (h : StoredLaw s) (hkeys : s'.keys = s.keys) (hcal : s'.cal = s.cal)
    (heeprom : s'.eeprom = s.eeprom) (hcount : s'.commitCount = s.commitCount) (hcommit : s'.commit = s.commit) :
    StoredLaw s' := by
  unfold StoredLaw CalibrationLaw StoreLaw State.key at *
  rw [hkeys, hcal, heeprom, hcount, hcommit]
  exact h

theorem StoredLaw.keyLegal (h : StoredLaw s) (k : KeyIx) : (s.key k).calLegal := ((calibrationLaw_iff s).mp h.1).2 k

theorem StoredLaw.calLegal (h : StoredLaw s) : s.cal.legal := h.1.1

theorem StoredLaw.setKey (h : StoredLaw s) {k : KeyIx} {x : Tracker} (hx : x.calLegal) : StoredLaw (s.setKey k x) := by
  refine ⟨(calibrationLaw_iff _).mpr ⟨h.calLegal, fun j => ?_⟩, h.2⟩
  rw [State.key_setKey]
  split
  · exact hx
  · exact h.keyLegal j

/-- A change of the working copy to a legal one, told to a commit in progress (R204). -/
theorem StoredLaw.setCal (h : StoredLaw s) {w : WorkingCopy} (hw : w.legal) :
    StoredLaw (State.calChanged { s with cal := w }) := by
  refine ⟨(calibrationLaw_iff _).mpr ⟨hw, h.keyLegal⟩, ?_⟩
  obtain ⟨-, hlength, hcount, hcommit⟩ := h
  refine ⟨hlength, hcount, fun c hc => ?_⟩
  obtain ⟨c0, hc0, rfl⟩ := Option.map_eq_some_iff.mp hc
  exact hcommit c0 hc0

/-- One key's calibration replaced by a legal one. -/
theorem WorkingCopy.legal.putKey {w : WorkingCopy} (h : w.legal) {c : KeyCal} (hc : c.legal) (k : KeyIx) (o : Origin) :
    WorkingCopy.legal { w with keys := tablePut w.keys k c, origins := tablePut w.origins k o } := by
  refine ⟨fun j => ?_, h.2⟩
  show (tablePut w.keys k c)[j].legal
  rw [tablePut_get]
  split
  · exact hc
  · exact h.keyCal j

theorem StoredLaw.setKeyCal (h : StoredLaw s) {k : KeyIx} {c : KeyCal} (hc : c.legal) (o : Origin) :
    StoredLaw (s.setKeyCal k c o).calChanged := h.setCal (h.calLegal.putKey hc k o)

theorem StoredLaw.applyCal (h : StoredLaw s) {k : KeyIx} {c : KeyCal} (hc : c.legal) : StoredLaw (s.applyCal k c) :=
  (h.setKeyCal hc .written).setKey (h.keyLegal k)

/-- A tracker that learns nothing, with its pending record as it was. -/
theorem StoredLaw.putKey (h : StoredLaw s) {k : KeyIx} {x : Tracker}
    (hst : ∀ p, x.state ≠ .learn (some p) := by intro p hp; cases hp)
    (hpending : x.pendingCal = (s.key k).pendingCal := by rfl) : StoredLaw (s.setKey k x) :=
  h.setKey ⟨fun c hc => (h.keyLegal k).1 c (hpending ▸ hc), fun _ _ hl => absurd hl (hst _)⟩

theorem StoredLaw.setState (h : StoredLaw s) (k : KeyIx) {st : KeyState}
    (hst : ∀ p, st ≠ .learn (some p) := by intro p hp; cases hp) : StoredLaw (s.setKeyState k st) := h.putKey hst

theorem StoredLaw.applyPending (h : StoredLaw s) (k : KeyIx) : StoredLaw (s.applyPending k) := by
  unfold State.applyPending
  split
  · exact h
  · have hlegal := h.keyLegal k
    refine StoredLaw.applyCal (h.setKey (x := { s.key k with pendingCal := none }) ⟨?_, hlegal.2⟩) (hlegal.1 _ ‹_›)
    exact fun _ hc => (by cases hc)

theorem StoredLaw.passToLearn (h : StoredLaw s) (k : KeyIx) : StoredLaw (s.passToLearn k) := by
  unfold State.passToLearn
  split
  · exact h.putKey
  · exact h

theorem StoredLaw.take {s' : State} (h : StoredLaw s) (hf : TakeFrame s s') : StoredLaw s' := holds_of_frame hf h

theorem StoredLaw.test {s' : State} (h : StoredLaw s) (hf : TestFrame s s') : StoredLaw s' := holds_of_frame hf h

theorem StoredLaw.rail {s' : State} (h : StoredLaw s) (hf : RailFrame s s') : StoredLaw s' := h.test hf.test

theorem StoredLaw.enterRest (h : StoredLaw s) (k : KeyIx) : StoredLaw (s.enterRest k) :=
  ((h.putKey).applyPending k).passToLearn k

/-! ### A key's reading -/

theorem Transits.storedLaw {k : KeyIx} {s' : State} (ht : Transits s k s') (h : StoredLaw s) : StoredLaw s' := by
  cases ht with
  | moves _ _ learns => exact h.setState k (fun p => learns (some p))
  | rests => exact h.enterRest k
  | strikes => exact (h.setState k (st := .down)).take (State.keyOn_frame _ _ _ _ _ _)
  | releases => exact (h.setState k (st := .returning)).take (State.keyOff_frame _ _ _ _ _)

theorem StoredLaw.enterFaulty (h : StoredLaw s) (k : KeyIx) (stored : Nat) : StoredLaw (s.enterFaulty k stored) := by
  have hfaulty {a : State} (ha : StoredLaw a) (x : Tracker) (hx : x.state = .faulty .readings)
      (hp : x.pendingCal = (a.key k).pendingCal) : StoredLaw ((a.setKey k x).keyFaultRecord k false .readings) :=
    (ha.putKey (fun p hl => by rw [hx] at hl; cases hl) hp).take (State.report_take _ _ _)
  unfold State.enterFaulty
  simp only []
  split
  · exact hfaulty (h.take (s.keyOff_frame _ _ _ _)) _ rfl rfl
  · exact hfaulty h _ rfl rfl

theorem StoredLaw.recoverKey (h : StoredLaw s) (k : KeyIx) (cause : FaultCause) : StoredLaw (s.recoverKey k cause) := by
  unfold State.recoverKey
  exact ((h.applyPending k).putKey.take (State.report_take _ _ _)).passToLearn k

/-- The learned depths stay within those of a reading (R27). -/
theorem widen_le {seen : Option (Nat × Nat)} {raw : Nat} (hraw : raw ≤ 1023)
    (h : ∀ p, seen = some p → p.1 ≤ 1023 ∧ p.2 ≤ 1023) : (widen seen raw).1 ≤ 1023 ∧ (widen seen raw).2 ≤ 1023 := by
  unfold widen
  split
  · exact ⟨hraw, hraw⟩
  · rename_i lo hi
    obtain ⟨hlo, hhi⟩ := h (lo, hi) rfl
    dsimp only
    omega

theorem KeyAct.storedLaw {raw : Nat} {k : KeyIx} {s' : State} (ha : KeyAct raw k s s') (hraw : raw ≤ 1023) (h : StoredLaw s) :
    StoredLaw s' := by
  cases ha with
  | note state pending =>
    have hlegal := h.keyLegal k
    exact h.setKey ⟨fun c hc => hlegal.1 c (pending ▸ hc), fun lo hi hl => hlegal.2 lo hi (state ▸ hl)⟩
  | transit ht => exact ht.storedLaw h
  | faults => exact h.enterFaulty k _
  | recovers => exact h.recoverKey k _
  | learns was state pending =>
    have hlegal := h.keyLegal k
    refine h.setKey ⟨fun c hc => hlegal.1 c (pending ▸ hc), fun lo hi hl => ?_⟩
    have hwide := widen_le hraw fun p hseen => hlegal.2 p.1 p.2 (hseen ▸ was)
    rw [state] at hl
    injection hl with hl
    injection hl with hl
    rw [hl] at hwide
    exact hwide

theorem StoredLaw.keyReading (h : StoredLaw s) (k : KeyIx) {raw : Nat} (hraw : raw ≤ 1023) : StoredLaw (s.keyReading k raw) := by
  have hscan {a : State} (ha : StoredLaw a) (c : KeyCal) : StoredLaw (a.scanReading k c raw) :=
    holds_of_frame (State.scanReading_frame _ _ _ _) ha
  have htold {a : State} (ha : StoredLaw a) : StoredLaw (s.restTold a k) := holds_of_frame (s.restTold_frame a k) ha
  have hsensors {a : State} (ha : StoredLaw a) : StoredLaw a.reportSensors := holds_of_frame (State.reportSensors_frame _) ha
  rcases s.keyReading_cases k raw with ⟨-, heq⟩ | ⟨-, -, heq⟩ | ⟨-, -, heq⟩ <;> rw [heq]
  · exact h
  · refine hscan (hsensors (htold ?_)) _
    refine h.putKey fun p => ?_
    show (evaluatedState (s.keyCal k) s.cal.touch raw).1 ≠ _
    unfold evaluatedState
    split
    · exact nofun
    · split
      · exact nofun
      · split <;> exact nofun
  · exact hscan (htold ((s.trackerReading_acts k raw).keeps (fun _ _ ha hs => ha.storedLaw hraw hs) h)) _

/-! ### The learn and the seat -/

theorem StoredLaw.endLearnKey (h : StoredLaw s) (k : KeyIx) : StoredLaw (s.endLearnKey k) := by
  have hleave {a : State} (ha : StoredLaw a) : StoredLaw (a.leaveLearn k) := by
    have hrest : StoredLaw (a.setKey k { a.key k with state := .rest, last := none, learnWaiting := false }) := ha.putKey
    exact hrest.applyPending k
  rcases s.endLearnKey_cases k with ⟨seen, hst, heq⟩ | ⟨-, heq⟩ <;> rw [heq]
  · refine hleave ?_
    unfold State.learnTaken
    split
    · split
      · obtain ⟨hlo, hhi⟩ := (h.keyLegal k).2 _ _ hst
        obtain ⟨-, -, hd, hg⟩ := h.calLegal.keyCal k
        refine h.setKeyCal ?_ .learned
        exact ⟨hlo, hhi, hd, hg⟩
      · exact h
    · exact h
  · exact h.setKey (h.keyLegal k)

theorem StoredLaw.endLearn (h : StoredLaw s) : StoredLaw s.endLearn := by
  have hfold (ks : List KeyIx) : ∀ a : State, StoredLaw a → StoredLaw (ks.foldl (fun x k => x.endLearnKey k) a) := by
    induction ks with
    | nil => exact fun _ ha => ha
    | cons k ks ih => exact fun a ha => ih _ (ha.endLearnKey k)
  have hkeys := hfold (List.finRange 88) { s with learn := none } h
  unfold State.endLearn
  generalize (List.finRange 88).foldl _ _ = a at hkeys ⊢
  exact StoredLaw.take (holds_of_frame a.quietAfterLearn_frame hkeys) (State.report_take _ _ _)

theorem StoredLaw.seatChange (h : StoredLaw s) (after : Option Link) (cause : SeatCause) : StoredLaw (s.seatChange after cause) := by
  rw [State.seatChange_eq]
  refine StoredLaw.test ?_ (State.abortTest_frame _ _)
  have hrecorded : StoredLaw (s.seatRecorded after cause) := h
  generalize s.seatRecorded after cause = a at hrecorded ⊢
  unfold State.endLearnUnder
  split
  · split
    · exact hrecorded.endLearn
    · exact hrecorded
  · exact hrecorded

theorem SeatEffect.storedLaw {i : Instr} {e : State} (he : SeatEffect i s e) (h : StoredLaw s) : StoredLaw e := by
  cases he with
  | seatClaim =>
    unfold State.claimSeat
    split
    · exact h
    · exact h.seatChange _ _
  | seatYield => exact h.seatChange _ _
  | seatPass => exact h.seatChange _ _
  | absent =>
    rcases s.judgeAbsent_cases _ with ⟨-, heq⟩ | ⟨-, heq⟩ <;> rw [heq]
    · exact h
    · refine StoredLaw.take ?_ ((State.ownerAbsent_plays _ _).trans (State.loaderAbsent_plays _ _)).take
      have hdeparted (l : Link) : StoredLaw (s.departed l) := holds_of_frame (s.departed_frame l) h
      unfold State.unseated
      split
      · exact (hdeparted _).seatChange _ _
      · exact hdeparted _

/-! ### Writes, loads and commits -/

theorem writtenCal_legal (p : List Byte) : (writtenCal p).legal := by
  have hr := (clampNat_mem (lo := 0) (hi := 400) (be2At p 1) (by omega)).2
  have hb := (clampNat_mem (lo := 600) (hi := 1023) (be2At p 3) (by omega)).2
  have hd := (clampNat_mem (lo := 8000) (hi := 12000) (be2At p 5) (by omega)).2
  have hg := (clampNat_mem (lo := 32) (hi := 96) (byteAt p 7) (by omega)).2
  refine ⟨?_, hb, ?_, ?_⟩ <;> simp only [writtenCal] <;> omega

theorem StoredLaw.writeCal (h : StoredLaw s) (k : KeyIx) {c : KeyCal} (hc : c.legal) : StoredLaw (s.writeCal k c) := by
  unfold State.writeCal
  split
  · exact h.applyCal hc
  · have hset : StoredLaw (s.setKey k { s.key k with pendingCal := some c }) :=
      h.setKey ⟨fun d hd => by cases hd; exact hc, (h.keyLegal k).2⟩
    exact hset.setCal hset.calLegal

theorem StoredLaw.beginLearn (h : StoredLaw s) (lo hi : Nat) (l : Link) : StoredLaw (s.beginLearn lo hi l) := by
  have hkey {a : State} (ha : StoredLaw a) (k : KeyIx) : StoredLaw (a.beginLearnKey k) := by
    unfold State.beginLearnKey
    split
    · exact holds_of_frame (State.keyLeft_frame _) (P := StoredLaw) ha.putKey
    · exact ha.setKey (ha.keyLegal k)
  have hfold (ks : List KeyIx) : ∀ a : State, StoredLaw a → StoredLaw (ks.foldl (fun x k => x.beginLearnKey k) a) := by
    induction ks with
    | nil => exact fun _ ha => ha
    | cons k ks ih => exact fun a ha => ih _ (hkey ha k)
  exact hfold _ _ (holds_of_frame (State.endQuiet_frame _ _) (P := StoredLaw) h)

theorem CalibrationEffect.storedLaw {i : Instr} {e : State} (he : CalibrationEffect i s e) (h : StoredLaw s) : StoredLaw e := by
  have hcal := h.calLegal
  obtain ⟨hkeys, hfractions, hyst, hyst', hquiet, hquiet', hcurves, hactive, hpedals, hcEng, hcEng'⟩ := hcal
  cases he with
  | writeKeyCal => exact h.writeCal _ (writtenCal_legal _)
  | writePedalCal _ apart =>
    refine h.setCal ⟨hkeys, hfractions, hyst, hyst', hquiet, hquiet', hcurves, hactive, fun c => ?_, hcEng, hcEng'⟩
    simp only [tablePut_get]
    split
    · exact ⟨apart, (clampNat_mem (lo := 0) (hi := 1023) _ (by omega)).2⟩
    · exact hpedals c
  | @writeTouch _ _ p _ _ valid =>
    refine holds_of_frame (State.judgeQuiet_frame _) (P := StoredLaw) (h.setCal ?_)
    obtain ⟨hlo, hhi⟩ := clampNat_mem (lo := 2) (hi := 32) (byteAt p 4) (by omega)
    obtain ⟨qlo, qhi⟩ := clampNat_mem (lo := 40) (hi := 500) (be2At p 5) (by omega)
    exact ⟨hkeys, valid, hlo, hhi, qlo, qhi, hcurves, hactive, hpedals, hcEng, hcEng'⟩
  | writeCurve _ valid =>
    refine h.setCal ⟨hkeys, hfractions, hyst, hyst', hquiet, hquiet', fun c => ?_, hactive, hpedals, hcEng, hcEng'⟩
    simp only [tablePut_get]
    split
    · exact valid
    · exact hcurves c
  | selectCurve _ index =>
    unfold State.selectCurve
    split
    · exact h
    · exact h.setCal ⟨hkeys, hfractions, hyst, hyst', hquiet, hquiet', hcurves, index, hpedals, hcEng, hcEng'⟩
  | @writeRailCal _ _ p =>
    obtain ⟨hlo, hhi⟩ := clampNat_mem (lo := 400) (hi := 4000) (be2At p 0) (by omega)
    exact h.setCal ⟨hkeys, hfractions, hyst, hyst', hquiet, hquiet', hcurves, hactive, hpedals, hlo, hhi⟩
  | learnBegin => exact h.beginLearn _ _ _
  | learnEnd => exact h.endLearn

theorem State.spoilPage_length (h : s.eeprom.length = Config.imageBytes) {page : Nat} (hp : page ≤ Config.lastPage) :
    (s.spoilPage page).eeprom.length = Config.imageBytes := putPage_length h hp (by simp)

theorem CommitEffect.storedLaw {i : Instr} {e : State} (he : CommitEffect i s e) (h : StoredLaw s) : StoredLaw e := by
  obtain ⟨hcal, hlength, hcount, hcommit⟩ := h
  cases he with
  | commit =>
    refine ⟨hcal, hlength, hcount, fun c hc => ?_⟩
    cases hc
    have : s.nextCount < 256 := Nat.mod_lt _ (by omega)
    exact ⟨Nat.zero_le _, imageOf_length _ _, Nat.le_of_lt_succ this⟩
  | pageAck =>
    unfold State.pageDone
    split
    · exact ⟨hcal, hlength, hcount, hcommit⟩
    · rename_i c hc
      obtain ⟨hpage, himage, hc255⟩ := hcommit c hc
      have hput : (putPage s.eeprom c.page (pageOf c.image c.page)).length = Config.imageBytes :=
        putPage_length hlength hpage (pageOf_length himage hpage)
      simp only []
      split
      · refine ⟨hcal, hput, hcount, fun d hd => ?_⟩
        cases hd
        refine ⟨?_, himage, hc255⟩
        show c.page + 1 ≤ _
        omega
      · exact holds_of_frame (State.judgeLed_frame _) (P := StoredLaw) ⟨hcal, hput, hc255, nofun⟩
  | pageTimeout =>
    unfold State.pageExpires
    split
    · exact ⟨hcal, hlength, hcount, hcommit⟩
    · rename_i c hc
      split
      · exact ⟨hcal, State.spoilPage_length hlength (hcommit c hc).1, hcount, nofun⟩
      · exact ⟨hcal, hlength, hcount, hcommit⟩

theorem StoredLaw.endLoad (h : StoredLaw s) : StoredLaw s.endLoad := by
  unfold State.endLoad
  exact holds_of_frame (State.setPhase_frame _ _) (P := fun x => StoredLaw (x.setQuiet _)) h

theorem StoredLaw.loaded (h : StoredLaw s) {w : WorkingCopy} (hw : w.legal) {n : Nat} (hn : n ≤ 255) (b : Bool) (src : CalSource) :
    StoredLaw (State.setCalSource { s with cal := w, commitCount := n, saved := b } src).endLoad :=
  StoredLaw.endLoad ⟨(calibrationLaw_iff _).mpr ⟨hw, h.keyLegal⟩, h.2.1, hn, h.2.2.2⟩

theorem StoredLaw.enterRunning (h : StoredLaw s) : StoredLaw s.enterRunning := by
  have hseat {a : State} (ha : StoredLaw a) : StoredLaw (a.judgeSeatDefault.raise .startup).judgeLed := by
    refine holds_of_frame (State.judgeLed_frame _) (P := StoredLaw) ?_
    unfold State.judgeSeatDefault
    split
    · exact ha.seatChange _ _
    · exact ha
  have hphase : StoredLaw (s.setPhase .running) := holds_of_frame (State.setPhase_frame _ _) (P := StoredLaw) h
  unfold State.enterRunning
  simp only []
  split
  · exact hseat hphase
  · exact hseat hphase

theorem StartUpEffect.storedLaw {i : Instr} {e : State} (he : StartUpEffect i s e) (h : StoredLaw s) : StoredLaw e := by
  cases he with
  | load =>
    unfold State.loadImage
    split
    · exact h.loaded defaultWorkingCopy_legal (Nat.zero_le _) _ _
    · exact h.loaded (repairCopy_imageFields_legal _) (byteAt_le _ _) _ _
  | loadNoAnswer => exact h.loaded defaultWorkingCopy_legal (Nat.zero_le _) _ _
  | headerCheck =>
    unfold State.checkHeader
    simp only []
    split
    · exact holds_of_frame (State.setPhase_frame _ _) (P := StoredLaw) h
    · exact StoredLaw.enterRunning h
  | decision => exact holds_of_frame s.decideRail_frame h
  | release => exact h.enterRunning

/-- A reset cuts a commit short, and the EEPROM given at power-on is one of the image's size (R207, R212). -/
theorem ResetEffect.storedLaw {i : Instr} {e : State} (he : ResetEffect i s e) (h : StoredLaw s) : StoredLaw e := by
  have hcut : s.cutCommit.cal.legal ∧ s.cutCommit.eeprom.length = Config.imageBytes ∧ s.cutCommit.commitCount ≤ 255 ∧
      s.cutCommit.commit = none := by
    unfold State.cutCommit
    split
    · exact ⟨h.calLegal, State.spoilPage_length h.2.1 (h.2.2.2 _ ‹_›).1, h.2.2.1, rfl⟩
    · exact ⟨h.calLegal, h.2.1, h.2.2.1, ‹_›⟩
  have hreset {a : State} (ha : a.cal.legal ∧ a.eeprom.length = Config.imageBytes ∧ a.commitCount ≤ 255 ∧ a.commit = none)
      (kind : ResetKind) (straps : Straps) (tracks : Vector Track 4) (store : TakeStoreOutcome) :
      StoredLaw (a.resetBlocks kind straps tracks store) := by
    obtain ⟨hcal, hlength, hcount, hcommit⟩ := ha
    refine holds_of_frame (State.judgeLed_frame _) (P := StoredLaw)
      ⟨(calibrationLaw_iff _).mpr ⟨hcal, fun k => ?_⟩, hlength, hcount, fun c hc => ?_⟩
    · have hkey : (Vector.replicate 88 resetTracker)[k] = resetTracker := by simp
      unfold State.key
      dsimp only
      rw [hkey]
      exact ⟨nofun, nofun⟩
    · exact absurd (hcommit.symm.trans hc) nofun
  cases he with
  | powerOn =>
    unfold State.powerOn
    generalize s.cutCommit = a at hcut ⊢
    obtain ⟨hcal, hlength, hrest⟩ := hcut
    refine hreset (a := a.attach _) ⟨hcal, ?_, hrest⟩ _ _ _ _
    unfold State.attach
    dsimp only
    split
    · exact fitImage_length _
    · exact hlength
  | warm =>
    unfold State.warm
    exact hreset hcut _ _ _ _

end Laws

/-- Settles O53: the working copy changes by checked writes, by repaired loads and by learned depths, and the store by whole
pages. -/
theorem calibrationStaysLegal : Obligations.CalibrationStaysLegal := by
  intro s s' hcal hstore hstep
  refine step_keeps (P := StoredLaw) (fun _ _ h => h) (fun _ _ h => h) (fun _ _ _ _ h => h) (fun i s e he h => ?_)
    ⟨hcal, hstore⟩ hstep
  cases he with
  | unchanged => exact h
  | reset he => exact he.storedLaw h
  | startUp he => exact he.storedLaw h
  | key he =>
    cases he with
    | @keyReading _ k r => exact h.keyReading k (Nat.le_of_lt_succ r.isLt)
  | pedal he => exact holds_of_frame he.frame h
  | rail he => exact holds_of_frame he.frame h
  | test he => exact holds_of_frame he.frame h
  | voice he => exact holds_of_frame he.frame h
  | output he => exact holds_of_frame he.frame h
  | transport he => exact holds_of_frame he.plays.frame h
  | link he => exact holds_of_frame he.frame h
  | seat he => exact he.storedLaw h
  | calibration he => exact he.storedLaw h
  | commit he => exact he.storedLaw h

end Sys2Proof.Machine
end

section
/-! A group's capture set is empty while its sostenuto switch is off (R47, R57). -/

namespace Sys2Proof.Machine

/-- The PLAYBACK group's part of the law. -/
def PlayCaptureLaw (s : State) : Prop := (s.playChannel sostenutoIx).switch = false → s.playCapture = 0#88

/-- The LIVE group's part of the law, with a channel not yet evaluated (R47). -/
def LiveCaptureLaw (s : State) : Prop :=
  ((s.liveChannel sostenutoIx).switch = false → s.liveCapture = 0#88) ∧
  ((s.startUp.phase = .loading ∨ s.startUp.phase = .checking) → (s.liveChannel sostenutoIx).evaluated = false →
    s.liveCapture = 0#88)

theorem captureLaw_iff (s : State) : CaptureLaw s ↔ LiveCaptureLaw s ∧ PlayCaptureLaw s :=
  ⟨fun ⟨h1, h2, h3⟩ => ⟨⟨h1, h3⟩, h2⟩, fun ⟨⟨h1, h3⟩, h2⟩ => ⟨h1, h2, h3⟩⟩

section Capture
variable {s : State}

/-! ### The switch and the set of the PLAYBACK group -/

@[simp] theorem State.setPlay_playChannel (s : State) (i j : PedalIx) (x : PlayChannel) :
    (s.setPlay i x).playChannel j = if j = i then x else s.playChannel j := by
  unfold State.playChannel State.setPlay
  simp only [tablePut_get, eq_comm]

@[simp] theorem State.setLive_liveChannel (s : State) (i j : PedalIx) (x : LiveChannel) :
    (s.setLive i x).liveChannel j = if j = i then x else s.liveChannel j := by
  unfold State.liveChannel State.setLive
  simp only [tablePut_get, eq_comm]

theorem State.playChannel_of_play {a b : State} (h : a.play = b.play) (i : PedalIx) : a.playChannel i = b.playChannel i := by
  unfold State.playChannel
  rw [h]

theorem State.liveChannel_of_live {a b : State} (h : a.live = b.live) (i : PedalIx) : a.liveChannel i = b.liveChannel i := by
  unfold State.liveChannel
  rw [h]

theorem State.sostenutoChange_live (s : State) (before after : Bool) : (s.sostenutoChange .live before after).live = s.live := by
  cases before <;> cases after
  · rfl
  · rfl
  · show (s.sostenutoRelease .live _).live = _
    rw [State.sostenutoRelease_frame]
  · rfl

/-- A sostenuto switch that is off after a change leaves its group's set empty, if it did before (R57). -/
theorem State.sostenutoChange_playCapture {before after : Bool} (h : before = false → s.playCapture = 0#88)
    (hafter : after = false) : (s.sostenutoChange .playback before after).playCapture = 0#88 := by
  subst hafter
  cases before
  · exact h rfl
  · rfl

theorem State.sostenutoChange_liveCapture {before after : Bool} (h : before = false → s.liveCapture = 0#88)
    (hafter : after = false) : (s.sostenutoChange .live before after).liveCapture = 0#88 := by
  subst hafter
  cases before
  · exact h rfl
  · rfl

theorem State.sostenutoChange_play (s : State) (g : Group) (before after : Bool) :
    (s.sostenutoChange g before after).play = s.play := by
  unfold State.sostenutoChange
  split
  · cases g <;> rfl
  · rw [show ∀ (x : State) (m : KeySet), (x.setCapture g m).play = x.play from fun x m => by cases g <;> rfl,
      State.sostenutoRelease_frame]
  · rfl

theorem PlayCaptureLaw.voice {s' : State} (h : PlayCaptureLaw s) (hf : VoiceFrame s s') : PlayCaptureLaw s' := holds_of_frame hf h

theorem PlayCaptureLaw.playbackPedal (h : PlayCaptureLaw s) (i : PedalIx) (level : Nat) :
    PlayCaptureLaw (s.playbackPedal i level) := by
  have heffects : ∀ a : State, a.play = (s.setPlay i { level := level, switch := judgeSwitch (s.playChannel i).switch level }).play →
      a.playCapture = s.playCapture → PlayCaptureLaw (a.pedalEffects .playback i (s.playChannel i).switch
        (judgeSwitch (s.playChannel i).switch level) (s.playChannel i).level level) := by
    intro a hplay hcapture
    have hchannel := State.playChannel_of_play hplay sostenutoIx
    rw [State.setPlay_playChannel] at hchannel
    unfold State.pedalEffects
    split
    · rename_i hi
      subst hi
      rw [if_pos rfl] at hchannel
      intro hoff
      rw [State.playChannel_of_play (a.sostenutoChange_play _ _ _), hchannel] at hoff
      exact State.sostenutoChange_playCapture (fun hb => hcapture.trans (h hb)) hoff
    · rename_i hi
      rw [if_neg (Ne.symm hi)] at hchannel
      have hkept : PlayCaptureLaw a := fun hoff => hcapture.trans (h (by rw [← hchannel]; exact hoff))
      split
      · exact hkept.voice (State.damperNotice_frame _ _ _ _)
      · exact hkept
  unfold State.playbackPedal
  simp only []
  split
  · exact heffects _ rfl rfl
  · exact heffects _ rfl rfl

theorem PlayCaptureLaw.playbackLevels (h : PlayCaptureLaw s) (f : PedalIx → Nat) : PlayCaptureLaw (s.playbackLevels f) := by
  unfold State.playbackLevels
  refine PlayCaptureLaw.voice ?_ (State.damperNotice_frame _ _ _ _)
  intro hoff
  rw [State.playChannel_of_play (State.sostenutoChange_play _ _ _ _)] at hoff
  exact State.sostenutoChange_playCapture h hoff

theorem PlayStep.playCapture {ticking : Prop} {s' : State} (hstep : PlayStep ticking s s') (h : PlayCaptureLaw s) :
    PlayCaptureLaw s' := by
  cases hstep with
  | move => exact h
  | log => exact h
  | raise => exact h
  | opens => exact PlayCaptureLaw.voice (s := s.setTrack _ _) h (State.noteOn_frame _ _ _ _)
  | closes => exact h
  | pedal => exact h.playbackPedal _ _
  | levels => exact h.playbackLevels _
  | sound => exact h

theorem PlayCaptureLaw.plays {ticking : Prop} {s' : State} (h : PlayCaptureLaw s) (hplays : Plays ticking s s') :
    PlayCaptureLaw s' := hplays.keeps (fun _ _ hstep ha => hstep.playCapture ha) h

/-! ### What tells the transport -/

theorem State.ownerAbsent_loaderAbsent_plays (s : State) (l : Link) : Plays False s ((s.ownerAbsent l).loaderAbsent l) :=
  (s.ownerAbsent_plays l).trans (State.loaderAbsent_plays _ l)

theorem PlayCaptureLaw.log (h : PlayCaptureLaw s) (b : JournalBody) (t : Time) : PlayCaptureLaw (s.append b t) := h

theorem PlayCaptureLaw.take (h : PlayCaptureLaw s) {s' : State} (hplays : Plays False s s') : PlayCaptureLaw s' := h.plays hplays

theorem PlayCaptureLaw.keyOn (h : PlayCaptureLaw s) (k : KeyIx) (stroke : Stroke) (ta tb : Time) (rep : Bool) :
    PlayCaptureLaw (s.keyOn k stroke ta tb rep) := by
  unfold State.keyOn
  simp only []
  split
  · exact ((h.voice (s.noteOn_frame _ _ _)).log _ _).take (State.transportKeyOn_plays _ _ _)
  · exact (h.log _ _).take (State.transportKeyOn_plays _ _ _)

theorem PlayCaptureLaw.keyOff (h : PlayCaptureLaw s) (k : KeyIx) (level : Nat) (cause : OffCause) (t : Time) :
    PlayCaptureLaw (s.keyOff k level cause t) :=
  ((h.voice (s.noteOff_frame _ _ _)).log _ _).take (State.transportKeyOff_plays _ _ _)

theorem PlayCaptureLaw.keyReading (h : PlayCaptureLaw s) (k : KeyIx) (raw : Nat) : PlayCaptureLaw (s.keyReading k raw) := by
  have htold (a : State) (ha : PlayCaptureLaw a) : PlayCaptureLaw (s.restTold a k) := holds_of_frame (s.restTold_frame a k) ha
  have hscan (a : State) (c : KeyCal) (ha : PlayCaptureLaw a) : PlayCaptureLaw (a.scanReading k c raw) :=
    holds_of_frame (State.scanReading_frame _ _ _ _) ha
  have hsensors (a : State) (ha : PlayCaptureLaw a) : PlayCaptureLaw a.reportSensors :=
    holds_of_frame (State.reportSensors_frame _) ha
  rcases s.keyReading_cases k raw with ⟨-, heq⟩ | ⟨-, -, heq⟩ | ⟨-, -, heq⟩ <;> rw [heq]
  · exact h
  · exact hscan _ _ (hsensors _ (htold _ h))
  · refine hscan _ _ (htold _ ?_)
    exact State.trackerReading_keeps (fun _ _ hf ha => holds_of_frame hf ha) (fun _ _ _ _ _ _ ha => ha.keyOn _ _ _ _ _)
      (fun _ _ _ _ _ ha => ha.keyOff _ _ _ _) (fun _ _ _ _ ha => ha) k raw h

/-! ### A pedal's reading -/

theorem State.sostenutoChange_live_playCapture (a : State) (before after : Bool) :
    (a.sostenutoChange .live before after).playCapture = a.playCapture := by
  cases before <;> cases after
  · rfl
  · rfl
  · show (a.sostenutoRelease .live _).playCapture = _
    rw [State.sostenutoRelease_frame]
  · rfl

theorem PlayCaptureLaw.liveEffects (h : PlayCaptureLaw s) (i : PedalIx) (sw sw' : Bool) (lv lv' : Nat) :
    PlayCaptureLaw (s.pedalEffects .live i sw sw' lv lv') := by
  unfold State.pedalEffects
  split
  · intro hoff
    rw [State.playChannel_of_play (State.sostenutoChange_play _ _ _ _)] at hoff
    exact (s.sostenutoChange_live_playCapture _ _).trans (h hoff)
  · split
    · exact h.voice (State.damperNotice_frame _ _ _ _)
    · exact h

theorem PlayCaptureLaw.publish (h : PlayCaptureLaw s) (i : PedalIx) : PlayCaptureLaw (s.publish i) :=
  PlayCaptureLaw.take (s := (s.append _ _).setLive i _) h (State.transportPedal_plays _ _ _)

theorem PlayCaptureLaw.pedalReading (h : PlayCaptureLaw s) (i : PedalIx) (raw : Nat) : PlayCaptureLaw (s.pedalReading i raw) := by
  unfold State.pedalReading
  split
  · exact h
  · split
    · exact holds_of_frame (State.reportPedals_frame _) (P := PlayCaptureLaw) h
    · unfold State.pedalReadingAfter
      simp only []
      split
      · exact h
      · refine PlayCaptureLaw.liveEffects ?_ _ _ _ _ _
        split
        · exact PlayCaptureLaw.publish (s := s.setLive i _) h i
        · exact h

/-! ### The LIVE group -/

theorem LiveCaptureLaw.phase (h : LiveCaptureLaw s) {s' : State} {i : Instr} (hmove : PhaseMove i s s'.startUp.phase)
    (hlive : s'.live = s.live) (hcapture : s'.liveCapture = s.liveCapture) : LiveCaptureLaw s' := by
  obtain ⟨hoff, hearly⟩ := h
  unfold LiveCaptureLaw
  rw [State.liveChannel_of_live hlive, hcapture]
  refine ⟨hoff, fun hphase => hearly ?_⟩
  generalize s'.startUp.phase = p at hmove hphase
  cases hmove with
  | stays => exact hphase
  | loaded was => exact .inl was
  | checked was => exact .inr was
  | sampled => split at hphase <;> rcases hphase with hp | hp <;> cases hp
  | released => rcases hphase with hp | hp <;> cases hp

/-- What a reading makes of a channel leaves it evaluated as it was. -/
theorem LiveChannel.read_evaluated {x y : LiveChannel} {c : PedalCal} {raw : Nat} {now : Time} {publishes : Bool}
    (h : x.read c raw now = some (y, publishes)) : y.evaluated = x.evaluated := by
  unfold LiveChannel.read at h
  split at h
  · split at h <;> cases h <;> rfl
  · split at h <;> cases h
    rfl

theorem State.publish_channel (s : State) (i : PedalIx) :
    ((s.publish i).liveChannel sostenutoIx).switch = (s.liveChannel sostenutoIx).switch ∧
      ((s.publish i).liveChannel sostenutoIx).evaluated = (s.liveChannel sostenutoIx).evaluated ∧
      (s.publish i).liveCapture = s.liveCapture ∧ (s.publish i).startUp = s.startUp := by
  have htake : TakeFrame ((s.append (.pedal .live i (s.liveChannel i).level (s.liveChannel i).switch (s.liveChannel i).connected)
      s.now).setLive i { s.liveChannel i with published := (s.liveChannel i).level }) (s.publish i) :=
    (State.transportPedal_plays _ _ _).take
  have hlive : (s.publish i).liveChannel sostenutoIx =
      if sostenutoIx = i then { s.liveChannel i with published := (s.liveChannel i).level } else s.liveChannel sostenutoIx := by
    rw [State.liveChannel_of_live (b := State.setLive s i _) (by rw [htake]; rfl), State.setLive_liveChannel]
  rw [hlive]
  refine ⟨?_, ?_, by rw [htake]; rfl, by rw [htake]; rfl⟩
  · split
    · rename_i hi; rw [hi]
    · rfl
  · split
    · rename_i hi; rw [hi]
    · rfl

theorem LiveCaptureLaw.pedalReadingAfter (h : LiveCaptureLaw s) (i : PedalIx) (raw : Nat)
    (hphase : s.startUp.phase ≠ .loading) (hevaluated : s.startUp.phase = .checking → (s.liveChannel i).evaluated = true) :
    LiveCaptureLaw (s.pedalReadingAfter i raw) := by
  unfold State.pedalReadingAfter
  simp only []
  split
  · exact h
  · rename_i y publishes hread
    have hy := LiveChannel.read_evaluated hread
    have heffects : ∀ a : State, (a.liveChannel sostenutoIx).switch = ((s.setLive i y).liveChannel sostenutoIx).switch →
        (a.liveChannel sostenutoIx).evaluated = ((s.setLive i y).liveChannel sostenutoIx).evaluated →
        a.liveCapture = s.liveCapture → a.startUp = s.startUp →
        LiveCaptureLaw (a.pedalEffects .live i (s.liveChannel i).switch y.switch (s.liveChannel i).level y.level) := by
      intro a hswitch heval hcapture hstart
      rw [State.setLive_liveChannel] at hswitch heval
      unfold State.pedalEffects
      split
      · rename_i hi
        subst hi
        rw [if_pos rfl] at hswitch heval
        have hlive := (a.sostenutoChange_frame .live (s.liveChannel sostenutoIx).switch y.switch)
        have hkept := State.sostenutoChange_live a (s.liveChannel sostenutoIx).switch y.switch
        refine ⟨fun hoff => ?_, fun hearly hnot => ?_⟩
        · rw [State.liveChannel_of_live hkept, hswitch] at hoff
          exact State.sostenutoChange_liveCapture (fun hb => hcapture.trans (h.1 hb)) hoff
        · rw [State.liveChannel_of_live hkept, heval, hy] at hnot
          rw [hlive] at hearly
          simp only [hstart] at hearly
          rw [hevaluated (hearly.resolve_left hphase)] at hnot
          cases hnot
      · rename_i hi
        rw [if_neg (Ne.symm hi)] at hswitch heval
        have hkept : LiveCaptureLaw a := by
          unfold LiveCaptureLaw
          rw [hswitch, heval, hcapture, hstart]
          exact h
        split
        · exact holds_of_frame (State.damperNotice_frame _ _ _ _) hkept
        · exact hkept
    split
    · obtain ⟨h1, h2, h3, h4⟩ := (s.setLive i y).publish_channel i
      exact heffects _ h1 h2 h3 h4
    · exact heffects _ rfl rfl rfl rfl

theorem LiveCaptureLaw.pedalReading (h : LiveCaptureLaw s) (i : PedalIx) (raw : Nat) : LiveCaptureLaw (s.pedalReading i raw) := by
  unfold State.pedalReading
  split
  · exact h
  · rename_i hloading
    split
    · rename_i hfirst
      obtain ⟨hchecking, hnot⟩ := hfirst
      have hset : LiveCaptureLaw (s.setLive i (evaluatedChannel s.cal.pedals[i] raw)) := by
        by_cases hi : sostenutoIx = i
        · have hempty : s.liveCapture = 0#88 := h.2 (.inr hchecking) (by rw [hi]; exact hnot)
          exact ⟨fun _ => hempty, fun _ _ => hempty⟩
        · unfold LiveCaptureLaw
          rw [State.setLive_liveChannel, if_neg hi]
          exact h
      refine hset.phase (i := .quietEvent 0#32) (PhaseChecks.move (State.reportPedals_phase _)) ?_ ?_ <;>
        rw [State.reportPedals_frame]
    · rename_i hlater
      exact h.pedalReadingAfter i raw hloading fun hchecking => by simpa [hchecking] using hlater

end Capture

theorem State.resetBlocks_captureLaw (s : State) (kind : ResetKind) (straps : Straps) (tracks : Vector Track 4)
    (store : TakeStoreOutcome) : CaptureLaw (s.resetBlocks kind straps tracks store) :=
  holds_of_frame (State.judgeLed_frame _) (P := CaptureLaw) ⟨fun _ => rfl, fun _ => rfl, fun _ _ => rfl⟩

theorem Effect.liveCapture {i : Instr} {s e : State} (he : Effect i s e) (h : LiveCaptureLaw s) : LiveCaptureLaw e := by
  have hphase (hreset : ¬ ResetEffect i s e) (hlive : e.live = s.live) (hcapture : e.liveCapture = s.liveCapture) :
      LiveCaptureLaw e := h.phase (he.phase hreset) hlive hcapture
  cases he with
  | unchanged => exact h
  | reset he =>
    obtain ⟨s0, kind, straps, tracks, store, rfl⟩ := he.eq_resetBlocks
    exact ((captureLaw_iff _).mp (s0.resetBlocks_captureLaw kind straps tracks store)).1
  | startUp he => exact hphase (by intro hr; cases hr <;> cases he) (by rw [he.frame]) (by rw [he.frame])
  | key he => exact hphase (by intro hr; cases hr <;> cases he) (by rw [he.frame]) (by rw [he.frame])
  | pedal he =>
    cases he with
    | pedalReading => exact h.pedalReading _ _
  | rail he => exact holds_of_frame he.frame h
  | test he => exact holds_of_frame he.frame h
  | voice he => exact holds_of_frame he.frame h
  | output he => exact holds_of_frame he.frame h
  | transport he => exact holds_of_frame he.plays.frame h
  | link he => exact holds_of_frame he.frame h
  | seat he => exact holds_of_frame he.frame h
  | calibration he => exact holds_of_frame he.frame h
  | commit he => exact holds_of_frame he.frame h

theorem Effect.playCapture {i : Instr} {s e : State} (he : Effect i s e) (h : PlayCaptureLaw s) : PlayCaptureLaw e := by
  cases he with
  | unchanged => exact h
  | reset he =>
    obtain ⟨s0, kind, straps, tracks, store, rfl⟩ := he.eq_resetBlocks
    exact ((captureLaw_iff _).mp (s0.resetBlocks_captureLaw kind straps tracks store)).2
  | startUp he => exact holds_of_frame he.frame h
  | key he =>
    cases he with
    | keyReading => exact h.keyReading _ _
  | pedal he =>
    cases he with
    | pedalReading => exact h.pedalReading _ _
  | rail he => exact holds_of_frame he.frame h
  | test he => exact holds_of_frame he.frame h
  | voice he => exact holds_of_frame he.frame h
  | output he => exact holds_of_frame he.frame h
  | transport he => exact h.plays he.plays
  | link he => exact holds_of_frame he.frame h
  | seat he =>
    cases he with
    | seatClaim => exact holds_of_frame (s.claimSeat_frame _) h
    | seatYield => exact holds_of_frame (s.seatChange_frame _ _) h
    | seatPass => exact holds_of_frame (s.seatChange_frame _ _) h
    | absent =>
      rcases s.judgeAbsent_cases _ with ⟨-, heq⟩ | ⟨-, heq⟩ <;> rw [heq]
      · exact h
      · have hdeparted (l : Link) : PlayCaptureLaw (s.departed l) := holds_of_frame (s.departed_frame l) h
        exact PlayCaptureLaw.take (holds_of_frame (State.unseated_frame _ _) (hdeparted _))
          (State.ownerAbsent_loaderAbsent_plays _ _)
  | calibration he => exact holds_of_frame he.frame h
  | commit he => exact holds_of_frame he.frame h

/-- Settles O54: a capture set changes with its own sostenuto switch alone, and a channel not yet evaluated captures nothing. -/
theorem captureSetsFollowTheirSwitch : Obligations.CaptureSetsFollowTheirSwitch := by
  intro s s' hs hstep
  refine step_keeps (fun _ _ h => h) (fun _ _ h => h) (fun _ _ _ _ h => h) (fun i s e he h => ?_) hs hstep
  obtain ⟨hlive, hplay⟩ := (captureLaw_iff s).mp h
  exact (captureLaw_iff e).mpr ⟨he.liveCapture hlive, he.playCapture hplay⟩

end Sys2Proof.Machine
end

section
/-! Which operations leave the transport's own record, its tracks apart, and what those that change it make of its fields. -/

namespace Sys2Proof.Machine

/-- The transport's record stands, its tracks apart. -/
def RecordKept (s s' : State) : Prop := s'.transport = { s.transport with tracks := s'.transport.tracks }

theorem RecordKept.refl (s : State) : RecordKept s s := rfl

theorem RecordKept.trans {a b c : State} (h : RecordKept a b) (g : RecordKept b c) : RecordKept a c := by
  unfold RecordKept at *
  rw [g, h]

theorem RecordKept.of_transport {s s' : State} (h : s'.transport = s.transport) : RecordKept s s' := by
  unfold RecordKept
  rw [h]

theorem VoiceFrame.record {s s' : State} (h : VoiceFrame s s') : RecordKept s s' := .of_transport (by rw [h])

theorem RecordKept.foldl {α : Type} {f : State → α → State} (h : ∀ (s : State) (x : α), RecordKept s (f s x)) :
    ∀ (l : List α) (s : State), RecordKept s (l.foldl f s)
  | [], s => .refl s
  | x :: l, s => (h s x).trans (RecordKept.foldl h l (f s x))

/-- What a kept record keeps, field by field. -/
theorem RecordKept.fields {s s' : State} (h : RecordKept s s') :
    s'.transport.state = s.transport.state ∧ s'.transport.guideSet = s.transport.guideSet ∧
      s'.transport.recording = s.transport.recording ∧ s'.transport.load = s.transport.load := by
  rw [h]
  exact ⟨rfl, rfl, rfl, rfl⟩

section Records
variable (s : State)

theorem State.setTrack_record (i : TrackIx) (x : Track) : RecordKept s (s.setTrack i x) := rfl

theorem State.append_record (b : JournalBody) (t : Time) : RecordKept s (s.append b t) := rfl

theorem State.endNote_record (i : TrackIx) (k : KeyIx) (level : Nat) : RecordKept s (s.endNote i k level) := rfl

theorem State.releaseTrack_record (i : TrackIx) : RecordKept s (s.releaseTrack i) :=
  RecordKept.foldl (fun x k => x.endNote_record i k _) _ s

theorem State.releaseAll_record : RecordKept s s.releaseAll := RecordKept.foldl (fun x i => x.releaseTrack_record i) _ s

theorem State.playRecords_record (before : State) : RecordKept s (s.playRecords before) :=
  RecordKept.foldl (fun x i => by
    show RecordKept x (if (x.playChannel i).level = (before.playChannel i).level then x else x.playRecord i)
    split
    · exact .refl x
    · exact x.append_record _ _) _ s

theorem State.playbackReset_record : RecordKept s s.playbackReset :=
  (RecordKept.of_transport (s.playbackLevels_frame _).2).trans (State.playRecords_record _ _)

theorem State.playbackLocate_record (f : PedalIx → Nat) : RecordKept s (s.playbackLocate f) :=
  ((RecordKept.of_transport (s.playbackLevels_frame _).2).trans (.of_transport (State.playbackLevels_frame _ _).2)).trans
    (State.playRecords_record _ _)

theorem State.playTake_record (i : TrackIx) (r : TakeRec) : RecordKept s (s.playTake i r) := by
  unfold State.playTake
  split
  · exact ((s.setTrack_record _ _).trans (State.noteOn_frame _ _ _ _).record).trans (State.append_record _ _ _)
  · split
    · exact s.endNote_record _ _ _
    · exact .refl s
  · exact .of_transport (s.playbackPedal_frame _ _).2
  · exact .refl s
  · exact s.releaseTrack_record i

theorem State.dispatch_record (i : TrackIx) (r : TakeRec) (pos : Int) : RecordKept s (s.dispatch i r pos) := by
  have hcursor := s.setTrack_record i { s.track i with cursor := (s.track i).cursor + 1, cursorPos := pos }
  unfold State.dispatch
  simp only []
  split
  · exact hcursor.trans (State.playTake_record _ _ _)
  · exact hcursor
  · exact hcursor

theorem State.dispatchTrack_record (i : TrackIx) (pos : Int) :
    ∀ (n : Nat) (s : State), RecordKept s (s.dispatchTrack i pos n)
  | 0, s => .refl s
  | n + 1, s => by
    unfold State.dispatchTrack
    split
    · split
      · exact (s.dispatch_record i _ _).trans (State.dispatchTrack_record i pos n _)
      · exact .refl s
    · exact .refl s

theorem State.dispatchAll_record : RecordKept s s.dispatchAll :=
  RecordKept.foldl (fun x i => by
    show RecordKept x
      (if x.recordedTrack i then x else x.dispatchTrack i s.transport.position (x.track i).recs.length)
    split
    · exact .refl x
    · exact State.dispatchTrack_record _ _ _ _) _ s

/-! ### STOP, field by field -/

theorem State.closeRecording_load : s.closeRecording.transport.load = s.transport.load := by
  unfold State.closeRecording
  split <;> rfl

theorem State.abandonWalk_load : s.abandonWalk.transport.load = s.transport.load := by
  unfold State.abandonWalk
  split <;> rfl

theorem State.abandonWalk_recording : s.abandonWalk.transport.recording = s.transport.recording := by
  unfold State.abandonWalk
  split <;> rfl

/-- STOP's tail leaves the recording and the load as they were. -/
theorem State.stopTail_fields :
    s.stopTail.transport.recording = s.transport.recording ∧ s.stopTail.transport.load = s.transport.load := by
  have hrest := s.abandonWalk.releaseAll_record.trans (State.playbackReset_record _)
  obtain ⟨-, -, hrecording, hload⟩ := hrest.fields
  rw [s.abandonWalk_recording] at hrecording
  rw [s.abandonWalk_load] at hload
  unfold State.stopTail
  simp only []
  generalize s.abandonWalk.releaseAll.playbackReset = x at hrecording hload ⊢
  rw [State.setTransportState_transport]
  exact ⟨hrecording, hload⟩

end Records

end Sys2Proof.Machine
end

section
/-! What the key operations make of each tracker's state: the facts the laws of strokes, notes and quiet are judged by. -/

namespace Sys2Proof.Machine

section States
variable (s : State) (k j : KeyIx)

theorem State.setKey_state (x : Tracker) : ((s.setKey k x).key j).state = if j = k then x.state else (s.key j).state := by
  rw [State.key_setKey]
  split <;> rfl

/-- A tracker whose record alone changes keeps its state. -/
theorem State.setKey_state_of_eq {x : Tracker} (h : x.state = (s.key k).state) : ((s.setKey k x).key j).state = (s.key j).state := by
  rw [State.setKey_state]
  split
  · subst_vars
    exact h
  · rfl

theorem State.applyCal_state (c : KeyCal) : ((s.applyCal k c).key j).state = (s.key j).state :=
  State.setKey_state_of_eq (s.setKeyCal k c .written).calChanged k j rfl

theorem State.applyPending_state : ((s.applyPending k).key j).state = (s.key j).state := by
  unfold State.applyPending
  split
  · rfl
  · rw [State.applyCal_state]
    exact State.setKey_state_of_eq _ _ _ rfl

theorem State.applyPending_waits : ((s.applyPending k).key k).learnWaiting = (s.key k).learnWaiting := by
  unfold State.applyPending State.applyCal
  split
  · rfl
  · simp only [State.key_setKey, if_true]
    show ((s.setKey k _).key k).learnWaiting = _
    rw [State.key_setKey, if_pos rfl]

theorem State.passToLearn_state :
    ((s.passToLearn k).key j).state = if j = k ∧ (s.key k).learnWaiting = true then .learn none else (s.key j).state := by
  unfold State.passToLearn
  split
  · rename_i hwaits
    rw [State.setKey_state]
    simp only [hwaits, and_true]
    rfl
  · rename_i hwaits
    rw [if_neg fun h => hwaits h.2]

/-- A key that enters REST is in REST, or passes on to a learn that waits for it (R11, R26). -/
theorem State.enterRest_state :
    ((s.enterRest k).key j).state =
      if j = k then (if (s.key k).learnWaiting then .learn none else .rest) else (s.key j).state := by
  unfold State.enterRest
  rw [State.passToLearn_state, State.applyPending_waits, State.applyPending_state, State.setKey_state, State.key_setKey,
    if_pos rfl]
  by_cases hj : j = k
  · simp [hj]
  · simp [hj]

theorem State.learnTaken_state (seen : Option (Nat × Nat)) : ((s.learnTaken k seen).key j).state = (s.key j).state := by
  unfold State.learnTaken
  split
  · split <;> rfl
  · rfl

theorem State.leaveLearn_state :
    ((s.leaveLearn k).key j).state = if j = k then .rest else (s.key j).state := by
  show ((State.applyPending (s.setKey k _) k).key j).state = _
  rw [State.applyPending_state, State.setKey_state]

/-- What the end of a learn makes of a tracker's state. -/
def KeyState.learned : KeyState → KeyState
  | .learn _ => .rest
  | st => st

theorem KeyState.learned_of_ne {st : KeyState} (h : ∀ seen, st ≠ .learn seen) : st.learned = st := by
  cases st with
  | learn seen => exact absurd rfl (h seen)
  | rest => rfl
  | onset => rfl
  | down => rfl
  | rearmed => rfl
  | restrike => rfl
  | returning => rfl
  | faulty => rfl

theorem KeyState.learned_learned (st : KeyState) : st.learned.learned = st.learned := by cases st <;> rfl

theorem State.endLearnKey_state :
    ((s.endLearnKey k).key j).state = if j = k then (s.key k).state.learned else (s.key j).state := by
  rcases s.endLearnKey_cases k with ⟨seen, hst, heq⟩ | ⟨hst, heq⟩ <;> rw [heq]
  · rw [State.leaveLearn_state, State.learnTaken_state, hst]
    rfl
  · rw [State.setKey_state, KeyState.learned_of_ne hst]

theorem State.foldl_endLearnKey_state (ks : List KeyIx) (s : State) :
    ((ks.foldl (fun x k => x.endLearnKey k) s).key j).state = if j ∈ ks then (s.key j).state.learned else (s.key j).state := by
  induction ks generalizing s with
  | nil => rfl
  | cons k ks ih =>
    rw [List.foldl_cons, ih, State.endLearnKey_state]
    by_cases hj : j = k
    · subst hj
      by_cases hmem : j ∈ ks <;> simp [hmem, KeyState.learned_learned]
    · simp [hj]

/-- At the end of a learn every key in LEARN enters REST (R28). -/
theorem State.endLearn_state : (s.endLearn.key j).state = (s.key j).state.learned := by
  have hfold := State.foldl_endLearnKey_state j (List.finRange 88) { s with learn := none }
  unfold State.endLearn
  generalize (List.finRange 88).foldl _ _ = a at hfold ⊢
  calc (((a.quietAfterLearn).report _ _).key j).state = (a.quietAfterLearn.key j).state := rfl
    _ = (a.key j).state := by rw [a.quietAfterLearn_frame]; rfl
    _ = (s.key j).state.learned := by rw [hfold, if_pos (List.mem_finRange j)]; rfl

end States

/-! ### Before RUNNING nothing plays (R23, R210) -/

/-- No stroke, no voice, no playback, no load and no test. -/
structure State.Still (s : State) : Prop where
  keys : ∀ k : KeyIx, (s.key k).state.strikes = false
  voices : ∀ i : VoiceIx, s.voice i = none
  idle : s.transport.state = .idle
  load : s.transport.load = none
  test : s.test = none

theorem stillBeforeRunning_iff (s : State) : StillBeforeRunning s ↔ (s.running = false → s.Still) :=
  ⟨fun ⟨hkeys, hrest⟩ hrun => ⟨hkeys hrun, (hrest hrun).1, (hrest hrun).2.1, (hrest hrun).2.2.1, (hrest hrun).2.2.2⟩,
    fun h => ⟨fun hrun => (h hrun).keys, fun hrun => ⟨(h hrun).voices, (h hrun).idle, (h hrun).load, (h hrun).test⟩⟩⟩

section Still
variable {s : State}

/-- What stillness sees: the trackers' states, the voices, the transport and the test. -/
theorem State.Still.congr {s' : State} (h : s.Still) (hkeys : ∀ k : KeyIx, (s'.key k).state.strikes = false)
    (hvoices : s'.voices = s.voices) (htransport : s'.transport = s.transport) (htest : s'.test = s.test) : s'.Still := by
  refine ⟨hkeys, fun i => ?_, htransport ▸ h.idle, htransport ▸ h.load, htest ▸ h.test⟩
  unfold State.voice
  rw [hvoices]
  exact h.voices i

theorem State.Still.of_eq {s' : State} (h : s.Still) (hkeys : s'.keys = s.keys) (hvoices : s'.voices = s.voices)
    (htransport : s'.transport = s.transport) (htest : s'.test = s.test) : s'.Still := by
  refine h.congr (fun k => ?_) hvoices htransport htest
  unfold State.key
  rw [hkeys]
  exact h.keys k

theorem State.Still.setKey (h : s.Still) {k : KeyIx} {x : Tracker} (hx : x.state.strikes = false) : (s.setKey k x).Still :=
  h.congr (fun j => by rw [State.setKey_state]; split <;> simp only [hx, h.keys]) rfl rfl rfl

theorem State.Still.report (h : s.Still) (b : JournalBody) (c : Condition) : (s.report b c).Still := h.of_eq rfl rfl rfl rfl

theorem State.Still.passToLearn (h : s.Still) (k : KeyIx) : (s.passToLearn k).Still := by
  refine h.congr (fun j => ?_) ?_ ?_ ?_
  · rw [State.passToLearn_state]
    split
    · rfl
    · exact h.keys j
  all_goals rw [State.passToLearn_rest]

/-- A reading makes no stroke before RUNNING (R23). -/
theorem KeyAct.still {raw : Nat} {k : KeyIx} {s' : State} (ha : KeyAct raw k s s') (hrun : s.running = false) (h : s.Still) :
    s'.Still := by
  have hstate := h.keys k
  cases ha with
  | note state => exact h.setKey (state ▸ hstate)
  | transit ht =>
    cases ht with
    | @moves st strikes =>
      refine h.setKey ?_
      cases hst : st.strikes with
      | false => rfl
      | true => rcases strikes hst with hr | hr <;> simp_all
    | rests =>
      refine h.congr (fun j => ?_) ?_ ?_ ?_
      · rw [State.enterRest_state]
        split
        · split <;> rfl
        · exact h.keys j
      all_goals rw [s.enterRest_rest k]
    | strikes was => rw [hstate] at was; cases was
    | releases was => rw [hstate] at was; cases was
  | faults =>
    have hnote : (s.key k).state.noteOn = false := by
      cases hst : (s.key k).state <;> simp_all [KeyState.strikes, KeyState.noteOn]
    unfold State.enterFaulty
    simp only [hnote]
    exact State.Still.of_eq (s := s.setKey k _) (h.setKey rfl) rfl rfl rfl rfl
  | recovers =>
    have happlied : (s.applyPending k).Still := by
      refine h.congr (fun j => ?_) ?_ ?_ ?_
      · rw [State.applyPending_state]
        exact h.keys j
      all_goals rw [s.applyPending_rest k]
    unfold State.recoverKey
    exact ((happlied.setKey rfl).report _ _).passToLearn k
  | learns _ state => exact h.setKey (by rw [state]; rfl)

theorem State.Still.keyReading (h : s.Still) (hrun : s.running = false) (k : KeyIx) (raw : Nat) : (s.keyReading k raw).Still := by
  have htold {a : State} (ha : a.Still) : (s.restTold a k).Still := by
    have hframe := s.restTold_frame a k
    exact ha.of_eq (by rw [hframe]) (by rw [hframe]) (by rw [hframe]) (by rw [hframe])
  have hscan {a : State} (ha : a.Still) (c : KeyCal) : (a.scanReading k c raw).Still := by
    unfold State.scanReading
    rw [ha.test]
    exact ha
  have hsensors {a : State} (ha : a.Still) : a.reportSensors.Still :=
    ha.of_eq (by rw [State.reportSensors_frame]) (by rw [State.reportSensors_frame]) (by rw [State.reportSensors_frame])
      (by rw [State.reportSensors_frame])
  have hacts : (s.trackerReading k raw).Still ∧ (s.trackerReading k raw).running = false :=
    (s.trackerReading_acts k raw).keeps (P := fun x => x.Still ∧ x.running = false)
      (fun _ _ ha hx => ⟨ha.still hx.2 hx.1, by rw [ha.frame]; exact hx.2⟩) ⟨h, hrun⟩
  rcases s.keyReading_cases k raw with ⟨-, heq⟩ | ⟨-, -, heq⟩ | ⟨-, -, heq⟩ <;> rw [heq]
  · exact h
  · refine hscan (hsensors (htold ?_)) _
    have hevaluated : (evaluatedState (s.keyCal k) s.cal.touch raw).1.strikes = false := by
      unfold evaluatedState
      split
      · rfl
      · split
        · rfl
        · split <;> rfl
    exact State.Still.of_eq (s := s.setKey k { s.key k with
      state := (evaluatedState (s.keyCal k) s.cal.touch raw).1
      last := some ((s.keyCal k).clamped raw, s.now)
      implausible := (evaluatedState (s.keyCal k) s.cal.touch raw).2
      evaluated := true }) (h.setKey hevaluated) rfl rfl rfl rfl
  · exact hscan (htold hacts.1) _

/-! ### Voices that stay FREE -/

/-- A voice that is FREE stays FREE in all but a note-on. -/
def FreeKept (s s' : State) : Prop := ∀ i : VoiceIx, s.voice i = none → s'.voice i = none

theorem FreeKept.refl (s : State) : FreeKept s s := fun _ h => h

theorem FreeKept.trans {a b c : State} (h : FreeKept a b) (g : FreeKept b c) : FreeKept a c := fun i hi => g i (h i hi)

theorem FreeKept.of_voices {s' : State} (h : s'.voices = s.voices) : FreeKept s s' := by
  intro i hi
  unfold State.voice at *
  rw [h]
  exact hi

theorem State.mapVoices_freeKept (s : State) (f : Voice → Voice) : FreeKept s (s.mapVoices f) := by
  intro i hi
  rw [State.voice_mapVoices, hi]
  rfl

theorem State.sostenutoRelease_freeKept (s : State) (g : Group) (keys : KeySet) : FreeKept s (s.sostenutoRelease g keys) := by
  unfold State.sostenutoRelease
  split
  · exact .refl s
  · exact s.mapVoices_freeKept _

theorem State.setCapture_voices (s : State) (g : Group) (m : KeySet) : (s.setCapture g m).voices = s.voices := by cases g <;> rfl

theorem State.sostenutoChange_freeKept (s : State) (g : Group) (before after : Bool) :
    FreeKept s (s.sostenutoChange g before after) := by
  unfold State.sostenutoChange
  split
  · exact .of_voices (s.setCapture_voices _ _)
  · exact (s.sostenutoRelease_freeKept _ _).trans (.of_voices (State.setCapture_voices _ _ _))
  · exact .refl s

theorem State.damperNotice_freeKept (s : State) (g : Group) (before after : Nat) : FreeKept s (s.damperNotice g before after) := by
  unfold State.damperNotice
  split
  · exact s.mapVoices_freeKept _
  · split
    · exact s.mapVoices_freeKept _
    · exact .refl s

theorem State.pedalEffects_freeKept (s : State) (g : Group) (i : PedalIx) (sw sw' : Bool) (lv lv' : Nat) :
    FreeKept s (s.pedalEffects g i sw sw' lv lv') := by
  unfold State.pedalEffects
  split
  · exact s.sostenutoChange_freeKept _ _ _
  · split
    · exact s.damperNotice_freeKept _ _ _
    · exact .refl s

theorem State.playbackLevels_freeKept (s : State) (f : PedalIx → Nat) : FreeKept s (s.playbackLevels f) := by
  unfold State.playbackLevels
  refine FreeKept.trans ?_ (State.damperNotice_freeKept _ _ _ _)
  refine FreeKept.trans ?_ (State.sostenutoChange_freeKept _ _ _ _)
  exact .of_voices rfl

theorem FreeKept.foldl {α : Type} {f : State → α → State} (h : ∀ (s : State) (x : α), FreeKept s (f s x)) :
    ∀ (l : List α) (s : State), FreeKept s (l.foldl f s)
  | [], s => .refl s
  | x :: l, s => (h s x).trans (FreeKept.foldl h l (f s x))

theorem State.playbackReset_freeKept (s : State) : FreeKept s s.playbackReset := by
  refine (s.playbackLevels_freeKept _).trans (FreeKept.foldl (fun x i => ?_) _ _)
  split
  · exact .refl x
  · exact .of_voices rfl

theorem State.endNote_freeKept (s : State) (i : TrackIx) (k : KeyIx) (level : Nat) : FreeKept s (s.endNote i k level) :=
  State.mapVoices_freeKept (s.setTrack i { s.track i with opened := KeySet.drop (s.track i).opened k }) _

theorem State.releaseAll_freeKept (s : State) : FreeKept s s.releaseAll :=
  FreeKept.foldl (fun x i => FreeKept.foldl (fun y k => y.endNote_freeKept i k _) _ x) _ s

theorem State.closeRecording_freeKept (s : State) : FreeKept s s.closeRecording := by
  refine .of_voices ?_
  unfold State.closeRecording
  split <;> rfl

theorem State.abandonWalk_freeKept (s : State) : FreeKept s s.abandonWalk := by
  refine .of_voices ?_
  unfold State.abandonWalk
  split <;> rfl

theorem State.setTransportState_voices (s : State) (st : TransportState) : (s.setTransportState st).voices = s.voices := by
  unfold State.setTransportState
  simp only []
  split <;> rfl

theorem State.stopTail_voices (s : State) : s.stopTail.voices = s.abandonWalk.releaseAll.playbackReset.voices := by
  unfold State.stopTail
  simp only []
  generalize s.abandonWalk.releaseAll.playbackReset = x
  exact State.setTransportState_voices _ _

theorem State.stopTail_freeKept (s : State) : FreeKept s s.stopTail :=
  ((s.abandonWalk_freeKept.trans (State.releaseAll_freeKept _)).trans (State.playbackReset_freeKept _)).trans
    (.of_voices s.stopTail_voices)

theorem State.stopTransport_freeKept (s : State) : FreeKept s s.stopTransport :=
  s.closeRecording_freeKept.trans (State.stopTail_freeKept _)

/-- STOP keeps the part still, whatever recording it closes (R146). -/
theorem State.Still.stopTransport (h : s.Still) : s.stopTransport.Still := by
  have htake := (s.stopTransport_plays (ticking := False)).take
  have hvoices := s.stopTransport_freeKept
  have hidle : s.stopTransport.transport.state = .idle := by
    unfold State.stopTransport
    exact (State.stopTail_idle s.closeRecording).1
  have hload : s.stopTransport.transport.load = none := by
    rw [State.stopTransport, (State.stopTail_fields _).2, State.closeRecording_load]
    exact h.load
  generalize s.stopTransport = x at *
  exact ⟨fun k => by unfold State.key; rw [htake]; exact h.keys k, fun i => hvoices i (h.voices i), hidle, hload,
    by rw [htake]; exact h.test⟩

/-! ### Every change before RUNNING -/

theorem State.Still.finishRun (h : s.Still) (code detail : Nat) (m : Measure) (completed : Bool) :
    s.finishRun code detail m completed = s := by
  unfold State.finishRun
  rw [h.test]

theorem State.Still.nextRun (h : s.Still) : s.nextRun = s := by
  unfold State.nextRun
  rw [h.test]

theorem State.Still.endRun (h : s.Still) (code detail : Nat) (m : Measure) : s.endRun code detail m = s := by
  rw [State.endRun, h.finishRun, h.nextRun]

theorem State.Still.rail {s' : State} (h : s.Still) (hf : RailFrame s s') : s'.Still :=
  h.of_eq (by rw [hf]) (by rw [hf]) (by rw [hf]) (by rw [hf])

theorem State.Still.railFault (h : s.Still) (cause : RailFault) : (s.railFault cause).Still := by
  have hfault : State.Still ((s.endSegment.setRail { s.endSegment.rail with segCount := none }).enterRail (.fault cause)) :=
    h.rail ((s.endSegment_frame.trans (State.setRail_frame _ _)).trans (State.enterRail_frame _ _))
  unfold State.railFault
  simp only []
  split
  · rw [hfault.endRun]
    exact hfault
  · exact hfault

theorem State.Still.testOutwardDone (h : s.Still) : s.testOutwardDone.Still := by
  unfold State.testOutwardDone
  split
  · have hparked : s.arriveParked.Still := h.rail s.arriveParked_frame
    rw [hparked.finishRun]
    have hsettled : s.arriveParked.settle.Still := hparked.rail (State.settle_frame _)
    rw [hsettled.nextRun]
    exact hsettled
  · exact h

theorem State.Still.switchChanged (h : s.Still) (x : EndSwitch) (made : Bool) : (s.switchChanged x made).Still := by
  have hengaged : s.arriveEngaged.settle.Still := h.rail (s.arriveEngaged_frame.trans (State.settle_frame _))
  have hparked : s.arriveParked.settle.Still := h.rail (s.arriveParked_frame.trans (State.settle_frame _))
  unfold State.switchChanged
  split
  · split
    · exact h
    · split
      · exact h.railFault _
      · split
        · exact hengaged
        · exact hengaged
        · exact hparked
        · exact hparked
        · exact hparked
        · exact h.rail s.testInwardDone_frame
        · exact h.testOutwardDone
        · exact h
  · exact h

theorem RailEffect.still {i : Instr} {e : State} (he : RailEffect i s e) (hrun : s.running = false) (h : s.Still) : e.Still := by
  have hset (r : Rail) : (s.setRail r).Still := h.rail (s.setRail_frame r)
  cases he with
  | leverRaw => exact hset _
  | lever => exact h.rail (s.setVotes_frame _)
  | edge =>
    unfold State.edgeSeen
    simp only []
    split
    · exact (hset _).railFault _
    · exact hset _
  | index =>
    have hparked : ∀ a : State, a.Still → a.arriveParked.settle.Still := fun a ha =>
      ha.rail (a.arriveParked_frame.trans (State.settle_frame _))
    unfold State.indexSeen
    simp only []
    split
    · split
      · exact hparked _ (hset _)
      · exact hparked _ (hset _)
      · exact hparked _ (hset _)
      · exact (hset _).testOutwardDone
      · exact hset _
    · exact hset _
  | switchRaw => exact hset _
  | switch => exact (hset _).switchChanged _ _
  | quiet => exact h.rail s.judgeQuiet_frame
  | notice => exact h.rail s.notice_frame
  | stall => exact h.railFault _
  | timeout => exact h.railFault _
  | vote => exact h.rail (s.setVotes_frame _)
  | recover run => rw [hrun] at run; cases run

theorem TestEffect.still {i : Instr} {e : State} (he : TestEffect i s e) (hrun : s.running = false) (h : s.Still) : e.Still := by
  cases he with
  | toneEnd =>
    unfold State.toneDone
    simp only [h.test]
    exact h.congr h.keys rfl rfl h.test.symm
  | readback =>
    unfold State.readbackDone State.readback
    rw [h.test]
    exact h
  | readbackNoAnswer =>
    unfold State.readbackExpires State.readback
    rw [h.test]
    exact h
  | runTest run => rw [hrun] at run; cases run
  | stopTest run => rw [hrun] at run; cases run

theorem State.Still.take {s' : State} (h : s.Still) (hf : TakeFrame s s') (hvoices : FreeKept s s')
    (htransport : s'.transport = s.transport) : s'.Still :=
  ⟨fun k => by unfold State.key; rw [hf]; exact h.keys k, fun i => hvoices i (h.voices i), htransport ▸ h.idle,
    htransport ▸ h.load, by rw [hf]; exact h.test⟩

theorem State.Still.pedalReading (h : s.Still) (i : PedalIx) (raw : Nat) : (s.pedalReading i raw).Still := by
  have hset (a : State) (ha : a.Still) (x : LiveChannel) : (a.setLive i x).Still := ha.of_eq rfl rfl rfl rfl
  have heffects (a : State) (ha : a.Still) (sw sw' : Bool) (lv lv' : Nat) : (a.pedalEffects .live i sw sw' lv lv').Still := by
    have hframe := a.pedalEffects_frame .live i sw sw' lv lv'
    have htransport : (a.pedalEffects .live i sw sw' lv lv').transport = a.transport := by
      unfold State.pedalEffects
      split
      · unfold State.sostenutoChange
        split
        · rfl
        · show (a.sostenutoRelease .live _).transport = _
          rw [State.sostenutoRelease_frame]
        · rfl
      · split
        · exact State.damperNotice_transport _ _ _ _
        · rfl
    exact ⟨fun k => by unfold State.key; rw [hframe]; exact ha.keys k,
      fun v => a.pedalEffects_freeKept .live i sw sw' lv lv' v (ha.voices v), htransport ▸ ha.idle, htransport ▸ ha.load,
      by rw [hframe]; exact ha.test⟩
  have hpublish (a : State) (ha : a.Still) : (a.publish i).Still := by
    unfold State.publish State.transportPedal
    simp only []
    have hidle : (((a.append (.pedal .live i (a.liveChannel i).level (a.liveChannel i).switch (a.liveChannel i).connected)
      a.now).setLive i { a.liveChannel i with published := (a.liveChannel i).level }).transport).state = .idle := ha.idle
    rw [hidle]
    exact ha.of_eq rfl rfl rfl rfl
  unfold State.pedalReading
  split
  · exact h
  · split
    · have hframe := (s.setLive i (evaluatedChannel s.cal.pedals[i] raw)).reportPedals_frame
      exact (hset s h _).of_eq (by rw [hframe]) (by rw [hframe]) (by rw [hframe]) (by rw [hframe])
    · unfold State.pedalReadingAfter
      simp only []
      split
      · exact h
      · refine heffects _ ?_ _ _ _ _
        split
        · exact hpublish _ (hset s h _)
        · exact hset s h _

theorem TransportEffect.still {i : Instr} {e : State} (he : TransportEffect i s e) (hrun : s.running = false) (h : s.Still) :
    e.Still := by
  have hset {x : Transport} (hstate : x.state = s.transport.state) (hload : x.load = s.transport.load) :
      (s.setTransport x).Still := ⟨h.keys, h.voices, hstate.trans h.idle, hload.trans h.load, h.test⟩
  cases he with
  | clock =>
    unfold State.clockStep
    rw [h.idle]
    exact h
  | walkEnd =>
    unfold State.walkEnds
    rw [h.idle]
    exact h
  | setTempo => exact hset rfl rfl
  | setScale => exact hset rfl rfl
  | setLoop => exact hset rfl rfl
  | setMetronome => exact hset rfl rfl
  | play run => rw [hrun] at run; cases run
  | record run => rw [hrun] at run; cases run
  | stop run => rw [hrun] at run; cases run
  | pause run => rw [hrun] at run; cases run
  | locate run => rw [hrun] at run; cases run
  | setMode run => rw [hrun] at run; cases run
  | erase run => rw [hrun] at run; cases run
  | loadBegin run => rw [hrun] at run; cases run
  | loadAppend run => rw [hrun] at run; cases run
  | loadEnd run => rw [hrun] at run; cases run

theorem KeyState.learned_strikes {st : KeyState} (h : st.strikes = false) : st.learned.strikes = false := by
  cases st <;> first | rfl | exact h

theorem State.endLearn_test (s : State) : s.endLearn.test = s.test := by
  obtain ⟨s1, hframe, heq⟩ := s.endLearn_eq
  rw [heq]
  show s1.test = s.test
  rw [hframe.1]

theorem State.Still.endLearn (h : s.Still) : s.endLearn.Still :=
  h.congr (fun k => by rw [State.endLearn_state]; exact KeyState.learned_strikes (h.keys k)) (by rw [s.endLearn_frame])
    (by rw [s.endLearn_frame]) s.endLearn_test

theorem State.Still.seatChange (h : s.Still) (after : Option Link) (cause : SeatCause) : (s.seatChange after cause).Still := by
  have hrecorded : (s.seatRecorded after cause).Still := h.of_eq rfl rfl rfl rfl
  have hunder : ((s.seatRecorded after cause).endLearnUnder s.seat).Still := by
    unfold State.endLearnUnder
    split
    · split
      · exact hrecorded.endLearn
      · exact hrecorded
    · exact hrecorded
  rw [State.seatChange_eq, State.abortTest_of_none hunder.test]
  exact hunder

theorem SeatEffect.still {i : Instr} {e : State} (he : SeatEffect i s e) (h : s.Still) : e.Still := by
  cases he with
  | seatClaim =>
    unfold State.claimSeat
    split
    · exact h
    · exact h.seatChange _ _
  | seatYield => exact h.seatChange _ _
  | seatPass => exact h.seatChange _ _
  | absent =>
    have hdeparted (l : Link) : (s.departed l).Still := by
      have hframe := s.departed_frame l
      exact h.of_eq (by rw [hframe]) (by rw [hframe]) (by rw [hframe]) (by rw [hframe])
    have hunseated (l : Link) : ((s.departed l).unseated l).Still := by
      unfold State.unseated
      split
      · exact (hdeparted l).seatChange _ _
      · exact hdeparted l
    have howner (l : Link) (a : State) (ha : a.Still) : (a.ownerAbsent l).Still := by
      unfold State.ownerAbsent
      split
      · split
        · exact ha.stopTransport
        · exact ha
      · exact ha
    have hloader (l : Link) (a : State) (ha : a.Still) : (a.loaderAbsent l).Still := by
      unfold State.loaderAbsent
      rw [ha.load]
      exact ha
    rcases s.judgeAbsent_cases _ with ⟨-, heq⟩ | ⟨-, heq⟩ <;> rw [heq]
    · exact h
    · exact hloader _ _ (howner _ _ (hunseated _))

theorem State.Still.beginLearnKey (h : s.Still) (k : KeyIx) : (s.beginLearnKey k).Still := by
  unfold State.beginLearnKey
  split
  · exact State.Still.rail (s := s.setKey k _) (h.setKey rfl) (State.keyLeft_frame _)
  · exact h.setKey (h.keys k)

theorem CalibrationEffect.still {i : Instr} {e : State} (he : CalibrationEffect i s e) (h : s.Still) : e.Still := by
  cases he with
  | writeKeyCal =>
    unfold State.writeCal
    split
    · exact h.congr (fun j => by rw [State.applyCal_state]; exact h.keys j) rfl rfl rfl
    · refine h.congr (fun j => ?_) rfl rfl rfl
      exact (congrArg KeyState.strikes (s.setKey_state_of_eq _ j (x := { s.key _ with pendingCal := some _ }) rfl)).trans
        (h.keys j)
  | writePedalCal => exact h.of_eq rfl rfl rfl rfl
  | writeTouch =>
    exact State.Still.rail (s := State.calChanged { s with cal := _ }) (h.of_eq rfl rfl rfl rfl) (State.judgeQuiet_frame _)
  | writeCurve => exact h.of_eq rfl rfl rfl rfl
  | selectCurve =>
    unfold State.selectCurve
    split
    · exact h
    · exact h.of_eq rfl rfl rfl rfl
  | writeRailCal => exact h.of_eq rfl rfl rfl rfl
  | learnBegin =>
    have hfold (ks : List KeyIx) : ∀ a : State, a.Still → (ks.foldl (fun x k => x.beginLearnKey k) a).Still := by
      induction ks with
      | nil => exact fun _ ha => ha
      | cons k ks ih => exact fun a ha => ih _ (ha.beginLearnKey k)
    refine hfold _ _ (State.Still.rail (s := { s with learn := _ }) ?_ (State.endQuiet_frame _ _))
    exact h.of_eq rfl rfl rfl rfl
  | learnEnd => exact h.endLearn

theorem VoiceEffect.still {i : Instr} {e : State} (he : VoiceEffect i s e) (h : s.Still) : e.Still := by
  have hvoices {vs : Vector (Option Voice) 48} (hfree : ∀ i : VoiceIx, vs[i] = none) : State.Still { s with voices := vs } :=
    ⟨h.keys, hfree, h.idle, h.load, h.test⟩
  cases he with
  | envelope => exact hvoices fun v => by rw [tableMap_get, show s.voices[v] = none from h.voices v]; rfl
  | panic => exact hvoices fun v => by rw [tableMap_get, show s.voices[v] = none from h.voices v]; rfl
  | setLayer => exact h.of_eq rfl rfl rfl rfl

theorem OutputEffect.still {i : Instr} {e : State} (he : OutputEffect i s e) (h : s.Still) : e.Still := by
  have hframe := he.frame
  refine ⟨fun k => by unfold State.key; rw [hframe]; exact h.keys k, ?_, by rw [hframe]; exact h.idle,
    by rw [hframe]; exact h.load, by rw [hframe]; exact h.test⟩
  intro v
  cases he with
  | outputFrame =>
    show (tableMap (advanceVoice s.windows) s.voices)[v] = none
    rw [tableMap_get, show s.voices[v] = none from h.voices v]
    rfl
  | ramp => exact h.voices v
  | contactRaw => exact h.voices v
  | contact => rw [State.voice, s.debounceJack_frame]; exact h.voices v
  | supplyGood => rw [State.voice, s.supplyAsserts_frame]; exact h.voices v
  | supplyLost => rw [State.voice, s.supplyDrops_frame]; exact h.voices v
  | riseTimeout => rw [State.voice, s.riseExpires_frame]; exact h.voices v
  | clickEnd => exact h.voices v
  | readStatus => exact h.voices v
  | setVolume => rw [State.voice, s.setVolumes_frame]; exact h.voices v

theorem State.Still.judgeSeatDefault (h : s.Still) : s.judgeSeatDefault.Still := by
  unfold State.judgeSeatDefault
  split
  · exact h.seatChange _ _
  · exact h

theorem KeyEffect.still {i : Instr} {e : State} (he : KeyEffect i s e) (hrun : s.running = false) (h : s.Still) : e.Still := by
  cases he with
  | keyReading => exact h.keyReading hrun _ _

theorem PedalEffect.still {i : Instr} {e : State} (he : PedalEffect i s e) (h : s.Still) : e.Still := by
  cases he with
  | pedalReading => exact h.pedalReading _ _

theorem State.endLoad_still (h : s.Still) : s.endLoad.Still := by
  unfold State.endLoad
  exact h.of_eq (by rw [State.setPhase_frame]; rfl) (by rw [State.setPhase_frame]; rfl)
    (by rw [State.setPhase_frame]; rfl) (by rw [State.setPhase_frame]; rfl)

theorem State.Still.loadRefused (h : s.Still) (g : Ground) : (s.loadRefused g).Still :=
  State.endLoad_still (s := State.setCalSource { s with cal := defaultWorkingCopy, commitCount := 0, saved := false } _)
    (h.of_eq rfl rfl rfl rfl)

theorem State.Still.loadTaken (h : s.Still) (image : List Byte) : (s.loadTaken image).Still := by
  unfold State.loadTaken
  simp only []
  generalize repairCopy (imageFields image) = copy
  exact State.endLoad_still (h.of_eq rfl rfl rfl rfl)

theorem StartUpEffect.still {i : Instr} {e : State} (he : StartUpEffect i s e) (hafter : e.running = false) (h : s.Still) :
    e.Still := by
  cases he with
  | load =>
    unfold State.loadImage
    split
    · exact h.loadRefused _
    · exact h.loadTaken _
  | loadNoAnswer => exact h.loadRefused _
  | headerCheck =>
    unfold State.checkHeader at hafter ⊢
    simp only [] at hafter ⊢
    split at hafter
    · rename_i hhold
      rw [if_pos hhold]
      exact h.of_eq (by rw [State.setPhase_frame]) (by rw [State.setPhase_frame]) (by rw [State.setPhase_frame])
        (by rw [State.setPhase_frame])
    · rw [State.running, State.enterRunning_phase] at hafter
      cases hafter
  | decision =>
    have hframe := s.decideRail_frame
    exact h.of_eq (by rw [hframe]) (by rw [hframe]) (by rw [hframe]) (by rw [hframe])
  | release =>
    rw [State.running, State.enterRunning_phase] at hafter
    cases hafter

end Still

theorem State.resetBlocks_still (s : State) (kind : ResetKind) (straps : Straps) (tracks : Vector Track 4)
    (store : TakeStoreOutcome) : (s.resetBlocks kind straps tracks store).Still := by
  refine holds_of_frame (State.judgeLed_frame _) ⟨fun k => ?_, fun v => ?_, rfl, rfl, rfl⟩
  · show ((Vector.replicate 88 resetTracker)[k]).state.strikes = false
    simp [resetTracker, KeyState.strikes]
  · show (Vector.replicate 48 (none : Option Voice))[v] = none
    simp

theorem Effect.stillBeforeRunning {i : Instr} {s e : State} (he : Effect i s e) (h : StillBeforeRunning s) :
    StillBeforeRunning e := by
  rw [stillBeforeRunning_iff] at h ⊢
  intro hafter
  by_cases hreset : ResetEffect i s e
  · obtain ⟨s0, kind, straps, tracks, store, rfl⟩ := hreset.eq_resetBlocks
    exact s0.resetBlocks_still kind straps tracks store
  have hrun : s.running = false := by
    have hmove := he.phase hreset
    cases hs : s.running with
    | false => rfl
    | true =>
      have hphase : s.startUp.phase = .running := by simpa [State.running] using hs
      simp only [State.running] at hafter
      generalize e.startUp.phase = p at hmove hafter
      cases hmove with
      | stays => rw [hphase] at hafter; cases hafter
      | loaded was => rw [hphase] at was; cases was
      | checked was => rw [hphase] at was; cases was
      | sampled was => rw [hphase] at was; cases was
      | released was => rw [hphase] at was; cases was
  have hstill := h hrun
  cases he with
  | unchanged => exact hstill
  | reset he => exact absurd he hreset
  | startUp he => exact he.still hafter hstill
  | key he => exact he.still hrun hstill
  | pedal he => exact he.still hstill
  | rail he => exact he.still hrun hstill
  | test he => exact he.still hrun hstill
  | voice he => exact he.still hstill
  | output he => exact he.still hstill
  | transport he => exact he.still hrun hstill
  | link he => exact hstill.of_eq (by rw [he.frame]) (by rw [he.frame]) (by rw [he.frame]) (by rw [he.frame])
  | seat he => exact he.still hstill
  | calibration he => exact he.still hstill
  | commit he => exact hstill.of_eq (by rw [he.frame]) (by rw [he.frame]) (by rw [he.frame]) (by rw [he.frame])

/-- Settles O52: before RUNNING every command's change keeps the part still. -/
theorem nothingPlaysBeforeRunning : Obligations.NothingPlaysBeforeRunning := by
  intro s s' hs hstep
  exact step_keeps (fun _ _ h => h) (fun _ _ h => h) (fun _ _ _ _ h => h) (fun _ _ _ he h => he.stillBeforeRunning h) hs hstep

end Sys2Proof.Machine
end

section
/-! What the journal and the links' records see of a change: appends and raised conditions, one after another. -/

namespace Sys2Proof.Machine

-- One declaration after another: side by side they open more threads than the check's memory limit holds.
set_option Elab.async false

/-- The journal and the links' records change by appends and raised conditions alone. -/
inductive Logs : State → State → Prop where
  | of_eq {s s' : State} (journal : s'.journal = s.journal := by rfl) (links : s'.links = s.links := by rfl) : Logs s s'
  | append {s : State} (b : JournalBody) (t : Time) : Logs s (s.append b t)
  | raise {s : State} (c : Condition) (latched : c ≠ .journal := by nofun) : Logs s (s.raise c)
  | trans {a b c : State} (h : Logs a b) (g : Logs b c) : Logs a c

theorem Logs.refl (s : State) : Logs s s := .of_eq

/-- What the two blocks alone decide, and appends and raised conditions keep, every such change keeps. -/
theorem Logs.keeps {P : State → Prop} (heq : ∀ a b : State, b.journal = a.journal → b.links = a.links → P a → P b)
    (happend : ∀ (a : State) (b : JournalBody) (t : Time), P a → P (a.append b t))
    (hraise : ∀ (a : State) (c : Condition), c ≠ .journal → P a → P (a.raise c)) {s s' : State} (h : Logs s s') (hs : P s) : P s' := by
  induction h with
  | of_eq hj hl => exact heq _ _ hj hl hs
  | append b t => exact happend _ b t hs
  | raise c hc => exact hraise _ c hc hs
  | trans _ _ ih ih' => exact ih' (ih hs)

theorem Logs.foldl {α : Type} {f : State → α → State} (h : ∀ (s : State) (x : α), Logs s (f s x)) :
    ∀ (l : List α) (s : State), Logs s (l.foldl f s)
  | [], s => .refl s
  | x :: l, s => (h s x).trans (Logs.foldl h l (f s x))

theorem VoiceFrame.logs {s s' : State} (h : VoiceFrame s s') : Logs s s' := .of_eq (by rw [h]) (by rw [h])

theorem RestFrame.logs {s s' : State} (h : RestFrame s s') : Logs s s' := .of_eq (by rw [h]) (by rw [h])

theorem LearnFrame.logs {s s' : State} (h : LearnFrame s s') : Logs s s' := .of_eq (by rw [h.1]) (by rw [h.1])

section Blocks
variable (s : State)

theorem State.report_logs (b : JournalBody) (c : Condition) (latched : c ≠ .journal := by nofun) : Logs s (s.report b c) :=
  (Logs.append b s.now).trans (.raise c latched)

theorem State.judgeLed_logs : Logs s s.judgeLed := .of_eq (by rw [State.judgeLed_frame]) (by rw [State.judgeLed_frame])

theorem State.setPhase_logs (p : Phase) : Logs s (s.setPhase p) :=
  .of_eq (by rw [State.setPhase_frame]) (by rw [State.setPhase_frame])

/-! ### Pedals and the transport -/

/-- Nothing but the voices, the pedal channels and the capture sets has changed. -/
def SoundFrame (s s' : State) : Prop :=
  s' = { s with
    voices := s'.voices, live := s'.live, liveCapture := s'.liveCapture, play := s'.play, playCapture := s'.playCapture }

variable {s} in
theorem SoundFrame.trans {b c : State} (h : SoundFrame s b) (g : SoundFrame b c) : SoundFrame s c := by
  unfold SoundFrame at *
  rw [g, h]

variable {s} in
theorem VoiceFrame.sound {s' : State} (h : VoiceFrame s s') : SoundFrame s s' := by
  unfold VoiceFrame at h
  rw [h]
  rfl

variable {s} in
theorem SoundFrame.logs {s' : State} (h : SoundFrame s s') : Logs s s' := .of_eq (by rw [h]) (by rw [h])

theorem State.setCapture_sound (g : Group) (m : KeySet) : SoundFrame s (s.setCapture g m) := by cases g <;> rfl

theorem State.sostenutoChange_sound (g : Group) (before after : Bool) : SoundFrame s (s.sostenutoChange g before after) := by
  unfold State.sostenutoChange
  split
  · exact s.setCapture_sound _ _
  · exact (s.sostenutoRelease_frame _ _).sound.trans (State.setCapture_sound _ _ _)
  · rfl

theorem State.pedalEffects_sound (g : Group) (i : PedalIx) (sw sw' : Bool) (lv lv' : Nat) :
    SoundFrame s (s.pedalEffects g i sw sw' lv lv') := by
  unfold State.pedalEffects
  split
  · exact s.sostenutoChange_sound _ _ _
  · split
    · exact (s.damperNotice_frame _ _ _).sound
    · rfl

theorem State.playbackPedal_logs (i : PedalIx) (level : Nat) : Logs s (s.playbackPedal i level) := by
  unfold State.playbackPedal
  refine Logs.trans ?_ (State.pedalEffects_sound _ _ _ _ _ _ _).logs
  split
  · exact .of_eq
  · exact Logs.trans (b := s.setPlay i _) .of_eq (.append _ _)

theorem State.playbackLevels_sound (f : PedalIx → Nat) : SoundFrame s (s.playbackLevels f) := by
  unfold State.playbackLevels
  refine SoundFrame.trans ?_ (State.damperNotice_frame _ _ _ _).sound
  exact SoundFrame.trans (b := { s with play := tableOf fun i =>
    { level := f i, switch := judgeSwitch (s.playChannel i).switch (f i) } }) rfl (State.sostenutoChange_sound _ _ _ _)

variable {s} in
theorem Plays.logs {ticking : Prop} {s' : State} (h : Plays ticking s s') : Logs s s' := by
  refine h.keeps (P := Logs s) (fun a b hstep ha => ha.trans ?_) (.refl s)
  cases hstep with
  | move => exact .of_eq
  | log => exact .append _ _
  | raise hc => exact .raise _ hc
  | opens => exact Logs.trans (b := a.setTrack _ _) .of_eq (State.noteOn_frame _ _ _ _).logs
  | closes => exact Logs.trans (b := a.setTrack _ _) .of_eq (State.noteOff_frame _ _ _ _).logs
  | pedal => exact a.playbackPedal_logs _ _
  | levels => exact (a.playbackLevels_sound _).logs
  | sound => exact .of_eq

theorem State.publish_logs (i : PedalIx) : Logs s (s.publish i) := by
  unfold State.publish
  exact ((Logs.append _ _).trans .of_eq).trans (State.transportPedal_plays (ticking := False) _ _ _).logs

theorem State.reportPedals_logs : Logs s s.reportPedals :=
  .of_eq (by rw [State.reportPedals_frame]) (by rw [State.reportPedals_frame])

theorem State.pedalReading_logs (i : PedalIx) (raw : Nat) : Logs s (s.pedalReading i raw) := by
  unfold State.pedalReading
  split
  · exact .refl s
  · split
    · exact Logs.trans (b := s.setLive i _) .of_eq (State.reportPedals_logs _)
    · unfold State.pedalReadingAfter
      simp only []
      split
      · exact .of_eq
      · refine Logs.trans ?_ (State.pedalEffects_sound _ _ _ _ _ _ _).logs
        split
        · exact Logs.trans (b := s.setLive i _) .of_eq (State.publish_logs _ _)
        · exact .of_eq

/-! ### The rail and the tests -/

/-- One act of the rail and of the tests: no test begins where none ran, and the vote set stands. -/
inductive RailStep : State → State → Prop where
  | turn {s : State} {r : Rail} (state : r.state.name = s.rail.state.name) (votes : r.votes = s.rail.votes) : RailStep s (s.setRail r)
  | enter {s : State} {st : RailState} : RailStep s (s.enterRail st)
  | tell {s : State} {b : JournalBody} {c : Condition} (latched : c ≠ .journal) : RailStep s (s.report b c)
  | test {s : State} {test : Option Test} {runs : Nat} {last : Option TestResult} {tone : Option Nat}
      (runs_on : s.test = none → test = none) : RailStep s { s with test := test, runs := runs, lastResult := last, tone := tone }

/-- A chain of acts of the rail and of the tests. -/
def RailActs : State → State → Prop := Relation.ReflTransGen RailStep

variable {s}

theorem RailStep.acts {s' : State} (h : RailStep s s') : RailActs s s' := Relation.ReflTransGen.single h

theorem RailActs.refl (s : State) : RailActs s s := Relation.ReflTransGen.refl

theorem RailActs.trans {b c : State} (h : RailActs s b) (g : RailActs b c) : RailActs s c := Relation.ReflTransGen.trans h g

/-- What every act keeps, a chain of acts keeps. -/
theorem RailActs.keeps {P : State → Prop} {s' : State} (g : RailActs s s') (h : ∀ a b : State, RailStep a b → P a → P b)
    (hs : P s) : P s' := by
  induction g with
  | refl => exact hs
  | tail _ hstep ih => exact h _ _ hstep ih

theorem RailActs.logs {s' : State} (h : RailActs s s') : Logs s s' := by
  refine h.keeps (P := Logs s) (fun a b hstep ha => ha.trans ?_) (.refl s)
  cases hstep with
  | turn => exact .of_eq
  | @enter st =>
    have htold : Logs a ((a.setRail { a.rail with state := st }).railRecord false) :=
      Logs.trans (b := a.setRail _) .of_eq (State.report_logs _ _ _)
    exact htold.trans (State.judgeLed_logs _)
  | tell hc => exact a.report_logs _ _ hc
  | test => exact .of_eq

/-- The rail's record changes, its state apart. -/
theorem State.setRail_acts {r : Rail} (state : r.state.name = s.rail.state.name := by rfl) (votes : r.votes = s.rail.votes := by rfl) :
    RailActs s (s.setRail r) := (RailStep.turn state votes).acts

variable (s)

theorem State.enterRail_acts (st : RailState) : RailActs s (s.enterRail st) := RailStep.enter.acts

theorem State.report_acts (b : JournalBody) (c : Condition) (latched : c ≠ .journal := by nofun) : RailActs s (s.report b c) :=
  (RailStep.tell latched).acts

theorem State.endSegment_acts : RailActs s s.endSegment := by
  unfold State.endSegment
  split
  · exact .refl s
  · refine State.setRail_acts ?_
    cases s.rail.state with
    | testing p => cases p <;> rfl
    | _ => rfl

theorem State.beginMove_acts (dir : Travel) : RailActs s (s.beginMove dir) :=
  RailActs.trans (b := s.startSegment dir) State.setRail_acts (State.enterRail_acts _ _)

theorem State.arriveParked_acts : RailActs s s.arriveParked :=
  (s.endSegment_acts.trans State.setRail_acts).trans (State.enterRail_acts _ _)

theorem State.arriveEngaged_acts : RailActs s s.arriveEngaged :=
  (s.endSegment_acts.trans State.setRail_acts).trans (State.enterRail_acts _ _)

variable {s} in
theorem State.railRule_acts {s' : State} (h : s.railRule = some s') : RailActs s s' := by
  obtain ⟨st, rfl⟩ | ⟨dir, rfl⟩ | rfl | rfl | ⟨dir, rfl⟩ := State.railRule_cases h
  · exact s.enterRail_acts st
  · exact s.beginMove_acts dir
  · exact s.arriveEngaged_acts
  · exact s.arriveParked_acts
  · exact State.setRail_acts

theorem State.settleFor_acts : ∀ (n : Nat) (s : State), RailActs s (State.settleFor n s)
  | 0, s => .refl s
  | n + 1, s => by
    unfold State.settleFor
    split
    · exact (State.railRule_acts ‹_›).trans (State.settleFor_acts n _)
    · exact .refl s

theorem State.settle_acts : RailActs s s.settle := State.settleFor_acts _ s

theorem State.loseQuiet_acts : RailActs s s.loseQuiet := by
  unfold State.loseQuiet
  split
  · exact s.endSegment_acts.trans (State.enterRail_acts _ _)
  · exact s.endSegment_acts.trans (State.enterRail_acts _ _)
  · exact s.endSegment_acts
  · exact s.endSegment_acts
  · exact .refl s

theorem State.endQuiet_acts (n : Nat) : RailActs s (s.endQuiet n) := by
  have hset : RailActs s (s.setQuiet { notAtRest := n, start := none, quiet := false }) := State.setRail_acts
  unfold State.endQuiet
  simp only []
  split
  · exact hset.trans (State.loseQuiet_acts _)
  · exact hset

theorem State.keyLeft_acts : RailActs s s.keyLeft := s.endQuiet_acts _

theorem State.keyReturned_acts : RailActs s s.keyReturned := by
  unfold State.keyReturned State.setQuiet
  exact State.setRail_acts

theorem State.restReport_acts (before after : Bool) : RailActs s (s.restReport before after) := by
  cases before <;> cases after
  · exact .refl s
  · exact s.keyReturned_acts
  · exact s.keyLeft_acts
  · exact .refl s

theorem State.judgeQuiet_acts : RailActs s s.judgeQuiet := by
  unfold State.judgeQuiet State.quietArrives
  split
  · exact RailActs.trans (b := s.setQuiet _) State.setRail_acts (State.settle_acts _)
  · exact .refl s

/-- What the rail does once its vote set has changed: it settles, it enters a state and settles, it turns round, or it tells
of the vote alone (R69, R73, R83). -/
theorem State.votesChanged_cases :
    (s.rail.decided = false ∧ s.votesChanged = s) ∨
    (s.rail.decided = true ∧
      ((s.rail.state = .parked ∧ s.rail.votes.any = true ∧ s.votesChanged = s.settle) ∨
      (s.rail.state = .engaged ∧ s.rail.votes.any = false ∧ s.votesChanged = s.settle) ∨
      (s.rail.state.name = .pendingIn ∧ s.rail.votes.any = false ∧ s.votesChanged = (s.enterRail .parked).settle) ∨
      (s.rail.state.name = .pendingOut ∧ s.rail.votes.any = true ∧ s.votesChanged = (s.enterRail .engaged).settle) ∨
      (s.rail.state = .movingIn ∧ s.rail.votes.any = false ∧ s.votesChanged = (s.reverse .outward).settle) ∨
      (s.rail.state = .movingOut ∧ s.rail.votes.any = true ∧ s.votesChanged = (s.reverse .inward).settle) ∨
      (s.rail.state = .pausedIn ∧ s.rail.votes.any = false ∧ s.votesChanged = (s.enterRail .pausedOut).settle) ∨
      (s.rail.state = .pausedOut ∧ s.rail.votes.any = true ∧ s.votesChanged = (s.enterRail .pausedIn).settle) ∨
      ((VoteLaw s.rail ∨ s.rail.state.name = .homing) ∧ s.votesChanged = s.railRecord false))) := by
  unfold State.votesChanged VoteLaw
  generalize s.settle = settled
  generalize (s.enterRail .parked).settle = parked
  generalize (s.enterRail .engaged).settle = engaged
  generalize (s.reverse .outward).settle = out
  generalize (s.reverse .inward).settle = inward
  generalize (s.enterRail .pausedOut).settle = pausedOut
  generalize (s.enterRail .pausedIn).settle = pausedIn
  generalize s.railRecord false = told
  generalize s.rail.votes.any = votes
  generalize s.rail.state = st
  cases s.rail.decided
  · exact .inl ⟨rfl, rfl⟩
  · cases st <;> cases votes <;> simp [RailState.name]

theorem State.votesChanged_acts : RailActs s s.votesChanged := by
  have hentered (st : RailState) : RailActs s (s.enterRail st).settle := (s.enterRail_acts st).trans (State.settle_acts _)
  have hturned (dir : Travel) : RailActs s (s.reverse dir).settle :=
    (s.endSegment_acts.trans (State.beginMove_acts _ dir)).trans (State.settle_acts _)
  rcases s.votesChanged_cases with ⟨-, h⟩ | ⟨-, ⟨-, -, h⟩ | ⟨-, -, h⟩ | ⟨-, -, h⟩ | ⟨-, -, h⟩ | ⟨-, -, h⟩ | ⟨-, -, h⟩ |
    ⟨-, -, h⟩ | ⟨-, -, h⟩ | ⟨-, h⟩⟩ <;> rw [h]
  · exact .refl s
  · exact s.settle_acts
  · exact s.settle_acts
  · exact hentered _
  · exact hentered _
  · exact hturned _
  · exact hturned _
  · exact hentered _
  · exact hentered _
  · exact s.report_acts _ _

/-- The vote set is changed first; the rail then follows it. -/
theorem State.setVotes_acts (v : Votes) : RailActs (s.setRail { s.rail with votes := v }) (s.setVotes v) := by
  unfold State.setVotes
  split
  · subst_vars
    exact .refl s
  · exact State.votesChanged_acts _

theorem State.abortCycle_acts : RailActs s s.abortCycle := by
  unfold State.abortCycle
  split
  · split
    · exact s.arriveParked_acts.trans (State.settle_acts _)
    · split
      · exact s.arriveEngaged_acts.trans (State.settle_acts _)
      · split <;> exact (s.endSegment_acts.trans (State.enterRail_acts _ _)).trans (State.settle_acts _)
  · exact .refl s

variable {s} in
theorem State.takeCycle_acts {s' : State} (h : s.takeCycle = some s') : RailActs s s' := by
  unfold State.takeCycle at h
  split at h
  · cases h
    exact (s.enterRail_acts _).trans (State.settle_acts _)
  · cases h

theorem State.finishRun_acts (code detail : Nat) (m : Measure) (completed : Bool) :
    RailActs s (s.finishRun code detail m completed) := by
  unfold State.finishRun
  cases hx : s.test with
  | none => exact .refl s
  | some x =>
    refine RailActs.trans (b := s.report _ _) (s.report_acts _ _) (RailStep.test (s := s.report _ _) fun hnone => ?_).acts
    rw [show (s.report _ _).test = s.test from rfl, hx] at hnone
    cases hnone

theorem State.beginRun_acts (h : s.test ≠ none) (kind : TestKind) (continuous : Bool) :
    RailActs s (s.beginRun kind continuous) := by
  cases kind <;> exact (RailStep.test fun hnone => absurd hnone h).acts

theorem State.nextRun_acts : RailActs s s.nextRun := by
  unfold State.nextRun
  cases hx : s.test with
  | none => exact .refl s
  | some x =>
    simp only []
    split
    · split
      · exact State.takeCycle_acts ‹_›
      · exact s.finishRun_acts _ _ _ _
    · exact s.beginRun_acts (by rw [hx]; nofun) _ _

theorem State.endRun_acts (code detail : Nat) (m : Measure) : RailActs s (s.endRun code detail m) :=
  (s.finishRun_acts _ _ _ _).trans (State.nextRun_acts _)

theorem State.abortTest_acts (detail : Nat) : RailActs s (s.abortTest detail) := by
  unfold State.abortTest
  split
  · exact .refl s
  · refine RailActs.trans ?_ (State.finishRun_acts _ _ _ _ _)
    split
    · exact s.abortCycle_acts
    · exact (RailStep.test id).acts
    · exact .refl s

theorem State.railFault_acts (cause : RailFault) : RailActs s (s.railFault cause) := by
  have hfault : RailActs s ((s.endSegment.setRail { s.endSegment.rail with segCount := none }).enterRail (.fault cause)) :=
    (s.endSegment_acts.trans State.setRail_acts).trans (State.enterRail_acts _ _)
  unfold State.railFault
  simp only []
  split
  · exact hfault.trans (State.endRun_acts _ _ _ _)
  · exact hfault

theorem State.testInwardDone_acts : RailActs s s.testInwardDone := by
  have hdone (c : Int) : RailActs s (s.endSegment.setRail { s.endSegment.rail with count := c }) :=
    s.endSegment_acts.trans State.setRail_acts
  unfold State.testInwardDone
  simp only []
  split
  · exact ((hdone _).trans (State.enterRail_acts _ _)).trans (State.settle_acts _)
  · exact hdone _

theorem State.testOutwardDone_acts : RailActs s s.testOutwardDone := by
  unfold State.testOutwardDone
  split
  · exact ((s.arriveParked_acts.trans (State.finishRun_acts _ _ _ _ _)).trans (State.settle_acts _)).trans
      (State.nextRun_acts _)
  · exact .refl s

theorem State.switchChanged_acts (x : EndSwitch) (made : Bool) : RailActs s (s.switchChanged x made) := by
  have hengaged : RailActs s s.arriveEngaged.settle := s.arriveEngaged_acts.trans (State.settle_acts _)
  have hparked : RailActs s s.arriveParked.settle := s.arriveParked_acts.trans (State.settle_acts _)
  unfold State.switchChanged
  split
  · split
    · exact .refl s
    · split
      · exact s.railFault_acts _
      · split
        · exact hengaged
        · exact hengaged
        · exact hparked
        · exact hparked
        · exact hparked
        · exact s.testInwardDone_acts
        · exact s.testOutwardDone_acts
        · exact .refl s
  · exact .refl s

theorem State.indexSeen_acts : RailActs s s.indexSeen := by
  have hset : RailActs s (s.setRail { s.rail with count := 0 }) := State.setRail_acts
  have hparked := hset.trans ((State.arriveParked_acts _).trans (State.settle_acts _))
  unfold State.indexSeen
  simp only []
  split
  · split
    · exact hparked
    · exact hparked
    · exact hparked
    · exact hset.trans (State.testOutwardDone_acts _)
    · exact hset
  · exact hset

theorem State.edgeSeen_acts (sense : Travel) : RailActs s (s.edgeSeen sense) := by
  unfold State.edgeSeen
  simp only []
  split
  · exact RailActs.trans (b := s.setRail _) State.setRail_acts (State.railFault_acts _ _)
  · exact State.setRail_acts

theorem State.notice_acts : RailActs s s.notice := by
  have htold (st : RailState) (h : st.name = s.rail.state.name) :
      RailActs s ((s.setRail { s.rail with state := st }).railRecord true) :=
    (State.setRail_acts h).trans (State.report_acts _ _ _)
  unfold State.notice
  split
  · rename_i hst
    split
    · exact htold _ (by rw [hst]; rfl)
    · exact .refl s
  · rename_i hst
    split
    · exact htold _ (by rw [hst]; rfl)
    · exact .refl s
  · exact .refl s

theorem State.recoverRail_acts : RailActs s s.recoverRail := by
  have hhoming := s.enterRail_acts .homing
  unfold State.recoverRail
  simp only []
  split
  · exact hhoming.trans (State.railFault_acts _ _)
  · split
    · exact hhoming.trans ((State.arriveParked_acts _).trans (State.settle_acts _))
    · exact hhoming.trans (State.settle_acts _)

variable {s} in
/-- An event of the rail sets the vote set, and the rail acts; a command without a vote sets it as it was. -/
theorem RailEffect.acts {i : Instr} {e : State} (h : RailEffect i s e) : ∃ v : Votes, RailActs (s.setRail { s.rail with votes := v }) e := by
  have hstands (h : RailActs s e) : ∃ v : Votes, RailActs (s.setRail { s.rail with votes := v }) e := ⟨s.rail.votes, h⟩
  cases h with
  | leverRaw => exact hstands State.setRail_acts
  | lever => exact ⟨_, s.setVotes_acts _⟩
  | edge => exact hstands (s.edgeSeen_acts _)
  | index => exact hstands s.indexSeen_acts
  | @switchRaw _ x => exact hstands (State.setRail_acts (by cases x <;> rfl) (by cases x <;> rfl))
  | @switch _ x => exact hstands (RailActs.trans (b := s.setRail _)
      (State.setRail_acts (by cases x <;> rfl) (by cases x <;> rfl)) (State.switchChanged_acts _ _ _))
  | quiet => exact hstands s.judgeQuiet_acts
  | notice => exact hstands s.notice_acts
  | stall => exact hstands (s.railFault_acts _)
  | timeout => exact hstands (s.railFault_acts _)
  | vote => exact ⟨_, s.setVotes_acts _⟩
  | recover => exact hstands s.recoverRail_acts

theorem State.toneDone_acts : RailActs s s.toneDone := by
  have htone : RailActs s { s with tone := none } := (RailStep.test id).acts
  unfold State.toneDone
  simp only []
  split
  · split
    · exact htone.trans (State.endRun_acts _ _ _ _)
    · exact htone
  · exact htone

theorem State.readbackDone_acts : RailActs s s.readbackDone := by
  unfold State.readbackDone
  split
  · split <;> exact s.endRun_acts _ _ _
  · exact .refl s

theorem State.readbackExpires_acts : RailActs s s.readbackExpires := by
  unfold State.readbackExpires
  split
  · split
    · exact s.endRun_acts _ _ _
    · exact .refl s
  · exact .refl s

/-- A test that starts begins its run; a rail cycle is then taken by the rail (R214, R216). -/
theorem State.startTest_cases {kind : TestKind} {continuous : Bool} {s e : State} (h : s.startTest kind continuous = some e) :
    RailActs (State.beginRun { s with runs := 0 } kind continuous) e := by
  cases kind with
  | railCycle => exact State.takeCycle_acts h
  | sensorScan => cases h; exact .refl _
  | tone => cases h; exact .refl _
  | readback => cases h; exact .refl _

theorem State.beginRun_logs (kind : TestKind) (continuous : Bool) : Logs s (s.beginRun kind continuous) := by
  cases kind <;> exact .of_eq

variable {s} in
theorem TestEffect.logs {i : Instr} {e : State} (h : TestEffect i s e) : Logs s e := by
  cases h with
  | toneEnd => exact s.toneDone_acts.logs
  | readback => exact s.readbackDone_acts.logs
  | readbackNoAnswer => exact s.readbackExpires_acts.logs
  | runTest _ _ _ starts =>
    exact (Logs.trans (b := { s with runs := 0 }) .of_eq (State.beginRun_logs _ _ _)).trans (State.startTest_cases starts).logs
  | stopTest => exact (s.abortTest_acts _).logs

theorem State.scanReading_acts (k : KeyIx) (c : KeyCal) (raw : Nat) : RailActs s (s.scanReading k c raw) := by
  unfold State.scanReading
  split
  · rename_i hx
    have htest (test : Option Test) : RailActs s { s with test := test } := (RailStep.test fun hnone => by rw [hx] at hnone; cases hnone).acts
    simp only []
    split
    · exact .refl s
    · split
      · exact (htest _).trans (State.endRun_acts _ _ _ _)
      · exact htest _
  · exact .refl s

end Blocks

end Sys2Proof.Machine
end

section
/-! The ring, its cursors and the attention fields stay legal (R169, R175, R177, R190). -/

namespace Sys2Proof.Machine

section Blocks
variable (s : State)

theorem State.keyOn_logs (k : KeyIx) (stroke : Stroke) (ta tb : Time) (rep : Bool) : Logs s (s.keyOn k stroke ta tb rep) := by
  unfold State.keyOn
  simp only []
  split
  · exact ((s.noteOn_frame _ _ _).logs.trans (.append _ _)).trans (State.transportKeyOn_plays (ticking := False) _ _ _).logs
  · exact (Logs.append _ _).trans (State.transportKeyOn_plays (ticking := False) _ _ _).logs

theorem State.keyOff_logs (k : KeyIx) (level : Nat) (cause : OffCause) (time : Time) : Logs s (s.keyOff k level cause time) :=
  ((s.noteOff_frame _ _ _).logs.trans (.append _ _)).trans (State.transportKeyOff_plays (ticking := False) _ _ _).logs

theorem State.trackerReading_logs (k : KeyIx) (raw : Nat) : Logs s (s.trackerReading k raw) :=
  State.trackerReading_keeps (P := Logs s) (fun _ _ hf ha => ha.trans hf.logs) (fun a _ _ _ _ _ ha => ha.trans (a.keyOn_logs _ _ _ _ _))
    (fun a _ _ _ _ ha => ha.trans (a.keyOff_logs _ _ _ _)) (fun a _ _ hc ha => ha.trans (a.report_logs _ _ hc)) k raw (.refl s)

theorem State.keyReading_logs (k : KeyIx) (raw : Nat) : Logs s (s.keyReading k raw) := by
  have htold (a : State) : Logs a (s.restTold a k) := (a.restReport_acts _ _).logs
  rcases s.keyReading_cases k raw with ⟨-, h⟩ | ⟨-, -, h⟩ | ⟨-, -, h⟩ <;> rw [h]
  · exact .refl s
  · refine Logs.trans ?_ (State.scanReading_acts _ _ _ _).logs
    refine (Logs.trans (b := s.evaluateKey k raw) .of_eq (htold _)).trans ?_
    exact .of_eq (by rw [State.reportSensors_frame]) (by rw [State.reportSensors_frame])
  · exact ((s.trackerReading_logs k raw).trans (htold _)).trans (State.scanReading_acts _ _ _ _).logs

theorem State.endLearn_logs : Logs s s.endLearn := by
  obtain ⟨s1, h, heq⟩ := s.endLearn_eq
  rw [heq]
  exact (Logs.trans (b := { s with learn := none }) .of_eq h.logs).trans (State.report_logs _ _ _)

theorem State.endLearnUnder_logs (before : Option Link) : Logs s (s.endLearnUnder before) := by
  unfold State.endLearnUnder
  split
  · split
    · exact s.endLearn_logs
    · exact .refl s
  · exact .refl s

theorem State.seatChange_logs (after : Option Link) (cause : SeatCause) : Logs s (s.seatChange after cause) := by
  rw [State.seatChange_eq]
  refine Logs.trans (Logs.trans ?_ (State.endLearnUnder_logs _ _)) (State.abortTest_acts _ _).logs
  exact Logs.trans (b := { s with seat := after }) .of_eq (State.report_logs _ _ _)

theorem State.beginLearn_logs (lo hi : Nat) (l : Link) : Logs s (s.beginLearn lo hi l) := by
  have hkey (a : State) (k : KeyIx) : Logs a (a.beginLearnKey k) := by
    unfold State.beginLearnKey
    split
    · exact Logs.trans (b := a.setKey k _) .of_eq (State.keyLeft_acts _).logs
    · exact .of_eq
  refine Logs.trans (b := State.withholdQuiet { s with learn := some { lo := lo, hi := hi, link := l } }) ?_ (Logs.foldl hkey _ _)
  exact Logs.trans (b := { s with learn := some { lo := lo, hi := hi, link := l } }) .of_eq (State.endQuiet_acts _ _).logs

theorem State.endLoad_logs : Logs s s.endLoad := (s.setPhase_logs _).trans .of_eq

theorem State.enterRunning_logs : Logs s s.enterRunning := by
  have hdefault (a : State) : Logs a a.judgeSeatDefault := by
    unfold State.judgeSeatDefault
    split
    · exact a.seatChange_logs _ _
    · exact .refl a
  unfold State.enterRunning
  simp only []
  refine (Logs.trans ?_ (.raise _)).trans (State.judgeLed_logs _)
  refine Logs.trans ?_ (hdefault _)
  split
  · exact (s.setPhase_logs _).trans (State.report_logs _ _ _)
  · exact s.setPhase_logs _

theorem State.checkHeader_logs : Logs s s.checkHeader := by
  unfold State.checkHeader
  simp only []
  split
  · exact Logs.trans (b := { s with windows := _, startUp := _ }) .of_eq (State.setPhase_logs _ _)
  · exact Logs.trans (b := { s with windows := _, startUp := _ }) .of_eq (State.enterRunning_logs _)

theorem State.loadRefused_logs (g : Ground) : Logs s (s.loadRefused g) := Logs.trans .of_eq (State.endLoad_logs _)

theorem State.loadTaken_logs (image : List Byte) : Logs s (s.loadTaken image) := by
  unfold State.loadTaken
  simp only []
  generalize repairCopy (imageFields image) = copy
  exact Logs.trans .of_eq (State.endLoad_logs _)

theorem State.decideRail_logs : Logs s s.decideRail := by
  have hrail (r : Rail) (st : RailState) : Logs s ((s.setRail r).enterRail st) :=
    Logs.trans (b := s.setRail r) .of_eq (State.enterRail_acts _ _).logs
  unfold State.decideRail
  simp only []
  refine Logs.trans ?_ (State.settle_acts _).logs
  exact (hrail _ _).trans (.of_eq (by rw [State.judgeChecking_frame]) (by rw [State.judgeChecking_frame]))

theorem State.setSupply_logs (x : Supply) : Logs s (s.setSupply x) := by
  unfold State.setSupply
  refine Logs.trans ?_ (State.judgeLed_logs _)
  exact Logs.trans .of_eq (State.report_logs _ _ _)

theorem State.judgeSupply_logs : Logs s s.judgeSupply := by
  rcases s.judgeSupply_cases with ⟨-, -, h⟩ | ⟨-, -, h⟩ | ⟨-, h⟩ <;> rw [h]
  · split
    · exact (s.setSupply_logs _).trans (State.setSupply_logs _ _)
    · exact s.setSupply_logs _
  · exact s.setSupply_logs _
  · exact .refl s

theorem State.debounceJack_logs (j : JackIx) (c : Contacts) : Logs s (s.debounceJack j c) := by
  have hjudge (a : State) : Logs a a.judgeEnabled.judgeSupply := Logs.trans .of_eq a.judgeEnabled.judgeSupply_logs
  unfold State.debounceJack
  simp only []
  refine Logs.trans (b := if _ then s.setJack j _ else (s.setJack j _).report _ _) ?_ (hjudge _)
  split
  · exact .of_eq
  · exact Logs.trans (b := s.setJack j _) .of_eq (State.report_logs _ _ _)

theorem State.supplyAsserts_logs : Logs s s.supplyAsserts := by
  unfold State.supplyAsserts
  simp only []
  split
  · exact Logs.trans (b := { s with supplyGood := true }) .of_eq (State.setSupply_logs _ _)
  · exact .of_eq

theorem State.supplyDrops_logs : Logs s s.supplyDrops := by
  unfold State.supplyDrops
  simp only []
  split
  · exact Logs.trans (b := { s with supplyGood := false }) .of_eq (State.setSupply_logs _ _)
  · exact .of_eq

theorem State.riseExpires_logs : Logs s s.riseExpires := by
  unfold State.riseExpires
  split
  · split
    · exact s.setSupply_logs _
    · exact .refl s
  · exact .refl s

theorem State.setVolumes_logs (js : List JackIx) (volume : Nat) : Logs s (s.setVolumes js volume) :=
  Logs.foldl (fun _ _ => .of_eq) js s

theorem State.commitDone_logs (c : Commit) : Logs s (s.commitDone c) := by
  unfold State.commitDone
  exact Logs.trans (Logs.trans .of_eq (State.report_logs _ _ _)) (State.judgeLed_logs _)

variable {s}

theorem StartUpEffect.logs {i : Instr} {e : State} (h : StartUpEffect i s e) : Logs s e := by
  cases h with
  | load =>
    unfold State.loadImage
    split
    · exact s.loadRefused_logs _
    · exact s.loadTaken_logs _
  | loadNoAnswer => exact s.loadRefused_logs _
  | headerCheck => exact s.checkHeader_logs
  | decision => exact s.decideRail_logs
  | release => exact s.enterRunning_logs

theorem OutputEffect.logs {i : Instr} {e : State} (h : OutputEffect i s e) : Logs s e := by
  cases h with
  | outputFrame => exact .of_eq
  | ramp => exact .of_eq
  | contactRaw => exact .of_eq
  | contact => exact s.debounceJack_logs _ _
  | supplyGood => exact s.supplyAsserts_logs
  | supplyLost => exact s.supplyDrops_logs
  | riseTimeout => exact s.riseExpires_logs
  | clickEnd => exact .of_eq
  | readStatus => exact .of_eq
  | setVolume => exact s.setVolumes_logs _ _

theorem CalibrationEffect.logs {i : Instr} {e : State} (h : CalibrationEffect i s e) : Logs s e := by
  cases h with
  | writeKeyCal =>
    unfold State.writeCal
    split <;> exact .of_eq
  | writePedalCal => exact .of_eq
  | writeTouch => exact Logs.trans (b := State.calChanged { s with cal := _ }) .of_eq (State.judgeQuiet_acts _).logs
  | writeCurve => exact .of_eq
  | selectCurve =>
    unfold State.selectCurve
    split <;> exact .of_eq
  | writeRailCal => exact .of_eq
  | learnBegin => exact s.beginLearn_logs _ _ _
  | learnEnd => exact s.endLearn_logs

theorem CommitEffect.logs {i : Instr} {e : State} (h : CommitEffect i s e) : Logs s e := by
  cases h with
  | commit => exact .of_eq
  | pageAck =>
    unfold State.pageDone
    split
    · exact .refl s
    · simp only []
      split
      · exact .of_eq
      · exact Logs.trans .of_eq (State.commitDone_logs _ _)
  | pageTimeout =>
    unfold State.pageExpires
    split
    · exact .refl s
    · split
      · exact Logs.trans .of_eq (State.report_logs _ _ _)
      · exact .refl s

theorem VoiceEffect.logs {i : Instr} {e : State} (h : VoiceEffect i s e) : Logs s e :=
  .of_eq (by rw [h.frame]) (by rw [h.frame])

/-- Every change but a reset, a link's own and a departure reaches the journal and the links by what it tells alone. -/
theorem Effect.logs {i : Instr} {e : State} (h : Effect i s e) :
    Logs s e ∨ ResetEffect i s e ∨ LinkEffect i s e ∨ ∃ (t : Time) (l : Link), i = .linkJudgedAbsent t l ∧ e = s.judgeAbsent l := by
  cases h with
  | unchanged => exact .inl (.refl s)
  | reset h => exact .inr (.inl h)
  | startUp h => exact .inl h.logs
  | key h =>
    cases h with
    | keyReading => exact .inl (s.keyReading_logs _ _)
  | pedal h =>
    cases h with
    | pedalReading => exact .inl (s.pedalReading_logs _ _)
  | rail h =>
    obtain ⟨v, hacts⟩ := h.acts
    exact .inl (Logs.trans (b := s.setRail { s.rail with votes := v }) .of_eq hacts.logs)
  | test h => exact .inl h.logs
  | voice h => exact .inl h.logs
  | output h => exact .inl h.logs
  | transport h => exact .inl h.plays.logs
  | link h => exact .inr (.inr (.inl h))
  | seat h =>
    cases h with
    | seatClaim =>
      left
      unfold State.claimSeat
      split
      · exact .refl s
      · exact s.seatChange_logs _ _
    | seatYield => exact .inl (s.seatChange_logs _ _)
    | seatPass => exact .inl (s.seatChange_logs _ _)
    | absent => exact .inr (.inr (.inr ⟨_, _, rfl, rfl⟩))
  | calibration h => exact .inl h.logs
  | commit h => exact .inl h.logs

end Blocks

end Sys2Proof.Machine
end

section
/-! The ring, its cursors and the attention fields stay legal (R169, R175, R177, R190). -/

namespace Sys2Proof.Machine

/-! ### The ring -/

/-- The bounds of the ring and of the views, which removal does not need to have been judged for (R169, R175). -/
def RingLaw (s : State) : Prop :=
  s.journal.length ≤ 512 ∧ ∀ l : Link, (s.link l).view.lawful s.journal.length

section Ring
variable {s : State}

theorem State.link_setLink (s : State) (l j : Link) (r : LinkRec) : (s.setLink l r).link j = if j = l then r else s.link j :=
  PerLink.get_put _ _ _ _

/-- The oldest record is one that a present link has yet to read, where any link is present (R177). -/
theorem State.oldest_iff (s : State) : (s.oldestCursor = none ∨ s.oldestCursor = some 0) ↔
    ∀ (l : Link) (c g : Nat), (s.link l).view = .present c g → ∃ (m : Link) (h : Nat), (s.link m).view = .present 0 h := by
  have ha : s.link .a = s.links.a := rfl
  have hb : s.link .b = s.links.b := rfl
  constructor
  · intro h l c g hl
    have hpresent := State.oldestCursor_of_present hl
    rw [hpresent] at h
    obtain hold | hold := h
    · cases hold
    · cases hother : (s.link (otherLink l)).view with
      | absent n =>
        rw [hother] at hold
        exact ⟨l, g, hl.trans (congrArg (View.present · g) (Option.some.inj hold))⟩
      | present d g' =>
        rw [hother] at hold
        have hmin : min d c = 0 := Option.some.inj hold
        obtain hd | hc : d = 0 ∨ c = 0 := by omega
        · exact ⟨otherLink l, g', by rw [hother, hd]⟩
        · exact ⟨l, g, by rw [hl, hc]⟩
  · intro h
    by_cases hpresent : ∃ (l : Link) (c g : Nat), (s.link l).view = .present c g
    · obtain ⟨l, c, g, hl⟩ := hpresent
      obtain ⟨m, g', hm⟩ := h l c g hl
      right
      rw [State.oldestCursor_of_present hm]
      cases (s.link (otherLink m)).view <;> simp [View.olderThan]
    · left
      unfold State.oldestCursor
      cases hva : s.links.a.view with
      | present c g => exact absurd ⟨.a, c, g, hva⟩ hpresent
      | absent n =>
        cases hvb : s.links.b.view with
        | present c g => exact absurd ⟨.b, c, g, hvb⟩ hpresent
        | absent n => rfl

theorem journalLaw_iff : JournalLaw s ↔ RingLaw s ∧
    ∀ (l : Link) (c g : Nat), (s.link l).view = .present c g → ∃ (m : Link) (h : Nat), (s.link m).view = .present 0 h := by
  rw [← s.oldest_iff]
  exact ⟨fun ⟨hlength, hviews, hold⟩ => ⟨⟨hlength, hviews⟩, hold⟩, fun ⟨⟨hlength, hviews⟩, hold⟩ => ⟨hlength, hviews, hold⟩⟩

theorem JournalLaw.ring (h : JournalLaw s) : RingLaw s := (journalLaw_iff.mp h).1

/-- What the law sees: the journal and the views. -/
theorem JournalLaw.congr {s' : State} (h : JournalLaw s) (hj : s'.journal = s.journal)
    (hviews : ∀ l : Link, (s'.link l).view = (s.link l).view) : JournalLaw s' := by
  obtain ⟨⟨hlength, hlawful⟩, hold⟩ := journalLaw_iff.mp h
  refine journalLaw_iff.mpr ⟨⟨hj ▸ hlength, fun l => ?_⟩, fun l c g hl => ?_⟩
  · rw [hviews, hj]
    exact hlawful l
  · obtain ⟨m, g', hm⟩ := hold l c g (hviews l ▸ hl)
    exact ⟨m, g', (hviews m).trans hm⟩

theorem JournalLaw.append (h : JournalLaw s) (b : JournalBody) (t : Time) : JournalLaw (s.append b t) := by
  obtain ⟨⟨hlength, hlawful⟩, hold⟩ := journalLaw_iff.mp h
  have hring := s.append_ring_length b t hlength
  refine journalLaw_iff.mpr ⟨⟨by omega, fun l => ?_⟩, fun l c g hl => ?_⟩
  · have hview := hlawful l
    rw [State.append_link, LinkRec.onAppend_view, hring]
    cases hv : (s.link l).view with
    | absent n => exact Nat.min_le_left _ _
    | present c g =>
      rw [hv] at hview
      obtain ⟨hc, hg⟩ : c ≤ s.journal.length ∧ g ≤ 255 := hview
      by_cases hfull : 512 ≤ s.journal.length
      · simp only [hfull, decide_true, if_true]
        split
        · exact ⟨Nat.zero_le _, Nat.min_le_left _ _⟩
        · exact ⟨by omega, hg⟩
      · simp only [hfull, decide_false, Bool.false_eq_true, if_false]
        exact ⟨by omega, hg⟩
  · have hpresent : ∃ c' g', (s.link l).view = .present c' g' := by
      rw [State.append_link, LinkRec.onAppend_view] at hl
      cases hv : (s.link l).view with
      | present c' g' => exact ⟨c', g', rfl⟩
      | absent n => rw [hv] at hl; cases hl
    obtain ⟨c', g', hl'⟩ := hpresent
    obtain ⟨m, g'', hm⟩ := hold l c' g' hl'
    refine ⟨m, ?_⟩
    rw [State.append_link, LinkRec.onAppend_view, hm]
    simp only [if_true]
    split <;> exact ⟨_, rfl⟩

theorem JournalLaw.logs {s' : State} (hl : Logs s s') (h : JournalLaw s) : JournalLaw s' :=
  hl.keeps (P := JournalLaw) (fun _ b hj hlinks ha => ha.congr hj fun l => by unfold State.link; rw [hlinks])
    (fun _ b t ha => ha.append b t) (fun a c _ ha => ha.congr rfl fun l => by rw [State.raise_link]; rfl) h

/-- Removal restores the law wherever the bounds hold (R177). -/
theorem RingLaw.judgeRemoval (h : RingLaw s) : JournalLaw s.judgeRemoval := by
  obtain ⟨hlength, hlawful⟩ := h
  cases hold : s.oldestCursor with
  | none =>
    have heq : s.judgeRemoval = s := by rw [State.judgeRemoval, hold]
    rw [heq]
    exact ⟨hlength, hlawful, .inl hold⟩
  | some n =>
    have hjournal : s.judgeRemoval.journal = s.journal.drop n := by rw [State.judgeRemoval, hold]
    have hview (l : Link) : (s.judgeRemoval.link l).view = (s.link l).view.back n := by
      rw [State.judgeRemoval, hold]
      simp [State.link]
    refine journalLaw_iff.mpr ⟨⟨?_, fun l => ?_⟩, fun l c g hl => ?_⟩
    · rw [hjournal, List.length_drop]
      omega
    · have := hlawful l
      rw [hview, hjournal, List.length_drop]
      cases hv : (s.link l).view with
      | absent k => rw [hv] at this; exact this
      | present c g =>
        rw [hv] at this
        exact ⟨Nat.sub_le_sub_right this.1 n, this.2⟩
    · have hpresent : ∃ c' g', (s.link l).view = .present c' g' := by
        rw [hview] at hl
        cases hv : (s.link l).view with
        | present c' g' => exact ⟨c', g', rfl⟩
        | absent k => rw [hv] at hl; cases hl
      obtain ⟨c', g', hl'⟩ := hpresent
      have hn : n = (s.link (otherLink l)).view.olderThan c' :=
        Option.some.inj (hold.symm.trans (State.oldestCursor_of_present hl'))
      cases hother : (s.link (otherLink l)).view with
      | absent k =>
        rw [hother] at hn
        exact ⟨l, g', by rw [hview, hl', hn]; simp [View.back, View.olderThan]⟩
      | present d g'' =>
        rw [hother] at hn
        have hmin : n = min d c' := hn
        obtain hd | hc : d - n = 0 ∨ c' - n = 0 := by omega
        · exact ⟨otherLink l, g'', by rw [hview, hother, View.back, hd]⟩
        · exact ⟨l, g', by rw [hview, hl', View.back, hc]⟩

/-- A view within its limits may replace another before removal is judged. -/
theorem RingLaw.setLink (h : RingLaw s) (l : Link) (r : LinkRec) (hr : r.view.lawful s.journal.length) :
    RingLaw (s.setLink l r) := by
  refine ⟨h.1, fun j => ?_⟩
  rw [State.link_setLink]
  split
  · exact hr
  · exact h.2 j

theorem JournalLaw.setLink (h : JournalLaw s) (l : Link) (r : LinkRec) (hr : r.view = (s.link l).view) :
    JournalLaw (s.setLink l r) := by
  refine h.congr rfl fun j => ?_
  rw [State.link_setLink]
  split
  · subst_vars
    exact hr
  · rfl

theorem RingLaw.setView (h : RingLaw s) (l : Link) (v : View) (hv : v.lawful s.journal.length) : RingLaw (s.setView l v) :=
  h.setLink l _ hv

theorem RingLaw.raiseOn (h : RingLaw s) (l : Link) (c : Condition) : RingLaw (s.raiseOn l c) := h.setLink l _ (h.2 l)

theorem JournalLaw.judgePresent (h : JournalLaw s) (l : Link) : JournalLaw (s.judgePresent l) := by
  have hview := h.ring.2 l
  unfold State.judgePresent
  cases hv : (s.link l).view with
  | present c g => exact h
  | absent n =>
    rw [hv] at hview
    have hset : RingLaw (s.setView l (.present s.journal.length n)) := h.ring.setView l _ ⟨le_rfl, hview⟩
    simp only []
    split
    · exact hset.judgeRemoval
    · exact (hset.raiseOn l .gap).judgeRemoval

theorem JournalLaw.linkResetOn (h : JournalLaw s) (l : Link) : JournalLaw (s.linkResetOn l) := by
  unfold State.linkResetOn
  refine (h.ring.setLink l _ ?_).judgeRemoval
  simp only []
  split
  · exact ⟨le_rfl, Nat.zero_le _⟩
  · exact Nat.zero_le 255

theorem JournalLaw.readOn (h : JournalLaw s) {l : Link} {cursor gap : Nat} (hv : (s.link l).view = .present cursor gap)
    (most : Nat) : JournalLaw (s.readOn l cursor gap most) := by
  have hview := h.ring.2 l
  rw [hv] at hview
  obtain ⟨hcursor, hgap⟩ : cursor ≤ s.journal.length ∧ gap ≤ 255 := hview
  have hread : (s.readView cursor gap most).lawful s.journal.length := by
    refine ⟨?_, ?_⟩
    · unfold State.readRecords
      rw [List.length_take, List.length_drop]
      omega
    · split
      · exact Nat.zero_le _
      · exact hgap
  cases hnone : s.readRecords cursor gap most with
  | nil =>
    rw [State.readOn_of_none l hnone]
    obtain ⟨hring, hold⟩ := journalLaw_iff.mp h
    have hkept (j : Link) (c : Nat) : (∃ g, ((s.setView l (s.readView cursor gap most)).link j).view = .present c g) ↔
        ∃ g, (s.link j).view = .present c g := by
      rw [State.setView, State.link_setLink]
      split
      · subst_vars
        rw [hv, State.readView, hnone]
        simp
      · rfl
    refine journalLaw_iff.mpr ⟨hring.setView l _ hread, fun j c g hj => ?_⟩
    obtain ⟨g', hj'⟩ := (hkept j c).mp ⟨g, hj⟩
    obtain ⟨m, hm⟩ := hold j c g' hj'
    exact ⟨m, (hkept m 0).mpr hm⟩
  | cons x xs =>
    rw [State.readOn_of_some l (by rw [hnone]; nofun)]
    exact (h.ring.setView l _ hread).judgeRemoval

theorem JournalLaw.departed (h : JournalLaw s) (l : Link) : JournalLaw (s.departed l) :=
  (h.ring.setView l (.absent 0) (Nat.zero_le _)).judgeRemoval

end Ring

/-! ### The attention fields -/

/-- R190 of one link: no bit above the latched conditions is latched, none above JOURNAL is in the mask. -/
def LinkRec.attentive (r : LinkRec) : Prop :=
  r.latched &&& 0xF000#16 = 0#16 ∧ r.mask &&& 0xE000#16 = 0#16 ∧ 1 ≤ r.watermark ∧ r.watermark ≤ 256

theorem or_and_eq_zero {a b m : CondSet} (ha : a &&& m = 0#16) (hb : b &&& m = 0#16) : (a ||| b) &&& m = 0#16 := by
  rw [show (a ||| b) &&& m = (a &&& m) ||| (b &&& m) from by ext i; simp [Bool.and_or_distrib_right], ha, hb]
  rfl

theorem Condition.mask_latched {c : Condition} (h : c ≠ .journal) : c.mask &&& 0xF000#16 = 0#16 := by
  cases c <;> first | rfl | exact absurd rfl h

section Attention
variable {r : LinkRec}

/-- The attention fields as a reset and LINK_RESET leave them (R190, R195). -/
theorem LinkRec.attentive_default (l : LinkRec) (v : View) (x : Transaction) (raw : RawInput) : LinkRec.attentive
    { l with presentRaw := raw, transaction := x, view := v, latched := 0#16, mask := defaultMask, onAck := true, watermark := 1 } :=
  ⟨BitVec.zero_and, (by decide : defaultMask &&& 0xE000#16 = 0#16), le_rfl, (by decide : 1 ≤ 256)⟩

theorem LinkRec.attentive.raise (h : r.attentive) {c : Condition} (hc : c ≠ .journal) : (r.raise c).attentive :=
  ⟨or_and_eq_zero h.1 (Condition.mask_latched hc), h.2⟩

theorem LinkRec.attentive.onAppend (h : r.attentive) (full : Bool) : (r.onAppend full).attentive := by
  rw [LinkRec.onAppend_frame]
  refine ⟨?_, h.2⟩
  show (r.onAppend full).latched &&& _ = _
  rw [LinkRec.onAppend_latched]
  split
  · exact or_and_eq_zero h.1 (Condition.mask_latched (c := .gap) nofun)
  · exact h.1

end Attention

section Attention
variable {s : State}

theorem AttentionLaw.setLink (h : AttentionLaw s) (l : Link) {r : LinkRec} (hr : r.attentive) : AttentionLaw (s.setLink l r) := by
  intro j
  rw [State.link_setLink]
  split
  · exact hr
  · exact h j

theorem AttentionLaw.logs {s' : State} (hl : Logs s s') (h : AttentionLaw s) : AttentionLaw s' :=
  hl.keeps (P := AttentionLaw) (fun _ b hj hlinks ha l => by unfold State.link; rw [hlinks]; exact ha l)
    (fun _ b t ha l => by rw [State.append_link]; exact LinkRec.attentive.onAppend (ha l) _)
    (fun a c hc ha l => by rw [State.raise_link]; exact LinkRec.attentive.raise (ha l) hc) h

theorem AttentionLaw.judgeRemoval (h : AttentionLaw s) : AttentionLaw s.judgeRemoval := by
  intro l
  rw [State.judgeRemoval_link]
  exact h l

theorem AttentionLaw.judgePresent (h : AttentionLaw s) (l : Link) : AttentionLaw (s.judgePresent l) := by
  unfold State.judgePresent
  split
  · exact h
  · rename_i n _
    have hset : AttentionLaw (s.setView l (.present s.journal.length n)) := h.setLink l (h l)
    refine AttentionLaw.judgeRemoval ?_
    split
    · exact hset
    · exact hset.setLink l (LinkRec.attentive.raise (hset l) nofun)

theorem AttentionLaw.readOn (h : AttentionLaw s) (l : Link) (cursor gap most : Nat) :
    AttentionLaw (s.readOn l cursor gap most) := by
  intro j
  rw [State.readOn_link_frame]
  exact h j

end Attention

/-! ### Every change -/

section Changes
variable {s : State}

theorem LinkEffect.journalLaw {i : Instr} {e : State} (he : LinkEffect i s e) (h : JournalLaw s) : JournalLaw e := by
  cases he with
  | presentRaw => exact h.setLink _ _ rfl
  | present => exact h.judgePresent _
  | select => exact h.setLink _ _ rfl
  | deselect => exact h.setLink _ _ rfl
  | shifted => exact h.setLink _ _ rfl
  | readConditions =>
    split
    · exact h
    · exact h.setLink _ _ rfl
  | ackConditions => exact h.setLink _ _ rfl
  | forceCondition => exact h.setLink _ _ rfl
  | setAttention => exact h.setLink _ _ rfl
  | linkReset => exact h.linkResetOn _
  | readJournal view => exact h.readOn view _
  | relay => exact h.append _ _

theorem LinkEffect.attentionLaw {i : Instr} {e : State} (he : LinkEffect i s e) (h : AttentionLaw s) : AttentionLaw e := by
  cases he with
  | presentRaw => exact h.setLink _ (h _)
  | present => exact h.judgePresent _
  | select => exact h.setLink _ (h _)
  | deselect => exact h.setLink _ (h _)
  | shifted => exact h.setLink _ (h _)
  | readConditions =>
    split
    · exact h
    · exact h.setLink _ ⟨BitVec.zero_and, (h _).2⟩
  | @ackConditions _ l p =>
    refine h.setLink _ ⟨?_, (h l).2⟩
    show ((s.link l).latched &&& _) &&& 0xF000#16 = 0#16
    rw [BitVec.and_assoc, BitVec.and_comm (~~~ _), ← BitVec.and_assoc, (h l).1, BitVec.zero_and]
  | @forceCondition _ l p =>
    refine h.setLink _ ⟨or_and_eq_zero (h l).1 ?_, (h l).2⟩
    rw [CondSet.latchedPart, BitVec.and_assoc]
    exact BitVec.and_zero
  | @setAttention _ l p _ _ named =>
    refine h.setLink _ ⟨(h l).1, by simpa [CondSet.named] using named, ?_⟩
    exact clampNat_mem _ (by decide)
  | @linkReset _ l => exact AttentionLaw.judgeRemoval (h.setLink l (LinkRec.attentive_default (s.link l) _ _ _))
  | readJournal => exact h.readOn _ _ _ _
  | relay => exact h.logs (.append _ _)

theorem State.judgeAbsent_logs (l : Link) (h : s.linkPresent l = true) : Logs (s.departed l) (s.judgeAbsent l) := by
  rcases s.judgeAbsent_cases l with ⟨habsent, -⟩ | ⟨-, heq⟩
  · rw [h] at habsent
    cases habsent
  · rw [heq]
    refine Logs.trans ?_ ((State.ownerAbsent_plays _ l).trans (State.loaderAbsent_plays _ l)).logs
    unfold State.unseated
    split
    · exact State.seatChange_logs _ _ _
    · exact .refl _

theorem State.resetBlocks_links (s : State) (kind : ResetKind) (straps : Straps) (tracks : Vector Track 4)
    (store : TakeStoreOutcome) : (s.resetBlocks kind straps tracks store).links = s.links.map (fun r => resetLink r s.now) ∧
      (s.resetBlocks kind straps tracks store).journal = [] :=
  holds_of_frame (P := fun x => x.links = s.links.map (fun r => resetLink r s.now) ∧ x.journal = [])
    (State.judgeLed_frame _) ⟨rfl, rfl⟩

theorem Effect.journalLaws {i : Instr} {e : State} (he : Effect i s e) (h : JournalLaw s ∧ AttentionLaw s) :
    JournalLaw e ∧ AttentionLaw e := by
  rcases he.logs with hlogs | hreset | hlink | ⟨t, l, -, rfl⟩
  · exact ⟨h.1.logs hlogs, h.2.logs hlogs⟩
  · obtain ⟨s0, kind, straps, tracks, store, rfl⟩ := hreset.eq_resetBlocks
    obtain ⟨hlinks, hjournal⟩ := s0.resetBlocks_links kind straps tracks store
    have hlink (l : Link) : (s0.resetBlocks kind straps tracks store).link l = resetLink (s0.link l) s0.now := by
      unfold State.link
      rw [hlinks, PerLink.get_map]
    refine ⟨journalLaw_iff.mpr ⟨⟨by rw [hjournal]; exact Nat.zero_le _, fun l => ?_⟩, fun l c g hl => ?_⟩, fun l => ?_⟩
    · rw [hlink]
      exact Nat.zero_le _
    · rw [hlink] at hl
      cases hl
    · rw [hlink]
      exact LinkRec.attentive_default (s0.link l) _ _ _
  · exact ⟨hlink.journalLaw h.1, hlink.attentionLaw h.2⟩
  · cases hpresent : s.linkPresent l with
    | true =>
      have hdeparts := State.judgeAbsent_logs l hpresent
      have hattention : AttentionLaw (s.departed l) := AttentionLaw.judgeRemoval (h.2.setLink l (h.2 l))
      exact ⟨(h.1.departed l).logs hdeparts, hattention.logs hdeparts⟩
    | false =>
      rcases s.judgeAbsent_cases l with ⟨-, heq⟩ | ⟨h', -⟩
      · rw [heq]
        exact h
      · rw [hpresent] at h'
        cases h'

end Changes

/-- Settles O59: what a change tells keeps both laws, and so does each of a link's own changes. -/
theorem journalStaysInStep : Obligations.JournalStaysInStep := by
  intro s s' hj ha hstep
  refine step_keeps (P := fun x => JournalLaw x ∧ AttentionLaw x) (fun _ _ h => h) (fun _ _ h => h) (fun a l q r h => ?_)
    (fun _ _ _ he h => he.journalLaws h) ⟨hj, ha⟩ hstep
  exact ⟨h.1.setLink l _ rfl, h.2.setLink l (h.2 l)⟩

end Sys2Proof.Machine
end

section
/-! The pool stays within its slots, every closed track ends with its one END, and the transport's record stays legal (R133,
R136, R149). -/

namespace Sys2Proof.Machine

/-! ### The pool -/

theorem sumNat_eq_sum (l : List Nat) : sumNat l = l.sum := rfl

/-- The slots used, over the tracks of the store. -/
theorem Transport.used_eq (x : Transport) : x.used = ∑ i : TrackIx, x.tracks[i].slots := by
  rw [Transport.used, toList_eq_map, sumNat_eq_sum, List.map_map, Fin.sum_univ_def]
  rfl

/-- Where one track grows by some slots at most, and no other grows, so does the use of the pool. -/
theorem Transport.used_le_add {x y : Transport} (i : TrackIx) (d : Nat)
    (h : ∀ j : TrackIx, y.tracks[j].slots ≤ x.tracks[j].slots + if j = i then d else 0) : y.used ≤ x.used + d := by
  rw [Transport.used_eq, Transport.used_eq]
  calc ∑ j : TrackIx, y.tracks[j].slots ≤ ∑ j : TrackIx, (x.tracks[j].slots + if j = i then d else 0) :=
        Finset.sum_le_sum fun j _ => h j
    _ = (∑ j : TrackIx, x.tracks[j].slots) + d := by rw [Finset.sum_add_distrib, Finset.sum_ite_eq' Finset.univ i]; simp

theorem Transport.used_le {x y : Transport} (h : ∀ j : TrackIx, y.tracks[j].slots ≤ x.tracks[j].slots) : y.used ≤ x.used := by
  rw [Transport.used_eq, Transport.used_eq]
  exact Finset.sum_le_sum fun j _ => h j

/-- R133 of one track: its slot is reserved exactly while it is open, and its END is there exactly while it is not. -/
def Track.whole (isOpen : Bool) (x : Track) : Prop := x.reserved = isOpen ∧ recsLawful isOpen x.recs

theorem recsLawful_open {recs : List TakeRec} : recsLawful true recs ↔ ∀ r ∈ recs, r.isEnd = false := by
  simp [recsLawful]

/-- An open track of no END is closed by its END. -/
theorem recsLawful_close {recs : List TakeRec} (h : ∀ r ∈ recs, r.isEnd = false) (delta : Nat) :
    recsLawful false (recs ++ endOnly delta) := by
  unfold recsLawful endOnly
  simp only [Bool.false_eq_true, if_false, List.dropLast_concat, List.getLast?_concat, Option.map_some]
  exact ⟨by simpa using h, rfl⟩

theorem recsLawful_closed_length {recs : List TakeRec} (h : recsLawful false recs) : 1 ≤ recs.length := by
  cases recs with
  | nil => simp [recsLawful] at h
  | cons r rs => simp

theorem waitRecs_isEnd (n : Nat) : ∀ r ∈ waitRecs n, r.isEnd = false := by
  intro r hr
  rw [waitRecs] at hr
  rw [List.eq_of_mem_replicate hr]
  rfl

theorem endOnly_whole (delta : Nat) : recsLawful false (endOnly delta) := recsLawful_close (recs := []) nofun delta

section Store
variable {s : State}

/-- What the pool's law sees of the tracks is as it was. -/
def StoreKept (s s' : State) : Prop :=
  ∀ i : TrackIx, (s'.track i).recs = (s.track i).recs ∧ (s'.track i).reserved = (s.track i).reserved ∧
    s'.trackOpen i = s.trackOpen i

theorem PoolLaw.kept {s' : State} (h : PoolLaw s) (hk : StoreKept s s') : PoolLaw s' := by
  refine ⟨le_trans (Transport.used_le fun j => ?_) h.1, fun i => ?_⟩
  · obtain ⟨hrecs, hreserved, -⟩ := hk j
    show (s'.track j).slots ≤ (s.track j).slots
    rw [Track.slots, hrecs, hreserved]
    exact le_rfl
  · obtain ⟨hrecs, hreserved, hopen⟩ := hk i
    rw [hrecs, hreserved, hopen]
    exact h.2 i

/-- One track is replaced by one that is whole, and the pool has room for what it grows by. -/
theorem PoolLaw.put {s' : State} (h : PoolLaw s) (i : TrackIx) {x : Track} (d : Nat) {isOpen : Bool}
    (htracks : s'.transport.tracks = tablePut s.transport.tracks i x) (hslots : x.slots ≤ (s.track i).slots + d)
    (hroom : s.transport.used + d ≤ 8192) (hopen : ∀ j : TrackIx, j ≠ i → s'.trackOpen j = s.trackOpen j)
    (hself : s'.trackOpen i = isOpen) (hx : x.whole isOpen) : PoolLaw s' := by
  have htrack (j : TrackIx) : s'.track j = if j = i then x else s.track j := by
    rw [State.track, htracks, tablePut_get]
    simp only [eq_comm]
    rfl
  refine ⟨le_trans (Transport.used_le_add (x := s.transport) i d fun j => ?_) hroom, fun j => ?_⟩
  · show (s'.track j).slots ≤ (s.track j).slots + _
    rw [htrack]
    split
    · subst_vars
      exact hslots
    · exact Nat.le_add_right _ _
  · rw [htrack]
    split
    · subst_vars
      exact hx
    · rename_i hne
      rw [hopen j hne]
      exact h.2 j

theorem State.trackOpen_congr {s' : State} (hr : s'.transport.recording = s.transport.recording)
    (hl : s'.transport.load = s.transport.load) (i : TrackIx) : s'.trackOpen i = s.trackOpen i := by
  rw [State.trackOpen, State.trackOpen, hr, hl]

theorem State.trackOpen_of_none (hr : s.transport.recording = none) (hl : s.transport.load = none) (i : TrackIx) :
    s.trackOpen i = false := by
  rw [State.trackOpen, hr, hl]
  rfl

/-- The laws of the transport's record and of its store. -/
def TakeLaw (s : State) : Prop := TransportLaw s ∧ PoolLaw s

/-- The transport's record and its takes stand. -/
def TakeKept (s s' : State) : Prop := RecordKept s s' ∧ TakesKept s s'

theorem TakeKept.trans {b c : State} (h : TakeKept s b) (g : TakeKept b c) : TakeKept s c := ⟨h.1.trans g.1, h.2.trans g.2⟩

theorem TakeKept.of_transport {s' : State} (h : s'.transport = s.transport) : TakeKept s s' := ⟨.of_transport h, .of_transport h⟩

theorem TakeKept.store {s' : State} (h : TakeKept s s') : StoreKept s s' := by
  obtain ⟨hrecord, htakes⟩ := h
  obtain ⟨-, -, hrecording, hload⟩ := hrecord.fields
  refine fun i => ⟨(htakes i).1, (htakes i).2.1, ?_⟩
  rw [State.trackOpen, State.trackOpen, hrecording, hload]

theorem TakeLaw.kept {s' : State} (h : TakeLaw s) (hk : TakeKept s s') : TakeLaw s' := by
  obtain ⟨hstate, hguide, hrecording, hload⟩ := hk.1.fields
  refine ⟨?_, h.2.kept hk.store⟩
  have := h.1
  unfold TransportLaw at this ⊢
  rw [hstate, hguide, hrecording, hload]
  exact this

theorem TakeLaw.guide (h : TakeLaw s) (hs : s.transport.state ≠ .waiting) : s.transport.guideSet = 0#88 :=
  Decidable.of_not_not fun hne => hs (h.1.1.mpr hne)

theorem TakeLaw.recording (h : TakeLaw s) (hs : s.transport.state.records = false) : s.transport.recording = none := by
  have := h.1.2.2.1
  rw [hs] at this
  exact Option.isSome_eq_false_iff.mp this |> Option.isNone_iff_eq_none.mp

theorem TakeLaw.load (h : TakeLaw s) (hs : s.transport.state ≠ .idle) : s.transport.load = none := by
  cases hl : s.transport.load with
  | none => rfl
  | some x => exact absurd (h.1.2.2.2 (by rw [hl]; rfl)) hs

/-- No load is open while a recording is. -/
theorem TakeLaw.load_of_recording (h : TakeLaw s) (hr : s.transport.recording.isSome = true) : s.transport.load = none := by
  refine h.load fun hidle => ?_
  have := h.1.2.2.1
  rw [hr, hidle] at this
  cases this

theorem State.setTransportState_kept (st : TransportState) : StoreKept s (s.setTransportState st) := by
  intro i
  rw [State.track, State.trackOpen, State.setTransportState_transport]
  exact ⟨rfl, rfl, rfl⟩

/-- A state may be entered that asks for no guide wait and for the recording and the load that there are. -/
theorem PoolLaw.enter (h : PoolLaw s) {st : TransportState} (hguide : s.transport.guideSet = 0#88) (hst : st ≠ .waiting)
    (hrecording : s.transport.recording.isSome = st.records) (hload : s.transport.load.isSome = true → st = .idle) :
    TakeLaw (s.setTransportState st) := by
  refine ⟨?_, h.kept (State.setTransportState_kept st)⟩
  unfold TransportLaw
  rw [State.setTransportState_transport]
  refine ⟨⟨fun hw => absurd hw hst, fun hg => absurd hguide hg⟩, ?_, hrecording, hload⟩
  show KeySet.count s.transport.guideSet ≤ 10
  rw [hguide]
  decide

/-! ### A recording closed; STOP -/

theorem State.trackOpen_recording {r : Recording} (hr : s.transport.recording = some r) (hl : s.transport.load = none)
    (i : TrackIx) : s.trackOpen i = decide (i = r.track) := by
  rw [State.trackOpen, hr, hl]
  by_cases h : i = r.track
  · simp [h]
  · simp [h, Ne.symm h]

theorem PoolLaw.closeRecording (h : PoolLaw s) (hload : s.transport.recording.isSome = true → s.transport.load = none) :
    PoolLaw s.closeRecording := by
  unfold State.closeRecording
  cases hr : s.transport.recording with
  | none => exact h
  | some r =>
    have hnone : s.transport.load = none := hload (by rw [hr]; rfl)
    have hopen := State.trackOpen_recording hr hnone
    simp only []
    generalize (max s.transport.position 0 - r.lastPos).toNat = gap
    have hroom : min (gapWaits gap) s.freeSlots ≤ 8192 - s.transport.used := Nat.min_le_right _ _
    generalize min (gapWaits gap) s.freeSlots = waits at hroom
    have htrack := h.2 r.track
    rw [hopen, decide_eq_true rfl] at htrack
    have hnoEnd := recsLawful_open.mp htrack.2
    refine h.put r.track waits (by rfl) ?_ ?_ (fun j hj => ?_) (State.trackOpen_of_none (by rfl) (by exact hnone) _) ?_
    · simp only [Track.slots, htrack.1, List.length_append, waitRecs, List.length_replicate, endOnly,
        List.length_singleton, if_true]
      simp only [Bool.false_eq_true, if_false]
      omega
    · have := h.1
      unfold Config.poolSize at *
      omega
    · rw [hopen, decide_eq_false hj]
      exact State.trackOpen_of_none (by rfl) (by exact hnone) j
    · exact ⟨rfl, recsLawful_close (fun x hx => (List.mem_append.mp hx).elim (hnoEnd x) (waitRecs_isEnd _ x)) _⟩

theorem PoolLaw.stopTail (h : PoolLaw s) (hr : s.transport.recording = none) : TakeLaw s.stopTail := by
  obtain ⟨hidle, hguide, -⟩ := s.stopTail_idle
  obtain ⟨hrecording, hload⟩ := s.stopTail_fields
  have htakes := s.stopTail_frame.2
  generalize s.stopTail = x at *
  refine ⟨⟨?_, by rw [hguide]; decide, by rw [hrecording, hr, hidle]; rfl, fun _ => hidle⟩, h.kept fun i => ?_⟩
  · rw [hidle, hguide]
    exact ⟨nofun, fun hne => absurd rfl hne⟩
  · refine ⟨(htakes i).1, (htakes i).2.1, ?_⟩
    rw [State.trackOpen, State.trackOpen, hrecording, hload]

theorem TakeLaw.stopTransport (h : TakeLaw s) : TakeLaw s.stopTransport :=
  (h.2.closeRecording h.load_of_recording).stopTail s.closeRecording_recording

theorem TakeLaw.naturalEnd (h : TakeLaw s) : TakeLaw s.naturalEnd := by
  unfold State.naturalEnd
  split
  · exact h.stopTransport
  · exact h

end Store

/-! ### The guide wait set -/

theorem KeySet.count_eq_card (m : KeySet) : KeySet.count m = (Finset.univ.filter fun k : KeyIx => KeySet.has m k = true).card := by
  rw [KeySet.count, KeySet.keys, ← List.toFinset_card_of_nodup ((List.nodup_finRange 88).filter _)]
  congr 1
  ext k
  simp

theorem KeySet.count_le_of_imp {m n : KeySet} (h : ∀ k : KeyIx, KeySet.has m k = true → KeySet.has n k = true) :
    KeySet.count m ≤ KeySet.count n := by
  rw [KeySet.count_eq_card, KeySet.count_eq_card]
  exact Finset.card_le_card fun k hk => by simp_all

theorem KeySet.count_drop_le (m : KeySet) (k : KeyIx) : KeySet.count (KeySet.drop m k) ≤ KeySet.count m :=
  KeySet.count_le_of_imp fun j hj => by simp_all

theorem KeySet.count_add_le (m : KeySet) (k : KeyIx) : KeySet.count (KeySet.add m k) ≤ KeySet.count m + 1 := by
  rw [KeySet.count_eq_card, KeySet.count_eq_card]
  refine le_trans (Finset.card_le_card (t := insert k (Finset.univ.filter fun j : KeyIx => KeySet.has m j = true))
    fun j hj => ?_) (Finset.card_insert_le _ _)
  simp only [Finset.mem_filter, Finset.mem_univ, true_and, KeySet.has_add, Bool.or_eq_true, decide_eq_true_eq,
    Finset.mem_insert] at hj ⊢
  exact hj.symm.imp_left Eq.symm

theorem KeySet.add_ne_zero (m : KeySet) (k : KeyIx) : KeySet.add m k ≠ 0#88 := by
  intro h
  have := (KeySet.eq_zero_iff _).mp h k
  simp at this

theorem KeySet.count_zero : KeySet.count 0#88 = 0 := by decide

/-- At most ten keys are gathered, and one at least where there is a key to gather (R149). -/
theorem gather_bounds : ∀ (keys : List KeyIx) (acc : KeySet × KeySet), KeySet.count acc.1 ≤ 10 →
    KeySet.count (keys.foldl gatherKey acc).1 ≤ 10 ∧
      (keys ≠ [] ∨ acc.1 ≠ 0#88 → (keys.foldl gatherKey acc).1 ≠ 0#88)
  | [], acc, h => ⟨h, fun hne => hne.resolve_left fun hnil => hnil rfl⟩
  | k :: keys, acc, h => by
    have hstep : KeySet.count (gatherKey acc k).1 ≤ 10 ∧ (gatherKey acc k).1 ≠ 0#88 := by
      unfold gatherKey Config.maxWait
      split
      · rename_i hhas
        exact ⟨h, fun hzero => by rw [hzero] at hhas; simp at hhas⟩
      · split
        · exact ⟨le_trans (KeySet.count_add_le _ _) (by omega), KeySet.add_ne_zero _ _⟩
        · rename_i hfull
          exact ⟨h, fun hzero => hfull (by show KeySet.count acc.1 < 10; rw [show acc.1 = 0#88 from hzero]; decide)⟩
    obtain ⟨hcount, hne⟩ := gather_bounds keys (gatherKey acc k) hstep.1
    exact ⟨hcount, fun _ => hne (.inr hstep.2)⟩

end Sys2Proof.Machine
end

section
/-! Every step keeps the take store whole (R133, R136, R149). -/

namespace Sys2Proof.Machine

-- One declaration after another: side by side they open more threads than the check's memory limit holds.
set_option Elab.async false

section Takes
variable {s : State}

/-- The laws are of the transport alone. -/
theorem TakeLaw.of_transport {s' : State} (h : TakeLaw s) (ht : s'.transport = s.transport := by rfl) : TakeLaw s' :=
  h.kept (.of_transport ht)

theorem State.releaseAll_kept (s : State) : TakeKept s s.releaseAll := ⟨s.releaseAll_record, s.releaseAll_takes⟩

theorem State.playbackReset_kept (s : State) : TakeKept s s.playbackReset := ⟨s.playbackReset_record, s.playbackReset_takes⟩

theorem State.dispatchAll_kept (s : State) : TakeKept s s.dispatchAll := ⟨s.dispatchAll_record, s.dispatchAll_frame.2⟩

theorem VoiceFrame.takeKept {s' : State} (h : VoiceFrame s s') : TakeKept s s' := .of_transport (by rw [h])

/-- The transport's record changes in what the laws do not speak of. -/
theorem TakeLaw.setTransport (h : TakeLaw s) {x : Transport} (hstate : x.state = s.transport.state := by rfl)
    (hguide : x.guideSet = s.transport.guideSet := by rfl) (htracks : x.tracks = s.transport.tracks := by rfl)
    (hrecording : x.recording = s.transport.recording := by rfl) (hload : x.load = s.transport.load := by rfl) :
    TakeLaw (s.setTransport x) := by
  refine ⟨?_, h.2.kept fun i => ?_⟩
  · have := h.1
    unfold TransportLaw at this ⊢
    rw [← hstate, ← hguide, ← hrecording, ← hload] at this
    exact this
  · show x.tracks[i].recs = _ ∧ x.tracks[i].reserved = _ ∧ _
    rw [htracks]
    exact ⟨rfl, rfl, State.trackOpen_congr (by exact hrecording) (by exact hload) i⟩

/-! ### The guide wait -/

/-- The wait is entered from PLAYING with a key at least to wait for (R149). -/
theorem TakeLaw.enterWaiting (h : TakeLaw s) (hs : s.transport.state = .playing) {keys : List KeyIx} (hkeys : keys ≠ []) :
    TakeLaw (s.enterWaiting keys) := by
  obtain ⟨hcount, hne⟩ := gather_bounds keys (0#88, 0#88) (by decide)
  have hrecording := h.recording (by rw [hs]; rfl)
  have hload := h.load (by rw [hs]; nofun)
  have hwaits (g : KeySet) (hg : KeySet.count g ≤ 10) (hne : g ≠ 0#88) :
      TakeLaw ((s.setTransport { s.transport with guideSet := g, acc := 0 }).setTransportState .waiting) := by
    have htransport := (s.setTransport { s.transport with guideSet := g, acc := 0 }).setTransportState_transport .waiting
    have hkept := State.setTransportState_kept (s := s.setTransport { s.transport with guideSet := g, acc := 0 }) .waiting
    generalize State.setTransportState _ _ = x at htransport hkept
    refine ⟨?_, h.2.kept hkept⟩
    unfold TransportLaw
    rw [htransport]
    refine ⟨⟨fun _ => hne, fun _ => rfl⟩, hg, ?_, ?_⟩
    · show s.transport.recording.isSome = false
      rw [hrecording]
      rfl
    · show s.transport.load.isSome = true → _
      rw [hload]
      nofun
  exact TakeLaw.of_transport (hwaits _ hcount (hne (.inl hkeys)))

theorem TakeLaw.takePosition (h : TakeLaw s) : TakeLaw s.takePosition := by
  unfold State.takePosition
  split
  · rename_i hguide
    exact h.enterWaiting hguide.1 hguide.2
  · exact (h.kept s.dispatchAll_kept).naturalEnd

/-- A wait met whole goes on in PLAYING (R150). -/
theorem PoolLaw.releaseWait (h : PoolLaw s) (hguide : s.transport.guideSet = 0#88) (hrecording : s.transport.recording = none)
    (hload : s.transport.load = none) : TakeLaw s.releaseWait := by
  have hkept : TakeKept s (s.report .guideMet .guide).dispatchAll :=
    TakeKept.trans (b := s.report .guideMet .guide) (.of_transport rfl) (State.dispatchAll_kept _)
  obtain ⟨-, hguide', hrecording', hload'⟩ := hkept.1.fields
  unfold State.releaseWait
  refine (PoolLaw.enter (h.kept hkept.store) (st := .playing) (hguide'.trans hguide) nofun ?_ ?_).naturalEnd
  · rw [hrecording', hrecording]
    rfl
  · rw [hload', hload]
    nofun

theorem TakeLaw.guideStrike (h : TakeLaw s) (hs : s.transport.state = .waiting) (k : KeyIx) (level : Nat) :
    TakeLaw (s.guideStrike k level) := by
  have hrecording := h.recording (by rw [hs]; rfl)
  have hload := h.load (by rw [hs]; nofun)
  unfold State.guideStrike
  split
  · simp only []
    have hpool : PoolLaw (s.setTransport { s.transport with guideSet := KeySet.drop s.transport.guideSet k }) :=
      h.2.kept fun _ => ⟨rfl, rfl, rfl⟩
    split
    · rename_i hmet
      exact hpool.releaseWait hmet hrecording hload
    · rename_i hunmet
      refine ⟨⟨⟨fun _ => hunmet, fun _ => hs⟩, ?_, h.1.2.2⟩, hpool⟩
      exact le_trans (KeySet.count_drop_le _ _) h.1.2.1
  · exact h.of_transport

/-! ### Walks -/

/-- What a walk needs: no guide wait, no recording and no load (R147). -/
structure WalkReady (s : State) : Prop where
  pool : PoolLaw s
  guide : s.transport.guideSet = 0#88
  recording : s.transport.recording = none
  load : s.transport.load = none

theorem WalkReady.kept {s' : State} (h : WalkReady s) (hk : TakeKept s s') : WalkReady s' := by
  obtain ⟨-, hguide, hrecording, hload⟩ := hk.1.fields
  exact ⟨h.pool.kept hk.store, hguide.trans h.guide, hrecording.trans h.recording, hload.trans h.load⟩

theorem WalkReady.setTransport (h : WalkReady s) {x : Transport} (hguide : x.guideSet = 0#88)
    (htracks : ∀ i : TrackIx, x.tracks[i].recs = (s.track i).recs ∧ x.tracks[i].reserved = (s.track i).reserved)
    (hrecording : x.recording = s.transport.recording := by rfl) (hload : x.load = s.transport.load := by rfl) :
    WalkReady (s.setTransport x) := by
  exact ⟨h.pool.kept fun i => ⟨(htracks i).1, (htracks i).2, State.trackOpen_congr (by exact hrecording) (by exact hload) i⟩,
    hguide, hrecording.trans h.recording, hload.trans h.load⟩

/-- A walk's state is entered: no state it can be holds a recording. -/
theorem WalkReady.enter (h : WalkReady s) {st : TransportState} (hst : st ≠ .waiting) (hrecords : st.records = false) :
    TakeLaw (s.setTransportState st) :=
  h.pool.enter h.guide hst (by rw [h.recording, hrecords]; rfl) (by rw [h.load]; nofun)

theorem TakeLaw.walkReady (h : TakeLaw s) (hrecords : s.transport.state.records = false) (hst : s.transport.state ≠ .waiting)
    (hload : s.transport.load = none) : WalkReady s := ⟨h.2, h.guide hst, h.recording hrecords, hload⟩

theorem State.playbackLocate_kept (s : State) (f : PedalIx → Nat) : TakeKept s (s.playbackLocate f) :=
  ⟨s.playbackLocate_record f, ((TakesKept.of_transport (State.playbackLevels_frame _ _).2).trans
    (.of_transport (State.playbackLevels_frame _ _).2)).trans (State.playRecords_takes _ _)⟩

/-- Every cursor set by a walk leaves the takes as they are. -/
theorem WalkReady.walked (h : WalkReady s) (target : Int) : WalkReady (s.setTransport { s.transport with
    tracks := tableMap (Track.walked target) s.transport.tracks, placed := true, position := target }) := by
  refine h.setTransport h.guide fun i => ?_
  rw [tableMap_get]
  exact ⟨rfl, rfl⟩

theorem WalkReady.completeWalk (h : WalkReady s) (target : Int) (ret : WalkReturn) : TakeLaw (s.completeWalk target ret) := by
  have hwalked := (h.walked target).kept (State.playbackLocate_kept _ fun c => s.walkLevel target c)
  unfold State.completeWalk
  simp only []
  generalize State.playbackLocate _ _ = x at hwalked ⊢
  cases ret with
  | idle => exact hwalked.enter (st := .idle) nofun rfl
  | playing => exact (hwalked.enter (st := .playing) nofun rfl).takePosition
  | paused => exact hwalked.enter (st := .paused .playing) nofun rfl

theorem WalkReady.beginWalk (h : WalkReady s) (target : Int) (ret : WalkReturn) : TakeLaw (s.beginWalk target ret) := by
  have hbegun : TakeLaw (s.setTransportState (.locating target ret)) := h.enter (st := .locating target ret) nofun rfl
  have htransport := s.setTransportState_transport (.locating target ret)
  unfold State.beginWalk
  simp only []
  generalize s.setTransportState (.locating target ret) = x at hbegun htransport ⊢
  split
  · refine (hbegun.walkReady ?_ ?_ ?_).completeWalk _ _
    · rw [htransport]
      rfl
    · rw [htransport]
      nofun
    · rw [htransport]
      exact h.load
  · exact hbegun

theorem PoolLaw.locateTo (h : PoolLaw s) (hrecording : s.transport.recording = none) (hload : s.transport.load = none)
    (target : Int) (ret : WalkReturn) : TakeLaw (s.locateTo target ret) := by
  have hready : WalkReady (s.setTransport { s.transport with guideSet := 0#88 }) :=
    ⟨h.kept fun _ => ⟨rfl, rfl, rfl⟩, rfl, hrecording, hload⟩
  have hreleased := hready.kept (State.releaseAll_kept _)
  unfold State.locateTo
  simp only []
  generalize (s.setTransport { s.transport with guideSet := 0#88 }).releaseAll = x at hreleased ⊢
  have hready : WalkReady (x.setTransport { x.transport with acc := 0 }) :=
    hreleased.setTransport hreleased.guide fun _ => ⟨rfl, rfl⟩
  exact hready.beginWalk target ret

/-! ### Live events -/

/-- The records that bridge a gap to an event of a live note or a pedal hold no END. -/
theorem eventRecs_isEnd {recs : List TakeRec} (h : ∀ r ∈ recs, r.isEnd = false) (waits : Nat) {r : TakeRec}
    (hr : r.isEnd = false) : ∀ x ∈ recs ++ waitRecs waits ++ [r], x.isEnd = false := by
  intro x hx
  simp only [List.mem_append, List.mem_singleton] at hx
  rcases hx with (hx | hx) | rfl
  · exact h x hx
  · exact waitRecs_isEnd _ x hx
  · exact hr

theorem PoolLaw.poolFull (h : PoolLaw s) (hload : s.transport.recording.isSome = true → s.transport.load = none) (i : TrackIx) :
    TakeLaw (s.poolFull i) := by
  refine PoolLaw.stopTail (PoolLaw.kept (h.closeRecording hload) fun _ => ⟨rfl, rfl, rfl⟩) ?_
  exact s.closeRecording_recording

theorem TakeLaw.recordEvent (h : TakeLaw s) {body : TakeBody} (hbody : body ≠ .endMark) : TakeLaw (s.recordEvent body) := by
  unfold State.recordEvent
  cases hr : s.transport.recording with
  | none => exact h
  | some r =>
    have hload := h.load_of_recording (by rw [hr]; rfl)
    have hopen := State.trackOpen_recording hr hload
    have htrack := h.2.2 r.track
    rw [hopen, decide_eq_true rfl] at htrack
    simp only []
    generalize (if s.transport.state = .countIn then (0 : Int) else s.transport.position) = pos
    generalize (pos - r.lastPos).toNat = gap
    split
    · rename_i hfits
      refine ⟨?_, h.2.put r.track (gapWaits gap + 1) (by rfl) ?_ ?_ (fun j _ => ?_)
        ((State.trackOpen_recording (r := { r with lastPos := pos }) (by rfl) (by exact hload) r.track).trans (decide_eq_true rfl)) ?_⟩
      · obtain ⟨hstate, hcount, hrecords, hidle⟩ := h.1
        rw [hr] at hrecords
        exact ⟨hstate, hcount, hrecords, hidle⟩
      · simp only [Track.slots, List.length_append, waitRecs, List.length_replicate, List.length_singleton]
        omega
      · have hused : s.transport.used ≤ 8192 := h.2.1
        have hfree : gapWaits gap + 1 ≤ 8192 - s.transport.used := hfits
        omega
      · rw [hopen]
        exact State.trackOpen_recording (r := { r with lastPos := pos }) (by rfl) (by exact hload) j
      · refine ⟨htrack.1, recsLawful_open.mpr (eventRecs_isEnd (recsLawful_open.mp htrack.2) _ ?_)⟩
        cases body <;> first | rfl | exact absurd rfl hbody
    · exact h.2.poolFull h.load_of_recording _

theorem TakeLaw.transportKeyOn (h : TakeLaw s) (k : KeyIx) (level : Nat) : TakeLaw (s.transportKeyOn k level) := by
  unfold State.transportKeyOn
  split
  · exact h.recordEvent nofun
  · exact h.recordEvent nofun
  · exact h.guideStrike ‹_› k level
  · exact h

theorem TakeLaw.transportKeyOff (h : TakeLaw s) (k : KeyIx) (level : Nat) : TakeLaw (s.transportKeyOff k level) := by
  unfold State.transportKeyOff
  split
  · exact h.recordEvent nofun
  · exact h

theorem TakeLaw.transportPedal (h : TakeLaw s) (i : PedalIx) (level : Nat) : TakeLaw (s.transportPedal i level) := by
  unfold State.transportPedal
  split
  · exact h.recordEvent nofun
  · exact h.recordEvent nofun
  · exact h

theorem TakeLaw.keyOn (h : TakeLaw s) (k : KeyIx) (stroke : Stroke) (ta tb : Time) (rep : Bool) :
    TakeLaw (s.keyOn k stroke ta tb rep) := by
  unfold State.keyOn
  simp only []
  split
  · exact TakeLaw.transportKeyOn (TakeLaw.of_transport (h.kept (s.noteOn_frame _ _ _).takeKept)) _ _
  · exact TakeLaw.transportKeyOn (h.of_transport) _ _

theorem TakeLaw.keyOff (h : TakeLaw s) (k : KeyIx) (level : Nat) (cause : OffCause) (time : Time) :
    TakeLaw (s.keyOff k level cause time) :=
  TakeLaw.transportKeyOff (TakeLaw.of_transport (h.kept (s.noteOff_frame .live k level).takeKept)) _ _

/-! ### The clock -/

theorem TakeLaw.loopJump (h : TakeLaw s) (hs : s.transport.state = .playing) : TakeLaw s.loopJump := by
  have hreleased := h.kept s.releaseAll_kept
  have hstate : s.releaseAll.transport.state = .playing := s.releaseAll_record.fields.1.trans hs
  unfold State.loopJump
  simp only []
  generalize s.releaseAll = x at hreleased hstate ⊢
  have hlooped (a : Int) (x' : State) (hx' : x'.transport = { x.transport with loop := x'.transport.loop }) : TakeLaw (x'.locateTo a .playing) := by
    refine PoolLaw.locateTo (hreleased.2.kept fun i => ?_) ?_ ?_ _ _
    · rw [State.track, hx', State.trackOpen, hx']
      exact ⟨rfl, rfl, rfl⟩
    · rw [hx']
      exact hreleased.recording (by rw [hstate]; rfl)
    · rw [hx']
      exact hreleased.load (by rw [hstate]; nofun)
  exact hlooped _ _ rfl

theorem TakeLaw.advancePosition (h : TakeLaw s) : TakeLaw s.advancePosition := by
  unfold State.advancePosition
  split
  · exact h.setTransport
  · exact TakeLaw.kept (s := s.setTransport _) h.setTransport (.of_transport rfl)

theorem TakeLaw.clickAt (h : TakeLaw s) (began : TransportState) : TakeLaw (s.clickAt began) := by
  unfold State.clickAt
  simp only []
  split
  · exact h.of_transport
  · exact h

theorem TakeLaw.tick (h : TakeLaw s) (began : TransportState) : TakeLaw (s.tick began).1 := by
  have hclick := h.advancePosition.clickAt began
  unfold State.tick
  simp only []
  split
  · rename_i hjumps
    refine hclick.loopJump ?_
    unfold State.loopJumps at hjumps
    simp only [Bool.and_eq_true, decide_eq_true_eq] at hjumps
    exact hjumps.1.1.1
  · refine TakeLaw.takePosition ?_
    split
    · rename_i hend
      have hrecords := hclick.1.2.2.1
      rw [hend.1] at hrecords
      refine hclick.2.enter (hclick.guide (by rw [hend.1]; nofun)) nofun hrecords ?_
      rw [hclick.load (by rw [hend.1]; nofun)]
      nofun
    · exact hclick

theorem TakeLaw.ticks (began : TransportState) : ∀ (n : Nat) {s : State}, TakeLaw s → TakeLaw (s.ticks began n)
  | 0, _, h => h
  | n + 1, s, h => by
    unfold State.ticks
    simp only []
    split
    · exact TakeLaw.ticks began n (h.tick began)
    · exact h.tick began

theorem TakeLaw.clockStep (h : TakeLaw s) : TakeLaw s.clockStep := by
  unfold State.clockStep
  split
  · exact TakeLaw.ticks _ _ h.setTransport
  · exact h

/-! ### The requests -/

theorem TakeLaw.startPlay (h : TakeLaw s) (hload : s.transport.load = none) : TakeLaw s.startPlay := by
  have hloads {st : TransportState} : s.transport.load.isSome = true → st = .idle := by rw [hload]; nofun
  unfold State.startPlay
  split
  · rename_i hst
    have hready := h.walkReady (by rw [hst]; rfl) (by rw [hst]; nofun) hload
    split
    · exact (hready.enter (st := .playing) nofun rfl).takePosition
    · exact hready.beginWalk _ _
  · rename_i hst
    have hrecords := h.1.2.2.1
    rw [hst] at hrecords
    exact (h.2.enter (st := .recording) (h.guide (by rw [hst]; nofun)) nofun hrecords hloads).takePosition
  · rename_i source hne hst
    have hrecords : s.transport.state.records = false := by
      rw [hst]
      cases source with
      | recording => exact absurd rfl hne
      | playing => rfl
      | waiting => rfl
    exact ((h.walkReady hrecords (by rw [hst]; nofun) hload).enter (st := .playing) nofun rfl).takePosition
  · exact h

theorem TakeLaw.pauseAs (h : TakeLaw s) {x : PausedFrom} (hx : s.transport.state.pausesAs = some x) : TakeLaw (s.pauseAs x) := by
  have hne : s.transport.state ≠ .idle := fun hidle => by rw [hidle] at hx; cases hx
  have hrecords : s.transport.state.records = (TransportState.paused x).records := by
    cases hst : s.transport.state <;> rw [hst] at hx <;> cases hx <;> rfl
  have hkept : TakeKept ((s.setTransport { s.transport with acc := 0 }).setTransportState (.paused x))
      ((s.setTransport { s.transport with acc := 0 }).setTransportState (.paused x)).releaseAll := State.releaseAll_kept _
  have hpaused : ((s.setTransport { s.transport with acc := 0 }).setTransportState (.paused x)).transport =
      { s.transport with acc := 0, state := .paused x } := State.setTransportState_transport _ _
  have hpool : PoolLaw ((s.setTransport { s.transport with acc := 0 }).setTransportState (.paused x)) :=
    h.2.kept (State.setTransportState_kept (s := s.setTransport { s.transport with acc := 0 }) _)
  unfold State.pauseAs
  simp only []
  generalize (s.setTransport { s.transport with acc := 0 }).setTransportState (.paused x) = a at hkept hpaused hpool ⊢
  obtain ⟨hstate, -, hrecording, hload⟩ := hkept.1.fields
  rw [hpaused] at hstate hrecording hload
  have hreleased := hpool.kept hkept.store
  generalize a.releaseAll = b at hstate hrecording hload hreleased ⊢
  refine ⟨⟨⟨fun hw => ?_, fun hg => absurd rfl hg⟩, (by decide : KeySet.count 0#88 ≤ 10), ?_, fun hl => ?_⟩,
    hreleased.kept fun _ => ⟨rfl, rfl, rfl⟩⟩
  · rw [show b.transport.state = .paused x from hstate] at hw
    cases hw
  · show b.transport.recording.isSome = b.transport.state.records
    rw [hrecording, hstate, ← hrecords]
    exact h.1.2.2.1
  · have hopen : b.transport.load.isSome = true := hl
    rw [hload, show s.transport.load = none from h.load hne] at hopen
    cases hopen

theorem TakeLaw.locate (h : TakeLaw s) (hload : s.transport.load = none) {ret : WalkReturn}
    (hret : s.transport.state.locatesAs = some ret) (target : Int) (r : WalkReturn) : TakeLaw (s.locate target r) := by
  unfold State.locate
  split
  · rename_i hst
    exact (h.walkReady (by rw [hst]; rfl) (by rw [hst]; nofun) hload).beginWalk _ _
  · refine h.2.locateTo (h.recording ?_) hload _ _
    cases hst : s.transport.state with
    | paused x => cases x <;> rw [hst] at hret <;> first | rfl | cases hret
    | countIn => rw [hst] at hret; cases hret
    | recording => rw [hst] at hret; cases hret
    | idle => rfl
    | locating => rfl
    | playing => rfl
    | waiting => rfl

theorem TakeLaw.setMode (h : TakeLaw s) (i : TrackIx) (m : TrackMode) : TakeLaw (s.setMode i m) := by
  have hmode : TakeLaw (s.setTrack i { s.track i with mode := m }) := by
    refine ⟨h.1, h.2.kept fun j => ?_⟩
    rw [State.track_setTrack]
    split
    · subst_vars
      exact ⟨rfl, rfl, rfl⟩
    · exact ⟨rfl, rfl, rfl⟩
  unfold State.setMode
  simp only []
  split
  · exact hmode.kept ⟨State.releaseTrack_record _ _, State.releaseTrack_takes _ _⟩
  · exact hmode

/-! ### Erasing, recording, loading -/

/-- A track that is closed and nothing is open is erased to its END. -/
theorem TakeLaw.closed (h : TakeLaw s) (hidle : s.transport.state = .idle) (hload : s.transport.load = none) (i : TrackIx) :
    s.trackOpen i = false ∧ (s.track i).reserved = false ∧ 1 ≤ (s.track i).slots := by
  have hopen := State.trackOpen_of_none (h.recording (by rw [hidle]; rfl)) hload i
  obtain ⟨hreserved, hrecs⟩ := h.2.2 i
  rw [hopen] at hreserved hrecs
  exact ⟨hopen, hreserved, le_trans (recsLawful_closed_length hrecs) (Nat.le_add_right _ _)⟩

theorem TakeLaw.eraseTrack (h : TakeLaw s) (hidle : s.transport.state = .idle) (hload : s.transport.load = none) (i : TrackIx) :
    TakeLaw (s.eraseTrack i) := by
  obtain ⟨hopen, -, hslots⟩ := h.closed hidle hload i
  exact ⟨h.1, h.2.put i (x := { s.track i with recs := endOnly 0, reserved := false }) 0 (by rfl) hslots h.2.1
    (fun _ _ => by rfl) (by exact hopen) ⟨rfl, endOnly_whole 0⟩⟩

theorem TakeLaw.openLoad (h : TakeLaw s) (hidle : s.transport.state = .idle) (hload : s.transport.load = none) (i : TrackIx)
    (l : Link) : TakeLaw (s.openLoad i l) := by
  obtain ⟨-, -, hslots⟩ := h.closed hidle hload i
  have hrecording := h.recording (by rw [hidle]; rfl)
  have hopens (j : TrackIx) : (s.openLoad i l).trackOpen j = decide (j = i) := by
    unfold State.trackOpen
    show ((match s.transport.recording with | some r => r.track == j | none => false) || (i == j)) = decide (j = i)
    rw [hrecording]
    by_cases hj : j = i
    · simp [hj]
    · simp [hj, Ne.symm hj]
  obtain ⟨hstate, hcount, hrecords, -⟩ := h.1
  refine ⟨⟨hstate, hcount, hrecords, fun _ => hidle⟩, h.2.put i
    (x := { (s.track i).erased with mode := .mute }) 0 (by rfl) hslots h.2.1 (fun j hj => ?_)
    ((hopens i).trans (decide_eq_true rfl)) ⟨rfl, recsLawful_open.mpr fun _ hr => by cases hr⟩⟩
  rw [hopens, decide_eq_false hj, (h.closed hidle hload j).1]

theorem TakeLaw.trackOpen_load (h : TakeLaw s) {x : Load} (hx : s.transport.load = some x) (j : TrackIx) :
    s.trackOpen j = decide (j = x.track) := by
  have hrecording : s.transport.recording = none := by
    cases hr : s.transport.recording with
    | none => rfl
    | some r =>
      have := h.load_of_recording (by rw [hr]; rfl)
      rw [hx] at this
      cases this
  rw [State.trackOpen, hrecording, hx]
  by_cases hj : j = x.track
  · simp [hj]
  · simp [hj, Ne.symm hj]

/-- A load ends with its track closed, whatever records it leaves there (R163). -/
theorem TakeLaw.endLoad (h : TakeLaw s) {x : Load} (hx : s.transport.load = some x) {recs : List TakeRec}
    (hlength : recs.length ≤ (s.track x.track).recs.length + 1) (hrecs : recsLawful false recs) {s' : State}
    (hs' : s'.transport = { s.transport with
      tracks := tablePut s.transport.tracks x.track { s.track x.track with recs := recs, reserved := false }, load := none }) :
    TakeLaw s' := by
  have hopen := h.trackOpen_load hx
  have hreserved := (h.2.2 x.track).1
  rw [hopen, decide_eq_true rfl] at hreserved
  have hrecording : s.transport.recording = none := by
    cases hr : s.transport.recording with
    | none => rfl
    | some r =>
      have := h.load_of_recording (by rw [hr]; rfl)
      rw [hx] at this
      cases this
  have hclosed (j : TrackIx) : s'.trackOpen j = false := State.trackOpen_of_none (by rw [hs']; exact hrecording) (by rw [hs']) j
  obtain ⟨hstate, hcount, hrecords, -⟩ := h.1
  refine ⟨?_, h.2.put x.track 0 (by rw [hs']) ?_ h.2.1 (fun j hj => ?_) (hclosed _) ⟨rfl, hrecs⟩⟩
  · unfold TransportLaw
    rw [hs']
    exact ⟨hstate, hcount, hrecords, nofun⟩
  · simp only [Track.slots, hreserved, if_true]
    simp only [Bool.false_eq_true, if_false]
    omega
  · rw [hclosed, hopen, decide_eq_false hj]

theorem TakeLaw.abortLoad (h : TakeLaw s) (cause : LoadAbort) : TakeLaw (s.abortLoad cause) := by
  unfold State.abortLoad
  cases hx : s.transport.load with
  | none => exact h
  | some x => exact h.endLoad hx (Nat.le_add_left _ _) (endOnly_whole 0) (by rfl)

theorem State.loadOf_eq {l : Link} {i : TrackIx} (h : s.loadOf l = some i) :
    s.transport.load = some { track := i, link := l } := by
  unfold State.loadOf at h
  split at h
  · split at h
    · rename_i x hx hl
      cases h
      rw [hx, ← hl]
    · cases h
  · cases h

theorem TakeLaw.closeLoad (h : TakeLaw s) {l : Link} {i : TrackIx} (hown : s.loadOf l = some i) (delta : Nat) :
    TakeLaw (s.closeLoad i delta) := by
  have hx := State.loadOf_eq hown
  have htrack := h.2.2 i
  rw [h.trackOpen_load hx, decide_eq_true rfl] at htrack
  refine h.endLoad hx ?_ (recsLawful_close (recsLawful_open.mp htrack.2) delta) (by rfl)
  rw [List.length_append]
  exact le_rfl

/-- An append's payload holds no END (R162). -/
theorem takesOfPayload_isEnd {p : List Byte} {count : Nat} {rs : List TakeRec} (h : takesOfPayload p count = some rs) :
    ∀ r ∈ rs, r.isEnd = false := by
  unfold takesOfPayload at h
  generalize List.range count = is at h
  induction is generalizing rs with
  | nil => cases h; exact fun _ hr => by cases hr
  | cons i is ih =>
    rw [List.foldr_cons] at h
    split at h
    · rename_i r rest _ hrest
      split at h
      · cases h
      · rename_i hbody
        cases h
        intro x hx
        rcases List.mem_cons.mp hx with rfl | hx
        · unfold TakeRec.isEnd
          split
          · exact absurd ‹_› hbody
          · rfl
        · exact ih hrest x hx
    · cases h

theorem TakeLaw.appendLoad (h : TakeLaw s) {l : Link} {i : TrackIx} (hown : s.loadOf l = some i) {rs : List TakeRec}
    (hrs : ∀ r ∈ rs, r.isEnd = false) : TakeLaw (s.appendLoad i rs).1 := by
  have hopen := h.trackOpen_load (State.loadOf_eq hown) i
  rw [decide_eq_true rfl] at hopen
  have htrack := h.2.2 i
  rw [hopen] at htrack
  unfold State.appendLoad
  split
  · rename_i hfits
    refine ⟨h.1, h.2.put i (x := { s.track i with recs := (s.track i).recs ++ rs }) rs.length (by rfl) ?_ ?_ (fun _ _ => by rfl)
      (by exact hopen) ⟨htrack.1, ?_⟩⟩
    · simp only [Track.slots, List.length_append]
      omega
    · have hused : s.transport.used ≤ 8192 := h.2.1
      have hfree : rs.length ≤ 8192 - s.transport.used := hfits
      omega
    · exact recsLawful_open.mpr fun r hr => (List.mem_append.mp hr).elim (recsLawful_open.mp htrack.2 r) (hrs r)
  · exact h.abortLoad _

/-- What RECORD's first steps leave (R152): the track open and empty, and no guide wait. -/
theorem TakeLaw.recordSet (h : TakeLaw s) (hidle : s.transport.state = .idle) (hload : s.transport.load = none) (i : TrackIx)
    (l : Link) : PoolLaw (s.recordSet i l) ∧ (s.recordSet i l).transport.guideSet = 0#88 ∧
      (∃ r : Recording, (s.recordSet i l).transport.recording = some r ∧ r.track = i) ∧
      (s.recordSet i l).transport.load = none := by
  let x : Transport := { s.transport with
    recording := some { track := i, owner := l, lastPos := 0 }, placed := true, acc := 0
    tracks := tableMap Track.rewound (tablePut s.transport.tracks i (s.track i).erased) }
  have hset : s.recordSet i l = (s.setTransport x).playbackReset := rfl
  obtain ⟨-, hguide, hrecording, hload'⟩ := (s.setTransport x).playbackReset_record.fields
  obtain ⟨-, -, hslots⟩ := h.closed hidle hload i
  rw [hset, hguide, hrecording, hload']
  refine ⟨PoolLaw.kept (s := s.setTransport x) ?_ (State.playbackReset_kept _).store, h.guide (by rw [hidle]; nofun),
    ⟨_, rfl, rfl⟩, hload⟩
  have herased : PoolLaw (s.setTransport { s.transport with
      recording := some { track := i, owner := l, lastPos := 0 }
      tracks := tablePut s.transport.tracks i (s.track i).erased }) := by
    refine h.2.put i (x := (s.track i).erased) 0 (by rfl) hslots h.2.1 (fun j hj => ?_)
      ((State.trackOpen_recording (by rfl) (by exact hload) i).trans (decide_eq_true rfl)) ⟨rfl, recsLawful_open.mpr fun _ hr => by cases hr⟩
    rw [(h.closed hidle hload j).1]
    exact (State.trackOpen_recording (by rfl) (by exact hload) j).trans (decide_eq_false hj)
  refine herased.kept fun j => ?_
  refine ⟨?_, ?_, rfl⟩
  · show (tableMap Track.rewound _)[j].recs = _
    rw [tableMap_get]
    rfl
  · show (tableMap Track.rewound _)[j].reserved = _
    rw [tableMap_get]
    rfl

theorem PoolLaw.recordStart (h : PoolLaw s) (hguide : s.transport.guideSet = 0#88)
    (hrecording : s.transport.recording.isSome = true) (hload : s.transport.load = none) (bars : Nat) :
    TakeLaw (s.recordStart bars) := by
  have hentered (pos : Int) (st : TransportState) (hst : st ≠ .waiting) (hrecords : st.records = true) :
      TakeLaw ((s.setTransport { s.transport with position := pos }).setTransportState st) := by
    refine PoolLaw.enter (s := s.setTransport { s.transport with position := pos }) (h.kept fun _ => ⟨rfl, rfl, rfl⟩) hguide hst
      (hrecording.trans hrecords.symm) ?_
    show s.transport.load.isSome = true → _
    rw [hload]
    nofun
  unfold State.recordStart
  split
  · exact (hentered 0 .recording nofun rfl).takePosition
  · exact TakeLaw.of_transport (hentered _ .countIn nofun rfl)

theorem State.firstPedals_isEnd (s : State) : ∀ r ∈ s.firstPedals, r.isEnd = false := by
  intro r hr
  obtain ⟨c, -, rfl⟩ := List.mem_map.mp hr
  rfl

theorem TakeLaw.beginRecord (h : TakeLaw s) (hidle : s.transport.state = .idle) (hload : s.transport.load = none) (i : TrackIx)
    (bars : Nat) (l : Link) : TakeLaw (s.beginRecord i bars l) := by
  obtain ⟨hpool, hguide, ⟨r, hr, hi⟩, hnone⟩ := h.recordSet hidle hload i l
  unfold State.beginRecord
  generalize s.recordSet i l = x at *
  have hopen := State.trackOpen_recording hr hnone
  have htrack := hpool.2 i
  rw [hopen, decide_eq_true hi.symm] at htrack
  simp only []
  split
  · rename_i hfits
    have hfilled : PoolLaw (x.setTrack i { x.track i with recs := (x.track i).recs ++ x.firstPedals }) → TakeLaw
        ((x.setTrack i { x.track i with recs := (x.track i).recs ++ x.firstPedals }).recordStart bars) := fun hput =>
      hput.recordStart hguide (by show x.transport.recording.isSome = true; rw [hr]; rfl) hnone bars
    refine hfilled (hpool.put i (x := { x.track i with recs := (x.track i).recs ++ x.firstPedals }) x.firstPedals.length
      (by rfl) ?_ ?_ (fun _ _ => by rfl) ((hopen i).trans (decide_eq_true hi.symm))
      ⟨htrack.1, recsLawful_open.mpr fun r' hr' => ?_⟩)
    · simp only [Track.slots, List.length_append]
      omega
    · have hused : x.transport.used ≤ 8192 := hpool.1
      have hfree : x.firstPedals.length ≤ 8192 - x.transport.used := hfits
      omega
    · exact (List.mem_append.mp hr').elim (recsLawful_open.mp htrack.2 r') (x.firstPedals_isEnd r')
  · exact hpool.poolFull (fun _ => hnone) _

/-! ### Every change -/

theorem TransportEffect.takeLaw {i : Instr} {e : State} (he : TransportEffect i s e) (h : TakeLaw s) : TakeLaw e := by
  cases he with
  | clock => exact h.clockStep
  | walkEnd =>
    unfold State.walkEnds
    split
    · rename_i hst
      exact (h.walkReady (by rw [hst]; rfl) (by rw [hst]; nofun) (h.load (by rw [hst]; nofun))).completeWalk _ _
    · exact h
  | play _ noLoad => exact h.startPlay noLoad
  | record _ noLoad idle => exact h.beginRecord idle noLoad _ _ _
  | stop => exact h.stopTransport
  | pause _ pauses => exact h.pauseAs pauses
  | locate _ noLoad locates => exact h.locate noLoad locates _ _
  | setTempo => exact h.setTransport
  | setScale => exact h.setTransport
  | setMode => exact h.setMode _ _
  | erase _ noLoad idle => exact h.eraseTrack idle noLoad _
  | setLoop => exact h.setTransport
  | setMetronome => exact h.setTransport
  | loadBegin _ noLoad idle => exact h.openLoad idle noLoad _ _
  | loadAppend _ own taken => exact h.appendLoad own (takesOfPayload_isEnd taken)
  | loadEnd _ own => exact h.closeLoad own _

theorem TakeLaw.keyReading (h : TakeLaw s) (k : KeyIx) (raw : Nat) : TakeLaw (s.keyReading k raw) := by
  have htold (a : State) (ha : TakeLaw a) : TakeLaw (s.restTold a k) := ha.of_transport (by rw [s.restTold_frame])
  have hscan (a : State) (c : KeyCal) (ha : TakeLaw a) : TakeLaw (a.scanReading k c raw) :=
    ha.of_transport (by rw [State.scanReading_frame])
  rcases s.keyReading_cases k raw with ⟨-, heq⟩ | ⟨-, -, heq⟩ | ⟨-, -, heq⟩ <;> rw [heq]
  · exact h
  · exact hscan _ _ ((htold (s.evaluateKey k raw) h).of_transport (by rw [State.reportSensors_frame]))
  · refine hscan _ _ (htold _ ?_)
    exact State.trackerReading_keeps (fun _ _ hf ha => ha.of_transport (by rw [hf])) (fun _ _ _ _ _ _ ha => ha.keyOn _ _ _ _ _)
      (fun _ _ _ _ _ ha => ha.keyOff _ _ _ _) (fun _ _ _ _ ha => ha.of_transport rfl) k raw h

theorem TakeLaw.pedalReading (h : TakeLaw s) (i : PedalIx) (raw : Nat) : TakeLaw (s.pedalReading i raw) := by
  unfold State.pedalReading
  split
  · exact h
  · split
    · exact h.of_transport (by rw [State.reportPedals_frame]; rfl)
    · unfold State.pedalReadingAfter
      simp only []
      split
      · exact h.of_transport rfl
      · have heffects (a : State) (ha : TakeLaw a) (sw sw' : Bool) (lv lv' : Nat) :
            TakeLaw (a.pedalEffects .live i sw sw' lv lv') := ha.of_transport (by rw [State.pedalEffects_sound])
        refine heffects _ ?_ _ _ _ _
        split
        · exact TakeLaw.transportPedal (TakeLaw.of_transport h (by rfl)) _ _
        · exact h.of_transport rfl

theorem TakeLaw.judgeAbsent (h : TakeLaw s) (l : Link) : TakeLaw (s.judgeAbsent l) := by
  rcases s.judgeAbsent_cases l with ⟨-, heq⟩ | ⟨-, heq⟩ <;> rw [heq]
  · exact h
  · have hunseated : TakeLaw ((s.departed l).unseated l) :=
      h.of_transport (by rw [State.unseated_frame, State.departed_frame])
    have howner : TakeLaw (((s.departed l).unseated l).ownerAbsent l) := by
      unfold State.ownerAbsent
      split
      · split
        · exact hunseated.stopTransport
        · exact hunseated
      · exact hunseated
    unfold State.loaderAbsent
    split
    · split
      · exact howner.abortLoad _
      · exact howner
    · exact howner

/-! ### Resets -/

theorem State.resetBlocks_takeLaw (s : State) (kind : ResetKind) (straps : Straps) (store : TakeStoreOutcome)
    {tracks : Vector Track 4} (hused : (resetTransport tracks).used ≤ 8192) (htracks : ∀ i : TrackIx, tracks[i].whole false) :
    TakeLaw (s.resetBlocks kind straps tracks store) := by
  have htransport := s.resetBlocks_transport kind straps tracks store
  generalize s.resetBlocks kind straps tracks store = x at htransport
  refine ⟨?_, ?_⟩
  · unfold TransportLaw
    rw [htransport]
    exact ⟨⟨nofun, fun hg => absurd rfl hg⟩, (by decide : KeySet.count 0#88 ≤ 10), rfl, fun _ => rfl⟩
  · unfold PoolLaw State.track
    rw [htransport]
    refine ⟨hused, fun i => ?_⟩
    rw [State.trackOpen_of_none (by rw [htransport]; rfl) (by rw [htransport]; rfl)]
    exact htracks i

/-- A warm reset closes what is open and takes no slot more (R167). -/
theorem TakeLaw.keptTrack (h : TakeLaw s) (i : TrackIx) :
    (s.transport.keptTrack i).whole false ∧ (s.transport.keptTrack i).slots ≤ (s.track i).slots := by
  obtain ⟨hreserved, hrecs⟩ := h.2.2 i
  unfold Transport.keptTrack
  cases hr : s.transport.recording with
  | some r =>
    have hopen := State.trackOpen_recording hr (h.load_of_recording (by rw [hr]; rfl)) i
    rw [hopen] at hreserved hrecs
    simp only []
    by_cases hi : r.track = i
    · rw [decide_eq_true hi.symm] at hreserved hrecs
      rw [if_pos hi]
      refine ⟨⟨rfl, recsLawful_close (recsLawful_open.mp hrecs) _⟩, ?_⟩
      simp only [Track.slots, hreserved, List.length_append, endOnly, List.length_singleton, resetTrack, if_true]
      simp only [Bool.false_eq_true, if_false]
      exact le_rfl
    · rw [decide_eq_false (Ne.symm hi)] at hrecs
      rw [if_neg hi]
      exact ⟨⟨rfl, hrecs⟩, Nat.le_add_right _ _⟩
  | none =>
    cases hl : s.transport.load with
    | some y =>
      have hopen := h.trackOpen_load hl i
      rw [hopen] at hreserved hrecs
      simp only []
      by_cases hi : y.track = i
      · rw [decide_eq_true hi.symm] at hreserved
        rw [if_pos hi]
        refine ⟨⟨rfl, endOnly_whole 0⟩, ?_⟩
        simp only [Track.slots, hreserved, if_true]
        exact Nat.le_add_left _ _
      · rw [decide_eq_false (Ne.symm hi)] at hrecs
        rw [if_neg hi]
        exact ⟨⟨rfl, hrecs⟩, Nat.le_add_right _ _⟩
    | none =>
      rw [State.trackOpen_of_none hr hl] at hrecs
      exact ⟨⟨rfl, hrecs⟩, Nat.le_add_right _ _⟩

theorem ResetEffect.takeLaw {i : Instr} {e : State} (he : ResetEffect i s e) (h : TakeLaw s) : TakeLaw e := by
  cases he with
  | powerOn => exact State.resetBlocks_takeLaw _ _ _ _ (by decide) fun j => by simpa using ⟨rfl, endOnly_whole 0⟩
  | warm =>
    refine State.resetBlocks_takeLaw _ _ _ _ ?_ fun j => ?_
    · refine le_trans (Transport.used_le (x := s.transport) fun j => ?_) h.2.1
      show (tableOf s.transport.keptTrack)[j].slots ≤ _
      rw [tableOf_get]
      exact (h.keptTrack j).2
    · rw [tableOf_get]
      exact (h.keptTrack j).1

theorem Effect.takeLaw {i : Instr} {e : State} (he : Effect i s e) (h : TakeLaw s) : TakeLaw e := by
  cases he with
  | unchanged => exact h
  | reset he => exact he.takeLaw h
  | startUp he => exact h.of_transport (by rw [he.frame])
  | key he =>
    cases he with
    | keyReading => exact h.keyReading _ _
  | pedal he =>
    cases he with
    | pedalReading => exact h.pedalReading _ _
  | rail he => exact h.of_transport (by rw [he.frame])
  | test he => exact h.of_transport (by rw [he.frame])
  | voice he => exact h.of_transport (by rw [he.frame])
  | output he => exact h.of_transport (by rw [he.frame])
  | transport he => exact he.takeLaw h
  | link he => exact h.of_transport (by rw [he.frame])
  | seat he =>
    cases he with
    | seatClaim => exact h.of_transport (by rw [s.claimSeat_frame])
    | seatYield => exact h.of_transport (by rw [s.seatChange_frame])
    | seatPass => exact h.of_transport (by rw [s.seatChange_frame])
    | absent => exact h.judgeAbsent _
  | calibration he => exact h.of_transport (by rw [he.frame])
  | commit he => exact h.of_transport (by rw [he.frame])

end Takes

/-- Settles O58: every command's change keeps the laws of the transport's record and of its store. -/
theorem takeStoreStaysWhole : Obligations.TakeStoreStaysWhole := by
  intro s s' ht hp hstep
  exact step_keeps (P := TakeLaw) (fun _ _ h => h.of_transport rfl) (fun _ _ h => h.of_transport rfl)
    (fun _ _ _ _ h => h.of_transport rfl) (fun _ _ _ he h => he.takeLaw h) ⟨ht, hp⟩ hstep

end Sys2Proof.Machine
end

section
/-! The LED shows what it is to show (R213). -/

namespace Sys2Proof.Machine

-- One declaration after another: side by side they open more threads than the check's memory limit holds.
set_option Elab.async false

section Led
variable {s : State}

/-- The codes that apply, the rail's by the name of its state: a rail in FAULT shows code 2, whatever its cause. -/
theorem State.ledCodes_eq (s : State) : s.ledCodes =
    (match s.startUp.calSource with
      | some (.defaults _) => if s.committed then [] else [1]
      | _ => []) ++
    (if s.rail.state.name = .fault then [2] else []) ++ (if s.startUp.samples = some .absent then [3] else []) ++
    (match s.supply with
      | .failed _ => [4]
      | _ => []) := by
  unfold State.ledCodes
  cases s.rail.state <;> rfl

/-- What the LED's judgement sees. -/
theorem State.ledShows_congr {s' : State} (hsource : s'.startUp.calSource = s.startUp.calSource)
    (hsamples : s'.startUp.samples = s.startUp.samples) (hphase : s'.startUp.phase = s.startUp.phase)
    (hcommitted : s'.committed = s.committed) (hrail : s'.rail.state.name = s.rail.state.name) (hsupply : s'.supply = s.supply) :
    s'.ledShows = s.ledShows := by
  have hcodes : s'.ledCodes = s.ledCodes := by
    rw [State.ledCodes_eq, State.ledCodes_eq, hsource, hcommitted, hrail, hsamples, hsupply]
  rw [State.ledShows, State.ledShows, hcodes, State.running, State.running, hphase]

/-- The law holds on where neither the LED nor what its judgement sees has changed. -/
theorem LedLaw.congr {s' : State} (hs : LedLaw s) (hled : s'.led = s.led := by rfl)
    (hsource : s'.startUp.calSource = s.startUp.calSource := by rfl)
    (hsamples : s'.startUp.samples = s.startUp.samples := by rfl) (hphase : s'.startUp.phase = s.startUp.phase := by rfl)
    (hcommitted : s'.committed = s.committed := by rfl) (hrail : s'.rail.state.name = s.rail.state.name := by rfl)
    (hsupply : s'.supply = s.supply := by rfl) : LedLaw s' := by
  rw [LedLaw, hled, State.ledShows_congr hsource hsamples hphase hcommitted hrail hsupply]
  exact hs

theorem RestFrame.ledLaw {s' : State} (h : RestFrame s s') (hs : LedLaw s) : LedLaw s' := by
  rw [h]
  exact hs.congr

theorem StrokeFrame.ledLaw {s' : State} (h : StrokeFrame s s') (hs : LedLaw s) : LedLaw s' := by
  rw [h]
  exact hs.congr

theorem TakeFrame.ledLaw {s' : State} (h : TakeFrame s s') (hs : LedLaw s) : LedLaw s' := h.stroke.ledLaw hs

theorem LearnFrame.ledLaw {s' : State} (h : LearnFrame s s') (hs : LedLaw s) : LedLaw s' := by
  rw [h.1]
  exact hs.congr

theorem LiveFrame.ledLaw {s' : State} (h : LiveFrame s s') (hs : LedLaw s) : LedLaw s' := by
  rw [h]
  exact hs.congr

theorem LinkFrame.ledLaw {s' : State} (h : LinkFrame s s') (hs : LedLaw s) : LedLaw s' := by
  rw [h]
  exact hs.congr

theorem TransportFrame.ledLaw {s' : State} (h : TransportFrame s s') (hs : LedLaw s) : LedLaw s' := by
  rw [h]
  exact hs.congr

theorem ScanFrame.ledLaw {s' : State} (h : ScanFrame s s') (hs : LedLaw s) : LedLaw s' := by
  rw [h]
  exact hs.congr

/-! ### The acts that judge the LED -/

theorem State.judgeLed_law (s : State) : LedLaw s.judgeLed := s.judgeLed_shows

theorem State.setPhase_led (s : State) (p : Phase) : LedLaw (s.setPhase p) := State.judgeLed_law _

theorem State.setSupply_led (s : State) (x : Supply) : LedLaw (s.setSupply x) := State.judgeLed_law _

theorem State.resetBlocks_led (s : State) (kind : ResetKind) (straps : Straps) (tracks : Vector Track 4)
    (store : TakeStoreOutcome) : LedLaw (s.resetBlocks kind straps tracks store) := State.judgeLed_law _

theorem RailStep.ledLaw {s' : State} (h : RailStep s s') (hs : LedLaw s) : LedLaw s' := by
  cases h with
  | turn hname => exact hs.congr (hrail := hname)
  | enter => exact s.enterRail_led _
  | tell => exact hs.congr
  | test => exact hs.congr

theorem RailActs.ledLaw {s' : State} (h : RailActs s s') (hs : LedLaw s) : LedLaw s' :=
  h.keeps (fun _ _ hstep => hstep.ledLaw) hs

theorem State.judgeChecking_ledLaw (hs : LedLaw s) : LedLaw s.judgeChecking := by
  unfold State.judgeChecking
  split
  · exact s.setPhase_led _
  · exact hs

/-! ### Start-up -/

theorem State.endLoad_led (s : State) : LedLaw s.endLoad := by
  unfold State.endLoad
  simp only []
  exact (s.setPhase_led .checking).congr

theorem State.loadImage_led (s : State) : LedLaw s.loadImage := by
  unfold State.loadImage
  split
  · exact State.endLoad_led _
  · exact State.endLoad_led _

theorem State.enterRunning_led (s : State) : LedLaw s.enterRunning := State.judgeLed_law _

theorem State.checkHeader_led (s : State) : LedLaw s.checkHeader := by
  unfold State.checkHeader
  simp only []
  split
  · exact State.setPhase_led _ _
  · exact State.enterRunning_led _

theorem State.decideRail_led (s : State) : LedLaw s.decideRail := by
  unfold State.decideRail
  simp only []
  have hentered (r : Rail) (st : RailState) : LedLaw ((s.setRail r).enterRail st) := State.enterRail_led _ _
  exact (State.settle_acts _).ledLaw (State.judgeChecking_ledLaw (hentered _ _).congr)

theorem StartUpEffect.led {i : Instr} {e : State} (h : StartUpEffect i s e) : LedLaw e := by
  cases h with
  | load => exact s.loadImage_led
  | loadNoAnswer => exact State.endLoad_led _
  | headerCheck => exact s.checkHeader_led
  | decision => exact s.decideRail_led
  | release => exact s.enterRunning_led

/-! ### Keys and pedals -/

theorem State.reportSensors_ledLaw (hs : LedLaw s) : LedLaw s.reportSensors := by
  unfold State.reportSensors
  split
  · exact State.judgeChecking_ledLaw hs.congr
  · exact hs

theorem State.keyReading_ledLaw (k : KeyIx) (raw : Nat) (hs : LedLaw s) : LedLaw (s.keyReading k raw) := by
  rcases s.keyReading_cases k raw with ⟨-, h⟩ | ⟨-, -, h⟩ | ⟨-, -, h⟩ <;> rw [h]
  · exact hs
  · refine (State.scanReading_frame _ _ _ _).ledLaw (State.reportSensors_ledLaw ((State.restReport_acts _ _ _).ledLaw ?_))
    exact hs.congr
  · exact (State.scanReading_frame _ _ _ _).ledLaw ((State.restReport_acts _ _ _).ledLaw ((s.trackerReading_frame k raw).ledLaw hs))

theorem State.pedalReading_ledLaw (i : PedalIx) (raw : Nat) (hs : LedLaw s) : LedLaw (s.pedalReading i raw) := by
  unfold State.pedalReading
  split
  · exact hs
  · split
    · unfold State.reportPedals
      split
      · exact State.judgeChecking_ledLaw hs.congr
      · exact hs.congr
    · exact (s.pedalReadingAfter_frame _ _).ledLaw hs

/-! ### The output -/

theorem State.judgeSupply_ledLaw (hs : LedLaw s) : LedLaw s.judgeSupply := by
  rcases s.judgeSupply_cases with ⟨-, -, h⟩ | ⟨-, -, h⟩ | ⟨-, h⟩ <;> rw [h]
  · split
    · exact State.setSupply_led _ _
    · exact s.setSupply_led _
  · exact s.setSupply_led _
  · exact hs

theorem State.debounceJack_ledLaw (j : JackIx) (c : Contacts) (hs : LedLaw s) : LedLaw (s.debounceJack j c) := by
  unfold State.debounceJack
  simp only []
  refine State.judgeSupply_ledLaw ?_
  split <;> exact hs.congr

theorem State.supplyAsserts_ledLaw (hs : LedLaw s) : LedLaw s.supplyAsserts := by
  unfold State.supplyAsserts
  simp only []
  split
  · exact State.setSupply_led _ _
  · exact hs.congr

theorem State.supplyDrops_ledLaw (hs : LedLaw s) : LedLaw s.supplyDrops := by
  unfold State.supplyDrops
  simp only []
  split
  · exact State.setSupply_led _ _
  · exact hs.congr

theorem State.riseExpires_ledLaw (hs : LedLaw s) : LedLaw s.riseExpires := by
  unfold State.riseExpires
  split
  · split
    · exact s.setSupply_led _
    · exact hs
  · exact hs

theorem State.setVolumes_ledLaw (js : List JackIx) (volume : Nat) (hs : LedLaw s) : LedLaw (s.setVolumes js volume) := by
  unfold State.setVolumes
  induction js generalizing s with
  | nil => exact hs
  | cons j js ih => exact ih hs.congr

theorem OutputEffect.ledLaw {i : Instr} {e : State} (h : OutputEffect i s e) (hs : LedLaw s) : LedLaw e := by
  cases h with
  | outputFrame => exact hs.congr
  | ramp => exact hs.congr
  | contactRaw => exact hs.congr
  | contact => exact State.debounceJack_ledLaw _ _ hs
  | supplyGood => exact State.supplyAsserts_ledLaw hs
  | supplyLost => exact State.supplyDrops_ledLaw hs
  | riseTimeout => exact State.riseExpires_ledLaw hs
  | clickEnd => exact hs.congr
  | readStatus => exact hs.congr
  | setVolume => exact State.setVolumes_ledLaw _ _ hs

/-! ### The seat, the calibration and the commit -/

theorem State.endLearn_ledLaw (hs : LedLaw s) : LedLaw s.endLearn := by
  obtain ⟨s1, h, heq⟩ := s.endLearn_eq
  rw [heq]
  exact (h.ledLaw hs.congr).congr

theorem State.endLearnUnder_ledLaw (before : Option Link) (hs : LedLaw s) : LedLaw (s.endLearnUnder before) := by
  unfold State.endLearnUnder
  split
  · split
    · exact State.endLearn_ledLaw hs
    · exact hs
  · exact hs

theorem State.seatChange_ledLaw (after : Option Link) (cause : SeatCause) (hs : LedLaw s) : LedLaw (s.seatChange after cause) := by
  rw [State.seatChange_eq]
  exact (State.abortTest_acts _ _).ledLaw (State.endLearnUnder_ledLaw _ hs.congr)

theorem State.judgeAbsent_ledLaw (l : Link) (hs : LedLaw s) : LedLaw (s.judgeAbsent l) := by
  rcases s.judgeAbsent_cases l with ⟨-, h⟩ | ⟨-, h⟩ <;> rw [h]
  · exact hs
  · refine ((State.ownerAbsent_plays _ l).trans (State.loaderAbsent_plays _ l)).take.ledLaw ?_
    have hgone := (s.departed_frame l).ledLaw hs
    unfold State.unseated
    split
    · exact State.seatChange_ledLaw _ _ hgone
    · exact hgone

theorem SeatEffect.ledLaw {i : Instr} {e : State} (h : SeatEffect i s e) (hs : LedLaw s) : LedLaw e := by
  cases h with
  | seatClaim =>
    unfold State.claimSeat
    split
    · exact hs
    · exact State.seatChange_ledLaw _ _ hs
  | seatYield => exact State.seatChange_ledLaw _ _ hs
  | seatPass => exact State.seatChange_ledLaw _ _ hs
  | absent => exact State.judgeAbsent_ledLaw _ hs

theorem State.beginLearn_ledLaw (lo hi : Nat) (l : Link) (hs : LedLaw s) : LedLaw (s.beginLearn lo hi l) := by
  have hkey (x : State) (k : KeyIx) (hx : LedLaw x) : LedLaw (x.beginLearnKey k) := by
    unfold State.beginLearnKey
    split
    · exact (State.keyLeft_acts _).ledLaw hx.congr
    · exact hx.congr
  have hfold (ks : List KeyIx) : ∀ x : State, LedLaw x → LedLaw (ks.foldl (fun x k => x.beginLearnKey k) x) := by
    induction ks with
    | nil => exact fun _ hx => hx
    | cons k ks ih => exact fun x hx => ih _ (hkey x k hx)
  exact hfold _ _ ((State.endQuiet_acts { s with learn := some { lo := lo, hi := hi, link := l } } _).ledLaw hs.congr)

theorem CalibrationEffect.ledLaw {i : Instr} {e : State} (h : CalibrationEffect i s e) (hs : LedLaw s) : LedLaw e := by
  cases h with
  | writeKeyCal =>
    unfold State.writeCal
    split <;> exact hs.congr
  | writePedalCal => exact hs.congr
  | writeTouch => exact (State.judgeQuiet_acts _).ledLaw hs.congr
  | writeCurve => exact hs.congr
  | selectCurve =>
    unfold State.selectCurve
    split <;> exact hs.congr
  | writeRailCal => exact hs.congr
  | learnBegin => exact State.beginLearn_ledLaw _ _ _ hs
  | learnEnd => exact State.endLearn_ledLaw hs

theorem CommitEffect.ledLaw {i : Instr} {e : State} (h : CommitEffect i s e) (hs : LedLaw s) : LedLaw e := by
  cases h with
  | commit => exact hs.congr
  | pageAck =>
    unfold State.pageDone
    split
    · exact hs
    · simp only []
      split
      · exact hs.congr
      · exact State.judgeLed_law _
  | pageTimeout =>
    unfold State.pageExpires
    split
    · exact hs
    · split <;> exact hs.congr

theorem State.beginRun_ledLaw (kind : TestKind) (continuous : Bool) (hs : LedLaw s) : LedLaw (s.beginRun kind continuous) := by
  cases kind <;> exact hs.congr

theorem TestEffect.ledLaw {i : Instr} {e : State} (h : TestEffect i s e) (hs : LedLaw s) : LedLaw e := by
  cases h with
  | toneEnd => exact s.toneDone_acts.ledLaw hs
  | readback => exact s.readbackDone_acts.ledLaw hs
  | readbackNoAnswer => exact s.readbackExpires_acts.ledLaw hs
  | runTest _ _ _ starts =>
    exact (State.startTest_cases starts).ledLaw (State.beginRun_ledLaw (s := { s with runs := 0 }) _ _ hs.congr)
  | stopTest => exact (s.abortTest_acts _).ledLaw hs

theorem ResetEffect.led {i : Instr} {e : State} (h : ResetEffect i s e) : LedLaw e := by
  obtain ⟨s1, kind, straps, tracks, store, rfl⟩ := h.eq_resetBlocks
  exact State.resetBlocks_led _ _ _ _ _

theorem Effect.ledLaw {i : Instr} {e : State} (h : Effect i s e) (hs : LedLaw s) : LedLaw e := by
  cases h with
  | unchanged => exact hs
  | reset h => exact h.led
  | startUp h => exact h.led
  | key h =>
    cases h with
    | keyReading => exact State.keyReading_ledLaw _ _ hs
  | pedal h =>
    cases h with
    | pedalReading => exact State.pedalReading_ledLaw _ _ hs
  | rail h =>
    obtain ⟨v, hacts⟩ := h.acts
    exact hacts.ledLaw (LedLaw.congr (s' := s.setRail { s.rail with votes := v }) hs)
  | test h => exact h.ledLaw hs
  | voice h =>
    rw [h.frame]
    exact hs.congr
  | output h => exact h.ledLaw hs
  | transport h => exact h.plays.frame.ledLaw hs
  | link h => exact h.frame.ledLaw hs
  | seat h => exact h.ledLaw hs
  | calibration h => exact h.ledLaw hs
  | commit h => exact h.ledLaw hs

end Led

end Sys2Proof.Machine
end

section
/-! Only a present link holds the seat, and learns and tests run under it (R198, R201); a learn and a commit exclude each
other (R26, R206). -/

namespace Sys2Proof.Machine

-- One declaration after another: side by side they open more threads than the check's memory limit holds.
set_option Elab.async false

/-- The seat's law with the exclusion of learn and commit. -/
def HandLaw (s : State) : Prop := SeatLaw s ∧ LearnCommitLaw s

section Hand
variable {s : State}

/-- The law holds on where the seat stays, no link goes, no learn or commit begins, and a test begins under the seat alone. -/
theorem HandLaw.kept {e : State} (hs : HandLaw s) (present : ∀ l : Link, s.linkPresent l = true → e.linkPresent l = true)
    (commit : e.commit.isSome = s.commit.isSome ∨ e.commit = none := by exact .inl rfl) (seat : e.seat = s.seat := by rfl)
    (learn : e.learn = s.learn ∨ e.learn = none := by exact .inl rfl)
    (test : e.test.isSome = true → s.test.isSome = true ∨ s.seat.isSome = true := by exact .inl) : HandLaw e := by
  obtain ⟨⟨hpresent, hlearn, htest⟩, hexclude⟩ := hs
  refine ⟨⟨fun l hl => ?_, fun x hx => ?_, fun ht => ?_⟩, ?_⟩
  · exact present l (hpresent l (seat ▸ hl))
  · rw [seat]
    rcases learn with h | h
    · exact hlearn x (h ▸ hx)
    · rw [h] at hx
      cases hx
  · rw [seat]
    exact (test ht).elim htest id
  · rcases learn with h | h
    · refine hexclude.imp (h.trans ·) fun hnone => ?_
      rcases commit with hc | hc
      · rw [hnone] at hc
        exact Option.isNone_iff_eq_none.mp (by simpa using hc)
      · exact hc
    · exact .inl h

/-- No append and no condition makes a link absent. -/
theorem Logs.present {e : State} (h : Logs s e) (l : Link) (hl : s.linkPresent l = true) : e.linkPresent l = true :=
  h.keeps (P := fun x => x.linkPresent l = true)
    (fun _ _ _ hlinks ha => by rw [← ha, State.linkPresent, State.link, hlinks]; rfl)
    (fun _ _ _ ha => by rw [State.append_linkPresent, ha]) (fun _ _ _ ha => by rw [State.raise_linkPresent, ha]) hl

/-! ### What the acts of a key and of the rail leave -/

theorem Transits.commit {k : KeyIx} {e : State} (h : Transits s k e) : e.commit.isSome = s.commit.isSome := by
  cases h with
  | moves => rfl
  | rests =>
    unfold State.enterRest State.passToLearn
    split <;> exact (State.applyPending_learnFrame _ _).2
  | strikes => rw [State.keyOn_frame]; rfl
  | releases => rw [State.keyOff_frame]; rfl

theorem KeyAct.commit {raw : Nat} {k : KeyIx} {e : State} (h : KeyAct raw k s e) : e.commit.isSome = s.commit.isSome := by
  cases h with
  | note => rfl
  | transit h => exact h.commit
  | faults =>
    unfold State.enterFaulty
    simp only []
    split
    · have hoff : (s.keyOff k 1 .fault s.now).commit.isSome = s.commit.isSome := by
        rw [State.keyOff_frame]
      exact hoff
    · rfl
  | recovers =>
    unfold State.recoverKey State.passToLearn
    simp only []
    split <;> exact (State.applyPending_learnFrame _ _).2
  | learns => rfl

theorem State.trackerReading_commit (s : State) (k : KeyIx) (raw : Nat) :
    (s.trackerReading k raw).commit.isSome = s.commit.isSome :=
  (s.trackerReading_acts k raw).keeps (P := fun x => x.commit.isSome = s.commit.isSome) (fun _ _ h ha => h.commit.trans ha) rfl

theorem State.keyReading_commit (s : State) (k : KeyIx) (raw : Nat) :
    (s.keyReading k raw).commit.isSome = s.commit.isSome := by
  rcases s.keyReading_cases k raw with ⟨-, h⟩ | ⟨-, -, h⟩ | ⟨-, -, h⟩ <;> rw [h]
  · rw [State.scanReading_frame, State.reportSensors_frame, State.restTold_frame]
    rfl
  · rw [State.scanReading_frame, State.restTold_frame]
    exact s.trackerReading_commit k raw

/-- No act of the rail begins a test. -/
theorem RailActs.test {e : State} (h : RailActs s e) (hnone : s.test = none) : e.test = none :=
  h.keeps (P := fun x => x.test = none) (fun a b hstep ha => by
    cases hstep with
    | turn => exact ha
    | @enter st => exact (congrArg State.test (a.enterRail_frame st)).trans ha
    | tell => exact ha
    | test runs_on => exact runs_on ha) hnone

theorem RailActs.test_isSome {e : State} (h : RailActs s e) (he : e.test.isSome = true) : s.test.isSome = true := by
  by_contra hnone
  rw [h.test (by simpa using hnone)] at he
  cases he

theorem HandLaw.acts {e : State} (hs : HandLaw s) (h : RailActs s e) (frame : TestFrame s e) : HandLaw e :=
  hs.kept h.logs.present (.inl (by rw [frame])) (by rw [frame]) (.inl (by rw [frame])) fun he => .inl (h.test_isSome he)

theorem State.keyReading_test (s : State) (k : KeyIx) (raw : Nat) (he : (s.keyReading k raw).test.isSome = true) :
    s.test.isSome = true := by
  rcases s.keyReading_cases k raw with ⟨-, h⟩ | ⟨-, -, h⟩ | ⟨-, -, h⟩ <;> rw [h] at he
  · exact he
  · have htest := (State.scanReading_acts _ _ _ _).test_isSome he
    rw [State.reportSensors_frame, State.restTold_frame] at htest
    exact htest
  · have htest := (State.scanReading_acts _ _ _ _).test_isSome he
    rw [State.restTold_frame, s.trackerReading_frame k raw] at htest
    exact htest

/-! ### The seat and the learn -/

theorem State.endLearn_commit (s : State) : s.endLearn.commit.isSome = s.commit.isSome := s.endLearn_handsOn.commit

theorem HandLaw.endLearn (hs : HandLaw s) : HandLaw s.endLearn :=
  hs.kept s.endLearn_logs.present (.inl s.endLearn_commit) s.endLearn_handsOn.seat (.inr s.endLearn_learn) fun he => .inl (by
    rwa [s.endLearn_test] at he)

/-- A change of holder leaves no learn and no test, so the law holds whatever it was before. -/
theorem State.seatChange_handLaw (under : ∀ x : Learn, s.learn = some x → s.seat = some x.link) {after : Option Link}
    (present : ∀ l : Link, after = some l → s.linkPresent l = true) (cause : SeatCause) : HandLaw (s.seatChange after cause) := by
  have hlearn : (s.seatChange after cause).learn = none := by
    cases hx : s.learn with
    | none =>
      rw [State.seatChange_eq, State.endLearnUnder_of_none (s := s.seatRecorded after cause) hx, State.abortTest_learn]
      exact hx
    | some x => exact State.seatChange_learn hx (under x hx) after cause
  refine ⟨⟨fun l hl => ?_, fun x hx => ?_, fun ht => ?_⟩, .inl hlearn⟩
  · rw [State.seatChange_seat] at hl
    exact (s.seatChange_logs after cause).present l (present l hl)
  · rw [hlearn] at hx
    cases hx
  · rw [State.seatChange_test] at ht
    cases ht

theorem HandLaw.seatChange (hs : HandLaw s) {after : Option Link} (present : ∀ l : Link, after = some l → s.linkPresent l = true)
    (cause : SeatCause) : HandLaw (s.seatChange after cause) := State.seatChange_handLaw hs.1.2.1 present cause

theorem HandLaw.judgeSeatDefault (hs : HandLaw s) : HandLaw s.judgeSeatDefault := by
  unfold State.judgeSeatDefault
  split
  · rename_i h
    exact hs.seatChange (fun l hl => by cases hl; exact h.2) _
  · exact hs

theorem State.departed_linkPresent (s : State) {l j : Link} (h : j ≠ l) : (s.departed l).linkPresent j = s.linkPresent j := by
  unfold State.departed State.setView
  rw [State.judgeRemoval_linkPresent, State.linkPresent, State.link_setLink, if_neg h]
  rfl

theorem HandLaw.unseated (hs : HandLaw s) (l : Link) : HandLaw ((s.departed l).unseated l) := by
  have hframe := s.departed_frame l
  have hseat : (s.departed l).seat = s.seat := by rw [hframe]
  have hlearn : (s.departed l).learn = s.learn := by rw [hframe]
  have htest : (s.departed l).test = s.test := by rw [hframe]
  have hcommit : (s.departed l).commit = s.commit := by rw [hframe]
  obtain ⟨⟨hpresent, hunder, htested⟩, hexclude⟩ := hs
  unfold State.unseated
  split
  · exact State.seatChange_handLaw (fun x hx => hseat.trans (hunder x (hlearn ▸ hx))) (fun j hj => by cases hj) _
  · rename_i hl
    refine ⟨⟨fun j hj => ?_, fun x hx => ?_, fun ht => ?_⟩, ?_⟩
    · have hne : j ≠ l := fun h => hl (h ▸ hj)
      rw [s.departed_linkPresent hne]
      exact hpresent j (hseat ▸ hj)
    · rw [hseat]
      exact hunder x (hlearn ▸ hx)
    · rw [hseat]
      exact htested (htest ▸ ht)
    · rw [LearnCommitLaw, hlearn, hcommit]
      exact hexclude

theorem HandLaw.judgeAbsent (hs : HandLaw s) (l : Link) : HandLaw (s.judgeAbsent l) := by
  rcases s.judgeAbsent_cases l with ⟨-, h⟩ | ⟨-, h⟩ <;> rw [h]
  · exact hs
  · have hplays := (State.ownerAbsent_plays ((s.departed l).unseated l) l).trans (State.loaderAbsent_plays _ l)
    have hframe := hplays.take
    exact (hs.unseated l).kept hplays.logs.present (.inl (by rw [hframe])) (by rw [hframe]) (.inl (by rw [hframe]))
      (by rw [hframe]; exact .inl)

theorem SeatEffect.handLaw {i : Instr} {e : State} (h : SeatEffect i s e) (hs : HandLaw s) : HandLaw e := by
  cases h with
  | seatClaim present =>
    unfold State.claimSeat
    split
    · exact hs
    · exact hs.seatChange (fun j hj => by cases hj; exact present) _
  | seatYield => exact hs.seatChange (fun j hj => by cases hj) _
  | seatPass _ present => exact hs.seatChange (fun j hj => by cases hj; exact present) _
  | absent => exact hs.judgeAbsent _

/-! ### Start-up -/

theorem HandLaw.report (hs : HandLaw s) (b : JournalBody) (c : Condition) : HandLaw (s.report b c) :=
  hs.kept (e := s.report b c) fun l hl => by rw [State.report_linkPresent, hl]

theorem State.setPhase_handLaw (hs : HandLaw s) (p : Phase) : HandLaw (s.setPhase p) := by
  have hframe := s.setPhase_frame p
  exact hs.kept (s.setPhase_logs p).present (.inl (by rw [hframe])) (by rw [hframe]) (.inl (by rw [hframe]))
    (by rw [hframe]; exact .inl)

theorem State.enterRunning_handLaw (hs : HandLaw s) : HandLaw s.enterRunning := by
  have hjudged (x : State) (hx : HandLaw x) : HandLaw (x.raise .startup).judgeLed := by
    have hframe := (x.raise .startup).judgeLed_frame
    exact hx.kept ((Logs.raise .startup).trans (State.judgeLed_logs _)).present (.inl (by rw [hframe]; rfl)) (by rw [hframe]; rfl)
      (.inl (by rw [hframe]; rfl)) (by rw [hframe]; exact .inl)
  unfold State.enterRunning
  simp only []
  refine hjudged _ (HandLaw.judgeSeatDefault ?_)
  split
  · exact (State.setPhase_handLaw hs _).report _ _
  · exact State.setPhase_handLaw hs _

theorem StartUpEffect.handLaw {i : Instr} {e : State} (h : StartUpEffect i s e) (hs : HandLaw s) : HandLaw e := by
  have hload (x : State) (hx : HandLaw x) : HandLaw x.endLoad := by
    unfold State.endLoad
    exact (State.setPhase_handLaw hx .checking).kept fun _ h => h
  cases h with
  | load =>
    unfold State.loadImage
    split
    · exact hload _ (hs.kept fun _ h => h)
    · exact hload _ (hs.kept fun _ h => h)
  | loadNoAnswer => exact hload _ (hs.kept fun _ h => h)
  | headerCheck =>
    unfold State.checkHeader
    simp only []
    split
    · refine State.setPhase_handLaw ?_ _
      exact hs.kept fun _ h => h
    · refine State.enterRunning_handLaw ?_
      exact hs.kept fun _ h => h
  | decision =>
    have hframe := s.decideRail_frame
    exact hs.kept s.decideRail_logs.present (.inl (by rw [hframe])) (by rw [hframe]) (.inl (by rw [hframe]))
      (by rw [hframe]; exact .inl)
  | release => exact State.enterRunning_handLaw hs

/-! ### The links -/

theorem State.setLink_linkPresent (s : State) (l : Link) {r : LinkRec} (h : r.view.isPresent = (s.link l).view.isPresent) (j : Link) :
    (s.setLink l r).linkPresent j = s.linkPresent j := by
  rw [State.linkPresent, State.link_setLink]
  split
  · subst_vars
    exact h
  · rfl

theorem State.judgePresent_linkPresent (s : State) (l j : Link) (hj : s.linkPresent j = true) :
    (s.judgePresent l).linkPresent j = true := by
  have hset (v : View) (hv : v.isPresent = true) (x : State) (hx : x.linkPresent j = true) : (x.setView l v).linkPresent j = true := by
    rw [State.setView, State.linkPresent, State.link_setLink]
    split
    · exact hv
    · exact hx
  unfold State.judgePresent
  split
  · exact hj
  · rename_i n _
    have hseen := hset (.present s.journal.length n) rfl s hj
    simp only []
    rw [State.judgeRemoval_linkPresent]
    split
    · exact hseen
    · exact (State.setLink_linkPresent _ l (r := (State.link _ l).raise .gap) rfl j).trans hseen

theorem State.linkResetOn_linkPresent (s : State) (l j : Link) : (s.linkResetOn l).linkPresent j = s.linkPresent j := by
  unfold State.linkResetOn
  simp only []
  rw [State.judgeRemoval_linkPresent, State.setLink_linkPresent]
  cases (s.link l).view <;> rfl

theorem State.readOn_linkPresent (s : State) {l : Link} {cursor gap : Nat} (h : (s.link l).view = .present cursor gap) (most : Nat)
    (j : Link) : (s.readOn l cursor gap most).linkPresent j = s.linkPresent j := by
  have hset : (s.setView l (s.readView cursor gap most)).linkPresent j = s.linkPresent j :=
    s.setLink_linkPresent l (by rw [h]; rfl) j
  cases hnone : s.readRecords cursor gap most with
  | nil => rw [State.readOn_of_none l hnone, hset]
  | cons x xs => rw [State.readOn_of_some l (by rw [hnone]; nofun), State.judgeRemoval_linkPresent, hset]

theorem LinkEffect.linkPresent {i : Instr} {e : State} (h : LinkEffect i s e) (j : Link) (hj : s.linkPresent j = true) :
    e.linkPresent j = true := by
  have hset (l : Link) (r : LinkRec) (hr : r.view = (s.link l).view) : (s.setLink l r).linkPresent j = true :=
    (s.setLink_linkPresent l (by rw [hr]) j).trans hj
  cases h with
  | presentRaw => exact hset _ _ rfl
  | present => exact s.judgePresent_linkPresent _ j hj
  | select => exact hset _ _ rfl
  | deselect => exact hset _ _ rfl
  | shifted => exact hset _ _ rfl
  | readConditions =>
    split
    · exact hj
    · exact hset _ _ rfl
  | ackConditions => exact hset _ _ rfl
  | forceCondition => exact hset _ _ rfl
  | setAttention => exact hset _ _ rfl
  | linkReset => exact (s.linkResetOn_linkPresent _ j).trans hj
  | readJournal view => exact (s.readOn_linkPresent view _ j).trans hj
  | relay => exact (Logs.append _ _).present j hj

/-! ### The learn, the commit and the tests -/

theorem State.holds_seat {l : Link} (h : s.holds l = true) : s.seat = some l := by
  rw [State.holds_eq] at h
  exact beq_iff_eq.mp h

/-- What the record of a learn, its keys' trackers and the rail keep, the beginning of the learn keeps. -/
theorem State.beginLearn_keeps {P : State → Prop} (hkey : ∀ (x : State) (k : KeyIx) (r : Tracker), P x → P (x.setKey k r))
    (hrail : ∀ a b : State, RailFrame a b → P a → P b) {lo hi : Nat} {l : Link}
    (hs : P { s with learn := some { lo := lo, hi := hi, link := l } }) : P (s.beginLearn lo hi l) := by
  have hbegun (x : State) (k : KeyIx) (hx : P x) : P (x.beginLearnKey k) := by
    unfold State.beginLearnKey
    split
    · exact hrail _ _ (State.keyLeft_frame _) (hkey _ _ _ hx)
    · exact hkey _ _ _ hx
  have hfold (ks : List KeyIx) : ∀ x : State, P x → P (ks.foldl (fun x k => x.beginLearnKey k) x) := by
    induction ks with
    | nil => exact fun _ hx => hx
    | cons k ks ih => exact fun x hx => ih _ (hbegun x k hx)
  exact hfold _ _ (hrail _ _ (State.endQuiet_frame _ _) hs)

theorem State.beginLearn_learn (s : State) (lo hi : Nat) (l : Link) :
    (s.beginLearn lo hi l).learn = some { lo := lo, hi := hi, link := l } ∧ (s.beginLearn lo hi l).seat = s.seat ∧
      (s.beginLearn lo hi l).commit = s.commit ∧ (s.beginLearn lo hi l).test = s.test :=
  s.beginLearn_keeps
    (P := fun x => x.learn = some { lo := lo, hi := hi, link := l } ∧ x.seat = s.seat ∧ x.commit = s.commit ∧ x.test = s.test)
    (fun _ _ _ hx => hx) (fun _ _ h hx => by rw [h]; exact hx) ⟨rfl, rfl, rfl, rfl⟩

theorem CalibrationEffect.handLaw {i : Instr} {e : State} (h : CalibrationEffect i s e) (hs : HandLaw s) : HandLaw e := by
  have hmap (c : WorkingCopy) : HandLaw (State.calChanged { s with cal := c }) :=
    hs.kept (e := State.calChanged { s with cal := c }) (fun _ h => h) (.inl Option.isSome_map)
  cases h with
  | writeKeyCal =>
    unfold State.writeCal
    split
    · exact hs.kept (fun _ h => h) (.inl Option.isSome_map)
    · exact hs.kept (fun _ h => h) (.inl Option.isSome_map)
  | writePedalCal => exact hmap _
  | writeTouch => exact (hmap _).acts (State.judgeQuiet_acts _) (State.judgeQuiet_frame _).test
  | writeCurve => exact hmap _
  | selectCurve =>
    unfold State.selectCurve
    split
    · exact hs
    · exact hmap _
  | writeRailCal => exact hmap _
  | @learnBegin _ l _ _ _ holds _ noCommit =>
    have hlogs := s.beginLearn_logs
    obtain ⟨hlearn, hseat, hcommit, htest⟩ := s.beginLearn_learn (byteAt _ 0) (byteAt _ 1) l
    refine ⟨⟨fun j hj => ?_, fun x hx => ?_, fun ht => ?_⟩, .inr (hcommit.trans noCommit)⟩
    · exact (hlogs _ _ l).present j (hs.1.1 j (hseat ▸ hj))
    · rw [hlearn] at hx
      cases hx
      exact hseat.trans (State.holds_seat holds)
    · rw [hseat]
      exact hs.1.2.2 (htest ▸ ht)
  | learnEnd => exact hs.endLearn

theorem CommitEffect.handLaw {i : Instr} {e : State} (h : CommitEffect i s e) (hs : HandLaw s) : HandLaw e := by
  have hframe := h.frame
  have hlogs := h.logs
  cases h with
  | commit _ _ noLearn => exact ⟨hs.1, .inl noLearn⟩
  | pageAck =>
    refine hs.kept hlogs.present ?_ (by rw [hframe]) (.inl (by rw [hframe])) (by rw [hframe]; exact .inl)
    unfold State.pageDone
    cases hc : s.commit with
    | none => exact .inr hc
    | some c =>
      simp only []
      split
      · exact .inl rfl
      · unfold State.commitDone
        rw [State.judgeLed_frame]
        exact .inr rfl
  | pageTimeout =>
    refine hs.kept hlogs.present ?_ (by rw [hframe]) (.inl (by rw [hframe])) (by rw [hframe]; exact .inl)
    unfold State.pageExpires
    cases hc : s.commit with
    | none => exact .inr hc
    | some c =>
      simp only []
      split
      · exact .inr rfl
      · exact .inl (by rw [hc])

theorem TestEffect.handLaw {i : Instr} {e : State} (h : TestEffect i s e) (hs : HandLaw s) : HandLaw e := by
  have hframe := h.frame
  have hlogs := h.logs
  cases h with
  | toneEnd => exact hs.acts s.toneDone_acts hframe
  | readback => exact hs.acts s.readbackDone_acts hframe
  | readbackNoAnswer => exact hs.acts s.readbackExpires_acts hframe
  | runTest _ holds =>
    exact hs.kept hlogs.present (.inl (by rw [hframe])) (by rw [hframe]) (.inl (by rw [hframe])) fun _ =>
      .inr (by rw [State.holds_seat holds]; rfl)
  | stopTest => exact hs.acts (s.abortTest_acts _) hframe

/-! ### Every change -/

theorem Effect.handLaw {i : Instr} {e : State} (h : Effect i s e) (hs : HandLaw s) : HandLaw e := by
  cases h with
  | unchanged => exact hs
  | reset h =>
    obtain ⟨s1, kind, straps, tracks, store, rfl⟩ := h.eq_resetBlocks
    unfold State.resetBlocks
    rw [State.judgeLed_frame]
    exact ⟨⟨nofun, nofun, nofun⟩, .inl rfl⟩
  | startUp h => exact h.handLaw hs
  | key h =>
    cases h with
    | @keyReading _ k raw =>
      have hframe := s.keyReading_frame k raw
      exact hs.kept (s.keyReading_logs k raw).present (.inl (s.keyReading_commit k raw)) (by rw [hframe]) (.inl (by rw [hframe]))
        fun he => .inl (s.keyReading_test k raw he)
  | pedal h =>
    cases h with
    | @pedalReading _ k raw =>
      have hframe := s.pedalReading_frame k raw
      exact hs.kept (s.pedalReading_logs k raw).present (.inl (by rw [hframe])) (by rw [hframe]) (.inl (by rw [hframe]))
        (by rw [hframe]; exact .inl)
  | rail h =>
    obtain ⟨v, hacts⟩ := h.acts
    exact HandLaw.kept hs (Logs.trans (b := s.setRail { s.rail with votes := v }) .of_eq hacts.logs).present
      (.inl (by rw [h.frame])) (by rw [h.frame]) (.inl (by rw [h.frame])) fun he => .inl (hacts.test_isSome he)
  | test h => exact h.handLaw hs
  | voice h =>
    rw [h.frame]
    exact hs.kept fun _ h => h
  | output h =>
    have hframe := h.frame
    exact hs.kept h.logs.present (.inl (by rw [hframe])) (by rw [hframe]) (.inl (by rw [hframe])) (by rw [hframe]; exact .inl)
  | transport h =>
    have hframe := h.plays.frame
    exact hs.kept h.plays.logs.present (.inl (by rw [hframe])) (by rw [hframe]) (.inl (by rw [hframe])) (by rw [hframe]; exact .inl)
  | link h =>
    have hframe := h.frame
    exact hs.kept h.linkPresent (.inl (by rw [hframe])) (by rw [hframe]) (.inl (by rw [hframe])) (by rw [hframe]; exact .inl)
  | seat h => exact h.handLaw hs
  | calibration h => exact h.handLaw hs
  | commit h => exact h.handLaw hs

/-- Settles O60: a seat change ends the learn and the test it hands on, a learn and a commit each begin where the other is
not active, and whatever the LED's judgement sees is judged where it changes. -/
theorem seatIsHeldByThePresent : Obligations.SeatIsHeldByThePresent := by
  intro s s' hseat hexclude hled h
  obtain ⟨⟨hseat', hexclude'⟩, hled'⟩ := step_keeps (P := fun x => HandLaw x ∧ LedLaw x)
    (fun _ _ hx => ⟨hx.1, hx.2⟩) (fun _ _ hx => ⟨hx.1, hx.2⟩)
    (fun x l q r hx => ⟨hx.1.kept fun j hj => (x.setLink_linkPresent l (r := { x.link l with transaction := .answering q r.bytes }) rfl j).trans hj, hx.2.congr⟩)
    (fun _ _ _ he hx => ⟨he.handLaw hx.1, he.ledLaw hx.2⟩) ⟨⟨hseat, hexclude⟩, hled⟩ h
  exact ⟨hseat', hexclude', hled'⟩

end Hand

end Sys2Proof.Machine
end

section
/-! The rail's motor and its vote set: what every operation of the rail keeps of MotorLaw and VoteLaw (R64, R68, R69, R73). -/

namespace Sys2Proof.Machine

-- One declaration after another: side by side they open more threads than the check's memory limit holds.
set_option Elab.async false

/-- The motor and the vote set agree with the state. -/
def RailFit (r : Rail) : Prop := MotorLaw r ∧ VoteLaw r

/-- The same but for an end of travel that the vote set asks to leave: the next rule of the rail mends it. -/
def RailNear (r : Rail) : Prop := MotorLaw r ∧ (VoteLaw r ∨ r.state = .parked ∨ r.state = .engaged)

theorem RailFit.near {r : Rail} (h : RailFit r) : RailNear r := ⟨h.1, .inl h.2⟩

/-! ### The motor -/

section Motor
variable {r : Rail}

theorem MotorLaw.decided (h : MotorLaw r) (hst : r.state ≠ .homing) : r.decided = true := by
  by_contra hdec
  exact hst (h.2.2 (by simpa using hdec))

/-- In a state that does not drive the motor is OFF. -/
theorem MotorLaw.off (h : MotorLaw r) (hst : r.state.drives = none) : r.drive = none := by
  cases hd : r.drive with
  | none => rfl
  | some g =>
    have hdir := (h.1 g hd).2.2
    rw [hst] at hdir
    cases hdir

/-- A rail at rest, in a state that need not drive. -/
theorem motorLaw_of_off (off : r.drive = none) (moving : r.state ≠ .movingIn ∧ r.state ≠ .movingOut)
    (decided : r.decided = true ∨ r.state = .homing) : MotorLaw r := by
  refine ⟨fun g hg => ?_, fun hst => ?_, fun hdec => ?_⟩
  · rw [off] at hg
    cases hg
  · exact absurd hst (by simp [moving])
  · exact decided.resolve_left (by rw [hdec]; nofun)

/-- A rail driven while the action is quiet, in the direction of its state. -/
theorem motorLaw_of_driven {g : Segment} (drive : r.drive = some g) (quiet : r.quiet.quiet = true) (decided : r.decided = true)
    (drives : r.state.drives = some g.dir) : MotorLaw r := by
  refine ⟨fun g' hg => ?_, fun _ => by rw [drive]; rfl, fun hdec => ?_⟩
  · cases drive.symm.trans hg
    exact ⟨quiet, decided, drives⟩
  · rw [decided] at hdec
    cases hdec

end Motor

section Operations
variable {s : State}

/-! ### Entries to states, segments -/

/-- An entry to a state, with the motor OFF and the decision taken. -/
theorem State.enterRail_fit {st : RailState} (off : s.rail.drive = none) (decided : s.rail.decided = true)
    (moving : st ≠ .movingIn ∧ st ≠ .movingOut) (votes : VoteLaw { s.rail with state := st }) : RailFit (s.enterRail st).rail := by
  rw [State.enterRail_rail]
  exact ⟨motorLaw_of_off off moving (.inl decided), votes⟩

theorem State.beginMove_fit {dir : Travel} (quiet : s.rail.quiet.quiet = true) (decided : s.rail.decided = true)
    (votes : s.rail.votes.any = decide (dir = .inward)) : RailFit (s.beginMove dir).rail := by
  rw [State.beginMove_rail]
  cases dir with
  | inward => exact ⟨motorLaw_of_driven (g := ⟨.inward, s.now, s.now⟩) rfl quiet decided rfl, votes⟩
  | outward => exact ⟨motorLaw_of_driven (g := ⟨.outward, s.now, s.now⟩) rfl quiet decided rfl, votes⟩

theorem State.startSegment_fit {dir : Travel} (h : RailFit s.rail) (quiet : s.rail.quiet.quiet = true)
    (decided : s.rail.decided = true) (drives : s.rail.state.drives = some dir) : RailFit (s.startSegment dir).rail :=
  ⟨motorLaw_of_driven (g := ⟨dir, s.now, s.now⟩) rfl quiet decided drives, h.2⟩

theorem State.arriveParked_near (decided : s.rail.decided = true) : RailNear s.arriveParked.rail := by
  rw [State.arriveParked_rail]
  exact ⟨motorLaw_of_off rfl ⟨nofun, nofun⟩ (.inl decided), .inr (.inl rfl)⟩

theorem State.arriveEngaged_near (decided : s.rail.decided = true) : RailNear s.arriveEngaged.rail := by
  rw [State.arriveEngaged_rail]
  exact ⟨motorLaw_of_off rfl ⟨nofun, nofun⟩ (.inl decided), .inr (.inr rfl)⟩

theorem State.endSegment_decided (s : State) : s.endSegment.rail.decided = s.rail.decided := s.endSegment_railOnly.2.kept.1

theorem State.endSegment_votes (s : State) : s.endSegment.rail.votes = s.rail.votes :=
  s.endSegment_railOnly.2.kept.2.2.2.2.2.2.1

/-- The end of a segment keeps the name of the state. -/
theorem State.endSegment_name (s : State) : s.endSegment.rail.state.name = s.rail.state.name := by
  unfold State.endSegment State.setRail
  cases s.rail.drive with
  | none => rfl
  | some g =>
    simp only []
    cases s.rail.state with
    | testing p => cases p <;> rfl
    | _ => rfl

/-- An entry to a state that does not drive, once the segment has ended. -/
theorem State.endSegment_enterRail_fit {st : RailState} (decided : s.rail.decided = true) (moving : st ≠ .movingIn ∧ st ≠ .movingOut)
    (votes : VoteLaw { s.rail with state := st }) : RailFit (s.endSegment.enterRail st).rail := by
  refine State.enterRail_fit s.endSegment_rail.1 (s.endSegment_decided.trans decided) moving ?_
  unfold VoteLaw at votes ⊢
  rw [State.endSegment_votes]
  exact votes

/-! ### The rules of the states entered -/

/-- The direction that a state waits to drive in, until quiet comes (R70). -/
def RailState.awaits : RailState → Option Travel
  | .pendingIn _ _ => some .inward
  | .pausedIn => some .inward
  | .pendingOut _ _ => some .outward
  | .pausedOut => some .outward
  | _ => none

/-- Where a rule of the rail acts: at an end of travel that the vote set asks to leave, at the coming of quiet, at an end
switch (R69, R70, R72, R78, R80). -/
theorem State.railRule_where {s' : State} (h : s.railRule = some s') :
    (s.rail.state = .parked ∧ s.rail.votes.any = true ∧ s' = s.enterRail (.pendingIn s.now false)) ∨
    (s.rail.state = .engaged ∧ s.rail.votes.any = false ∧ s' = s.enterRail (.pendingOut s.now false)) ∨
    (∃ dir, s.rail.state.awaits = some dir ∧ s.rail.quiet.quiet = true ∧ s' = s.beginMove dir) ∨
    (s.rail.state = .movingIn ∧ s' = s.arriveEngaged) ∨ (s.rail.state = .movingOut ∧ s' = s.arriveParked) ∨
    (∃ dir, (s.rail.state = .homing ∧ s.rail.decided = true ∨ s.rail.state.name = .testing) ∧
      s.rail.state.drives = some dir ∧ s.rail.quiet.quiet = true ∧ s' = s.startSegment dir) := by
  unfold State.railRule at h
  simp only [] at h
  cases hst : s.rail.state <;> simp only [hst] at h
  case fault => cases h
  case engaged =>
    obtain ⟨hvotes, hs'⟩ := Option.ite_none_left_eq_some.mp h
    exact .inr (.inl ⟨rfl, by simpa using hvotes, (Option.some.inj hs').symm⟩)
  all_goals obtain ⟨hif, hs'⟩ := Option.ite_none_right_eq_some.mp h
  case parked => exact .inl ⟨rfl, hif, (Option.some.inj hs').symm⟩
  case pendingIn => exact .inr (.inr (.inl ⟨.inward, rfl, hif, (Option.some.inj hs').symm⟩))
  case pausedIn => exact .inr (.inr (.inl ⟨.inward, rfl, hif, (Option.some.inj hs').symm⟩))
  case pendingOut => exact .inr (.inr (.inl ⟨.outward, rfl, hif, (Option.some.inj hs').symm⟩))
  case pausedOut => exact .inr (.inr (.inl ⟨.outward, rfl, hif, (Option.some.inj hs').symm⟩))
  case movingIn => exact .inr (.inr (.inr (.inl ⟨rfl, (Option.some.inj hs').symm⟩)))
  case movingOut => exact .inr (.inr (.inr (.inr (.inl ⟨rfl, (Option.some.inj hs').symm⟩))))
  case homing =>
    obtain ⟨⟨hdecided, hquiet⟩, -⟩ : (s.rail.decided = true ∧ s.rail.quiet.quiet = true) ∧ s.rail.drive.isNone = true := by simpa using hif
    exact .inr (.inr (.inr (.inr (.inr ⟨.outward, .inl ⟨rfl, hdecided⟩, rfl, hquiet, (Option.some.inj hs').symm⟩))))
  case testing p a b =>
    exact .inr (.inr (.inr (.inr (.inr ⟨p, .inr rfl, rfl, (Bool.and_eq_true_iff.mp hif).1, (Option.some.inj hs').symm⟩))))

/-- A rail that awaits a direction stands as the vote set asks, with its motor OFF and the decision taken. -/
theorem RailNear.awaits {r : Rail} (h : RailNear r) {dir : Travel} (hst : r.state.awaits = some dir) :
    r.decided = true ∧ r.votes.any = decide (dir = .inward) ∧ r.state.name ≠ .testing := by
  obtain ⟨hmotor, hvote⟩ := h
  unfold VoteLaw at hvote
  have hdecided := hmotor.decided
  cases hr : r.state <;> rw [hr] at hst hvote hdecided <;> cases hst
  all_goals exact ⟨hdecided nofun, by simpa [RailState.name] using hvote, nofun⟩

/-- A rule of the rail mends an end of travel that the vote set asks to leave, and neither enters nor leaves TESTING. -/
theorem State.railRule_fit {s' : State} (h : RailNear s.rail) (hr : s.railRule = some s') :
    RailFit s'.rail ∧ (s'.rail.state.name = .testing ↔ s.rail.state.name = .testing) := by
  have hvote := h.2
  have hdecided := h.1.decided
  have hoff := h.1.off
  unfold VoteLaw at hvote
  rcases State.railRule_where hr with ⟨hst, hvotes, rfl⟩ | ⟨hst, hvotes, rfl⟩ | ⟨dir, hst, hquiet, rfl⟩ | ⟨hst, rfl⟩ | ⟨hst, rfl⟩ |
    ⟨dir, hst, hdrives, hquiet, rfl⟩
  · rw [hst] at hdecided hoff
    refine ⟨State.enterRail_fit (hoff rfl) (hdecided nofun) ⟨nofun, nofun⟩ hvotes, ?_⟩
    rw [State.enterRail_rail, hst]
    exact ⟨nofun, nofun⟩
  · rw [hst] at hdecided hoff
    refine ⟨State.enterRail_fit (hoff rfl) (hdecided nofun) ⟨nofun, nofun⟩ hvotes, ?_⟩
    rw [State.enterRail_rail, hst]
    exact ⟨nofun, nofun⟩
  · obtain ⟨hdec, hvotes, hname⟩ := h.awaits hst
    refine ⟨State.beginMove_fit hquiet hdec hvotes, ?_⟩
    rw [State.beginMove_rail]
    cases dir <;> exact ⟨nofun, fun hn => absurd hn hname⟩
  · rw [hst] at hdecided hvote ⊢
    rw [State.arriveEngaged_rail]
    refine ⟨⟨motorLaw_of_off rfl ⟨nofun, nofun⟩ (.inl (hdecided nofun)), ?_⟩, ⟨nofun, nofun⟩⟩
    exact (by simpa [RailState.name] using hvote : s.rail.votes.any = true)
  · rw [hst] at hdecided hvote ⊢
    rw [State.arriveParked_rail]
    refine ⟨⟨motorLaw_of_off rfl ⟨nofun, nofun⟩ (.inl (hdecided nofun)), ?_⟩, ⟨nofun, nofun⟩⟩
    exact (by simpa [RailState.name] using hvote : s.rail.votes.any = false)
  · have hfit : VoteLaw s.rail := by
      unfold VoteLaw
      rcases hst with ⟨hst, -⟩ | hst
      · rw [hst]; trivial
      · rw [hst]; trivial
    refine ⟨State.startSegment_fit ⟨h.1, hfit⟩ hquiet (hst.elim (·.2) fun hname => hdecided fun hhome => ?_) hdrives, Iff.rfl⟩
    rw [hhome] at hname
    cases hname

/-- Where no rule acts, no end of travel is asked to be left. -/
theorem RailNear.fit_of_none (h : RailNear s.rail) (hr : s.railRule = none) : RailFit s.rail := by
  refine ⟨h.1, h.2.elim id fun hst => ?_⟩
  unfold State.railRule at hr
  rcases hst with hst | hst <;> simp only [hst] at hr <;> rw [VoteLaw, hst]
  · simpa [RailState.name] using hr
  · simpa [RailState.name] using hr

theorem State.settleFor_fit (n : Nat) {s : State} (h : RailFit s.rail) : RailFit (State.settleFor n s).rail := by
  induction n generalizing s with
  | zero => exact h
  | succ n ih =>
    unfold State.settleFor
    split
    · exact ih (State.railRule_fit h.near ‹_›).1
    · exact h

/-- The rail settles: it stands and moves as the vote set asks. -/
theorem State.settle_fit (h : RailNear s.rail) : RailFit s.settle.rail := by
  unfold State.settle State.settleFor
  split
  · exact State.settleFor_fit _ (State.railRule_fit h ‹_›).1
  · exact h.fit_of_none ‹_›

theorem State.settleFor_testing (n : Nat) {s : State} (h : RailNear s.rail) :
    (State.settleFor n s).rail.state.name = .testing ↔ s.rail.state.name = .testing := by
  induction n generalizing s with
  | zero => exact Iff.rfl
  | succ n ih =>
    unfold State.settleFor
    split
    · obtain ⟨hfit, hname⟩ := State.railRule_fit h ‹_›
      exact (ih hfit.near).trans hname
    · exact Iff.rfl

/-- No rule enters or leaves TESTING. -/
theorem State.settle_testing (h : RailNear s.rail) : s.settle.rail.state.name = .testing ↔ s.rail.state.name = .testing :=
  State.settleFor_testing 8 h

/-! ### The tests that the rail carries -/

/-- The rail's motor and vote set, and the tests that run (R79, R124, R216). -/
def CycleLaw (s : State) : Prop := RailFit s.rail ∧ TestLaw s

/-- The law sees the rail's state, motor, votes and decision, and the running test with its tone. -/
theorem RailFit.congr {r r' : Rail} (h : RailFit r) (state : r'.state = r.state := by rfl) (drive : r'.drive = r.drive := by rfl)
    (decided : r'.decided = r.decided := by rfl) (votes : r'.votes = r.votes := by rfl)
    (quiet : r.quiet.quiet = true → r'.quiet.quiet = true := by exact id) : RailFit r' := by
  obtain ⟨⟨hdriven, hmoving, hundecided⟩, hvotes⟩ := h
  refine ⟨⟨fun g hg => ?_, ?_, ?_⟩, ?_⟩
  · obtain ⟨hquiet, hdecided, hdir⟩ := hdriven g (drive ▸ hg)
    exact ⟨quiet hquiet, decided.trans hdecided, by rw [state, hdir]⟩
  · rw [state, drive]
    exact hmoving
  · rw [state, decided]
    exact hundecided
  · rw [VoteLaw, state, votes]
    exact hvotes

theorem TestLaw.congr {e : State} (h : TestLaw s) (name : e.rail.state.name = .testing ↔ s.rail.state.name = .testing := by exact Iff.rfl)
    (test : e.test = s.test := by rfl) (tone : e.tone.isSome = s.tone.isSome := by rfl) : TestLaw e := by
  rw [TestLaw, State.testKind, test, tone, name]
  exact h

theorem CycleLaw.congr {e : State} (h : CycleLaw s) (rail : e.rail = s.rail := by rfl) (test : e.test = s.test := by rfl)
    (tone : e.tone.isSome = s.tone.isSome := by rfl) : CycleLaw e :=
  ⟨rail ▸ h.1, h.2.congr (by rw [rail]) test tone⟩

/-- What a frame of the rail keeps of the running test. -/
theorem RailFrame.testLaw {e : State} (h : RailFrame s e) (hs : TestLaw s)
    (name : e.rail.state.name = .testing ↔ s.rail.state.name = .testing) : TestLaw e :=
  hs.congr name (by rw [h]) (by rw [h])

theorem RailNear.settle (h : RailNear s.rail) (hs : TestLaw s) : CycleLaw s.settle :=
  ⟨State.settle_fit h, s.settle_frame.testLaw hs (State.settle_testing h)⟩

/-- A rail out of TESTING with no tone: no rail cycle and no tone test runs but one that begins. -/
theorem testLaw_of_none (name : s.rail.state.name ≠ .testing) (tone : s.tone = none) (test : s.test = none) : TestLaw s := by
  rw [TestLaw, State.testKind, test, tone]
  exact ⟨⟨fun h => absurd h name, nofun⟩, nofun, nofun⟩

theorem State.finishRun_rail (s : State) (code detail : Nat) (m : Measure) (completed : Bool) :
    (s.finishRun code detail m completed).rail = s.rail ∧ (s.finishRun code detail m completed).tone = s.tone := by
  unfold State.finishRun
  split <;> exact ⟨rfl, rfl⟩

/-- A run that fails leaves no test. -/
theorem State.finishRun_law (fit : RailFit s.rail) (name : s.rail.state.name ≠ .testing) (tone : s.tone = none) {code : Nat}
    (failed : code ≠ 0) (detail : Nat) (m : Measure) (completed : Bool) : CycleLaw (s.finishRun code detail m completed) := by
  obtain ⟨hrail, htone⟩ := s.finishRun_rail code detail m completed
  exact ⟨hrail ▸ fit, testLaw_of_none (hrail ▸ name) (htone.trans tone) (s.finishRun_test_of_failed failed _ _ _)⟩

/-- A cycle that the rail takes finds it PARKED and leaves it in TESTING. -/
theorem State.takeCycle_law {e : State} (fit : RailFit s.rail) (tone : s.tone = none) (kind : s.testKind = some .railCycle)
    (h : s.takeCycle = some e) : CycleLaw e := by
  unfold State.takeCycle at h
  obtain ⟨⟨hst, -⟩, he⟩ := Option.ite_none_right_eq_some.mp h
  cases Option.some.inj he
  have hoff := fit.1.off
  have hdecided := fit.1.decided
  rw [hst] at hoff hdecided
  have hframe := s.enterRail_frame (.testing .inward 0 0)
  refine RailNear.settle (State.enterRail_fit (st := .testing .inward 0 0) (hoff rfl) (hdecided nofun) ⟨nofun, nofun⟩ trivial).near ?_
  rw [TestLaw, State.testKind, State.enterRail_rail, hframe]
  refine ⟨⟨fun _ => kind, fun _ => rfl⟩, ?_⟩
  show s.tone.isSome = true ↔ s.testKind = _
  rw [kind, tone]
  exact ⟨nofun, nofun⟩

theorem State.beginRun_law (fit : RailFit s.rail) (name : s.rail.state.name ≠ .testing) (tone : s.tone = none) {kind : TestKind}
    (other : kind ≠ .railCycle) (continuous : Bool) : CycleLaw (s.beginRun kind continuous) := by
  cases kind with
  | railCycle => exact absurd rfl other
  | sensorScan => exact ⟨fit, ⟨fun h => absurd h name, nofun⟩, by simp [State.beginRun, tone, State.testKind, TestRun.kind]⟩
  | tone => exact ⟨fit, ⟨fun h => absurd h name, nofun⟩, fun _ => rfl, fun _ => rfl⟩
  | readback => exact ⟨fit, ⟨fun h => absurd h name, nofun⟩, by simp [State.beginRun, tone, State.testKind, TestRun.kind]⟩

/-- The next run of a test begins on a rail out of TESTING with no tone. -/
theorem State.nextRun_law (fit : RailFit s.rail) (name : s.rail.state.name ≠ .testing) (tone : s.tone = none) :
    CycleLaw s.nextRun := by
  unfold State.nextRun
  cases hx : s.test with
  | none => exact ⟨fit, testLaw_of_none name tone hx⟩
  | some x =>
    simp only []
    split
    · rename_i hkind
      split
      · exact State.takeCycle_law fit tone (by rw [State.testKind, hx, Option.map_some, hkind]) ‹_›
      · exact State.finishRun_law fit name tone (by decide) _ _ _
    · exact State.beginRun_law fit name tone ‹_› _

theorem State.endRun_law (fit : RailFit s.rail) (name : s.rail.state.name ≠ .testing) (tone : s.tone = none) (code detail : Nat)
    (m : Measure) : CycleLaw (s.endRun code detail m) := by
  obtain ⟨hrail, htone⟩ := s.finishRun_rail code detail m true
  exact State.nextRun_law (hrail ▸ fit) (hrail ▸ name) (htone.trans tone)

/-- A test of another kind leaves the rail out of TESTING. -/
theorem TestLaw.name_ne {kind : TestKind} (h : TestLaw s) (hkind : s.testKind = some kind) (other : kind ≠ .railCycle) :
    s.rail.state.name ≠ .testing := fun hname => other (Option.some.inj (hkind.symm.trans (h.1.mp hname)))

theorem TestLaw.tone_none {kind : Option TestKind} (h : TestLaw s) (hkind : s.testKind = kind) (other : kind ≠ some .tone) :
    s.tone = none := by
  cases htone : s.tone with
  | none => rfl
  | some n => exact absurd (hkind.symm.trans (h.2.mp (by rw [htone]; rfl))) other

/-- Where the rail is in TESTING its cycle runs, and no tone. -/
theorem TestLaw.tone_of_testing (h : TestLaw s) (hname : s.rail.state.name = .testing) : s.tone = none :=
  h.tone_none (h.1.mp hname) nofun

/-! ### Quiet -/

/-- The end of a segment, in a state of which the vote set asks nothing. -/
theorem State.endSegment_fit (still : s.rail.state = .homing ∨ s.rail.state.name = .testing)
    (decided : s.rail.decided = true ∨ s.rail.state = .homing) : RailFit s.endSegment.rail := by
  have hname := s.endSegment_name
  have hstate (h : s.rail.state = .homing) : s.endSegment.rail.state = .homing := by
    rw [s.endSegment_rail.2.2.2 (by rw [h]; nofun), h]
  refine ⟨motorLaw_of_off s.endSegment_rail.1 ?_ (decided.imp (s.endSegment_decided.trans ·) hstate), ?_⟩
  · refine ⟨fun h => ?_, fun h => ?_⟩ <;> rw [h] at hname <;> rcases still with hst | hst <;> rw [hst] at hname <;> cases hname
  · rw [VoteLaw, hname]
    rcases still with hst | hst <;> rw [hst] <;> trivial

/-- Quiet that ends stops a motor that is driven (R64). -/
theorem State.endQuiet_law (h : CycleLaw s) (n : Nat) : CycleLaw (s.endQuiet n) := by
  obtain ⟨⟨hmotor, hvotes⟩, htest⟩ := h
  unfold VoteLaw at hvotes
  have hoff := hmotor.off
  have hdecided := hmotor.decided
  unfold State.endQuiet
  simp only []
  split
  · have hset : TestLaw (s.setQuiet { notAtRest := n, start := none, quiet := false }) := htest.congr
    have hx : (s.setQuiet { notAtRest := n, start := none, quiet := false }).rail =
      { s.rail with quiet := { notAtRest := n, start := none, quiet := false } } := rfl
    generalize s.setQuiet { notAtRest := n, start := none, quiet := false } = x at hset hx
    have hstate : x.rail.state = s.rail.state := by rw [hx]
    have hxdecided (hst : s.rail.state ≠ .homing) : x.rail.decided = true := by rw [hx]; exact hdecided hst
    have hpaused {st : RailState} (hhome : s.rail.state ≠ .homing) (hname : s.rail.state.name ≠ .testing)
        (hst : (st ≠ .movingIn ∧ st ≠ .movingOut) ∧ st.name ≠ .testing) (hpause : VoteLaw { x.rail with state := st }) :
        CycleLaw (x.endSegment.enterRail st) := by
      refine ⟨State.endSegment_enterRail_fit (hxdecided hhome) hst.1 hpause, ?_⟩
      refine (x.endSegment_frame.trans (State.enterRail_frame _ _)).testLaw hset ?_
      rw [State.enterRail_rail, hstate]
      exact ⟨fun h => absurd h hst.2, fun h => absurd h hname⟩
    have hstopped (still : x.rail.state = .homing ∨ x.rail.state.name = .testing)
        (hdec : x.rail.decided = true ∨ x.rail.state = .homing) : CycleLaw x.endSegment :=
      ⟨State.endSegment_fit still hdec, x.endSegment_frame.testLaw hset (by rw [State.endSegment_name])⟩
    have hstays (hdrives : s.rail.state.drives = none) : CycleLaw x := by
      refine ⟨⟨⟨fun g hg => ?_, ?_, ?_⟩, ?_⟩, hset⟩ <;> rw [hx] at *
      · rw [hoff hdrives] at hg
        cases hg
      · exact hmotor.2.1
      · exact hmotor.2.2
      · exact hvotes
    have hvotes' : s.rail.votes = x.rail.votes := by rw [hx]
    unfold State.loseQuiet
    rw [hvotes'] at hvotes
    cases hst : s.rail.state <;> rw [hst] at hvotes hpaused hxdecided hstays hstate <;> simp only [hstate]
    case movingIn => exact hpaused (st := .pausedIn) nofun nofun ⟨⟨nofun, nofun⟩, nofun⟩ hvotes
    case movingOut => exact hpaused (st := .pausedOut) nofun nofun ⟨⟨nofun, nofun⟩, nofun⟩ hvotes
    case homing => exact hstopped (.inl hstate) (.inr hstate)
    case testing => exact hstopped (.inr (by rw [hstate]; rfl)) (.inl (hxdecided nofun))
    all_goals exact hstays rfl
  · rename_i hquiet
    refine ⟨RailFit.congr ⟨hmotor, hvotes⟩ (quiet := fun hq => absurd hq hquiet), htest.congr⟩

theorem State.setQuiet_law (h : CycleLaw s) (q : Quiet) (quiet : s.rail.quiet.quiet = true → q.quiet = true) :
    CycleLaw (s.setQuiet q) := ⟨h.1.congr (quiet := quiet), h.2.congr⟩

theorem State.restReport_law (h : CycleLaw s) (before after : Bool) : CycleLaw (s.restReport before after) := by
  cases before <;> cases after
  · exact h
  · exact State.setQuiet_law h _ id
  · exact State.endQuiet_law h _
  · exact h

theorem State.quietAfterLearn_law (h : CycleLaw s) : CycleLaw s.quietAfterLearn := by
  unfold State.quietAfterLearn
  split
  · exact State.setQuiet_law h _ id
  · exact h

theorem State.judgeQuiet_law (h : CycleLaw s) : CycleLaw s.judgeQuiet := by
  unfold State.judgeQuiet State.quietArrives
  split
  · obtain ⟨hfit, htest⟩ := State.setQuiet_law h { s.rail.quiet with start := none, quiet := true } fun _ => rfl
    exact RailNear.settle hfit.near htest
  · exact h

/-! ### Arrivals, the vote set, faults -/

theorem State.arriveParked_law (h : CycleLaw s) (decided : s.rail.decided = true) (name : s.rail.state.name ≠ .testing) :
    CycleLaw s.arriveParked.settle := by
  refine RailNear.settle (State.arriveParked_near decided) (s.arriveParked_frame.testLaw h.2 ?_)
  rw [State.arriveParked_rail]
  exact ⟨nofun, fun hn => absurd hn name⟩

theorem State.arriveEngaged_law (h : CycleLaw s) (decided : s.rail.decided = true) (name : s.rail.state.name ≠ .testing) :
    CycleLaw s.arriveEngaged.settle := by
  refine RailNear.settle (State.arriveEngaged_near decided) (s.arriveEngaged_frame.testLaw h.2 ?_)
  rw [State.arriveEngaged_rail]
  exact ⟨nofun, fun hn => absurd hn name⟩

theorem RailState.drives_pending {st : RailState} (h : st.name = .pendingIn ∨ st.name = .pendingOut) : st.drives = none := by
  cases st <;> simp [RailState.name, RailState.drives] at h ⊢

/-- The rail follows its vote set, whatever it was before, and stays in TESTING or out of it (R69, R73). -/
theorem State.votesChanged_fit (hmotor : MotorLaw s.rail) : RailFit s.votesChanged.rail ∧
    (s.votesChanged.rail.state.name = .testing ↔ s.rail.state.name = .testing) := by
  have hoff := hmotor.off
  have hdecided := hmotor.decided
  have hsettled {x : State} (hx : RailNear x.rail) (hname : x.rail.state.name = .testing ↔ s.rail.state.name = .testing) :
      RailFit x.settle.rail ∧ (x.settle.rail.state.name = .testing ↔ s.rail.state.name = .testing) :=
    ⟨State.settle_fit hx, (State.settle_testing hx).trans hname⟩
  have hentered {st : RailState} (hname : s.rail.state.name ≠ .testing) (hst : st.name ≠ .testing)
      (hnear : RailNear (s.enterRail st).rail) : RailFit (s.enterRail st).settle.rail ∧
        ((s.enterRail st).settle.rail.state.name = .testing ↔ s.rail.state.name = .testing) := by
    refine hsettled hnear ?_
    rw [State.enterRail_rail]
    exact ⟨fun h => absurd h hst, fun h => absurd h hname⟩
  have hturned {dir : Travel} (hmove : s.rail.state = .movingIn ∨ s.rail.state = .movingOut)
      (hvotes : s.rail.votes.any = decide (dir = .inward)) : RailFit (s.reverse dir).settle.rail ∧
        ((s.reverse dir).settle.rail.state.name = .testing ↔ s.rail.state.name = .testing) := by
    obtain ⟨g, hg⟩ := Option.isSome_iff_exists.mp (hmotor.2.1 hmove)
    have hframe := s.endSegment_railOnly.2.kept
    have hfit : RailFit (s.reverse dir).rail := State.beginMove_fit (by rw [hframe.2.2.2.2.2.2.2]; exact (hmotor.1 g hg).1)
      (by rw [s.endSegment_decided]; exact (hmotor.1 g hg).2.1) (by rw [s.endSegment_votes, hvotes])
    refine hsettled hfit.near ?_
    unfold State.reverse
    rw [State.beginMove_rail]
    rcases hmove with h | h <;> rw [h] <;> cases dir <;> exact ⟨nofun, nofun⟩
  rcases s.votesChanged_cases with ⟨hundecided, h⟩ | ⟨hdec, ⟨hst, -, h⟩ | ⟨hst, -, h⟩ | ⟨hst, hvotes, h⟩ | ⟨hst, hvotes, h⟩ |
    ⟨hst, hvotes, h⟩ | ⟨hst, hvotes, h⟩ | ⟨hst, hvotes, h⟩ | ⟨hst, hvotes, h⟩ | ⟨hvotes, h⟩⟩ <;> rw [h]
  · refine ⟨⟨hmotor, ?_⟩, Iff.rfl⟩
    rw [VoteLaw, hmotor.2.2 hundecided]
    trivial
  · exact hsettled ⟨hmotor, .inr (.inl hst)⟩ Iff.rfl
  · exact hsettled ⟨hmotor, .inr (.inr hst)⟩ Iff.rfl
  · exact hentered (by rw [hst]; nofun) nofun
      (State.enterRail_fit (st := .parked) (hoff (RailState.drives_pending (.inl hst))) hdec ⟨nofun, nofun⟩ hvotes).near
  · exact hentered (by rw [hst]; nofun) nofun
      (State.enterRail_fit (st := .engaged) (hoff (RailState.drives_pending (.inr hst))) hdec ⟨nofun, nofun⟩ hvotes).near
  · exact hturned (.inl hst) hvotes
  · exact hturned (.inr hst) hvotes
  · rw [hst] at hoff hentered
    exact hst ▸ hentered nofun nofun (State.enterRail_fit (st := .pausedOut) (hoff rfl) hdec ⟨nofun, nofun⟩ hvotes).near
  · rw [hst] at hoff hentered
    exact hst ▸ hentered nofun nofun (State.enterRail_fit (st := .pausedIn) (hoff rfl) hdec ⟨nofun, nofun⟩ hvotes).near
  · refine ⟨⟨hmotor, hvotes.elim id fun hname => ?_⟩, Iff.rfl⟩
    show VoteLaw s.rail
    rw [VoteLaw, hname]
    trivial

theorem State.votesChanged_law (hmotor : MotorLaw s.rail) (htest : TestLaw s) : CycleLaw s.votesChanged :=
  ⟨(State.votesChanged_fit hmotor).1, s.votesChanged_railOnly.1.testLaw htest (State.votesChanged_fit hmotor).2⟩

theorem State.setVotes_law (h : CycleLaw s) (v : Votes) : CycleLaw (s.setVotes v) := by
  obtain ⟨⟨⟨hdriven, hmoving, hundecided⟩, -⟩, htest⟩ := id h
  unfold State.setVotes
  split
  · exact h
  · exact State.votesChanged_law (s := s.setRail { s.rail with votes := v }) ⟨hdriven, hmoving, hundecided⟩ htest

theorem RailState.testing_of_name {st : RailState} (h : st.name = .testing) : ∃ p a b, st = .testing p a b := by
  cases st <;> cases h
  exact ⟨_, _, _, rfl⟩

/-- A cycle that is aborted leaves the rail out of TESTING, as the switches and the vote set ask (R81). -/
theorem State.abortCycle_fit (fit : RailFit s.rail) (hst : s.rail.state.name = .testing) :
    RailFit s.abortCycle.rail ∧ s.abortCycle.rail.state.name ≠ .testing := by
  have hdecided : s.rail.decided = true := fit.1.decided fun h => by rw [h] at hst; cases hst
  have hleft {x : State} (h : RailNear x.rail) (hname : x.rail.state.name ≠ .testing) :
      RailFit x.settle.rail ∧ x.settle.rail.state.name ≠ .testing :=
    ⟨State.settle_fit h, fun hn => hname ((State.settle_testing h).mp hn)⟩
  have hpaused {st : RailState} (hmove : st ≠ .movingIn ∧ st ≠ .movingOut) (hname : st.name ≠ .testing)
      (hvotes : VoteLaw { s.rail with state := st }) : RailFit (s.endSegment.enterRail st).settle.rail ∧
        (s.endSegment.enterRail st).settle.rail.state.name ≠ .testing := by
    refine hleft (State.endSegment_enterRail_fit hdecided hmove hvotes).near ?_
    rw [State.enterRail_rail]
    exact hname
  unfold State.abortCycle
  split
  · split
    · exact hleft (State.arriveParked_near hdecided) (by rw [State.arriveParked_rail]; nofun)
    · split
      · exact hleft (State.arriveEngaged_near hdecided) (by rw [State.arriveEngaged_rail]; nofun)
      · split
        · exact hpaused (st := .pausedIn) ⟨nofun, nofun⟩ nofun ‹_›
        · rename_i hvotes
          exact hpaused (st := .pausedOut) ⟨nofun, nofun⟩ nofun (Bool.eq_false_iff.mpr hvotes)
  · rename_i hno
    obtain ⟨p, a, b, hs⟩ := RailState.testing_of_name hst
    exact absurd hs (hno _ _ _)

theorem State.abortTest_law (h : CycleLaw s) (detail : Nat) : CycleLaw (s.abortTest detail) := by
  obtain ⟨hfit, htest⟩ := id h
  unfold State.abortTest
  split
  · exact h
  · rename_i x hx
    have hkind : s.testKind = some x.run.kind := by rw [State.testKind, hx]; rfl
    simp only []
    cases hrun : x.run with
    | railCycle =>
      rw [hrun] at hkind
      have hname := htest.1.mpr hkind
      obtain ⟨hleft, hout⟩ := State.abortCycle_fit hfit hname
      exact State.finishRun_law hleft hout (by rw [s.abortCycle_railOnly.1]; exact htest.tone_of_testing hname) (by decide) _ _ _
    | tone =>
      rw [hrun] at hkind
      exact State.finishRun_law (s := { s with tone := none }) hfit (htest.name_ne hkind nofun) rfl (code := 255) (by decide) _ _ _
    | sensorScan =>
      rw [hrun] at hkind
      exact State.finishRun_law hfit (htest.name_ne hkind nofun) (htest.tone_none hkind nofun) (by decide) _ _ _
    | readback =>
      rw [hrun] at hkind
      exact State.finishRun_law hfit (htest.name_ne hkind nofun) (htest.tone_none hkind nofun) (by decide) _ _ _

/-- A fault stops the motor, and ends a cycle that runs (R76). -/
theorem State.railFault_law (htest : TestLaw s) (decided : s.rail.decided = true) (cause : RailFault) :
    CycleLaw (s.railFault cause) := by
  have hfit : RailFit ((s.endSegment.setRail { s.endSegment.rail with segCount := none }).enterRail (.fault cause)).rail :=
    State.enterRail_fit (s := s.endSegment.setRail { s.endSegment.rail with segCount := none }) s.endSegment_rail.1
      (s.endSegment_decided.trans decided) ⟨nofun, nofun⟩ trivial
  have hframe : RailFrame s ((s.endSegment.setRail { s.endSegment.rail with segCount := none }).enterRail (.fault cause)) :=
    (s.endSegment_frame.trans (State.setRail_frame _ _)).trans (State.enterRail_frame _ _)
  have hname : ((s.endSegment.setRail { s.endSegment.rail with segCount := none }).enterRail (.fault cause)).rail.state.name ≠
      .testing := by
    rw [State.enterRail_rail]
    nofun
  unfold State.railFault
  simp only []
  generalize (s.endSegment.setRail { s.endSegment.rail with segCount := none }).enterRail (.fault cause) = x at hfit hframe hname ⊢
  split
  · rename_i p a b hst
    exact State.endRun_law hfit hname (by rw [hframe]; exact htest.tone_of_testing (by rw [hst]; rfl)) _ _ _
  · rename_i hno
    refine ⟨hfit, hframe.testLaw htest ⟨fun hn => absurd hn hname, fun hn => ?_⟩⟩
    obtain ⟨p, a, b, hs⟩ := RailState.testing_of_name hn
    exact absurd hs (hno _ _ _)

/-! ### The phases of a cycle -/

/-- The inward phase of a cycle that runs goes over to the outward one; the count is the engaged one, where known (R80). -/
theorem State.testInwardDone_of_testing {p : Travel} {a b : Nat} (h : s.endSegment.rail.state = .testing p a b) : ∃ c : Int,
    s.testInwardDone = ((s.endSegment.setRail { s.endSegment.rail with count := c }).enterRail (.testing .outward a b)).settle := by
  refine ⟨match s.endSegment.rail.segCount with | some c => (c : Int) | none => s.endSegment.rail.count, ?_⟩
  unfold State.testInwardDone State.setRail
  simp only [h] <;> rfl

theorem State.testInwardDone_law (h : CycleLaw s) (hst : s.rail.state.name = .testing) : CycleLaw s.testInwardDone := by
  obtain ⟨hfit, htest⟩ := h
  have hdecided : s.rail.decided = true := hfit.1.decided fun hs => by rw [hs] at hst; cases hst
  obtain ⟨p, a, b, hseg⟩ := RailState.testing_of_name (s.endSegment_name.trans hst)
  obtain ⟨c, heq⟩ := State.testInwardDone_of_testing hseg
  rw [heq]
  have hturned : RailFit ((s.endSegment.setRail { s.endSegment.rail with count := c }).enterRail (.testing .outward a b)).rail :=
    State.enterRail_fit (s := s.endSegment.setRail { s.endSegment.rail with count := c }) s.endSegment_rail.1
      (s.endSegment_decided.trans hdecided) ⟨nofun, nofun⟩ trivial
  refine RailNear.settle hturned.near
    (((s.endSegment_frame.trans (State.setRail_frame _ _)).trans (State.enterRail_frame _ _)).testLaw htest ?_)
  rw [State.enterRail_rail]
  exact ⟨fun _ => hst, fun _ => rfl⟩

theorem State.testOutwardDone_law (h : CycleLaw s) (hst : s.rail.state.name = .testing) : CycleLaw s.testOutwardDone := by
  obtain ⟨hfit, htest⟩ := id h
  have hdecided : s.rail.decided = true := hfit.1.decided fun hs => by rw [hs] at hst; cases hst
  unfold State.testOutwardDone
  split
  · rename_i a b _
    obtain ⟨hrail, htone⟩ := s.arriveParked.finishRun_rail 0 0 (.travel (a / 1000) (b / 1000)) true
    generalize s.arriveParked.finishRun 0 0 (.travel (a / 1000) (b / 1000)) true = x at hrail htone
    have hnear : RailNear x.rail := hrail ▸ State.arriveParked_near hdecided
    have hname : x.settle.rail.state.name ≠ .testing := fun hn => by
      have := (State.settle_testing hnear).mp hn
      rw [hrail, State.arriveParked_rail] at this
      cases this
    refine State.nextRun_law (State.settle_fit hnear) hname ?_
    rw [x.settle_frame]
    refine htone.trans ?_
    rw [s.arriveParked_frame]
    exact htest.tone_of_testing hst
  · exact h

/-! ### The inputs of the rail -/

theorem State.switchChanged_law (h : CycleLaw s) (x : EndSwitch) (made : Bool) : CycleLaw (s.switchChanged x made) := by
  unfold State.switchChanged
  split
  · rename_i hdecided
    have hname {st : RailState} (hs : s.rail.state = st) (hst : st.name ≠ .testing) : s.rail.state.name ≠ .testing := hs ▸ hst
    split
    · exact h
    · split
      · exact State.railFault_law h.2 hdecided _
      · split
        · exact State.arriveEngaged_law h hdecided (hname (st := .movingIn) ‹_› nofun)
        · exact State.arriveEngaged_law h hdecided (hname (st := .pausedIn) ‹_› nofun)
        · exact State.arriveParked_law h hdecided (hname (st := .movingOut) ‹_› nofun)
        · exact State.arriveParked_law h hdecided (hname (st := .pausedOut) ‹_› nofun)
        · exact State.arriveParked_law h hdecided (hname (st := .homing) ‹_› nofun)
        · exact State.testInwardDone_law h (by simp only [*]; rfl)
        · exact State.testOutwardDone_law h (by simp only [*]; rfl)
        · exact h
  · exact h

theorem State.indexSeen_law (h : CycleLaw s) : CycleLaw s.indexSeen := by
  have hset : CycleLaw (s.setRail { s.rail with count := 0 }) := ⟨h.1.congr, h.2.congr⟩
  unfold State.indexSeen
  generalize s.setRail { s.rail with count := 0 } = x at hset
  simp only []
  split
  · rename_i hdecided
    have hname {st : RailState} (hs : x.rail.state = st) (hst : st.name ≠ .testing) : x.rail.state.name ≠ .testing := hs ▸ hst
    split
    · exact State.arriveParked_law hset hdecided (hname (st := .movingOut) ‹_› nofun)
    · exact State.arriveParked_law hset hdecided (hname (st := .pausedOut) ‹_› nofun)
    · exact State.arriveParked_law hset hdecided (hname (st := .homing) ‹_› nofun)
    · exact State.testOutwardDone_law hset (by simp only [*]; rfl)
    · exact hset
  · exact hset

theorem State.edgeSeen_law (h : CycleLaw s) (sense : Travel) : CycleLaw (s.edgeSeen sense) := by
  have hset : CycleLaw (s.setRail { s.rail with
      count := countEdge s.rail.count sense, drive := s.rail.drive.map (fun g => { g with lastEdge := s.now }) }) := by
    obtain ⟨⟨⟨hdriven, hmoving, hundecided⟩, hvotes⟩, htest⟩ := h
    refine ⟨⟨⟨fun g hg => ?_, fun hst => ?_, hundecided⟩, hvotes⟩, htest.congr⟩
    · obtain ⟨g', hg', rfl⟩ := Option.map_eq_some_iff.mp hg
      exact hdriven g' hg'
    · show (s.rail.drive.map _).isSome = true
      rw [Option.isSome_map]
      exact hmoving hst
  unfold State.edgeSeen
  generalize s.setRail { s.rail with
      count := countEdge s.rail.count sense, drive := s.rail.drive.map (fun g => { g with lastEdge := s.now }) } = x at hset
  simp only []
  split
  · rename_i hover
    obtain ⟨g, hg⟩ := Option.isSome_iff_exists.mp (Bool.and_eq_true_iff.mp (Bool.and_eq_true_iff.mp hover).1).1
    exact State.railFault_law hset.2 (hset.1.1.1 g hg).2.1 _
  · exact hset

theorem State.notice_law (h : CycleLaw s) : CycleLaw s.notice := by
  obtain ⟨⟨hmotor, hvotes⟩, htest⟩ := id h
  have hoff := hmotor.off
  have hdecided := hmotor.decided
  have htold {st : RailState} (hst : st.name = s.rail.state.name) (hdrives : s.rail.state.drives = none)
      (hmove : st ≠ .movingIn ∧ st ≠ .movingOut) (hhome : s.rail.state ≠ .homing) :
      CycleLaw ((s.setRail { s.rail with state := st }).railRecord true) := by
    refine ⟨⟨motorLaw_of_off (hoff hdrives) hmove (.inl (hdecided hhome)), ?_⟩, htest.congr (Eq.congr hst rfl)⟩
    show VoteLaw { s.rail with state := st }
    rw [VoteLaw, hst]
    exact hvotes
  unfold State.notice
  split
  · rename_i hst
    rw [hst] at htold
    split
    · exact htold rfl rfl ⟨nofun, nofun⟩ nofun
    · exact h
  · rename_i hst
    rw [hst] at htold
    split
    · exact htold rfl rfl ⟨nofun, nofun⟩ nofun
    · exact h
  · exact h

theorem State.recoverRail_law (h : CycleLaw s) (fault : s.rail.state.isFault = true) : CycleLaw s.recoverRail := by
  have hst : s.rail.state ≠ .homing ∧ s.rail.state.name ≠ .testing ∧ s.rail.state.drives = none := by
    cases hs : s.rail.state <;> rw [hs] at fault <;> cases fault
    exact ⟨nofun, nofun, rfl⟩
  obtain ⟨hhome, hname, hdrives⟩ := hst
  have hdecided := h.1.1.decided hhome
  have hrail := s.enterRail_rail .homing
  have hentered : CycleLaw (s.enterRail .homing) := by
    refine ⟨State.enterRail_fit (st := .homing) (h.1.1.off hdrives) hdecided ⟨nofun, nofun⟩ trivial, ?_⟩
    refine (s.enterRail_frame .homing).testLaw h.2 ?_
    rw [hrail]
    exact ⟨nofun, fun hn => absurd hn hname⟩
  have hdec : (s.enterRail .homing).rail.decided = true := by rw [hrail]; exact hdecided
  unfold State.recoverRail
  simp only []
  split
  · exact State.railFault_law hentered.2 hdec _
  · split
    · exact State.arriveParked_law hentered hdec (by rw [hrail]; nofun)
    · exact RailNear.settle hentered.1.near hentered.2

theorem RailEffect.law {i : Instr} {e : State} (h : RailEffect i s e) (hs : CycleLaw s) : CycleLaw e := by
  have hdecided (hd : s.rail.drive.isSome = true) : s.rail.decided = true := by
    obtain ⟨g, hg⟩ := Option.isSome_iff_exists.mp hd
    exact (hs.1.1.1 g hg).2.1
  have hset (r : Rail) (hr : RailFit r) (hst : r.state = s.rail.state) : CycleLaw (s.setRail r) :=
    ⟨hr, hs.2.congr (by rw [← hst]; rfl)⟩
  cases h with
  | leverRaw => exact hset _ hs.1.congr rfl
  | lever => exact State.setVotes_law hs _
  | edge => exact State.edgeSeen_law hs _
  | index => exact State.indexSeen_law hs
  | @switchRaw _ x => cases x <;> exact hset _ hs.1.congr rfl
  | @switch _ x =>
    refine State.switchChanged_law ?_ _ _
    cases x <;> exact hset _ hs.1.congr rfl
  | quiet => exact State.judgeQuiet_law hs
  | notice => exact State.notice_law hs
  | stall driven => exact State.railFault_law hs.2 (hdecided driven) _
  | timeout driven => exact State.railFault_law hs.2 (hdecided driven) _
  | vote => exact State.setVotes_law hs _
  | recover _ _ fault => exact State.recoverRail_law hs fault

/-! ### The tests -/

theorem State.testKind_eq {x : Test} (h : s.test = some x) : s.testKind = some x.run.kind := by rw [State.testKind, h]; rfl

theorem TestRun.eq_tone {r : TestRun} (h : r.kind = .tone) : r = .tone := by
  cases r with
  | tone => rfl
  | _ => cases h

theorem State.toneDone_law (hs : CycleLaw s) : CycleLaw s.toneDone := by
  obtain ⟨hfit, htest⟩ := hs
  unfold State.toneDone
  simp only []
  split
  · rename_i x hx
    have hkind := State.testKind_eq (s := s) hx
    split
    · rename_i hrun
      rw [hrun] at hkind
      exact State.endRun_law (s := { s with tone := none }) hfit (htest.name_ne hkind nofun) rfl _ _ _
    · rename_i hrun
      refine ⟨hfit, htest.1, ?_⟩
      show none.isSome = true ↔ s.testKind = some .tone
      rw [hkind]
      exact ⟨nofun, fun h => absurd (TestRun.eq_tone (Option.some.inj h)) hrun⟩
  · rename_i hx
    refine ⟨hfit, htest.1, ?_⟩
    show none.isSome = true ↔ s.testKind = some .tone
    rw [State.testKind, show s.test = none from hx]
    exact ⟨nofun, nofun⟩

/-- The image that a readback compares with is that of the readback that runs. -/
theorem State.readback_kind {x : List Byte × Time} (h : s.readback = some x) : s.testKind = some .readback := by
  unfold State.readback at h
  split at h
  · rename_i hx
    exact State.testKind_eq hx
  · cases h

theorem State.readbackDone_law (hs : CycleLaw s) : CycleLaw s.readbackDone := by
  have hend {x : List Byte × Time} (h : s.readback = some x) (code detail : Nat) (m : Measure) : CycleLaw (s.endRun code detail m) :=
    State.endRun_law hs.1 (hs.2.name_ne (State.readback_kind h) nofun) (hs.2.tone_none (State.readback_kind h) nofun) _ _ _
  unfold State.readbackDone
  split
  · rename_i h
    split <;> exact hend h _ _ _
  · exact hs

theorem State.readbackExpires_law (hs : CycleLaw s) : CycleLaw s.readbackExpires := by
  unfold State.readbackExpires
  split
  · rename_i h
    split
    · exact State.endRun_law hs.1 (hs.2.name_ne (State.readback_kind h) nofun) (hs.2.tone_none (State.readback_kind h) nofun) _ _ _
    · exact hs
  · exact hs

theorem State.startTest_law {kind : TestKind} {continuous : Bool} {e : State} (hs : CycleLaw s) (idle : s.test = none)
    (h : s.startTest kind continuous = some e) : CycleLaw e := by
  have hkind : s.testKind = none := by rw [State.testKind, idle]; rfl
  have hname : s.rail.state.name ≠ .testing := fun hn => by
    have := hs.2.1.mp hn
    rw [hkind] at this
    cases this
  have htone := hs.2.tone_none hkind nofun
  have hbegun (k : TestKind) (hk : k ≠ .railCycle) : CycleLaw (State.beginRun { s with runs := 0 } k continuous) :=
    State.beginRun_law (s := { s with runs := 0 }) hs.1 hname htone hk _
  unfold State.startTest at h
  cases kind with
  | railCycle => exact State.takeCycle_law (s := State.beginRun { s with runs := 0 } .railCycle continuous) hs.1 htone rfl h
  | sensorScan => cases h; exact hbegun _ nofun
  | tone => cases h; exact hbegun _ nofun
  | readback => cases h; exact hbegun _ nofun

theorem TestEffect.law {i : Instr} {e : State} (h : TestEffect i s e) (hs : CycleLaw s) : CycleLaw e := by
  cases h with
  | toneEnd => exact State.toneDone_law hs
  | readback => exact State.readbackDone_law hs
  | readbackNoAnswer => exact State.readbackExpires_law hs
  | runTest _ _ idle starts => exact State.startTest_law hs idle starts
  | stopTest => exact State.abortTest_law hs _

theorem State.scanReading_law (k : KeyIx) (c : KeyCal) (raw : Nat) (hs : CycleLaw s) : CycleLaw (s.scanReading k c raw) := by
  unfold State.scanReading
  split
  · rename_i cont judged failing hx
    have hkind := State.testKind_eq hx
    have hjudged (test : Option Test) (htest : test.map (fun x => x.run.kind) = some .sensorScan) :
        CycleLaw { s with test := test } := by
      refine ⟨hs.1, ?_⟩
      rw [TestLaw, State.testKind, htest]
      exact ⟨hkind ▸ hs.2.1, hkind ▸ hs.2.2⟩
    have hend (test : Option Test) (code detail : Nat) (m : Measure) : CycleLaw (State.endRun { s with test := test } code detail m) :=
      State.endRun_law (s := { s with test := test }) hs.1 (hs.2.name_ne hkind nofun) (hs.2.tone_none hkind nofun) _ _ _
    simp only []
    split
    · exact hs
    · split
      · exact hend _ _ _ _
      · exact hjudged _ rfl
  · exact hs

end Operations

end Sys2Proof.Machine
end

section
/-! The quiet record counts the keys that are not at rest (R63); the rail's laws over every command. -/

namespace Sys2Proof.Machine

-- One declaration after another: side by side they open more threads than the check's memory limit holds.
set_option Elab.async false

/-! ### The count -/

/-- Two tests that agree but at one member count alike but for that member. -/
theorem countP_of_agree {α : Type} [DecidableEq α] {p q : α → Bool} {x : α} (agree : ∀ y, y ≠ x → p y = q y) :
    ∀ {l : List α}, l.Nodup → x ∈ l → l.countP p + (q x).toNat = l.countP q + (p x).toNat
  | y :: l, hnodup, hmem => by
    obtain ⟨hy, hnodup⟩ := List.nodup_cons.mp hnodup
    rw [List.countP_cons, List.countP_cons]
    by_cases hx : y = x
    · subst hx
      have hrest : l.countP p = l.countP q := List.countP_congr fun z hz => by rw [agree z fun h => hy (h ▸ hz)]
      rw [hrest]
      cases p y <;> cases q y <;> simp
    · have := countP_of_agree agree hnodup ((List.mem_cons.mp hmem).resolve_left (Ne.symm hx))
      rw [agree y hx]
      omega

/-- The key is not at rest. -/
def State.awake (s : State) (k : KeyIx) : Bool := !(s.key k).state.atRest

theorem State.keysAwake_eq (s : State) : s.keysAwake = (List.finRange 88).countP s.awake := by
  rw [State.keysAwake, List.countP_eq_length_filter]
  rfl

theorem State.keysAwake_congr {s s' : State} (h : ∀ k : KeyIx, (s'.key k).state.atRest = (s.key k).state.atRest) :
    s'.keysAwake = s.keysAwake := by
  rw [State.keysAwake_eq, State.keysAwake_eq]
  exact congrArg (fun f => List.countP f _) (funext fun k => by rw [State.awake, State.awake, h])

/-- One key alone changes the count. -/
theorem State.keysAwake_of_key {s s' : State} {k : KeyIx}
    (others : ∀ j : KeyIx, j ≠ k → (s'.key j).state.atRest = (s.key j).state.atRest) :
    s'.keysAwake + (s.awake k).toNat = s.keysAwake + (s'.awake k).toNat := by
  rw [State.keysAwake_eq, State.keysAwake_eq]
  exact countP_of_agree (fun j hj => by rw [State.awake, State.awake, others j hj]) (List.nodup_finRange 88) (List.mem_finRange k)

theorem State.keysAwake_pos {s : State} {k : KeyIx} (h : s.awake k = true) : 0 < s.keysAwake := by
  rw [State.keysAwake_eq]
  exact List.countP_pos_iff.mpr ⟨k, List.mem_finRange k, h⟩

/-! ### The quiet record -/

section Record
variable {s : State}

/-- The law sees the keys' rest, the quiet record, the learn and the phase. -/
theorem QuietLaw.congr {e : State} (h : QuietLaw s) (quiet : e.rail.quiet = s.rail.quiet := by rfl)
    (keys : ∀ k : KeyIx, (e.key k).state.atRest = (s.key k).state.atRest := by exact fun _ => rfl)
    (learn : e.learn = s.learn ∨ e.learn = none := by exact .inl rfl)
    (phase : e.startUp.phase = .loading → s.startUp.phase = .loading := by exact id) : QuietLaw e := by
  obtain ⟨hcount, hquiet, hloading⟩ := h
  have hlearn (hnone : s.learn = none) : e.learn = none := learn.elim (·.trans hnone) id
  refine ⟨?_, ?_, fun hp => ?_⟩
  · rw [quiet, State.keysAwake_congr keys, hcount]
  · rw [quiet]
    exact fun hq => (hquiet hq).imp_right hlearn
  · rw [quiet]
    exact (hloading (phase hp)).imp_right hlearn

/-- A key that has left rest is counted, and quiet is lost. -/
theorem QuietLaw.left {k : KeyIx} {x : State} (h : QuietLaw s) (quiet : x.rail.quiet = s.rail.quiet)
    (others : ∀ j : KeyIx, j ≠ k → (x.key j).state.atRest = (s.key j).state.atRest) (before : (s.key k).state.atRest = true)
    (after : (x.key k).state.atRest = false) (phase : x.startUp.phase ≠ .loading) : QuietLaw x.keyLeft := by
  have hquiet : x.keyLeft.rail.quiet = { notAtRest := x.rail.quiet.notAtRest + 1, start := none, quiet := false } :=
    x.endQuiet_quiet _
  have hframe := x.keyLeft_frame
  have hcount := State.keysAwake_of_key others
  have hkeys : x.keyLeft.keysAwake = x.keysAwake := State.keysAwake_congr fun j => by rw [hframe]; rfl
  refine ⟨?_, fun hq => ?_, fun hp => ?_⟩
  · rw [hquiet, hkeys]
    simp only [State.awake, before, after, Bool.not_true, Bool.not_false, Bool.toNat_false, Bool.toNat_true] at hcount
    show x.rail.quiet.notAtRest + 1 = _
    rw [quiet, h.1]
    omega
  · rw [hquiet] at hq
    simp at hq
  · rw [hframe] at hp
    exact absurd hp phase

/-- A key that has returned is no longer counted; the last one sets the quiet start, unless a learn is active. -/
theorem QuietLaw.returned {k : KeyIx} {x : State} (h : QuietLaw s) (quiet : x.rail.quiet = s.rail.quiet)
    (others : ∀ j : KeyIx, j ≠ k → (x.key j).state.atRest = (s.key j).state.atRest) (before : (s.key k).state.atRest = false)
    (after : (x.key k).state.atRest = true) (phase : x.startUp.phase = .loading → s.startUp.phase = .loading) :
    QuietLaw x.keyReturned := by
  have hcount := State.keysAwake_of_key others
  have hpos : 0 < s.keysAwake := State.keysAwake_pos (k := k) (by rw [State.awake, before]; rfl)
  have hsome : ¬ (s.rail.quiet.start.isSome = true ∨ s.rail.quiet.quiet = true) := fun hq => by
    have := (h.2.1 hq).1
    rw [h.1] at this
    omega
  obtain ⟨hstart, hno⟩ : s.rail.quiet.start = none ∧ s.rail.quiet.quiet = false := by simpa [not_or] using hsome
  refine ⟨?_, fun hq => ?_, fun hp => ?_⟩
  · simp only [State.awake, before, after, Bool.not_true, Bool.not_false, Bool.toNat_false, Bool.toNat_true] at hcount
    show x.rail.quiet.notAtRest - 1 = x.keysAwake
    rw [quiet, h.1]
    omega
  · have hq' : (if x.rail.quiet.notAtRest - 1 = 0 ∧ x.learn = none then some x.now else x.rail.quiet.start).isSome = true ∨
        x.rail.quiet.quiet = true := hq
    rw [quiet, hno, hstart] at hq'
    show x.rail.quiet.notAtRest - 1 = 0 ∧ x.learn = none
    rw [quiet]
    by_contra hne
    rw [if_neg hne] at hq'
    simp at hq'
  · have := (h.2.2 (phase hp)).1
    rw [h.1] at this
    omega

/-- What the rail is told of a key keeps the count. -/
theorem QuietLaw.told {k : KeyIx} {x : State} (h : QuietLaw s) (quiet : x.rail.quiet = s.rail.quiet)
    (others : ∀ j : KeyIx, j ≠ k → (x.key j).state.atRest = (s.key j).state.atRest) (learn : x.learn = s.learn)
    (phase : x.startUp.phase = s.startUp.phase) (loaded : s.startUp.phase ≠ .loading) : QuietLaw (s.restTold x k) := by
  have hstays (hsame : (x.key k).state.atRest = (s.key k).state.atRest) : QuietLaw x :=
    h.congr quiet (fun j => if hj : j = k then hj ▸ hsame else others j hj) (.inl learn) (by rw [phase]; exact id)
  unfold State.restTold
  cases hbefore : (s.key k).state.atRest <;> cases hafter : (x.key k).state.atRest
  · exact hstays (by rw [hbefore, hafter])
  · exact h.returned quiet others hbefore hafter (by rw [phase]; exact id)
  · exact h.left quiet others hbefore hafter (by rw [phase]; exact loaded)
  · exact hstays (by rw [hbefore, hafter])

/-! ### What leaves the quiet record -/

theorem State.railOnly.quiet {e : State} (h : s.railOnly e) : e.rail.quiet = s.rail.quiet := h.2.kept.2.2.2.2.2.2.2

theorem State.settle_quiet (s : State) : s.settle.rail.quiet = s.rail.quiet := s.settle_railOnly.quiet

theorem State.takeCycle_quiet {e : State} (h : s.takeCycle = some e) : e.rail.quiet = s.rail.quiet := by
  unfold State.takeCycle at h
  obtain ⟨-, he⟩ := Option.ite_none_right_eq_some.mp h
  cases Option.some.inj he
  exact ((s.enterRail_railOnly _).quiet ▸ State.settle_quiet _ :)

theorem State.finishRun_quiet (s : State) (code detail : Nat) (m : Measure) (completed : Bool) :
    (s.finishRun code detail m completed).rail.quiet = s.rail.quiet := by
  rw [(s.finishRun_rail code detail m completed).1]

theorem State.beginRun_rail (s : State) (kind : TestKind) (continuous : Bool) : (s.beginRun kind continuous).rail = s.rail := by
  cases kind <;> rfl

theorem State.nextRun_quiet (s : State) : s.nextRun.rail.quiet = s.rail.quiet := by
  unfold State.nextRun
  split
  · rfl
  · split
    · split
      · exact State.takeCycle_quiet ‹_›
      · exact s.finishRun_quiet _ _ _ _
    · rw [State.beginRun_rail]

theorem State.endRun_quiet (s : State) (code detail : Nat) (m : Measure) : (s.endRun code detail m).rail.quiet = s.rail.quiet :=
  (State.nextRun_quiet _).trans (s.finishRun_quiet _ _ _ _)

theorem State.abortTest_quiet (s : State) (detail : Nat) : (s.abortTest detail).rail.quiet = s.rail.quiet := by
  unfold State.abortTest
  split
  · rfl
  · refine (State.finishRun_quiet _ _ _ _ _).trans ?_
    split
    · exact s.abortCycle_railOnly.quiet
    · rfl
    · rfl

theorem State.railFault_quiet (s : State) (cause : RailFault) : (s.railFault cause).rail.quiet = s.rail.quiet := by
  have hfault : ((s.endSegment.setRail { s.endSegment.rail with segCount := none }).enterRail (.fault cause)).rail.quiet =
      s.rail.quiet := (State.enterRail_railOnly _ _).quiet.trans s.endSegment_railOnly.quiet
  unfold State.railFault
  simp only []
  split
  · exact (State.endRun_quiet _ _ _ _).trans hfault
  · exact hfault

theorem State.testInwardDone_quiet (s : State) : s.testInwardDone.rail.quiet = s.rail.quiet := by
  have hdone (c : Int) : (s.endSegment.setRail { s.endSegment.rail with count := c }).rail.quiet = s.rail.quiet :=
    s.endSegment_railOnly.quiet
  unfold State.testInwardDone
  simp only []
  split
  · exact ((State.settle_quiet _).trans (State.enterRail_railOnly _ _).quiet).trans (hdone _)
  · exact hdone _

theorem State.testOutwardDone_quiet (s : State) : s.testOutwardDone.rail.quiet = s.rail.quiet := by
  unfold State.testOutwardDone
  split
  · exact (((State.nextRun_quiet _).trans (State.settle_quiet _)).trans (State.finishRun_quiet _ _ _ _ _)).trans
      s.arriveParked_railOnly.quiet
  · rfl

theorem State.switchChanged_quiet (s : State) (x : EndSwitch) (made : Bool) : (s.switchChanged x made).rail.quiet = s.rail.quiet := by
  have hengaged : s.arriveEngaged.settle.rail.quiet = s.rail.quiet := (State.settle_quiet _).trans s.arriveEngaged_railOnly.quiet
  have hparked : s.arriveParked.settle.rail.quiet = s.rail.quiet := (State.settle_quiet _).trans s.arriveParked_railOnly.quiet
  unfold State.switchChanged
  split
  · split
    · rfl
    · split
      · exact s.railFault_quiet _
      · split
        · exact hengaged
        · exact hengaged
        · exact hparked
        · exact hparked
        · exact hparked
        · exact s.testInwardDone_quiet
        · exact s.testOutwardDone_quiet
        · rfl
  · rfl

theorem State.indexSeen_quiet (s : State) : s.indexSeen.rail.quiet = s.rail.quiet := by
  have hset : (s.setRail { s.rail with count := 0 }).rail.quiet = s.rail.quiet := rfl
  unfold State.indexSeen
  generalize s.setRail { s.rail with count := 0 } = x at hset
  have hparked : x.arriveParked.settle.rail.quiet = s.rail.quiet :=
    ((State.settle_quiet _).trans x.arriveParked_railOnly.quiet).trans hset
  simp only []
  split
  · split
    · exact hparked
    · exact hparked
    · exact hparked
    · exact x.testOutwardDone_quiet.trans hset
    · exact hset
  · exact hset

theorem State.edgeSeen_quiet (s : State) (sense : Travel) : (s.edgeSeen sense).rail.quiet = s.rail.quiet := by
  unfold State.edgeSeen
  simp only []
  split
  · exact State.railFault_quiet _ _
  · rfl

theorem State.notice_quiet (s : State) : s.notice.rail.quiet = s.rail.quiet := by
  unfold State.notice
  split
  · split <;> rfl
  · split <;> rfl
  · rfl

theorem State.recoverRail_quiet (s : State) : s.recoverRail.rail.quiet = s.rail.quiet := by
  have hhoming := (s.enterRail_railOnly .homing).quiet
  unfold State.recoverRail
  simp only []
  split
  · exact (State.railFault_quiet _ _).trans hhoming
  · split
    · exact ((State.settle_quiet _).trans (State.arriveParked_railOnly _).quiet).trans hhoming
    · exact (State.settle_quiet _).trans hhoming

theorem State.setVotes_quiet (s : State) (v : Votes) : (s.setVotes v).rail.quiet = s.rail.quiet := by
  unfold State.setVotes
  split
  · rfl
  · exact (State.votesChanged_railOnly _).quiet

theorem State.toneDone_quiet (s : State) : s.toneDone.rail.quiet = s.rail.quiet := by
  unfold State.toneDone
  simp only []
  split
  · split
    · exact State.endRun_quiet _ _ _ _
    · rfl
  · rfl

theorem State.readbackDone_quiet (s : State) : s.readbackDone.rail.quiet = s.rail.quiet := by
  unfold State.readbackDone
  split
  · split <;> exact s.endRun_quiet _ _ _
  · rfl

theorem State.readbackExpires_quiet (s : State) : s.readbackExpires.rail.quiet = s.rail.quiet := by
  unfold State.readbackExpires
  split
  · split
    · exact s.endRun_quiet _ _ _
    · rfl
  · rfl

theorem State.startTest_quiet {kind : TestKind} {continuous : Bool} {e : State} (h : s.startTest kind continuous = some e) :
    e.rail.quiet = s.rail.quiet := by
  unfold State.startTest at h
  cases kind with
  | railCycle => exact State.takeCycle_quiet (s := State.beginRun { s with runs := 0 } .railCycle continuous) h
  | sensorScan => cases h; rfl
  | tone => cases h; rfl
  | readback => cases h; rfl

end Record

/-! ### The laws together -/

/-- The rail's laws with the tests'. -/
def StandLaw (s : State) : Prop := CycleLaw s ∧ QuietLaw s

section Stand
variable {s : State}

/-- The laws see the rail, the tests, the keys' rest, the learn and the phase. -/
theorem StandLaw.congr {e : State} (h : StandLaw s) (rail : e.rail = s.rail := by rfl) (test : e.test = s.test := by rfl)
    (tone : e.tone.isSome = s.tone.isSome := by rfl)
    (keys : ∀ k : KeyIx, (e.key k).state.atRest = (s.key k).state.atRest := by exact fun _ => rfl)
    (learn : e.learn = s.learn ∨ e.learn = none := by exact .inl rfl)
    (phase : e.startUp.phase = .loading → s.startUp.phase = .loading := by exact id) : StandLaw e :=
  ⟨h.1.congr rail test tone, h.2.congr (by rw [rail]) keys learn phase⟩

/-- What the rail and the tests do keeps the law of quiet, where it leaves the quiet record. -/
theorem TestFrame.stand {e : State} (h : TestFrame s e) (hs : StandLaw s) (cycle : CycleLaw e)
    (quiet : e.rail.quiet = s.rail.quiet) : StandLaw e :=
  ⟨cycle, hs.2.congr quiet (fun k => by unfold State.key; rw [h]) (.inl (by rw [h])) (by rw [h]; exact id)⟩

theorem State.judgeQuiet_stand (hs : StandLaw s) : StandLaw s.judgeQuiet := by
  refine ⟨State.judgeQuiet_law hs.1, ?_⟩
  unfold State.judgeQuiet State.quietArrives
  split
  · rename_i hdue
    have hsome : s.rail.quiet.start.isSome = true := by
      unfold State.quietDue at hdue
      cases hstart : s.rail.quiet.start with
      | some q => rfl
      | none => rw [hstart] at hdue; cases hdue
    obtain ⟨hcount, hquiet, hloading⟩ := hs.2
    have hset : QuietLaw (s.setQuiet { s.rail.quiet with start := none, quiet := true }) :=
      ⟨hcount, fun _ => hquiet (.inl hsome), hloading⟩
    have hframe := State.settle_frame (s.setQuiet { s.rail.quiet with start := none, quiet := true })
    exact hset.congr (State.settle_quiet _) (fun k => by unfold State.key; rw [hframe]) (.inl (by rw [hframe])) (by rw [hframe]; exact id)
  · exact hs.2

theorem RailEffect.stand {i : Instr} {e : State} (h : RailEffect i s e) (hs : StandLaw s) : StandLaw e := by
  have hlaw := h.law hs.1
  have hframe := h.frame
  cases h with
  | leverRaw => exact hframe.stand hs hlaw rfl
  | lever => exact hframe.stand hs hlaw (s.setVotes_quiet _)
  | edge => exact hframe.stand hs hlaw (s.edgeSeen_quiet _)
  | index => exact hframe.stand hs hlaw s.indexSeen_quiet
  | @switchRaw _ x => exact hframe.stand hs hlaw (by cases x <;> rfl)
  | @switch _ x => exact hframe.stand hs hlaw ((State.switchChanged_quiet _ _ _).trans (by cases x <;> rfl))
  | quiet => exact State.judgeQuiet_stand hs
  | notice => exact hframe.stand hs hlaw s.notice_quiet
  | stall => exact hframe.stand hs hlaw (s.railFault_quiet _)
  | timeout => exact hframe.stand hs hlaw (s.railFault_quiet _)
  | vote => exact hframe.stand hs hlaw (s.setVotes_quiet _)
  | recover => exact hframe.stand hs hlaw s.recoverRail_quiet

theorem TestEffect.stand {i : Instr} {e : State} (h : TestEffect i s e) (hs : StandLaw s) : StandLaw e := by
  have hlaw := h.law hs.1
  have hframe := h.frame
  cases h with
  | toneEnd => exact hframe.stand hs hlaw s.toneDone_quiet
  | readback => exact hframe.stand hs hlaw s.readbackDone_quiet
  | readbackNoAnswer => exact hframe.stand hs hlaw s.readbackExpires_quiet
  | runTest _ _ _ starts => exact hframe.stand hs hlaw (State.startTest_quiet starts)
  | stopTest => exact hframe.stand hs hlaw (s.abortTest_quiet _)

/-! ### Keys -/

theorem State.judgeChecking_stand (hs : StandLaw s) : StandLaw s.judgeChecking := by
  unfold State.judgeChecking
  split
  · have hframe := s.setPhase_frame .samples
    exact hs.congr (by rw [hframe]) (by rw [hframe]) (by rw [hframe]) (fun k => by unfold State.key; rw [hframe])
      (.inl (by rw [hframe])) (fun hp => by rw [State.setPhase_phase] at hp; cases hp)
  · exact hs

theorem State.reportSensors_stand (hs : StandLaw s) : StandLaw s.reportSensors := by
  unfold State.reportSensors
  split
  · exact State.judgeChecking_stand hs.congr
  · exact hs

theorem State.scanReading_stand (hs : StandLaw s) (k : KeyIx) (c : KeyCal) (raw : Nat) : StandLaw (s.scanReading k c raw) := by
  have hframe := s.scanReading_frame k c raw
  exact ⟨State.scanReading_law k c raw hs.1, hs.2.congr (by rw [hframe]) (fun k => by unfold State.key; rw [hframe])
    (.inl (by rw [hframe])) (by rw [hframe]; exact id)⟩

/-- What the rail is told of a key keeps the laws. -/
theorem StandLaw.told {k : KeyIx} {x : State} (h : StandLaw s) (rail : x.rail = s.rail) (test : x.test = s.test)
    (tone : x.tone = s.tone) (others : ∀ j : KeyIx, j ≠ k → x.key j = s.key j) (learn : x.learn = s.learn)
    (phase : x.startUp.phase = s.startUp.phase) (loaded : s.startUp.phase ≠ .loading) : StandLaw (s.restTold x k) :=
  ⟨State.restReport_law (h.1.congr rail test (by rw [tone])) _ _,
    h.2.told (by rw [rail]) (fun j hj => by rw [others j hj]) learn phase loaded⟩

theorem State.keyReading_stand (hs : StandLaw s) (k : KeyIx) (raw : Nat) : StandLaw (s.keyReading k raw) := by
  have hevaluated : OthersKept k s (s.evaluateKey k raw) := s.setKey_others _
  rcases s.keyReading_cases k raw with ⟨-, h⟩ | ⟨hphase, -, h⟩ | ⟨hphase, -, h⟩ <;> rw [h]
  · exact hs
  · have htold : StandLaw (s.restTold (s.evaluateKey k raw) k) :=
      hs.told rfl rfl rfl (fun j hj => (hevaluated j hj).1) rfl rfl (by rw [hphase]; nofun)
    exact State.scanReading_stand (State.reportSensors_stand htold) _ _ _
  · have hframe := s.trackerReading_frame k raw
    refine State.scanReading_stand (hs.told (by rw [hframe]) (by rw [hframe]) (by rw [hframe]) (fun j hj => ?_) (by rw [hframe])
      (by rw [hframe]) hphase) _ _ _
    exact (s.trackerReading_others raw j hj).1

/-! ### The learn -/

theorem RestFrame.stand {e : State} (h : RestFrame s e) (hs : StandLaw s)
    (keys : ∀ k : KeyIx, (e.key k).state = (s.key k).state) : StandLaw e :=
  hs.congr (by rw [h]) (by rw [h]) (by rw [h]) (fun k => by rw [keys]) (.inl (by rw [h])) (by rw [h]; exact id)

theorem State.learnTaken_rest (s : State) (k : KeyIx) (seen : Option (Nat × Nat)) : RestFrame s (s.learnTaken k seen) := by
  unfold State.learnTaken
  split
  · split <;> rfl
  · rfl

/-- A key that leaves LEARN for REST is told to the rail. -/
theorem State.leaveLearn_stand (hs : StandLaw s) {k : KeyIx} {seen : Option (Nat × Nat)} (hst : (s.key k).state = .learn seen) :
    StandLaw (s.leaveLearn k) := by
  have hframe : RestFrame s ((s.setKey k { s.key k with state := .rest, last := none, learnWaiting := false }).applyPending k) :=
    (s.setKey_rest _ _).trans (State.applyPending_rest _ _)
  have hstate (j : KeyIx) : (((s.setKey k { s.key k with state := .rest, last := none, learnWaiting := false }).applyPending k).key
      j).state = if j = k then .rest else (s.key j).state := s.leaveLearn_state k j
  unfold State.leaveLearn
  generalize (s.setKey k { s.key k with state := .rest, last := none, learnWaiting := false }).applyPending k = x at hframe hstate
  refine ⟨State.setQuiet_law (hs.1.congr (by rw [hframe]) (by rw [hframe]) (by rw [hframe])) _ id, ?_⟩
  exact hs.2.returned (k := k) (by rw [hframe]) (fun j hj => by rw [hstate, if_neg hj]) (by rw [hst]; rfl)
    (by rw [hstate, if_pos rfl]; rfl) (by rw [hframe]; exact id)

theorem State.endLearnKey_stand (hs : StandLaw s) (k : KeyIx) : StandLaw (s.endLearnKey k) := by
  rcases s.endLearnKey_cases k with ⟨seen, hst, heq⟩ | ⟨-, heq⟩ <;> rw [heq]
  · exact State.leaveLearn_stand ((s.learnTaken_rest k seen).stand hs fun j => s.learnTaken_state k j seen)
      ((s.learnTaken_state k k seen).trans hst)
  · exact (s.setKey_rest _ _).stand hs fun j => s.setKey_state_of_eq k j rfl

theorem State.endLearn_stand (hs : StandLaw s) : StandLaw s.endLearn := by
  have hfold (ks : List KeyIx) : ∀ x : State, StandLaw x ∧ x.learn = none →
      StandLaw (ks.foldl (fun x k => x.endLearnKey k) x) ∧ (ks.foldl (fun x k => x.endLearnKey k) x).learn = none := by
    induction ks with
    | nil => exact fun _ hx => hx
    | cons k ks ih =>
      refine fun x hx => ih _ ⟨State.endLearnKey_stand hx.1 k, ?_⟩
      show (x.endLearnKey k).learn = none
      rw [(x.endLearnKey_learnFrame k).1]
      exact hx.2
  obtain ⟨hended, hnone⟩ := hfold (List.finRange 88) { s with learn := none } ⟨hs.congr (learn := .inr rfl), rfl⟩
  unfold State.endLearn
  simp only []
  generalize (List.finRange 88).foldl (fun x k => x.endLearnKey k) { s with learn := none } = x at hended hnone
  have hquiet : StandLaw x.quietAfterLearn := by
    refine ⟨State.quietAfterLearn_law hended.1, ?_⟩
    unfold State.quietAfterLearn
    split
    · rename_i hzero
      exact ⟨hended.2.1, fun _ => ⟨hzero, hnone⟩, fun _ => ⟨hzero, hnone⟩⟩
    · exact hended.2
  exact hquiet.congr

theorem State.beginLearn_stand (hs : StandLaw s) (loaded : s.startUp.phase ≠ .loading) (lo hi : Nat) (l : Link) :
    StandLaw (s.beginLearn lo hi l) := by
  have hkey (x : State) (k : KeyIx) (hx : StandLaw x ∧ x.startUp.phase ≠ .loading) :
      StandLaw (x.beginLearnKey k) ∧ (x.beginLearnKey k).startUp.phase ≠ .loading := by
    unfold State.beginLearnKey
    split
    · rename_i hrest
      have hframe := State.keyLeft_frame (x.setKey k (x.key k).intoLearn)
      refine ⟨⟨State.endQuiet_law (hx.1.1.congr) _, ?_⟩, by rw [hframe]; exact hx.2⟩
      exact hx.1.2.left (k := k) (x := x.setKey k (x.key k).intoLearn) rfl
        (fun j hj => by rw [State.setKey_state, if_neg hj]) (by rw [hrest]; rfl) (by rw [State.setKey_state, if_pos rfl]; rfl) hx.2
    · exact ⟨(x.setKey_rest _ _).stand hx.1 fun j => x.setKey_state_of_eq k j rfl, hx.2⟩
  have hfold (ks : List KeyIx) : ∀ x : State, StandLaw x ∧ x.startUp.phase ≠ .loading →
      StandLaw (ks.foldl (fun x k => x.beginLearnKey k) x) := by
    induction ks with
    | nil => exact fun _ hx => hx.1
    | cons k ks ih => exact fun x hx => ih _ (hkey x k hx)
  have hframe := State.endQuiet_frame { s with learn := some { lo := lo, hi := hi, link := l } } s.rail.quiet.notAtRest
  have hquiet := State.endQuiet_quiet { s with learn := some { lo := lo, hi := hi, link := l } } s.rail.quiet.notAtRest
  have hlaw : CycleLaw (State.endQuiet { s with learn := some { lo := lo, hi := hi, link := l } } s.rail.quiet.notAtRest) :=
    State.endQuiet_law hs.1.congr _
  refine hfold _ _ ?_
  unfold State.withholdQuiet
  simp only []
  generalize State.endQuiet { s with learn := some { lo := lo, hi := hi, link := l } } s.rail.quiet.notAtRest = x at hframe hquiet hlaw
  have hphase : x.startUp.phase ≠ .loading := by rw [hframe]; exact loaded
  refine ⟨⟨hlaw, ?_, fun hq => ?_, fun hp => absurd hp hphase⟩, hphase⟩
  · rw [hquiet, State.keysAwake_congr (s := s) (fun k => by unfold State.key; rw [hframe])]
    exact hs.2.1
  · rw [hquiet] at hq
    simp at hq

/-! ### The seat -/

theorem State.seatChange_stand (hs : StandLaw s) (after : Option Link) (cause : SeatCause) : StandLaw (s.seatChange after cause) := by
  have hlearn : StandLaw ((s.seatRecorded after cause).endLearnUnder s.seat) := by
    have hrecorded : StandLaw (s.seatRecorded after cause) := hs.congr
    unfold State.endLearnUnder
    split
    · split
      · exact State.endLearn_stand hrecorded
      · exact hrecorded
    · exact hrecorded
  rw [State.seatChange_eq]
  exact (State.abortTest_frame _ _).stand hlearn (State.abortTest_law hlearn.1 _) (State.abortTest_quiet _ _)

theorem LinkFrame.stand {e : State} (h : LinkFrame s e) (hs : StandLaw s) : StandLaw e := by
  rw [h]
  exact hs.congr

theorem TakeFrame.stand {e : State} (h : TakeFrame s e) (hs : StandLaw s) : StandLaw e := by
  rw [h]
  exact hs.congr

theorem SeatEffect.stand {i : Instr} {e : State} (h : SeatEffect i s e) (hs : StandLaw s) : StandLaw e := by
  cases h with
  | seatClaim =>
    unfold State.claimSeat
    split
    · exact hs
    · exact State.seatChange_stand hs _ _
  | seatYield => exact State.seatChange_stand hs _ _
  | seatPass => exact State.seatChange_stand hs _ _
  | @absent _ l =>
    rcases s.judgeAbsent_cases l with ⟨-, h⟩ | ⟨-, h⟩ <;> rw [h]
    · exact hs
    · refine ((State.ownerAbsent_plays _ l).trans (State.loaderAbsent_plays _ l)).take.stand ?_
      have hgone := (s.departed_frame l).stand hs
      unfold State.unseated
      split
      · exact State.seatChange_stand hgone _ _
      · exact hgone

/-! ### The calibration -/

theorem CalibrationEffect.stand {i : Instr} {e : State} (h : CalibrationEffect i s e) (hs : StandLaw s) : StandLaw e := by
  cases h with
  | writeKeyCal =>
    unfold State.writeCal
    split
    · exact RestFrame.stand (s := s) rfl hs fun j => s.applyCal_state _ j _
    · exact RestFrame.stand (s := s) rfl hs fun j => s.setKey_state_of_eq _ j rfl
  | writePedalCal => exact hs.congr
  | writeTouch => exact State.judgeQuiet_stand hs.congr
  | writeCurve => exact hs.congr
  | selectCurve =>
    unfold State.selectCurve
    split <;> exact hs.congr
  | writeRailCal => exact hs.congr
  | learnBegin ready =>
    refine State.beginLearn_stand hs (fun hp => ?_) _ _ _
    rw [State.heldOrRunning, hp] at ready
    cases ready
  | learnEnd => exact State.endLearn_stand hs

/-! ### Start-up -/

theorem State.setPhase_stand (hs : StandLaw s) {p : Phase} (hp : p ≠ .loading) : StandLaw (s.setPhase p) := by
  have hframe := s.setPhase_frame p
  exact hs.congr (by rw [hframe]) (by rw [hframe]) (by rw [hframe]) (fun k => by unfold State.key; rw [hframe])
    (.inl (by rw [hframe])) (fun h => absurd ((s.setPhase_phase p).symm.trans h) hp)

/-- The load ends with the whole action at rest, so the quiet start may be set (R63, R205). -/
theorem State.endLoad_stand (hs : StandLaw s) (loading : s.startUp.phase = .loading) : StandLaw s.endLoad := by
  have hquiet := hs.2.2.2 loading
  have hset := State.setPhase_stand hs (p := .checking) nofun
  have hframe := s.setPhase_frame .checking
  have hrail : (s.setPhase .checking).rail = s.rail := by rw [hframe]
  have hlearn : (s.setPhase .checking).learn = s.learn := by rw [hframe]
  unfold State.endLoad
  simp only []
  refine ⟨State.setQuiet_law hset.1 _ id, hset.2.1, fun _ => ?_, hset.2.2.2⟩
  show (s.setPhase .checking).rail.quiet.notAtRest = 0 ∧ (s.setPhase .checking).learn = none
  rw [hrail, hlearn]
  exact hquiet

theorem State.enterRunning_stand (hs : StandLaw s) : StandLaw s.enterRunning := by
  have hjudged (x : State) (hx : StandLaw x) : StandLaw (x.raise .startup).judgeLed := by
    have hframe := (x.raise .startup).judgeLed_frame
    exact hx.congr (by rw [hframe]; rfl) (by rw [hframe]; rfl) (by rw [hframe]; rfl) (fun k => by unfold State.key; rw [hframe]; rfl)
      (.inl (by rw [hframe]; rfl)) (by rw [hframe]; exact id)
  have hreport (x : State) (hx : StandLaw x) (b : JournalBody) : StandLaw (x.report b .cal) := hx.congr
  have hset := State.setPhase_stand hs (p := .running) nofun
  unfold State.enterRunning
  simp only []
  generalize s.setPhase .running = x at hset
  refine hjudged _ ?_
  have hdefault (y : State) (hy : StandLaw y) : StandLaw y.judgeSeatDefault := by
    unfold State.judgeSeatDefault
    split
    · exact State.seatChange_stand hy _ _
    · exact hy
  refine hdefault _ ?_
  split
  · exact hreport x hset _
  · exact hset

/-- The start-up decision finds the rail by its switches (R86). -/
theorem State.decideRail_stand (hs : StandLaw s) (undecided : s.rail.decided = false) : StandLaw s.decideRail := by
  obtain ⟨⟨⟨hmotor, -⟩, htest⟩, hquiet⟩ := id hs
  have hstate := hmotor.2.2 undecided
  have hoff : s.rail.drive = none := by
    cases hd : s.rail.drive with
    | none => rfl
    | some g =>
      have := (hmotor.1 g hd).2.1
      rw [undecided] at this
      cases this
  have hentered {st : RailState} {c : Int} (hst : st = .parked ∨ st = .engaged ∨ st = .homing ∨ st = .fault .switches) :
      RailNear ((s.setRail { s.rail with decided := true, count := c }).enterRail st).rail ∧
        TestLaw ((s.setRail { s.rail with decided := true, count := c }).enterRail st) := by
    have hframe : RailFrame s ((s.setRail { s.rail with decided := true, count := c }).enterRail st) :=
      (s.setRail_frame _).trans (State.enterRail_frame _ _)
    refine ⟨?_, hframe.testLaw htest ?_⟩ <;> rw [State.enterRail_rail]
    · rcases hst with rfl | rfl | rfl | rfl
      · exact ⟨motorLaw_of_off hoff ⟨nofun, nofun⟩ (.inl rfl), .inr (.inl rfl)⟩
      · exact ⟨motorLaw_of_off hoff ⟨nofun, nofun⟩ (.inl rfl), .inr (.inr rfl)⟩
      · exact ⟨motorLaw_of_off hoff ⟨nofun, nofun⟩ (.inl rfl), .inl trivial⟩
      · exact ⟨motorLaw_of_off hoff ⟨nofun, nofun⟩ (.inl rfl), .inl trivial⟩
    · rw [hstate]
      rcases hst with rfl | rfl | rfl | rfl <;> exact ⟨nofun, nofun⟩
  have hfound : (railDecision s.rail.park s.rail.stop s.cal.cEng).1 = .parked ∨
      (railDecision s.rail.park s.rail.stop s.cal.cEng).1 = .engaged ∨
      (railDecision s.rail.park s.rail.stop s.cal.cEng).1 = .homing ∨
      (railDecision s.rail.park s.rail.stop s.cal.cEng).1 = .fault .switches := by
    cases s.rail.park <;> cases s.rail.stop <;> simp [railDecision]
  have hframe := s.decideRail_frame
  have hphase : s.decideRail.startUp.phase = .loading → s.startUp.phase = .loading := fun hp => by
    rcases s.decideRail_phase with h | ⟨-, h⟩ <;> rw [h] at hp
    · exact hp
    · cases hp
  suffices hlaw : CycleLaw s.decideRail ∧ s.decideRail.rail.quiet = s.rail.quiet from
    ⟨hlaw.1, hquiet.congr hlaw.2 (fun k => by unfold State.key; rw [hframe]) (.inl (by rw [hframe])) hphase⟩
  unfold State.decideRail
  simp only []
  generalize (railDecision s.rail.park s.rail.stop s.cal.cEng).2 = c
  generalize (railDecision s.rail.park s.rail.stop s.cal.cEng).1 = st at hfound ⊢
  obtain ⟨hnear, htest'⟩ := hentered (c := c) hfound
  have hrail : ((s.setRail { s.rail with decided := true, count := c }).enterRail st).rail.quiet = s.rail.quiet := by
    rw [State.enterRail_rail]
    rfl
  generalize (s.setRail { s.rail with decided := true, count := c }).enterRail st = x at hnear htest' hrail
  have hjudged := State.judgeChecking_frame { x with startUp := { x.startUp with railOutcome := some (st.name, st.cause) } }
  generalize State.judgeChecking { x with startUp := { x.startUp with railOutcome := some (st.name, st.cause) } } = y at hjudged
  have hy : y.rail = x.rail := by rw [hjudged]
  exact ⟨RailNear.settle (hy ▸ hnear) (htest'.congr (by rw [hy]) (by rw [hjudged]) (by rw [hjudged])),
    (State.settle_quiet y).trans (hy ▸ hrail)⟩

theorem StartUpEffect.stand {i : Instr} {e : State} (h : StartUpEffect i s e) (hs : StandLaw s) : StandLaw e := by
  cases h with
  | load phase =>
    unfold State.loadImage
    split
    · refine State.endLoad_stand ?_ phase
      exact hs.congr
    · refine State.endLoad_stand ?_ phase
      exact hs.congr
  | loadNoAnswer phase =>
    refine State.endLoad_stand ?_ phase
    exact hs.congr
  | headerCheck =>
    unfold State.checkHeader
    simp only []
    split
    · refine State.setPhase_stand ?_ nofun
      exact hs.congr
    · refine State.enterRunning_stand ?_
      exact hs.congr
  | decision _ undecided => exact State.decideRail_stand hs undecided
  | release => exact State.enterRunning_stand hs

theorem State.resetBlocks_stand (s : State) (kind : ResetKind) (straps : Straps) (tracks : Vector Track 4) (store : TakeStoreOutcome) :
    StandLaw (s.resetBlocks kind straps tracks store) := by
  unfold State.resetBlocks
  rw [State.judgeLed_frame]
  refine ⟨⟨⟨motorLaw_of_off rfl ⟨nofun, nofun⟩ (.inr rfl), trivial⟩, ⟨nofun, nofun⟩, nofun, nofun⟩, ?_, fun _ => ⟨rfl, rfl⟩,
    fun _ => ⟨rfl, rfl⟩⟩
  rw [State.keysAwake_eq]
  refine (List.countP_eq_zero.mpr fun k _ => ?_).symm
  simp [State.awake, State.key, resetTracker, KeyState.atRest]

/-! ### Every change -/

/-- No command of the output takes a tone run away or begins one: its end is the tests'. -/
theorem OutputEffect.tone_isSome {i : Instr} {e : State} (h : OutputEffect i s e) : e.tone.isSome = s.tone.isSome := by
  cases h with
  | outputFrame => exact Option.isSome_map
  | ramp => rfl
  | contactRaw => rfl
  | contact => rw [s.debounceJack_frame]
  | supplyGood => rw [s.supplyAsserts_frame]
  | supplyLost => rw [s.supplyDrops_frame]
  | riseTimeout => rw [s.riseExpires_frame]
  | clickEnd => rfl
  | readStatus => rfl
  | setVolume => rw [s.setVolumes_frame]

theorem Effect.stand {i : Instr} {e : State} (h : Effect i s e) (hs : StandLaw s) : StandLaw e := by
  cases h with
  | unchanged => exact hs
  | reset h =>
    obtain ⟨s1, kind, straps, tracks, store, rfl⟩ := h.eq_resetBlocks
    exact State.resetBlocks_stand _ _ _ _ _
  | startUp h => exact h.stand hs
  | key h =>
    cases h with
    | keyReading => exact State.keyReading_stand hs _ _
  | pedal h =>
    cases h with
    | @pedalReading _ k raw =>
      have hframe := s.pedalReading_frame k raw
      refine hs.congr (by rw [hframe]) (by rw [hframe]) (by rw [hframe]) (fun k => by unfold State.key; rw [hframe]) (.inl (by rw [hframe]))
        fun hp => ?_
      rcases s.pedalReading_phase k raw with h | ⟨-, h⟩ <;> rw [h] at hp
      · exact hp
      · cases hp
  | rail h => exact h.stand hs
  | test h => exact h.stand hs
  | voice h =>
    rw [h.frame]
    exact hs.congr
  | output h =>
    have hframe := h.frame
    refine hs.congr (by rw [hframe]) (by rw [hframe]) ?_ (fun k => by unfold State.key; rw [hframe]) (.inl (by rw [hframe]))
      (by rw [hframe]; exact id)
    exact h.tone_isSome
  | transport h =>
    have hframe := h.plays.frame
    rw [hframe]
    exact hs.congr
  | link h => exact h.frame.stand hs
  | seat h => exact h.stand hs
  | calibration h => exact h.stand hs
  | commit h =>
    have hframe := h.frame
    rw [hframe]
    exact hs.congr

/-- Settles O55: the rail's motor and vote set with the tests that run on it, and the quiet record that counts the keys. -/
theorem railMovesOnlyInQuiet : Obligations.RailMovesOnlyInQuiet := by
  intro s s' hrail htest h
  obtain ⟨hmotor, hvotes, hquiet⟩ := hrail
  obtain ⟨⟨⟨hmotor', hvotes'⟩, htest'⟩, hquiet'⟩ := step_keeps (P := StandLaw) (fun _ _ hx => hx) (fun _ _ hx => hx)
    (fun _ _ _ _ hx => hx) (fun _ _ _ he hx => he.stand hx) ⟨⟨⟨hmotor, hvotes⟩, htest⟩, hquiet⟩ h
  exact ⟨⟨hmotor', hvotes', hquiet'⟩, htest'⟩

end Stand

end Sys2Proof.Machine
end

section
/-! The voices of a note-on: the order in which they are stolen and shed, and what shedding leaves (R95 to R97). -/

namespace Sys2Proof.Machine

-- One declaration after another: side by side they open more threads than the check's memory limit holds.
set_option Elab.async false

section Voices
variable {s : State}

/-! ### The costs -/

theorem State.costSum_eq (s : State) : s.costSum = ∑ i : VoiceIx, costOf (s.voice i) := by
  rw [State.costSum, toList_eq_map, sumNat_eq_sum, List.map_map, Fin.sum_univ_def]
  rfl

theorem State.costBut_eq (s : State) (i : VoiceIx) : s.costBut i = ∑ j : VoiceIx, if j = i then 0 else costOf (s.voice j) := by
  rw [State.costBut, sumNat_eq_sum, Fin.sum_univ_def]

theorem State.costSum_eq_costBut (s : State) (i : VoiceIx) : s.costSum = s.costBut i + costOf (s.voice i) := by
  have hi (j : VoiceIx) : costOf (s.voice j) = (if j = i then 0 else costOf (s.voice j)) + if j = i then costOf (s.voice i) else 0 := by
    split
    · subst_vars
      simp
    · simp
  rw [State.costSum_eq, State.costBut_eq]
  calc ∑ j : VoiceIx, costOf (s.voice j)
      = ∑ j : VoiceIx, ((if j = i then 0 else costOf (s.voice j)) + if j = i then costOf (s.voice i) else 0) :=
        Finset.sum_congr rfl fun j _ => hi j
    _ = _ := by rw [Finset.sum_add_distrib, Finset.sum_ite_eq' Finset.univ i]; simp

/-- The costs see the voice table alone. -/
theorem State.costBut_congr {s s' : State} {i : VoiceIx} (h : ∀ j : VoiceIx, j ≠ i → s'.voice j = s.voice j) :
    s'.costBut i = s.costBut i := by
  rw [State.costBut_eq, State.costBut_eq]
  refine Finset.sum_congr rfl fun j _ => ?_
  split
  · rfl
  · rw [h j ‹_›]

theorem State.costSum_le {s s' : State} (h : ∀ i : VoiceIx, costOf (s'.voice i) ≤ costOf (s.voice i)) : s'.costSum ≤ s.costSum := by
  rw [State.costSum_eq, State.costSum_eq]
  exact Finset.sum_le_sum fun i _ => h i

/-- A voice freed takes its cost away. -/
theorem State.costBut_setVoice_none {i j : VoiceIx} (h : j ≠ i) (s : State) :
    (s.setVoice j none).costBut i + costOf (s.voice j) = s.costBut i := by
  have hk (k : VoiceIx) : (if k = i then 0 else costOf (s.voice k)) =
      (if k = i then 0 else costOf ((s.setVoice j none).voice k)) + if k = j then costOf (s.voice j) else 0 := by
    rw [State.voice_setVoice]
    by_cases hkj : k = j
    · subst hkj
      simp [h, costOf]
    · simp [hkj]
  rw [State.costBut_eq, State.costBut_eq, Finset.sum_congr rfl fun k _ => hk k, Finset.sum_add_distrib,
    Finset.sum_ite_eq' Finset.univ j]
  simp

/-! ### The order of stealing -/

/-- Of two voices, the one that is stolen first: the lower rank, and the lower index at equal ranks (R95). -/
def stolenBefore (now : Time) (i : VoiceIx) (v : Voice) (j : VoiceIx) (u : Voice) : Prop :=
  stealRank now v < stealRank now u ∨ stealRank now v = stealRank now u ∧ i.val < j.val

theorem stolenBefore_asymm {now : Time} {i j : VoiceIx} {v u : Voice} (h : stolenBefore now i v j u) : ¬ stolenBefore now j u i v := by
  unfold stolenBefore at *
  omega

/-- The voices other than one, as the choice of a victim sees them. -/
def State.other (s : State) (but : Option VoiceIx) (i : VoiceIx) (v : Voice) : Prop := s.voice i = some v ∧ but ≠ some i

/-- A victim so far is the first of the voices that have been seen. -/
def State.firstOf (s : State) (but : Option VoiceIx) (seen : List VoiceIx) (best : Option (VoiceIx × Voice)) : Prop :=
  match best with
  | none => ∀ i ∈ seen, ∀ v, ¬ s.other but i v
  | some (i, v) => i ∈ seen ∧ s.other but i v ∧ ∀ j ∈ seen, ∀ u, s.other but j u → j ≠ i → stolenBefore s.now i v j u

/-- One more voice is judged. -/
def State.judgeVictim (s : State) (but : Option VoiceIx) (best : Option (VoiceIx × Voice)) (i : VoiceIx) : Option (VoiceIx × Voice) :=
  match s.voice i with
  | some v => if but = some i then best else betterVictim s.now best i v
  | none => best

theorem State.firstOf_judgeVictim {but : Option VoiceIx} {seen : List VoiceIx} {best : Option (VoiceIx × Voice)} {i : VoiceIx}
    (h : s.firstOf but seen best) (hi : ∀ j ∈ seen, j.val < i.val) : s.firstOf but (i :: seen) (s.judgeVictim but best i) := by
  have hskip (hno : ∀ v, ¬ s.other but i v) : s.firstOf but (i :: seen) best := by
    cases best with
    | none => exact fun j hj => (List.mem_cons.mp hj).elim (fun hji => hji ▸ hno) (h j)
    | some x =>
      obtain ⟨j, u⟩ := x
      obtain ⟨hmem, hother, hfirst⟩ := h
      refine ⟨List.mem_cons_of_mem _ hmem, hother, fun k hk w hw hne => ?_⟩
      exact (List.mem_cons.mp hk).elim (fun hki => absurd (hki ▸ hw) (hno w)) fun hk => hfirst k hk w hw hne
  unfold State.judgeVictim
  cases hv : s.voice i with
  | none => exact hskip fun v ho => by rw [ho.1] at hv; cases hv
  | some v =>
    simp only []
    split
    · exact hskip fun w ho => ho.2 ‹_›
    · rename_i hbut
      have hother : s.other but i v := ⟨hv, hbut⟩
      cases best with
      | none =>
        refine ⟨List.mem_cons_self, hother, fun j hj u hu hne => ?_⟩
        exact absurd hu (h j ((List.mem_cons.mp hj).resolve_left hne) u)
      | some x =>
        obtain ⟨j, u⟩ := x
        obtain ⟨hmem, hu, hfirst⟩ := h
        have hlt := hi j hmem
        unfold betterVictim
        simp only []
        split
        · rename_i hrank
          refine ⟨List.mem_cons_self, hother, fun k hk w hw hne => ?_⟩
          have hk := (List.mem_cons.mp hk).resolve_left hne
          by_cases hkj : k = j
          · subst hkj
            cases hw.1.symm.trans hu.1
            exact .inl hrank
          · have := hfirst k hk w hw hkj
            unfold stolenBefore at *
            omega
        · rename_i hrank
          refine ⟨List.mem_cons_of_mem _ hmem, hu, fun k hk w hw hne => ?_⟩
          rcases List.mem_cons.mp hk with rfl | hk
          · cases hw.1.symm.trans hv
            unfold stolenBefore
            omega
          · exact hfirst k hk w hw hne

theorem State.firstOf_foldl {but : Option VoiceIx} : ∀ {l seen : List VoiceIx} {best : Option (VoiceIx × Voice)},
    s.firstOf but seen best → l.Pairwise (fun i j => i.val < j.val) → (∀ j ∈ seen, ∀ i ∈ l, j.val < i.val) →
    s.firstOf but (l.reverse ++ seen) (l.foldl (s.judgeVictim but) best)
  | [], seen, best, h, _, _ => h
  | i :: l, seen, best, h, hl, hseen => by
    obtain ⟨hi, hl⟩ := List.pairwise_cons.mp hl
    rw [List.foldl_cons, List.reverse_cons, List.append_assoc]
    refine State.firstOf_foldl (State.firstOf_judgeVictim h fun j hj => hseen j hj i List.mem_cons_self) hl fun j hj k hk => ?_
    rcases List.mem_cons.mp hj with rfl | hj
    · exact hi k hk
    · exact hseen j hj k (List.mem_cons_of_mem _ hk)

/-- The victim of a choice comes before every other voice; there is none where no other voice is out of FREE (R95, R97). -/
theorem State.stealVictim_first (s : State) (but : Option VoiceIx) :
    (s.stealVictim but = none ∧ ∀ i v, ¬ s.other but i v) ∨
    ∃ i v, s.stealVictim but = some i ∧ s.other but i v ∧ ∀ j u, s.other but j u → j ≠ i → stolenBefore s.now i v j u := by
  have hfold := State.firstOf_foldl (s := s) (but := but) (l := List.finRange 48) (seen := []) (best := none) nofun
    (List.pairwise_lt_finRange 48) nofun
  have heq : s.stealVictim but = ((List.finRange 48).foldl (s.judgeVictim but) none).map (fun x => x.1) := rfl
  rw [heq]
  cases hbest : (List.finRange 48).foldl (s.judgeVictim but) none with
  | none =>
    rw [hbest] at hfold
    exact .inl ⟨rfl, fun i v => hfold i (by simp) v⟩
  | some x =>
    obtain ⟨i, v⟩ := x
    rw [hbest] at hfold
    obtain ⟨-, hother, hfirst⟩ := hfold
    exact .inr ⟨i, v, rfl, hother, fun j u => hfirst j (by simp) u⟩

/-! ### Shedding -/

/-- What shedding leaves: the voice that is to start as it was, the first of the steal order freed, as many as the cost asks
and no more (R97). -/
structure State.ShedTo (s : State) (i : VoiceIx) (cost : Nat) (s' : State) : Prop where
  kept : ∀ j : VoiceIx, s'.voice j = s.voice j ∨ j ≠ i ∧ s'.voice j = none
  order : ∀ (a b : VoiceIx) (v u : Voice), a ≠ i → b ≠ i → s.voice a = some v → s.voice b = some u → s'.voice a = none →
    s'.voice b ≠ none → stolenBefore s.now a v b u
  budget : s'.costBut i + cost ≤ Config.budget
  least : ∀ (b : VoiceIx) (u : Voice), b ≠ i → s.voice b = some u → s'.voice b = none →
    (∀ (a : VoiceIx) (v : Voice), a ≠ i → a ≠ b → s.voice a = some v → s'.voice a = none → stolenBefore s.now a v b u) →
    Config.budget < s'.costBut i + cost + u.cost

theorem State.ShedTo.refl {i : VoiceIx} {cost : Nat} (h : s.costBut i + cost ≤ Config.budget) : s.ShedTo i cost s where
  kept j := .inl rfl
  order a b v u _ _ ha _ hfreed _ := by rw [ha] at hfreed; cases hfreed
  budget := h
  least b u _ hb hfreed _ := by rw [hb] at hfreed; cases hfreed

/-- One voice more is shed, the first of those that remain. -/
theorem State.ShedTo.cons {i j : VoiceIx} {cost : Nat} {s' : State} {u : Voice} (exceeds : Config.budget < s.costBut i + cost)
    (hj : s.voice j = some u) (hne : j ≠ i) (first : ∀ a v, s.other (some i) a v → a ≠ j → stolenBefore s.now j u a v)
    (h : (s.setVoice j none).ShedTo i cost s') : s.ShedTo i cost s' := by
  have hvoice (k : VoiceIx) (hk : k ≠ j) : (s.setVoice j none).voice k = s.voice k := by rw [State.voice_setVoice, if_neg hk]
  have hfreed : s'.voice j = none := (h.kept j).elim (fun hs => by rw [hs, State.voice_setVoice, if_pos rfl]) (·.2)
  have hother {a : VoiceIx} {v : Voice} (ha : a ≠ i) (hv : s.voice a = some v) : s.other (some i) a v :=
    ⟨hv, fun hs => ha (Option.some.inj hs).symm⟩
  refine ⟨fun k => ?_, fun a b v w ha hb hva hwb hfa hkb => ?_, h.budget, fun b w hb hwb hfb hall => ?_⟩
  · by_cases hk : k = j
    · exact .inr ⟨hk ▸ hne, hk ▸ hfreed⟩
    · exact hvoice k hk ▸ h.kept k
  · have hbj : b ≠ j := fun hbj => hkb (hbj ▸ hfreed)
    by_cases haj : a = j
    · subst haj
      cases hva.symm.trans hj
      exact first b w (hother hb hwb) hbj
    · exact h.order a b v w ha hb ((hvoice a haj).trans hva) ((hvoice b hbj).trans hwb) hfa hkb
  · by_cases hbj : b = j
    · subst hbj
      cases hwb.symm.trans hj
      have hcost : s'.costBut i = (s.setVoice b none).costBut i := State.costBut_congr fun k hk => by
        rcases h.kept k with hs | ⟨-, hs⟩
        · exact hs
        · rw [hs]
          by_cases hkb : k = b
          · rw [hkb, State.voice_setVoice, if_pos rfl]
          · rw [hvoice k hkb]
            cases hv : s.voice k with
            | none => rfl
            | some v => exact absurd (first k v (hother hk hv) hkb) (stolenBefore_asymm (hall k v hk hkb hv hs))
      have hsum := State.costBut_setVoice_none hne s
      rw [hj] at hsum
      have hsum : (s.setVoice b none).costBut i + u.cost = s.costBut i := hsum
      omega
    · refine h.least b w hb ((hvoice b hbj).trans hwb) hfb fun a v ha hab hva hfa => ?_
      have haj : a ≠ j := fun haj => by rw [haj, State.voice_setVoice, if_pos rfl] at hva; cases hva
      exact hall a v ha hab (hvoice a haj ▸ hva) hfa

/-- The voices other than one that are out of FREE. -/
def State.countBut (s : State) (i : VoiceIx) : Nat := ∑ j : VoiceIx, if j = i then 0 else (s.voice j).isSome.toNat

theorem State.countBut_setVoice_none {i j : VoiceIx} {u : Voice} (h : j ≠ i) (hj : s.voice j = some u) :
    (s.setVoice j none).countBut i + 1 = s.countBut i := by
  have hk (k : VoiceIx) : (if k = i then 0 else (s.voice k).isSome.toNat) =
      (if k = i then 0 else ((s.setVoice j none).voice k).isSome.toNat) + if k = j then 1 else 0 := by
    rw [State.voice_setVoice]
    by_cases hkj : k = j
    · subst hkj
      simp [h, hj]
    · simp [hkj]
  rw [State.countBut, State.countBut, Finset.sum_congr rfl fun k _ => hk k, Finset.sum_add_distrib,
    Finset.sum_ite_eq' Finset.univ j]
  simp

theorem State.countBut_le (s : State) (i : VoiceIx) : s.countBut i ≤ 48 := by
  calc s.countBut i ≤ ∑ _j : VoiceIx, 1 := Finset.sum_le_sum fun j _ => by split <;> cases (s.voice j).isSome <;> decide
    _ = 48 := by simp

/-- With no other voice out of FREE there is no other cost. -/
theorem State.costBut_of_none {i : VoiceIx} (h : ∀ j : VoiceIx, j ≠ i → s.voice j = none) : s.costBut i = 0 := by
  rw [State.costBut_eq]
  refine Finset.sum_eq_zero fun j _ => ?_
  split
  · rfl
  · rw [h j ‹_›]
    rfl

theorem State.none_of_countBut {i : VoiceIx} (h : s.countBut i = 0) (j : VoiceIx) (hj : j ≠ i) : s.voice j = none := by
  have hzero := Finset.sum_eq_zero_iff.mp h j (Finset.mem_univ j)
  rw [if_neg hj] at hzero
  cases hv : s.voice j with
  | none => rfl
  | some v => rw [hv] at hzero; cases hzero

theorem State.shed_shedTo {i : VoiceIx} {cost : Nat} (hcost : cost ≤ Config.budget) (n : Nat) {s : State} (hn : s.countBut i ≤ n) :
    s.ShedTo i cost (s.shed i cost n) := by
  induction n generalizing s with
  | zero =>
    refine .refl ?_
    rw [State.costBut_of_none (State.none_of_countBut (Nat.le_zero.mp hn)), Nat.zero_add]
    exact hcost
  | succ n ih =>
    unfold State.shed
    split
    · exact .refl ‹_›
    · rename_i hover
      rcases s.stealVictim_first (some i) with ⟨-, hall⟩ | ⟨j, u, hsome, hother, hfirst⟩
      · refine absurd ?_ hover
        rw [State.costBut_of_none fun j hj => ?_, Nat.zero_add]
        · exact hcost
        · cases hv : s.voice j with
          | none => rfl
          | some v => exact absurd ⟨hv, fun hs => hj (Option.some.inj hs).symm⟩ (hall j v)
      · rw [hsome]
        have hne : j ≠ i := fun hji => hother.2 (hji ▸ rfl)
        have hcount := State.countBut_setVoice_none hne hother.1
        exact .cons (Nat.lt_of_not_le hover) hother.1 hne hfirst (ih (by omega))

/-! ### The window of a note-on -/

/-- The window that serves a note-on is one of the table, and its keys and levels hold it (R94). -/
theorem findWindow_some {ws : List Window} {k : KeyIx} {level w : Nat} {win : Window} (h : findWindow ws k level = some (w, win)) :
    ws[w]? = some win ∧ win.keyLo ≤ k.val ∧ k.val ≤ win.keyHi := by
  unfold findWindow at h
  obtain ⟨x, hmem, hx⟩ := List.exists_of_findSome?_eq_some h
  obtain ⟨hmatches, heq⟩ := Option.ite_none_right_eq_some.mp hx
  cases heq
  refine ⟨List.mem_zipIdx_iff_getElem?.mp hmem, ?_⟩
  unfold Window.matches at hmatches
  simp only [Bool.and_eq_true, decide_eq_true_eq] at hmatches
  exact ⟨hmatches.1.1.1, hmatches.1.1.2⟩

/-! ### The note-on -/

theorem State.dampKey_voice (s : State) (g : Group) (k : KeyIx) (i : VoiceIx) : (s.dampKey g k).voice i = (s.voice i).map
    (fun v => if v.source.group = g ∧ v.key = k ∧ v.state ≠ .damping then v.damp else v) := State.voice_mapVoices _ _ _

/-- The voice that a note-on starts, once the others have been shed for it (R95 to R98). -/
theorem State.noteOn_shed {src : Source} {k : KeyIx} {level w : Nat} {win : Window} (hcost : win.cost ≤ Config.budget)
    (h : findWindow s.windows k level = some (w, win)) :
    ∃ s1 : State, (s.dampKey src.group k).ShedTo (s.dampKey src.group k).chooseVoice win.cost s1 ∧ VoiceFrame s s1 ∧
      s.noteOn src k level = (s1.setVoice (s.dampKey src.group k).chooseVoice (some (startedVoice src k level w win.cost s.now)),
        some (s.dampKey src.group k).chooseVoice) :=
  ⟨_, State.shed_shedTo hcost 48 (State.countBut_le _ _), (s.dampKey_frame _ _).trans (State.shed_frame _ _ _ _),
    State.noteOn_eq h⟩

theorem State.costSum_setVoice {i : VoiceIx} {v : Voice} (s : State) : (s.setVoice i (some v)).costSum = s.costBut i + v.cost := by
  rw [State.costSum_eq_costBut _ i, State.voice_setVoice, if_pos rfl,
    State.costBut_congr (s := s) fun j hj => by rw [State.voice_setVoice, if_neg hj]]
  rfl

end Voices

end Sys2Proof.Machine
end

section
/-! The voices stay lawful (R90, R97, R112, R114): what eases a voice, and what starts one. -/

namespace Sys2Proof.Machine

-- One declaration after another: side by side they open more threads than the check's memory limit holds.
set_option Elab.async false

/-! ### Voices that are only eased -/

/-- The same voice, further on its way out: not held where it was not, SOUNDING while it is held, its envelope no higher. -/
structure Voice.Eases (v v' : Voice) : Prop where
  source : v'.source = v.source
  key : v'.key = v.key
  window : v'.window = v.window
  position : v'.position = v.position
  cost : v'.cost = v.cost
  held : v'.held = true → v.held = true ∧ (v.state = .sounding → v'.state = .sounding)
  env : v'.env ≤ v.env ∧ (1 ≤ v.env → 1 ≤ v'.env)

theorem Voice.Eases.refl (v : Voice) : v.Eases v := ⟨rfl, rfl, rfl, rfl, rfl, fun h => ⟨h, id⟩, le_rfl, id⟩

theorem Voice.Eases.trans {u v w : Voice} (h : u.Eases v) (g : v.Eases w) : u.Eases w where
  source := g.source.trans h.source
  key := g.key.trans h.key
  window := g.window.trans h.window
  position := g.position.trans h.position
  cost := g.cost.trans h.cost
  held := fun hw => ⟨(h.held (g.held hw).1).1, (g.held hw).2 ∘ (h.held (g.held hw).1).2⟩
  env := ⟨g.env.1.trans h.env.1, g.env.2 ∘ h.env.2⟩

/-- A voice that is not held keeps its place whatever its state becomes. -/
theorem Voice.eases_unheld {v : Voice} (st : VoiceState) (level : Nat) : v.Eases { v with state := st, held := false, release := level } :=
  ⟨rfl, rfl, rfl, rfl, rfl, nofun, le_rfl, id⟩

theorem Voice.Eases.lawful {v v' : Voice} (h : v.Eases v') {ws : List Window} (hv : v.lawful ws) : v'.lawful ws := by
  obtain ⟨⟨w, hw, hlo, hhi, hcost, heven, hlt⟩, hheld, hpos, hfull⟩ := hv
  refine ⟨⟨w, by rw [h.window, hw], by rw [h.key]; exact hlo, by rw [h.key]; exact hhi, h.cost.trans hcost, by rw [h.position]; exact heven,
    by rw [h.position]; exact hlt⟩, fun hh => (h.held hh).2 (hheld (h.held hh).1), h.env.2 hpos, h.env.1.trans hfull⟩

/-- Every voice is eased or freed, and none begins. -/
def Eased (s s' : State) : Prop := ∀ (i : VoiceIx) (v' : Voice), s'.voice i = some v' → ∃ v : Voice, s.voice i = some v ∧ v.Eases v'

section Voices
variable {s : State}

theorem Eased.refl (s : State) : Eased s s := fun _ v h => ⟨v, h, .refl v⟩

theorem Eased.trans {a b c : State} (h : Eased a b) (g : Eased b c) : Eased a c := by
  intro i w hw
  obtain ⟨v, hv, hvw⟩ := g i w hw
  obtain ⟨u, hu, huv⟩ := h i v hv
  exact ⟨u, hu, huv.trans hvw⟩

theorem Eased.of_voices {s' : State} (h : s'.voices = s.voices) : Eased s s' := by
  intro i v hv
  refine ⟨v, ?_, .refl v⟩
  rw [State.voice, h] at hv
  exact hv

theorem State.mapVoices_eased (s : State) {f : Voice → Voice} (h : ∀ v : Voice, v.Eases (f v)) : Eased s (s.mapVoices f) := by
  intro i v' hv'
  rw [State.voice_mapVoices] at hv'
  obtain ⟨v, hv, rfl⟩ := Option.map_eq_some_iff.mp hv'
  exact ⟨v, hv, h v⟩

/-- Where some voices alone change their state, to SOUNDING or with their key up. -/
theorem Voice.eases_ite {v : Voice} {p : Prop} [Decidable p] {st : VoiceState} (h : p → v.held = false ∨ st = .sounding) :
    v.Eases (if p then { v with state := st } else v) := by
  split
  · rename_i hp
    refine ⟨rfl, rfl, rfl, rfl, rfl, fun hh => ⟨hh, fun _ => (h hp).resolve_left fun hno => ?_⟩, le_rfl, id⟩
    rw [show v.held = true from hh] at hno
    cases hno
  · exact .refl v

theorem State.dampKey_eased (s : State) (g : Group) (k : KeyIx) : Eased s (s.dampKey g k) :=
  s.mapVoices_eased fun v => by
    split
    · exact Voice.eases_unheld .damping v.release
    · exact .refl v

theorem State.noteOff_eased (s : State) (src : Source) (k : KeyIx) (level : Nat) : Eased s (s.noteOff src k level) :=
  s.mapVoices_eased fun v => by
    split
    · exact Voice.eases_unheld _ level
    · exact .refl v

theorem State.sostenutoRelease_eased (s : State) (g : Group) (keys : KeySet) : Eased s (s.sostenutoRelease g keys) := by
  unfold State.sostenutoRelease
  split
  · exact .refl s
  · exact s.mapVoices_eased fun v => Voice.eases_ite fun h => .inl h.2.2.1

theorem State.damperNotice_eased (s : State) (g : Group) (before after : Nat) : Eased s (s.damperNotice g before after) := by
  unfold State.damperNotice
  split
  · exact s.mapVoices_eased fun v => Voice.eases_ite fun _ => .inr rfl
  · split
    · exact s.mapVoices_eased fun v => Voice.eases_ite fun h => .inl h.2.2.1
    · exact .refl s

theorem State.sostenutoChange_eased (s : State) (g : Group) (before after : Bool) : Eased s (s.sostenutoChange g before after) := by
  unfold State.sostenutoChange
  split
  · exact .of_voices (s.setCapture_voices _ _)
  · exact (s.sostenutoRelease_eased _ _).trans (.of_voices (State.setCapture_voices _ _ _))
  · exact .refl s

theorem State.pedalEffects_eased (s : State) (g : Group) (i : PedalIx) (sw sw' : Bool) (lv lv' : Nat) :
    Eased s (s.pedalEffects g i sw sw' lv lv') := by
  unfold State.pedalEffects
  split
  · exact s.sostenutoChange_eased _ _ _
  · split
    · exact s.damperNotice_eased _ _ _
    · exact .refl s

theorem State.playbackLevels_eased (s : State) (f : PedalIx → Nat) : Eased s (s.playbackLevels f) := by
  unfold State.playbackLevels
  refine Eased.trans ?_ (State.damperNotice_eased _ _ _ _)
  refine Eased.trans ?_ (State.sostenutoChange_eased _ _ _ _)
  exact .of_voices rfl

theorem State.playbackPedal_eased (s : State) (i : PedalIx) (level : Nat) : Eased s (s.playbackPedal i level) := by
  unfold State.playbackPedal
  refine Eased.trans ?_ (State.pedalEffects_eased _ _ _ _ _ _ _)
  split <;> exact .of_voices rfl

theorem stepVoice_eases {damper : Group → Nat} {v v' : Voice} (h : stepVoice damper (some v) = some v') : v.Eases v' := by
  rcases stepVoice_some damper v with hnone | ⟨e, hne, he, hsome⟩
  · cases hnone.symm.trans h
  · cases hsome.symm.trans h
    exact ⟨rfl, rfl, rfl, rfl, rfl, fun hh => ⟨hh, id⟩,
      (he ▸ stepEnvelope_le _ _ : e ≤ v.env - 1).trans (Nat.sub_le _ _), fun _ => Nat.one_le_iff_ne_zero.mpr hne⟩

/-! ### The laws of the voices -/

/-- The voices within their windows, their budget and their notes. -/
def SoundLaw (s : State) : Prop := VoiceLaw s ∧ HeldLaw s

theorem Eased.costOf_le {s' : State} (h : Eased s s') (i : VoiceIx) : costOf (s'.voice i) ≤ costOf (s.voice i) := by
  cases hv : s'.voice i with
  | none => exact Nat.zero_le _
  | some v' =>
    obtain ⟨v, hv', hease⟩ := h i v' hv
    rw [hv']
    exact hease.cost.le

theorem VoiceLaw.eased {s' : State} (h : VoiceLaw s) (he : Eased s s') (windows : s'.windows = s.windows := by rfl) : VoiceLaw s' := by
  obtain ⟨hwindows, hvoices, hcost⟩ := h
  refine ⟨windows ▸ hwindows, fun i v' hv' => ?_, (State.costSum_le he.costOf_le).trans hcost⟩
  obtain ⟨v, hv, hease⟩ := he i v' hv'
  rw [windows]
  exact hease.lawful (hvoices i v hv)

/-- The notes that are on see the key's tracker or its track, not the rest of the voice. -/
theorem State.noteIsOn_congr {v v' : Voice} (source : v'.source = v.source) (key : v'.key = v.key) : s.noteIsOn v' = s.noteIsOn v := by
  rw [State.noteIsOn, State.noteIsOn, source, key]

theorem SoundLaw.eased {s' : State} (h : SoundLaw s) (he : Eased s s') (windows : s'.windows = s.windows := by rfl)
    (notes : ∀ v : Voice, s.noteIsOn v = true → s'.noteIsOn v = true := by exact fun _ => id) : SoundLaw s' := by
  refine ⟨h.1.eased he windows, fun i v' hv' hheld => ?_⟩
  obtain ⟨v, hv, hease⟩ := he i v' hv'
  rw [State.noteIsOn_congr hease.source hease.key]
  exact notes v (h.2 i v hv (hease.held hheld).1)

/-- With every voice FREE the laws hold over lawful windows. -/
theorem soundLaw_of_free (windows : ∀ w ∈ s.windows, w.lawful) (free : ∀ i : VoiceIx, s.voice i = none) : SoundLaw s := by
  refine ⟨⟨windows, fun i v hv => ?_, ?_⟩, fun i v hv => ?_⟩
  · rw [free i] at hv
    cases hv
  · rw [State.costSum_eq, Finset.sum_eq_zero fun i _ => by rw [free i]; rfl]
    exact Nat.zero_le _
  · rw [free i] at hv
    cases hv

/-- A voice that starts is lawful in the window that serves it (R98). -/
theorem startedVoice_lawful {ws : List Window} {src : Source} {k : KeyIx} {level w : Nat} {win : Window} {t : Time}
    (h : findWindow ws k level = some (w, win)) (hwin : win.lawful) : (startedVoice src k level w win.cost t).lawful ws := by
  obtain ⟨hw, hlo, hhi⟩ := findWindow_some h
  obtain ⟨-, hlength, -⟩ := hwin
  exact ⟨⟨win, hw, hlo, hhi, rfl, rfl, by show 0 < win.length; omega⟩, fun _ => rfl, by show 1 ≤ Config.fullEnvelope; decide, le_rfl⟩

/-- A note-on of a note that is on keeps the laws (R93 to R98). -/
theorem SoundLaw.noteOn (h : SoundLaw s) {src : Source} {k : KeyIx} (on : ∀ v : Voice, v.source = src → v.key = k → s.noteIsOn v = true)
    (level : Nat) : SoundLaw (s.noteOn src k level).1 := by
  have hdamped : SoundLaw (s.dampKey src.group k) := h.eased (s.dampKey_eased _ _)
  cases hfind : findWindow s.windows k level with
  | none =>
    rw [State.noteOn_unserved hfind]
    exact hdamped
  | some x =>
    obtain ⟨w, win⟩ := x
    have hlawful : win.lawful := h.1.1 win (List.mem_of_getElem? (findWindow_some hfind).1)
    have hcost : win.cost ≤ Config.budget := hlawful.2.2.2.2.1.trans (by decide)
    obtain ⟨s1, hshed, hframe, heq⟩ := State.noteOn_shed (src := src) hcost hfind
    rw [heq]
    generalize (s.dampKey src.group k).chooseVoice = i at hshed ⊢
    have hwindows : s1.windows = s.windows := by rw [hframe]
    have heased : Eased (s.dampKey src.group k) s1 := fun j v hv => by
      rcases hshed.kept j with hsame | ⟨-, hfree⟩
      · exact ⟨v, hsame ▸ hv, .refl v⟩
      · rw [hfree] at hv
        cases hv
    have hnotes (v : Voice) : s1.noteIsOn v = s.noteIsOn v := by
      unfold State.noteIsOn State.key State.track
      rw [hframe]
    have hs1 : SoundLaw s1 := hdamped.eased heased hwindows fun v hv => (hnotes v).trans hv
    refine ⟨⟨hs1.1.1, fun j v hv => ?_, ?_⟩, fun j v hv hheld => ?_⟩
    · rw [State.voice_setVoice] at hv
      split at hv
      · cases hv
        show Voice.lawful _ s1.windows
        rw [hwindows]
        exact startedVoice_lawful hfind hlawful
      · exact hs1.1.2.1 j v hv
    · rw [State.costSum_setVoice]
      exact hshed.budget
    · rw [State.voice_setVoice] at hv
      split at hv
      · cases hv
        exact (hnotes _).trans (on _ rfl rfl)
      · exact hs1.2 j v hv hheld

/-- A note-off takes the note that its source no longer has on. -/
theorem SoundLaw.noteOff {x : State} (h : SoundLaw s) (voices : x.voices = s.voices) (windows : x.windows = s.windows) {src : Source}
    {k : KeyIx} (notes : ∀ v : Voice, ¬ (v.source = src ∧ v.key = k) → s.noteIsOn v = true → x.noteIsOn v = true) (level : Nat) :
    SoundLaw (x.noteOff src k level) := by
  have heased : Eased s (x.noteOff src k level) := (Eased.of_voices voices).trans (x.noteOff_eased src k level)
  refine ⟨h.1.eased heased windows, fun i v' hv' hheld => ?_⟩
  obtain ⟨v, hv, hease⟩ := heased i v' hv'
  have hon := h.2 i v hv (hease.held hheld).1
  rw [← State.noteIsOn_congr hease.source hease.key] at hon
  refine notes v' (fun hvk => ?_) hon
  rw [x.noteOff_held src k level i v' hv' hvk.1 hvk.2] at hheld
  cases hheld

end Voices

end Sys2Proof.Machine
end

section
/-! The laws of the voices over every command: the transport's acts, the keys' strokes, the pedals, the output. -/

namespace Sys2Proof.Machine

-- One declaration after another: side by side they open more threads than the check's memory limit holds.
set_option Elab.async false

section Sound
variable {s : State}

/-! ### The notes that are on -/

/-- The notes see the keys' trackers and the tracks' open notes. -/
theorem noteIsOn_of {s' : State} (keys : ∀ k : KeyIx, (s.key k).state.noteOn = true → (s'.key k).state.noteOn = true)
    (opened : ∀ i : TrackIx, (s'.track i).opened = (s.track i).opened) (v : Voice) (h : s.noteIsOn v = true) :
    s'.noteIsOn v = true := by
  unfold State.noteIsOn at *
  split at h
  · exact keys _ h
  · rw [opened]
    exact h

/-- The laws see the voices, the windows, the notes of the keys and the open notes of the tracks. -/
theorem SoundLaw.congr {s' : State} (h : SoundLaw s) (voices : s'.voices = s.voices := by rfl) (windows : s'.windows = s.windows := by rfl)
    (keys : ∀ k : KeyIx, (s.key k).state.noteOn = true → (s'.key k).state.noteOn = true := by exact fun _ => id)
    (opened : ∀ i : TrackIx, (s'.track i).opened = (s.track i).opened := by exact fun _ => rfl) : SoundLaw s' :=
  h.eased (.of_voices voices) windows (noteIsOn_of keys opened)

/-! ### The transport -/

theorem SoundFrame.soundLaw {e : State} (h : SoundFrame s e) (eased : Eased s e) (hs : SoundLaw s) : SoundLaw e :=
  hs.eased eased (by rw [h]) (noteIsOn_of (fun k => by unfold State.key; rw [h]; exact id) fun i => by unfold State.track; rw [h])

theorem State.playbackPedal_soundLaw (hs : SoundLaw s) (i : PedalIx) (level : Nat) : SoundLaw (s.playbackPedal i level) := by
  unfold State.playbackPedal
  refine SoundFrame.soundLaw (State.pedalEffects_sound _ _ _ _ _ _ _) (State.pedalEffects_eased _ _ _ _ _ _ _) ?_
  split
  · exact hs.congr
  · exact hs.congr

theorem PlayStep.soundLaw {ticking : Prop} {e : State} (h : PlayStep ticking s e) (hs : SoundLaw s) : SoundLaw e := by
  cases h with
  | move hopened => exact hs.congr (opened := hopened)
  | log => exact hs.congr
  | raise => exact hs.congr
  | @opens i k level =>
    have hadded : SoundLaw (s.setTrack i { s.track i with opened := KeySet.add (s.track i).opened k }) := by
      refine hs.eased (.of_voices rfl) rfl fun v hv => ?_
      unfold State.noteIsOn at *
      split at hv
      · exact hv
      · rw [State.track_setTrack]
        split
        · subst_vars
          rw [KeySet.has_add, hv, Bool.true_or]
        · exact hv
    refine hadded.noteOn (fun v hsrc hkey => ?_) level
    rw [State.noteIsOn, hsrc]
    simp [State.track_setTrack, hkey]
  | @closes i k level =>
    refine hs.noteOff (x := s.setTrack i { s.track i with opened := KeySet.drop (s.track i).opened k }) rfl rfl (fun v hno hv => ?_) level
    unfold State.noteIsOn at *
    split at hv
    · exact hv
    · rename_i j hsrc
      rw [State.track_setTrack]
      split
      · subst_vars
        have hne : ¬ k = v.key := fun hk => hno ⟨hsrc, hk.symm⟩
        simp [hne, hv]
      · exact hv
  | pedal => exact State.playbackPedal_soundLaw hs _ _
  | levels => exact (s.playbackLevels_sound _).soundLaw (s.playbackLevels_eased _) hs
  | sound => exact hs.congr

theorem Plays.soundLaw {ticking : Prop} {e : State} (h : Plays ticking s e) (hs : SoundLaw s) : SoundLaw e :=
  h.keeps (fun _ _ hstep ha => hstep.soundLaw ha) hs

/-- The voices of the keys are only eased. -/
def LiveEased (s s' : State) : Prop :=
  ∀ (i : VoiceIx) (v' : Voice), s'.voice i = some v' → v'.source = .live → ∃ v : Voice, s.voice i = some v ∧ v.Eases v'

theorem Eased.live {s' : State} (h : Eased s s') : LiveEased s s' := fun i v' hv' _ => h i v' hv'

theorem LiveEased.trans {a b c : State} (h : LiveEased a b) (g : LiveEased b c) : LiveEased a c := by
  intro i w hw hsrc
  obtain ⟨v, hv, hvw⟩ := g i w hw hsrc
  obtain ⟨u, hu, huv⟩ := h i v hv (hvw.source.symm.trans hsrc)
  exact ⟨u, hu, huv.trans hvw⟩

/-- A note-on starts a voice of its own source, and eases the others. -/
theorem State.noteOn_eased (s : State) (src : Source) (k : KeyIx) (level : Nat) (i : VoiceIx) (v' : Voice)
    (h : (s.noteOn src k level).1.voice i = some v') : v'.source = src ∨ ∃ v : Voice, s.voice i = some v ∧ v.Eases v' := by
  cases hfind : findWindow s.windows k level with
  | none =>
    rw [State.noteOn_unserved hfind] at h
    exact .inr (s.dampKey_eased _ _ i v' h)
  | some x =>
    obtain ⟨j, -, hstarted, hothers⟩ := State.noteOn_served (src := src) (w := x.1) (win := x.2) hfind
    by_cases hij : i = j
    · subst hij
      cases hstarted.symm.trans h
      exact .inl rfl
    · rcases hothers i hij with hsame | hfree
      · exact .inr (s.dampKey_eased _ _ i v' (hsame ▸ h))
      · rw [hfree] at h
        cases h

theorem PlayStep.liveEased {ticking : Prop} {e : State} (h : PlayStep ticking s e) : LiveEased s e := by
  cases h with
  | move => exact (Eased.of_voices rfl).live
  | log => exact (Eased.of_voices rfl).live
  | raise => exact (Eased.of_voices rfl).live
  | opens =>
    intro i v' hv' hsrc
    refine (State.noteOn_eased _ _ _ _ i v' hv').resolve_left fun hplay => ?_
    rw [hsrc] at hplay
    cases hplay
  | closes => exact ((Eased.of_voices rfl).trans (State.noteOff_eased _ _ _ _)).live
  | pedal => exact (s.playbackPedal_eased _ _).live
  | levels => exact (s.playbackLevels_eased _).live
  | sound => exact (Eased.of_voices rfl).live

theorem Plays.liveEased {ticking : Prop} {e : State} (h : Plays ticking s e) : LiveEased s e :=
  h.keeps (P := LiveEased s) (fun _ _ hstep ha => ha.trans hstep.liveEased) (Eased.refl s).live

/-! ### The keys -/

/-- A key whose note is off may become anything. -/
theorem SoundLaw.setKey (hs : SoundLaw s) {k : KeyIx} {x : Tracker}
    (note : (s.key k).state.noteOn = true → x.state.noteOn = true) : SoundLaw (s.setKey k x) := by
  refine hs.congr (keys := fun j hj => ?_)
  rw [State.setKey_state]
  split
  · subst_vars
    exact note hj
  · exact hj

theorem RestFrame.soundLaw {e : State} (h : RestFrame s e) (hs : SoundLaw s)
    (keys : ∀ k : KeyIx, (s.key k).state.noteOn = true → (e.key k).state.noteOn = true) : SoundLaw e :=
  hs.congr (by rw [h]) (by rw [h]) keys (fun i => by unfold State.track; rw [h])

theorem State.enterRest_soundLaw (hs : SoundLaw s) {k : KeyIx} (note : (s.key k).state.noteOn = false) : SoundLaw (s.enterRest k) := by
  refine (s.enterRest_rest k).soundLaw hs fun j hj => ?_
  rw [State.enterRest_state]
  split
  · subst_vars
    rw [note] at hj
    cases hj
  · exact hj

/-- A note of a key that is on starts its voice, and is told to the transport (R17). -/
theorem State.keyOn_soundLaw (hs : SoundLaw s) {k : KeyIx} (on : (s.key k).state.noteOn = true) (stroke : Stroke) (ta tb : Time)
    (rep : Bool) : SoundLaw (s.keyOn k stroke ta tb rep) := by
  have hnote (level : Nat) : SoundLaw (s.noteOn .live k level).1 :=
    hs.noteOn (fun v hsrc hkey => by rw [State.noteIsOn, hsrc]; exact hkey ▸ on) level
  have htold (x : State) (hx : SoundLaw x) (b : JournalBody) (t : Time) (level : Nat) :
      SoundLaw ((x.append b t).transportKeyOn k level) :=
    (State.transportKeyOn_plays (ticking := False) _ _ _).soundLaw hx.congr
  unfold State.keyOn
  simp only []
  split
  · exact htold _ (hnote _) _ _ _
  · exact htold _ hs _ _ _

/-- A note that its key has off ends its voices, and is told to the transport (R18). -/
theorem SoundLaw.keyOff {x : State} (hs : SoundLaw s) (voices : x.voices = s.voices) (windows : x.windows = s.windows) {k : KeyIx}
    (notes : ∀ v : Voice, ¬ (v.source = .live ∧ v.key = k) → s.noteIsOn v = true → x.noteIsOn v = true) (level : Nat)
    (cause : OffCause) (t : Time) : SoundLaw (x.keyOff k level cause t) := by
  have hoff : SoundLaw ((x.noteOff .live k level).append (.keyOff k level cause) t) :=
    (hs.noteOff voices windows notes level).congr
  exact (State.transportKeyOff_plays (ticking := False) _ k level).soundLaw hoff

/-- After it no voice of the key is held. -/
theorem State.keyOff_unheld (s : State) (k : KeyIx) (level : Nat) (cause : OffCause) (t : Time) (i : VoiceIx) (v : Voice)
    (h : (s.keyOff k level cause t).voice i = some v) (hsrc : v.source = .live) (hkey : v.key = k) : v.held = false := by
  obtain ⟨u, hu, hease⟩ := (State.transportKeyOff_plays (ticking := False) _ k level).liveEased i v h hsrc
  have hoff := s.noteOff_held .live k level i u hu (hease.source.symm.trans hsrc) (hease.key.symm.trans hkey)
  by_contra hheld
  have := (hease.held (by simpa using hheld)).1
  rw [hoff] at this
  cases this

theorem Transits.soundLaw {k : KeyIx} {e : State} (h : Transits s k e) (hs : SoundLaw s) : SoundLaw e := by
  cases h with
  | moves _ note => exact hs.setKey fun hon => note.trans hon
  | rests note => exact State.enterRest_soundLaw hs note
  | strikes =>
    refine State.keyOn_soundLaw (hs.setKey fun _ => rfl) ?_ _ _ _ _
    exact (congrArg KeyState.noteOn ((s.setKey_state k k { s.key k with state := .down }).trans (if_pos rfl)) :)
  | releases =>
    refine hs.keyOff (x := s.setKeyState k .returning) rfl rfl (fun v hno hv => ?_) _ _ _
    unfold State.noteIsOn at *
    split at hv
    · rename_i hsrc
      have hother := s.setKey_state k v.key { s.key k with state := .returning }
      rw [if_neg fun hk => hno ⟨hsrc, hk⟩] at hother
      exact (congrArg KeyState.noteOn hother).trans hv
    · exact hv

theorem State.enterFaulty_soundLaw (hs : SoundLaw s) (k : KeyIx) (stored : Nat) : SoundLaw (s.enterFaulty k stored) := by
  have hreport (x : State) (hx : SoundLaw x) (b : JournalBody) (c : Condition) : SoundLaw (x.report b c) := hx.congr
  unfold State.enterFaulty
  simp only []
  split
  · have hoff : SoundLaw (s.keyOff k 1 .fault s.now) := hs.keyOff rfl rfl (fun _ _ => id) _ _ _
    have hunheld := s.keyOff_unheld k 1 .fault s.now
    generalize s.keyOff k 1 .fault s.now = x at hoff hunheld
    refine hreport (x.setKey k _) ⟨hoff.1.eased (.of_voices rfl), fun i v hv hheld => ?_⟩ _ _
    have hon := hoff.2 i v hv hheld
    unfold State.noteIsOn at *
    split at hon
    · rename_i hsrc
      rw [State.setKey_state, if_neg fun hk => by rw [hunheld i v hv hsrc hk] at hheld; cases hheld]
      exact hon
    · exact hon
  · rename_i hoff
    exact hreport _ (hs.setKey fun hon => absurd hon hoff) _ _

theorem State.recoverKey_soundLaw (hs : SoundLaw s) {k : KeyIx} {c : FaultCause} (was : (s.key k).state = .faulty c)
    (cause : FaultCause) : SoundLaw (s.recoverKey k cause) := by
  have hoff : (s.key k).state.noteOn = false := by rw [was]; rfl
  have happlied : SoundLaw (s.applyPending k) := (s.applyPending_rest k).soundLaw hs fun j hj => by
    rw [State.applyPending_state]
    exact hj
  have hrest : SoundLaw ((s.applyPending k).setKey k
      { (s.applyPending k).key k with state := .rest, last := none, implausible := 0, recovery := 0 }) :=
    happlied.setKey fun hon => by rw [State.applyPending_state, hoff] at hon; cases hon
  have hstate := State.setKey_state (s.applyPending k) k k
    { (s.applyPending k).key k with state := .rest, last := none, implausible := 0, recovery := 0 }
  rw [if_pos rfl] at hstate
  unfold State.recoverKey
  simp only []
  generalize (s.applyPending k).setKey k
    { (s.applyPending k).key k with state := .rest, last := none, implausible := 0, recovery := 0 } = x at hrest hstate
  have htold : SoundLaw (x.keyFaultRecord k true cause) := hrest.congr
  refine (State.passToLearn_rest _ k).soundLaw htold fun j hj => ?_
  rw [State.passToLearn_state]
  split
  · rename_i hk
    rw [hk.1] at hj
    have hj' : (x.key k).state.noteOn = true := hj
    rw [hstate] at hj'
    cases hj'
  · exact hj

theorem KeyAct.soundLaw {raw : Nat} {k : KeyIx} {e : State} (h : KeyAct raw k s e) (hs : SoundLaw s) : SoundLaw e := by
  cases h with
  | note state => exact hs.setKey fun hon => by rw [state]; exact hon
  | transit h => exact h.soundLaw hs
  | faults => exact State.enterFaulty_soundLaw hs _ _
  | recovers was => exact State.recoverKey_soundLaw hs was _
  | learns was => exact hs.setKey fun hon => by rw [was] at hon; cases hon

theorem TestFrame.soundLaw {e : State} (h : TestFrame s e) (hs : SoundLaw s) : SoundLaw e := by
  rw [h]
  exact hs.congr

theorem RailFrame.soundLaw {e : State} (h : RailFrame s e) (hs : SoundLaw s) : SoundLaw e := h.test.soundLaw hs

theorem ScanFrame.soundLaw {e : State} (h : ScanFrame s e) (hs : SoundLaw s) : SoundLaw e := by
  rw [h]
  exact hs.congr

/-- A key's evaluation finds every voice FREE (R23). -/
theorem State.keyReading_soundLaw (hs : SoundLaw s) (still : StillBeforeRunning s) (k : KeyIx) (raw : Nat) :
    SoundLaw (s.keyReading k raw) := by
  have htold (x : State) (hx : SoundLaw x) : SoundLaw (s.restTold x k) := (s.restTold_frame x k).soundLaw hx
  rcases s.keyReading_cases k raw with ⟨-, h⟩ | ⟨hphase, -, h⟩ | ⟨-, -, h⟩ <;> rw [h]
  · exact hs
  · have hstill := (stillBeforeRunning_iff s).mp still (by rw [State.running, hphase]; rfl)
    have hevaluated : SoundLaw (s.evaluateKey k raw) := soundLaw_of_free hs.1.1 hstill.voices
    refine (State.scanReading_frame _ _ _ _).soundLaw ?_
    rw [State.reportSensors_frame]
    exact (htold _ hevaluated).congr
  · exact (State.scanReading_frame _ _ _ _).soundLaw
      (htold _ ((s.trackerReading_acts k raw).keeps (fun _ _ ha hx => ha.soundLaw hx) hs))

/-! ### The pedals -/

theorem State.pedalReading_soundLaw (hs : SoundLaw s) (i : PedalIx) (raw : Nat) : SoundLaw (s.pedalReading i raw) := by
  have hset (x : LiveChannel) : SoundLaw (s.setLive i x) := hs.congr
  have hpublished (x : LiveChannel) : SoundLaw ((s.setLive i x).publish i) := by
    unfold State.publish
    refine (State.transportPedal_plays (ticking := False) _ _ _).soundLaw ?_
    exact (hset x).congr
  unfold State.pedalReading
  split
  · exact hs
  · split
    · rw [State.reportPedals_frame]
      exact hs.congr
    · unfold State.pedalReadingAfter
      simp only []
      split
      · exact hs
      · refine SoundFrame.soundLaw (State.pedalEffects_sound _ _ _ _ _ _ _) (State.pedalEffects_eased _ _ _ _ _ _ _) ?_
        split
        · exact hpublished _
        · exact hset _

/-! ### The voices and the output -/

theorem VoiceEffect.soundLaw {i : Instr} {e : State} (h : VoiceEffect i s e) (hs : SoundLaw s) : SoundLaw e := by
  cases h with
  | envelope =>
    refine hs.eased fun i v' hv' => ?_
    have hstep : (tableMap (stepVoice s.damper) s.voices)[i] = some v' := hv'
    rw [tableMap_get] at hstep
    cases hv : s.voices[i] with
    | none => rw [hv] at hstep; cases hstep
    | some v =>
      rw [hv] at hstep
      exact ⟨v, hv, stepVoice_eases hstep⟩
  | panic => exact hs.eased (s.mapVoices_eased fun v => Voice.eases_unheld .damping v.release)
  | setLayer => exact hs.congr

/-- A voice whose word pair has been read stands in its sample, or has ended with it (R106, R114). -/
theorem advanceVoice_lawful {ws : List Window} {v v' : Voice} (hv : v.lawful ws) (hws : ∀ w ∈ ws, w.lawful)
    (h : advanceVoice ws (some v) = some v') : v'.lawful ws ∧ v'.cost = v.cost ∧ v'.held = v.held ∧ v'.source = v.source ∧ v'.key = v.key := by
  obtain ⟨⟨w, hw, hlo, hhi, hcost, heven, hlt⟩, hrest⟩ := hv
  obtain ⟨-, -, hlength, -, -, -, hloop⟩ := hws w (List.mem_of_getElem? hw)
  unfold advanceVoice at h
  simp only [hw] at h
  split at h
  · obtain ⟨o, ho, rfl⟩ := Option.map_eq_some_iff.mp h
    obtain ⟨hoeven, holt⟩ := hloop o ho
    exact ⟨⟨⟨w, hw, hlo, hhi, hcost, hoeven, holt⟩, hrest⟩, rfl, rfl, rfl, rfl⟩
  · cases h
    refine ⟨⟨⟨w, hw, hlo, hhi, hcost, ?_, ?_⟩, hrest⟩, rfl, rfl, rfl, rfl⟩
    · show (v.position + 2) % 2 = 0
      omega
    · show v.position + 2 < w.length
      omega

theorem State.frame_soundLaw (hs : SoundLaw s) (sum : Int × Int) : SoundLaw (s.frame sum) := by
  have hvoice (i : VoiceIx) (v' : Voice) (h : (s.frame sum).voice i = some v') :
      ∃ v : Voice, s.voice i = some v ∧ advanceVoice s.windows (some v) = some v' := by
    have hstep : (tableMap (advanceVoice s.windows) s.voices)[i] = some v' := h
    rw [tableMap_get] at hstep
    cases hv : s.voices[i] with
    | none => rw [hv] at hstep; cases hstep
    | some v => exact ⟨v, hv, hv ▸ hstep⟩
  obtain ⟨⟨hwindows, hvoices, hcost⟩, hheld⟩ := hs
  refine ⟨⟨hwindows, fun i v' hv' => ?_, (State.costSum_le fun i => ?_).trans hcost⟩, fun i v' hv' hh => ?_⟩
  · obtain ⟨v, hv, hadvance⟩ := hvoice i v' hv'
    exact (advanceVoice_lawful (hvoices i v hv) hwindows hadvance).1
  · cases hv' : (s.frame sum).voice i with
    | none => exact Nat.zero_le _
    | some v' =>
      obtain ⟨v, hv, hadvance⟩ := hvoice i v' hv'
      rw [hv]
      exact (advanceVoice_lawful (hvoices i v hv) hwindows hadvance).2.1.le
  · obtain ⟨v, hv, hadvance⟩ := hvoice i v' hv'
    obtain ⟨-, -, hsame, hsource, hkey⟩ := advanceVoice_lawful (hvoices i v hv) hwindows hadvance
    exact (State.noteIsOn_congr hsource hkey).trans (hheld i v hv (hsame ▸ hh))

theorem SupplyFrame.soundLaw {e : State} (h : SupplyFrame s e) (hs : SoundLaw s) : SoundLaw e := by
  rw [h]
  exact hs.congr

theorem OutputEffect.soundLaw {i : Instr} {e : State} (h : OutputEffect i s e) (hs : SoundLaw s) : SoundLaw e := by
  cases h with
  | outputFrame => exact State.frame_soundLaw hs _
  | ramp => exact hs.congr
  | contactRaw => exact hs.congr
  | contact => exact (s.debounceJack_frame _ _).soundLaw hs
  | supplyGood => exact s.supplyAsserts_frame.soundLaw hs
  | supplyLost => exact s.supplyDrops_frame.soundLaw hs
  | riseTimeout => exact s.riseExpires_frame.soundLaw hs
  | clickEnd => exact hs.congr
  | readStatus => exact hs.congr
  | setVolume => exact (s.setVolumes_frame _ _).soundLaw hs

/-! ### The learn and the seat -/

theorem KeyState.learned_noteOn (st : KeyState) : st.learned.noteOn = st.noteOn := by cases st <;> rfl

theorem State.endLearn_soundLaw (hs : SoundLaw s) : SoundLaw s.endLearn := by
  have hframe := s.endLearn_frame
  exact hs.congr (by rw [hframe]) (by rw [hframe]) (fun k => by rw [State.endLearn_state, KeyState.learned_noteOn]; exact id)
    (fun i => by unfold State.track; rw [hframe])

theorem State.seatChange_soundLaw (hs : SoundLaw s) (after : Option Link) (cause : SeatCause) : SoundLaw (s.seatChange after cause) := by
  have hrecorded : SoundLaw (s.seatRecorded after cause) := hs.congr
  rw [State.seatChange_eq]
  refine (State.abortTest_frame _ _).soundLaw ?_
  unfold State.endLearnUnder
  split
  · split
    · exact State.endLearn_soundLaw hrecorded
    · exact hrecorded
  · exact hrecorded

theorem LinkFrame.soundLaw {e : State} (h : LinkFrame s e) (hs : SoundLaw s) : SoundLaw e := by
  rw [h]
  exact hs.congr

theorem SeatEffect.soundLaw {i : Instr} {e : State} (h : SeatEffect i s e) (hs : SoundLaw s) : SoundLaw e := by
  cases h with
  | seatClaim =>
    unfold State.claimSeat
    split
    · exact hs
    · exact State.seatChange_soundLaw hs _ _
  | seatYield => exact State.seatChange_soundLaw hs _ _
  | seatPass => exact State.seatChange_soundLaw hs _ _
  | @absent _ l =>
    rcases s.judgeAbsent_cases l with ⟨-, h⟩ | ⟨-, h⟩ <;> rw [h]
    · exact hs
    · refine ((State.ownerAbsent_plays _ l).trans (State.loaderAbsent_plays _ l)).soundLaw ?_
      have hgone := (s.departed_frame l).soundLaw hs
      unfold State.unseated
      split
      · exact State.seatChange_soundLaw hgone _ _
      · exact hgone

theorem State.beginLearn_soundLaw (hs : SoundLaw s) (lo hi : Nat) (l : Link) : SoundLaw (s.beginLearn lo hi l) := by
  have hkey (x : State) (k : KeyIx) (hx : SoundLaw x) : SoundLaw (x.beginLearnKey k) := by
    unfold State.beginLearnKey
    split
    · rename_i hrest
      exact (State.keyLeft_frame _).soundLaw (hx.setKey fun hon => by rw [hrest] at hon; cases hon)
    · exact hx.setKey id
  have hfold (ks : List KeyIx) : ∀ x : State, SoundLaw x → SoundLaw (ks.foldl (fun x k => x.beginLearnKey k) x) := by
    induction ks with
    | nil => exact fun _ hx => hx
    | cons k ks ih => exact fun x hx => ih _ (hkey x k hx)
  exact hfold _ _ ((State.endQuiet_frame _ _).soundLaw (hs.congr (s' := { s with learn := _ })))

theorem CalibrationEffect.soundLaw {i : Instr} {e : State} (h : CalibrationEffect i s e) (hs : SoundLaw s) : SoundLaw e := by
  have hcal (c : WorkingCopy) : SoundLaw (State.calChanged { s with cal := c }) := hs.congr
  cases h with
  | @writeKeyCal _ _ p k _ _ _ =>
    unfold State.writeCal
    split
    · exact RestFrame.soundLaw (s := s) rfl hs fun j hj => by rw [State.applyCal_state]; exact hj
    · exact SoundLaw.congr (hs.setKey (k := k) (x := { s.key k with pendingCal := some (writtenCal p) }) id)
  | writePedalCal => exact hcal _
  | writeTouch => exact (State.judgeQuiet_frame _).soundLaw (hcal _)
  | writeCurve => exact hcal _
  | selectCurve =>
    unfold State.selectCurve
    split
    · exact hs
    · exact hcal _
  | writeRailCal => exact hcal _
  | learnBegin => exact State.beginLearn_soundLaw hs _ _ _
  | learnEnd => exact State.endLearn_soundLaw hs

/-! ### The windows -/

/-- What R112 checks of an entry is what its voices need. -/
theorem Window.lawful_of_valid {w : Window} {headerEnd : Nat} (h : w.valid headerEnd = true) : w.lawful := by
  unfold Window.valid at h
  simp only [Bool.and_eq_true, decide_eq_true_eq, beq_iff_eq] at h
  obtain ⟨⟨⟨⟨⟨⟨⟨⟨⟨⟨⟨⟨hkeys, -⟩, -⟩, -⟩, -⟩, -⟩, heven⟩, hlength⟩, hloop⟩, hleast⟩, hmost⟩, hend⟩, -⟩ := h
  refine ⟨hkeys, hlength, heven, hleast, hmost, by omega, fun o ho => ?_⟩
  rw [ho] at hloop
  simpa using hloop

theorem entryAt_lawful {m : List (Nat × SampleWord)} {e headerEnd : Nat} {w : Window} (h : entryAt m e headerEnd = some w) :
    w.lawful := by
  unfold entryAt at h
  simp only [] at h
  split at h
  · obtain ⟨hvalid, hw⟩ := Option.ite_none_right_eq_some.mp h
    cases hw
    exact Window.lawful_of_valid hvalid
  · cases h

/-- A list built element by element holds what each of its elements holds. -/
theorem forall_of_foldr_some {α β : Type} {P : β → Prop} {f : α → Option (List β) → Option (List β)}
    (hf : ∀ (x : α) (acc : Option (List β)) (ys : List β), f x acc = some ys → ∃ y rest, acc = some rest ∧ ys = y :: rest ∧ P y) :
    ∀ {l : List α} {ys : List β}, l.foldr f (some []) = some ys → ∀ y ∈ ys, P y
  | [], ys, h => by
    cases h
    nofun
  | x :: l, ys, h => by
    obtain ⟨y, rest, hacc, rfl, hy⟩ := hf x _ ys h
    exact List.forall_mem_cons.mpr ⟨hy, forall_of_foldr_some hf hacc⟩

/-- The windows of a header that is taken are lawful (R111, R112). -/
theorem headerWindows_lawful (m : List (Nat × SampleWord)) : ∀ w ∈ (headerWindows m).getD [], w.lawful := by
  unfold headerWindows
  simp only []
  split
  · generalize hfold : List.foldr _ (some ([] : List Window)) _ = ws
    cases ws with
    | none => nofun
    | some ws =>
      refine forall_of_foldr_some (fun e acc ws h => ?_) hfold
      split at h
      · rename_i w rest hentry
        cases h
        exact ⟨w, rest, rfl, rfl, entryAt_lawful hentry⟩
      · cases h
  · nofun

/-! ### Start-up -/

theorem State.enterRunning_windows (s : State) : s.enterRunning.windows = s.windows := by
  have hphase : (s.setPhase .running).windows = s.windows := by rw [State.setPhase_frame]
  have hreport (x : State) (b : JournalBody) : (x.report b .cal).windows = x.windows := rfl
  unfold State.enterRunning
  generalize s.setPhase .running = x at hphase
  rw [State.judgeLed_frame]
  show (State.judgeSeatDefault _).windows = _
  rw [State.judgeSeatDefault_frame]
  simp only []
  split
  · rw [hreport, hphase]
  · exact hphase

theorem State.checkHeader_windows (s : State) : s.checkHeader.windows = (headerWindows s.sampleMem).getD [] := by
  unfold State.checkHeader
  simp only []
  split
  · rw [State.setPhase_frame]
  · rw [State.enterRunning_windows]

theorem State.setPhase_soundLaw (hs : SoundLaw s) (p : Phase) : SoundLaw (s.setPhase p) := by
  rw [State.setPhase_frame]
  exact hs.congr

theorem State.enterRunning_soundLaw (hs : SoundLaw s) : SoundLaw s.enterRunning := by
  have hjudged (x : State) (hx : SoundLaw x) : SoundLaw (x.raise .startup).judgeLed := by
    rw [State.judgeLed_frame]
    exact hx.congr
  have hreport (x : State) (hx : SoundLaw x) (b : JournalBody) : SoundLaw (x.report b .cal) := hx.congr
  have hset := State.setPhase_soundLaw hs .running
  unfold State.enterRunning
  simp only []
  generalize s.setPhase .running = x at hset
  have hdefault (y : State) (hy : SoundLaw y) : SoundLaw y.judgeSeatDefault := by
    unfold State.judgeSeatDefault
    split
    · exact State.seatChange_soundLaw hy _ _
    · exact hy
  refine hjudged _ (hdefault _ ?_)
  split
  · exact hreport x hset _
  · exact hset

theorem StartUpEffect.soundLaw {i : Instr} {e : State} (h : StartUpEffect i s e) (hs : SoundLaw s) (still : StillBeforeRunning s) :
    SoundLaw e := by
  have hload (x : State) (hx : SoundLaw x) : SoundLaw x.endLoad := (State.setPhase_soundLaw hx .checking).congr
  cases h with
  | load =>
    unfold State.loadImage
    split
    · exact hload _ hs.congr
    · exact hload _ hs.congr
  | loadNoAnswer => exact hload _ hs.congr
  | headerCheck phase =>
    have hstill := (stillBeforeRunning_iff s).mp still (by rw [State.running, phase]; rfl)
    refine soundLaw_of_free (by rw [s.checkHeader_windows]; exact headerWindows_lawful _) fun i => ?_
    unfold State.voice
    rw [s.checkHeader_frame]
    exact hstill.voices i
  | decision =>
    have hframe := s.decideRail_frame
    rw [hframe]
    exact hs.congr
  | release => exact State.enterRunning_soundLaw hs

theorem State.resetBlocks_soundLaw (s : State) (kind : ResetKind) (straps : Straps) (tracks : Vector Track 4)
    (store : TakeStoreOutcome) : SoundLaw (s.resetBlocks kind straps tracks store) := by
  unfold State.resetBlocks
  rw [State.judgeLed_frame]
  exact soundLaw_of_free nofun fun i => by simp [State.voice]

/-! ### Every change -/

theorem Effect.soundLaw {i : Instr} {e : State} (h : Effect i s e) (hs : SoundLaw s) (still : StillBeforeRunning s) : SoundLaw e := by
  cases h with
  | unchanged => exact hs
  | reset h =>
    obtain ⟨s1, kind, straps, tracks, store, rfl⟩ := h.eq_resetBlocks
    exact State.resetBlocks_soundLaw _ _ _ _ _
  | startUp h => exact h.soundLaw hs still
  | key h =>
    cases h with
    | keyReading => exact State.keyReading_soundLaw hs still _ _
  | pedal h =>
    cases h with
    | pedalReading => exact State.pedalReading_soundLaw hs _ _
  | rail h => exact h.frame.soundLaw hs
  | test h => exact h.frame.soundLaw hs
  | voice h => exact h.soundLaw hs
  | output h => exact h.soundLaw hs
  | transport h => exact h.plays.soundLaw hs
  | link h => exact h.frame.soundLaw hs
  | seat h => exact h.soundLaw hs
  | calibration h => exact h.soundLaw hs
  | commit h =>
    rw [h.frame]
    exact hs.congr

/-- A board's sample words alone replace the sample memory (R212). -/
theorem Effect.sampleMem_wf {i : Instr} {e : State} (h : Effect i s e) (hs : Memory.wf s.sampleMem = true) :
    Memory.wf e.sampleMem = true := by
  cases h with
  | unchanged => exact hs
  | reset h =>
    have hcut : s.cutCommit.sampleMem = s.sampleMem := by
      unfold State.cutCommit
      split <;> rfl
    cases h with
    | powerOn =>
      unfold State.powerOn State.resetBlocks
      rw [State.judgeLed_frame]
      exact State.attach_sampleMem_wf _ _ (hcut.symm ▸ hs)
    | warm =>
      unfold State.warm State.resetBlocks
      rw [State.judgeLed_frame]
      exact hcut.symm ▸ hs
  | startUp h => rw [h.frame]; exact hs
  | key h => rw [h.frame]; exact hs
  | pedal h => rw [h.frame]; exact hs
  | rail h => rw [h.frame]; exact hs
  | test h => rw [h.frame]; exact hs
  | voice h => rw [h.frame]; exact hs
  | output h => rw [h.frame]; exact hs
  | transport h => rw [h.plays.frame]; exact hs
  | link h => rw [h.frame]; exact hs
  | seat h => rw [h.frame]; exact hs
  | calibration h => rw [h.frame]; exact hs
  | commit h => rw [h.frame]; exact hs

/-- Settles O56: a note-on sheds down to the budget, a voice advances within its sample, and a note that goes off takes its
held voices with it. -/
theorem voicesStayWithinTheirBudget : Obligations.VoicesStayWithinTheirBudget := by
  intro s s' hstill hvoices hheld hmem h
  obtain ⟨-, ⟨hvoices', hheld'⟩, hmem'⟩ := step_keeps
    (P := fun x => StillBeforeRunning x ∧ SoundLaw x ∧ Memory.wf x.sampleMem = true)
    (fun _ _ hx => hx) (fun _ _ hx => hx) (fun _ _ _ _ hx => hx)
    (fun _ _ _ he hx => ⟨he.stillBeforeRunning hx.1, he.soundLaw hx.2.1 hx.1, he.sampleMem_wf hx.2.2⟩)
    ⟨hstill, ⟨hvoices, hheld⟩, hmem⟩ h
  exact ⟨hvoices', hheld', hmem'⟩

end Sound

end Sys2Proof.Machine
end

section
/-! The headphone output's controls: the requests SET_LAYER and SET_VOLUME (R92, R122), the ramp steps and the ends of the
click burst and of the tone run (R121, R123, R124). -/

namespace Sys2Proof.Machine

-- One declaration after another: side by side they open more threads than the check's memory limit holds.
set_option Elab.async false

/-! ### Checks nested in checks -/

/-- A rule's checks may be told apart into those it makes first and those of the branch it then takes. -/
theorem State.checked_append (s : State) (a b : List (Bool × Status)) (e : State × Reply) :
    s.checked (a ++ b) e = s.checked a (s.checked b e) := by
  induction a with
  | nil => rfl
  | cons x a ih =>
    obtain ⟨fails, st⟩ := x
    rw [List.cons_append, State.checked_cons, State.checked_cons, ih]

/-! ### SET_LAYER (R92) -/

theorem flagOfCode_of_le {n : Nat} (h : n ≤ 1) : flagOfCode n = some (decide (n = 1)) := by
  obtain rfl | rfl : n = 0 ∨ n = 1 := by omega
  all_goals rfl

theorem flagOfCode_of_gt {n : Nat} (h : 1 < n) : flagOfCode n = none := by
  match n with
  | n + 2 => rfl

theorem ruleSetLayer_eq (l : Link) (p : List Byte) (s : State) : ruleSetLayer l p s =
    s.checked ([s.beforeRunning, s.noSeat l, lengthNot p 1] ++ [(decide (1 < byteAt p 0), .badValue)])
      ({ s with layer := decide (byteAt p 0 = 1) },
        Reply.ok (yesNo (decide (byteAt p 0 = 1)) ++ yesNo (s.silentEffective || decide (byteAt p 0 = 1)))) := by
  rw [State.checked_append, ruleSetLayer]
  by_cases h : 1 < byteAt p 0
  · rw [flagOfCode_of_gt h, decide_eq_true h]
    rfl
  · rw [flagOfCode_of_le (not_lt.mp h), decide_eq_false h]
    rfl

/-! ### SET_VOLUME (R122) -/

/-- The volume of a jack, told by whether its gain or the end of its ramp stands elsewhere. -/
theorem Jack.setVolume_eq (j : Jack) (volume : Nat) : j.setVolume volume =
    if j.enabled = true ∧ (j.gain ≠ squareGain volume ∨ ∃ r : Ramp, j.ramp = some r ∧ r.last ≠ squareGain volume) then
      { j with
        volume := volume, target := squareGain volume
        ramp := some { first := j.gain, last := squareGain volume, total := 32, done := 0 } }
    else { j with volume := volume, target := squareGain volume } := by
  obtain ⟨tip, sleeve, tipRaw, sleeveRaw, state, vol, target, gain, ramp, enabled, clip⟩ := j
  have hmoves : (enabled && Jack.movesTo
        { tip, sleeve, tipRaw, sleeveRaw, state, volume := vol, target, gain, ramp, enabled, clip }
        (squareGain volume)) = true ↔
      enabled = true ∧ (gain ≠ squareGain volume ∨ ∃ r : Ramp, ramp = some r ∧ r.last ≠ squareGain volume) := by
    cases ramp <;> simp [Jack.movesTo]
  simp only [Jack.setVolume, hmoves, Jack.rampTo]

/-- The jacks that a code names: the first, the second, both. -/
theorem ruleSetVolume_eq (p : List Byte) (s : State) : ruleSetVolume p s =
    s.checked ([s.beforeRunning, lengthNot p 2] ++ [(decide (2 < byteAt p 0), .badValue)])
      (let volume := min 127 (byteAt p 1)
       let one := u1 volume ++ u2 (squareGain volume)
       ({ s with jacks := { j1 := if byteAt p 0 = 1 then s.jacks.j1 else s.jacks.j1.setVolume volume
                            j2 := if byteAt p 0 = 0 then s.jacks.j2 else s.jacks.j2.setVolume volume } },
        Reply.ok (u1 (byteAt p 0) ++ (if byteAt p 0 = 2 then one ++ one else one)))) := by
  have hvolume : clampNat 0 127 (byteAt p 1) = min 127 (byteAt p 1) := by
    rw [clampNat_eq_max_min _ (by decide), Nat.zero_max]
  rw [State.checked_append, ruleSetVolume, hvolume]
  generalize byteAt p 0 = n
  match n with
  | 0 => rfl
  | 1 => rfl
  | 2 => rfl
  | n + 3 =>
    rw [decide_eq_true (show 2 < n + 3 by omega)]
    rfl

/-- Settles O29: each rule is its checks and one effect; a volume takes each named jack by `Jack.setVolume_eq`. -/
theorem playControls : Obligations.PlayControls := by
  intro t l p s h hp
  refine ⟨State.request_outcome h hp (ruleSetLayer_eq l p (s.stamp t)), ?_⟩
  have hvolume := State.request_outcome (code := 0x21) h hp (ruleSetVolume_eq p (s.stamp t))
  simp only [Jack.setVolume_eq] at hvolume
  exact hvolume

/-! ### Ramp steps (R121) -/

theorem Jack.rampStep_none {j : Jack} (h : j.ramp = none) : j.rampStep = j := by simp only [Jack.rampStep, h]

theorem Jack.rampStep_within {j : Jack} {r : Ramp} (h : j.ramp = some r) (hmore : r.done + 1 < r.total) :
    j.rampStep = { j with
      gain := ((r.first : Int) + Int.fdiv (((r.last : Int) - r.first) * ((r.done : Int) + 1)) r.total).toNat
      ramp := some { r with done := r.done + 1 } } := by
  simp only [Jack.rampStep, h, Ramp.gain, if_neg (Nat.not_le.mpr hmore)]
  rfl

theorem Jack.rampStep_last {j : Jack} {r : Ramp} (h : j.ramp = some r) (hlast : r.total ≤ r.done + 1) :
    j.rampStep = { j with gain := r.last, ramp := none } := by
  simp only [Jack.rampStep, h, Ramp.gain, if_pos hlast]

/-! ### The tone run's end (R124, R216) -/

theorem execToneRunEnd_notDue (t : Time) {s : State} (h : s.tone ≠ some 96000) : execToneRunEnd t s = .next { s with now := t } := by
  have hdue : ((s.stamp t).tone == some Config.toneFrames) = false := beq_eq_false_iff_ne.mpr h
  simp only [execToneRunEnd, State.whenDue, hdue]
  rfl

theorem execToneRunEnd_due (t : Time) {s : State} (h : s.tone = some 96000) :
    execToneRunEnd t s = .next (s.stamp t).toneDone := by
  have hdue : ((s.stamp t).tone == some Config.toneFrames) = true := beq_iff_eq.mpr h
  simp only [execToneRunEnd, State.whenDue, hdue]
  rfl

/-- The end of a run that is active (R215, R217). -/
theorem State.finishRun_of_some {s : State} {x : Test} (h : s.test = some x) (code detail : Nat) (m : Measure)
    (completed : Bool) : s.finishRun code detail m completed =
      { s.report (.test x.run.kind code detail) .test with
        runs := if completed then min 65535 (s.runs + 1) else s.runs
        lastResult := some { kind := x.run.kind, code := code, detail := detail, measure := m }
        test := if code = 0 ∧ x.continuous = true then some x else none } := by
  simp only [State.finishRun, h]
  rfl

/-- A complete tone run passes, and runs again in mode CONTINUOUS (R216, R217). -/
theorem State.toneDone_eq {s : State} {continuous : Bool} (h : s.test = some { continuous := continuous, run := .tone }) :
    s.toneDone = { s.report (.test .tone 0 0) .test with
      tone := if continuous then some 0 else none
      test := if continuous then s.test else none
      runs := min 65535 (s.runs + 1)
      lastResult := some { kind := .tone, code := 0, detail := 0, measure := .none } } := by
  have hend : s.toneDone = State.endRun { s with tone := none } 0 0 .none := by
    simp only [State.toneDone, h]
    rfl
  rw [hend, State.endRun, State.finishRun_of_some (s := { s with tone := none }) h]
  cases continuous with
  | false => rfl
  | true =>
    rw [h]
    rfl

/-- Settles O31: a ramp step takes each jack by its own ramp; the tone's end, where due, ends its run. -/
theorem rampsAndSourceEnds : Obligations.RampsAndSourceEnds := by
  intro t s
  refine ⟨⟨_, rfl, rfl, fun j => ?ramps⟩, rfl, execToneRunEnd_notDue t, fun continuous htone htest => ?tone⟩
  case ramps =>
    have hjack : (s.jacks.map Jack.rampStep).get j = (s.jack j).rampStep := PerJack.get_map _ _ _
    exact ⟨fun h => hjack.trans (Jack.rampStep_none h), fun r h hmore => hjack.trans (Jack.rampStep_within h hmore),
      fun r h hlast => hjack.trans (Jack.rampStep_last h hlast)⟩
  case tone =>
    refine ⟨_, execToneRunEnd_due t htone, ?_⟩
    rw [State.toneDone_eq (s := s.stamp t) htest]
    exact ⟨rfl, rfl, rfl, rfl, State.append_ring _ _ _, rfl⟩

end Sys2Proof.Machine
end

section
/-! The calibration writes (R40, R42, R59, R87): their checks in order, their clamps and their effects; a new Q judges the
quiet timer (R63). -/

namespace Sys2Proof.Machine

-- One declaration after another: side by side they open more threads than the check's memory limit holds.
set_option Elab.async false

/-! ### Checks that are known to fail -/

/-- Two lists of checks that refuse alike guard an effect alike. -/
theorem State.checked_congr (s : State) {a b : List (Bool × Status)} (h : firstFailing a = firstFailing b) (e : State × Reply) :
    s.checked a e = s.checked b e := by
  cases hb : firstFailing b with
  | none => rw [State.checked_passed e (h.trans hb), State.checked_passed e hb]
  | some st => rw [State.checked_refused e (h.trans hb), State.checked_refused e hb]

/-- Behind a check that fails, the effect does not matter. -/
theorem State.checked_of_fails (s : State) {checks : List (Bool × Status)} (h : firstFailing checks ≠ none)
    (e e' : State × Reply) : s.checked checks e = s.checked checks e' := by
  obtain ⟨st, hst⟩ := Option.ne_none_iff_exists'.mp h
  rw [State.checked_refused e hst, State.checked_refused e' hst]

/-- Some check of the list fails. -/
theorem firstFailing_ne_none {checks : List (Bool × Status)} {st : Status} (h : (true, st) ∈ checks) :
    firstFailing checks ≠ none := fun hnone =>
  absurd ((firstFailing_eq_none checks).mp hnone (true, st) h) (by simp)

/-- Where the commit's check passes, no commit is in progress. -/
theorem State.no_commit_of_passed {s : State} {checks : List (Bool × Status)} (h : firstFailing checks = none)
    (hmem : (s.commit.isSome, Status.busy) ∈ checks) : s.commit = none := by
  simpa using (firstFailing_eq_none checks).mp h _ hmem

/-! ### The rules -/

theorem writtenPedal_eq (p : List Byte) :
    writtenPedal p = { rest := min 1023 (be2At p 1), full := min 1023 (be2At p 3) } := by
  simp only [writtenPedal, clampNat_eq_max_min _ (Nat.zero_le 1023), Nat.zero_max]

theorem writtenTouch_eq (p : List Byte) : writtenTouch p =
    { fOn := byteAt p 0, fRel := byteAt p 1, fRa := byteAt p 2, fSt := byteAt p 3,
      hyst := max 2 (min 32 (byteAt p 4)), quietMs := max 40 (min 500 (be2At p 5)) } := by
  simp only [writtenTouch, clampNat_eq_max_min _ (show 2 ≤ 32 by decide), clampNat_eq_max_min _ (show 40 ≤ 500 by decide)]

/-- What R40, R42, R59 and R87 check first: HELD or RUNNING, the seat. -/
def State.seatedChecks (s : State) (l : Link) : List (Bool × Status) := [s.beforeHeld, s.noSeat l]

theorem ruleWritePedalCal_noChannel {p : List Byte} (l : Link) (s : State) (h : 2 < byteAt p 0) :
    ruleWritePedalCal l p s =
      s.checked (s.seatedChecks l ++ [lengthNot p 5, (true, .badValue)]) (s, .ok []) := by
  have hchecks (rest : List (Bool × Status)) : firstFailing (s.seatedChecks l ++ lengthNot p 5 :: (true, .badValue) :: rest) =
      firstFailing (s.seatedChecks l ++ [lengthNot p 5, (true, .badValue)]) := by
    simp only [State.seatedChecks, State.beforeHeld, State.noSeat, lengthNot, List.cons_append, List.nil_append,
      firstFailing_cons, if_true]
  rw [ruleWritePedalCal, decide_eq_true h]
  exact (s.checked_congr (hchecks _) _).trans (s.checked_of_fails (firstFailing_ne_none (st := .badValue) (by simp)) _ _)

theorem ruleWritePedalCal_channel {p : List Byte} {i : PedalIx} (l : Link) (s : State) (h : byteAt p 0 = i.val) :
    ruleWritePedalCal l p s =
      s.checked (s.seatedChecks l ++ [lengthNot p 5,
          (decide ((writtenPedal p).full < (writtenPedal p).rest + 200), .badValue), s.commitBusy])
        (s.setPedalCal i (writtenPedal p), .ok (u1 i.val ++ u2 (writtenPedal p).rest ++ u2 (writtenPedal p).full)) := by
  have hi : decide (2 < byteAt p 0) = false := decide_eq_false (by omega)
  rw [ruleWritePedalCal, hi, h, pedalOfNat_val]
  refine s.checked_congr ?_ _
  simp only [State.seatedChecks, State.beforeHeld, State.noSeat, lengthNot, State.commitBusy, List.cons_append,
    List.nil_append, firstFailing_cons, Bool.false_eq_true, if_false]

theorem ruleWriteCurve_noCurve {p : List Byte} (l : Link) (s : State) (h : 3 < byteAt p 0) :
    ruleWriteCurve l p s = s.checked (s.seatedChecks l ++ [lengthNot p 25, (true, .badValue)]) (s, .ok []) := by
  have hchecks (rest : List (Bool × Status)) : firstFailing (s.seatedChecks l ++ lengthNot p 25 :: (true, .badValue) :: rest) =
      firstFailing (s.seatedChecks l ++ [lengthNot p 25, (true, .badValue)]) := by
    simp only [State.seatedChecks, State.beforeHeld, State.noSeat, lengthNot, List.cons_append, List.nil_append,
      firstFailing_cons, if_true]
  rw [ruleWriteCurve, decide_eq_true h, Bool.true_or]
  exact (s.checked_congr (hchecks _) _).trans (s.checked_of_fails (firstFailing_ne_none (st := .badValue) (by simp)) _ _)

theorem ruleWriteCurve_curve {p : List Byte} {i : Fin 4} (l : Link) (s : State) (h : byteAt p 0 = i.val) :
    ruleWriteCurve l p s =
      s.checked (s.seatedChecks l ++ [lengthNot p 25, (!curveValid (writtenCurve p), .badValue), s.commitBusy])
        (s.writeCurve i (writtenCurve p), .ok (u1 i.val ++ yesNo (decide (i.val = s.cal.activeCurve)))) := by
  have hi : decide (3 < byteAt p 0) = false := decide_eq_false (by omega)
  rw [ruleWriteCurve, hi, Bool.false_or, h, curveOfNat_val]
  rfl

/-! ### A new Q (R63) -/

/-- A quiet timer that has not run out is left running. -/
theorem State.judgeQuiet_of_early {s : State}
    (h : ∀ q : Time, s.rail.quiet.start = some q → (s.now - q).toNat < 1000 * s.cal.touch.quietMs) : s.judgeQuiet = s := by
  have hdue : s.quietDue = false := by
    unfold State.quietDue
    split
    · rename_i q hq
      exact (reached_eq_false _ _ _).mpr (h q hq)
    · rfl
  simp only [State.judgeQuiet, hdue, Bool.false_eq_true, if_false]

/-- A quiet timer that has run out makes quiet yes, and the rail acts. -/
theorem State.judgeQuiet_of_due {s : State} {q : Time} (hq : s.rail.quiet.start = some q)
    (h : 1000 * s.cal.touch.quietMs ≤ (s.now - q).toNat) : s.judgeQuiet = s.quietArrives := by
  have hdue : s.quietDue = true := by
    simp only [State.quietDue, hq]
    exact (reached_iff _ _ _).mpr h
  simp only [State.judgeQuiet, hdue, if_true]

theorem State.quietArrives_quiet (s : State) :
    s.quietArrives.rail.quiet = { s.rail.quiet with start := none, quiet := true } := State.settle_quiet _

/-- Settles O20: each rule is its checks and one effect, which is read where every check passes, so with no commit in
progress; WRITE_TOUCH judges the quiet timer by `State.judgeQuiet`, as the quiet event does. -/
theorem calibrationWrites : Obligations.CalibrationWrites := by
  intro t l p s h hp
  have hpedal := writtenPedal_eq p
  have htouch := writtenTouch_eq p
  refine ⟨fun hc => ?noChannel, fun i hi => ?channel, ⟨_, rfl, ?touch, fun hearly => ?early, fun q hq hdue => ?due⟩,
    fun hc => ?noCurve, fun i hi => ?curve, ?rail⟩
  case noChannel => exact State.request_outcome h hp (ruleWritePedalCal_noChannel l (s.stamp t) hc)
  case channel =>
    refine (State.request_outcome h hp (ruleWritePedalCal_channel l (s.stamp t) hi)).trans
      (congrArg _ (State.outcome_congr (by rw [hpedal]; rfl) fun hpass => ⟨?_, by rw [hpedal]⟩))
    have hcommit := State.no_commit_of_passed (s := s) hpass (by simp)
    rw [hpedal]
    exact State.calChanged_of_no_commit hcommit
  case touch =>
    refine (State.request_outcome h hp (rule := ruleWriteTouch l p) rfl).trans
      (congrArg _ (State.outcome_congr ?_ fun hpass => ⟨?_, by rw [htouch]⟩))
    · rw [htouch]
      have hvalid : fractionsValid (byteAt p 0) (byteAt p 1) (byteAt p 2) (byteAt p 3) = decide (16 ≤ byteAt p 0 ∧
          byteAt p 0 + 16 ≤ byteAt p 1 ∧ byteAt p 1 + 16 ≤ byteAt p 2 ∧ byteAt p 2 + 16 ≤ byteAt p 3 ∧ byteAt p 3 ≤ 240) := by
        rw [Bool.eq_iff_iff, fractionsValid_iff, decide_eq_true_iff]
      simp only [hvalid]
      rfl
    · have hcommit := State.no_commit_of_passed (s := s) hpass (by simp)
      rw [htouch]
      exact congrArg State.judgeQuiet (State.calChanged_of_no_commit hcommit)
  case early => exact State.judgeQuiet_of_early hearly
  case due =>
    rw [State.judgeQuiet_of_due (by exact hq) (by exact hdue)]
    exact State.quietArrives_quiet _
  case noCurve => exact State.request_outcome h hp (ruleWriteCurve_noCurve l (s.stamp t) hc)
  case curve =>
    refine (State.request_outcome h hp (ruleWriteCurve_curve l (s.stamp t) hi)).trans
      (congrArg _ (State.outcome_congr rfl fun hpass => ⟨?_, rfl⟩))
    exact State.calChanged_of_no_commit (State.no_commit_of_passed (s := s) hpass (by simp))
  case rail =>
    have hclamp := clampNat_eq_max_min (lo := 400) (hi := 4000) (be2At p 0) (by decide)
    refine (State.request_outcome h hp (rule := ruleWriteRailCal l p) rfl).trans
      (congrArg _ (State.outcome_congr rfl fun hpass => ⟨?_, by rw [hclamp]⟩))
    rw [hclamp]
    exact State.calChanged_of_no_commit (State.no_commit_of_passed (s := s) hpass (by simp))

end Sys2Proof.Machine
end

section
/-! The attention requests (R192 to R195): the sets they name, the requesting link's record, and the place LINK_RESET gives
the link in the journal. -/

namespace Sys2Proof.Machine

-- One declaration after another: side by side they open more threads than the check's memory limit holds.
set_option Elab.async false

/-! ### Numbers read from a payload -/

theorem condsAt_toNat (p : List Byte) (i : Nat) : (condsAt p i).toNat = be2At p i := by
  rw [condsAt, BitVec.toNat_ofNat, Nat.mod_eq_of_lt (Nat.lt_succ_of_le (be2At_le p i))]

/-! ### Condition sets (R218) -/

/-- A word is below a power of two where its bits from there on are clear. -/
theorem CondSet.lt_two_pow_iff (c : CondSet) (n : Nat) : c.toNat < 2 ^ n ↔ ∀ i : Nat, n ≤ i → c.getLsbD i = false :=
  ⟨fun h i hi => Nat.testBit_lt_two_pow (h.trans_le (Nat.pow_le_pow_right (by decide) hi)),
    fun h => Nat.lt_pow_two_of_testBit _ fun i hi => h i hi⟩

theorem CondSet.named_iff (c : CondSet) : CondSet.named c = true ↔ c.toNat < 8192 := by
  have hbit (i : Nat) : (c &&& 0xE000#16).getLsbD i = (c.getLsbD i && (0xE000#16).getLsbD i) := BitVec.getLsbD_and
  rw [CondSet.named, beq_iff_eq, show (8192 : Nat) = 2 ^ 13 from rfl, CondSet.lt_two_pow_iff]
  constructor
  · intro h i hi
    by_cases hlt : i < 16
    · have hclear := hbit i
      rw [h] at hclear
      interval_cases i <;> simpa using hclear
    · exact BitVec.getLsbD_of_ge c i (not_lt.mp hlt)
  · intro h
    refine BitVec.eq_of_getLsbD_eq fun i hi => ?_
    rw [hbit]
    by_cases hlow : i < 13
    · interval_cases i <;> simp
    · rw [h i (not_lt.mp hlow)]
      simp

/-- A set that names no unnamed position and not JOURNAL either. -/
theorem CondSet.named_latched_iff (c : CondSet) :
    (CondSet.named c = true ∧ CondSet.namesJournal c = false) ↔ c.toNat < 4096 := by
  rw [CondSet.named_iff, show (8192 : Nat) = 2 ^ 13 from rfl, show (4096 : Nat) = 2 ^ 12 from rfl, CondSet.lt_two_pow_iff,
    CondSet.lt_two_pow_iff]
  constructor
  · rintro ⟨hhigh, hjournal⟩ i hi
    obtain rfl | h : i = 12 ∨ 13 ≤ i := by omega
    · exact hjournal
    · exact hhigh i h
  · exact fun h => ⟨fun i hi => h i (by omega), h 12 (by decide)⟩

theorem unnamed_condsAt (p : List Byte) : (!CondSet.named (condsAt p 0)) = decide (8192 ≤ be2At p 0) := by
  have h := CondSet.named_iff (condsAt p 0)
  rw [condsAt_toNat] at h
  rw [Bool.eq_iff_iff, Bool.not_eq_true', decide_eq_true_iff, ← Bool.not_eq_true, h, not_lt]

theorem unlatched_condsAt (p : List Byte) : (!CondSet.named (condsAt p 0) || CondSet.namesJournal (condsAt p 0)) =
    decide (4096 ≤ be2At p 0) := by
  have h := CondSet.named_latched_iff (condsAt p 0)
  rw [condsAt_toNat] at h
  rw [Bool.eq_iff_iff, decide_eq_true_iff, ← not_lt, ← h]
  cases CondSet.named (condsAt p 0) <;> cases CondSet.namesJournal (condsAt p 0) <;> decide

/-! ### The rules -/

theorem ruleReadConditions_eq (l : Link) (p : List Byte) (s : State) : ruleReadConditions l p s =
    s.checked [lengthNot p 0]
      (s.setLink l (if (s.link l).onAck then s.link l else { s.link l with latched := 0#16 }),
        .ok (s.conditionsPayload l)) := by
  rw [ruleReadConditions]
  cases (s.link l).onAck with
  | false => rfl
  | true =>
    have hsame : s.setLink l (s.link l) = s := congrArg (fun x => { s with links := x }) (PerLink.put_get _ _)
    simp only [if_true, hsame]

theorem ruleSetAttention_eq (l : Link) (p : List Byte) (s : State) : ruleSetAttention l p s =
    s.checked [lengthNot p 5, (!CondSet.named (condsAt p 0) || decide (1 < byteAt p 2), .badValue)]
      (s.setSettings l (condsAt p 0) (decide (byteAt p 2 = 1)) (clampNat 1 256 (be2At p 3)),
        .ok (condSetField (condsAt p 0) ++ yesNo (decide (byteAt p 2 = 1)) ++ u2 (clampNat 1 256 (be2At p 3)))) := by
  rw [ruleSetAttention]
  by_cases h : 1 < byteAt p 2
  · simp only [flagOfCode_of_gt h, decide_eq_true h, Bool.or_true, lengthNot, State.checked_cons, State.checked_nil, ite_self,
      if_true]
  · simp only [flagOfCode_of_le (not_lt.mp h), decide_eq_false h, Bool.or_false]

theorem ruleLinkReset_badLength {p : List Byte} (l : Link) (s : State) (h : p ≠ []) :
    ruleLinkReset l p s = s.checked [(true, .badLength)] (s, .ok []) := by
  have hlength : (p.length != 0) = true := by simpa using h
  rw [ruleLinkReset, lengthNot, hlength]
  rfl

/-! ### LINK_RESET (R195) -/

/-- The view LINK_RESET gives a link: no gap, and a present link at the newest end. -/
def State.resetView (s : State) (l : Link) : View :=
  match (s.link l).view with
  | .present _ _ => .present s.journal.length 0
  | .absent _ => .absent 0

/-- The record LINK_RESET gives a link. -/
def State.resetRecord (s : State) (l : Link) : LinkRec :=
  { s.link l with latched := 0#16, mask := defaultMask, onAck := true, watermark := 1, view := s.resetView l }

theorem State.linkResetOn_eq (s : State) (l : Link) : s.linkResetOn l = (s.setLink l (s.resetRecord l)).judgeRemoval := rfl

theorem State.setLink_self (s : State) (l : Link) (r : LinkRec) : (s.setLink l r).link l = r := PerLink.get_put_self _ _ _

theorem State.setLink_other (s : State) (l : Link) (r : LinkRec) :
    (s.setLink l r).link (otherLink l) = s.link (otherLink l) := PerLink.get_put_other _ _ _

theorem State.linkResetOn_link (s : State) (l : Link) :
    (s.linkResetOn l).link l = { s.resetRecord l with view := ((s.linkResetOn l).link l).view } := by
  rw [State.linkResetOn_eq]
  exact (State.judgeRemoval_link _ l).trans (by rw [State.setLink_self])

theorem State.linkResetOn_other (s : State) (l : Link) : (s.linkResetOn l).link (otherLink l) =
    { s.link (otherLink l) with view := ((s.linkResetOn l).link (otherLink l)).view } := by
  rw [State.linkResetOn_eq]
  exact (State.judgeRemoval_link _ _).trans (by rw [State.setLink_other])

theorem State.linkResetOn_unread_self (s : State) (l : Link) : (s.linkResetOn l).unread l = 0 := by
  have hview : ((s.setLink l (s.resetRecord l)).link l).view = s.resetView l := by rw [State.setLink_self]; rfl
  have hring : (s.setLink l (s.resetRecord l)).journal.length = s.journal.length := rfl
  rw [State.linkResetOn_eq, State.judgeRemoval_unread, State.unread, hview, hring]
  unfold State.resetView
  split
  · exact Nat.sub_self _
  · rfl

theorem State.linkResetOn_unread_other (s : State) (l : Link) :
    (s.linkResetOn l).unread (otherLink l) = s.unread (otherLink l) := by
  rw [State.linkResetOn_eq, State.judgeRemoval_unread, State.unread, State.setLink_other]
  rfl

/-- A link at the newest end stays there when the records that every present link has read are removed (R177). -/
theorem State.judgeRemoval_newest {s : State} {l : Link} {g : Nat} (h : (s.link l).view = .present s.journal.length g) :
    (s.judgeRemoval.link l).view = .present s.judgeRemoval.journal.length g := by
  have hjournal := State.judgeRemoval_journal_of_present h
  have hlink : (s.judgeRemoval.link l).view = (s.link l).view.back ((s.link (otherLink l)).view.olderThan s.journal.length) := by
    rw [State.judgeRemoval, State.oldestCursor_of_present h]
    exact congrArg LinkRec.view (PerLink.get_map _ _ l)
  rw [hlink, hjournal, h, List.length_drop]
  rfl

/-- A removal leaves an absent link's view. -/
theorem State.judgeRemoval_absent {s : State} {l : Link} {n : Nat} (h : (s.link l).view = .absent n) :
    (s.judgeRemoval.link l).view = .absent n := by
  unfold State.judgeRemoval
  split
  · exact h
  · rename_i k _
    have hmap := PerLink.get_map (fun r : LinkRec => { r with view := r.view.back k }) s.links l
    exact (congrArg LinkRec.view hmap).trans (congrArg (View.back k) h)

theorem State.linkResetOn_view_present {s : State} {l : Link} {c g : Nat} (h : (s.link l).view = .present c g) :
    ((s.linkResetOn l).link l).view = .present (s.linkResetOn l).journal.length 0 := by
  rw [State.linkResetOn_eq]
  refine State.judgeRemoval_newest ?_
  rw [State.setLink_self]
  simp only [State.resetRecord, State.resetView, h]
  rfl

theorem State.linkResetOn_view_absent {s : State} {l : Link} {n : Nat} (h : (s.link l).view = .absent n) :
    ((s.linkResetOn l).link l).view = .absent 0 := by
  rw [State.linkResetOn_eq]
  refine State.judgeRemoval_absent ?_
  rw [State.setLink_self]
  simp only [State.resetRecord, State.resetView, h]

/-- With nothing latched, and nothing unread where the watermark is not 0, ATTN is not driven. -/
theorem State.attn_of_idle {s : State} {l : Link} (hlatched : (s.link l).latched = 0#16) (hwater : 1 ≤ (s.link l).watermark)
    (hunread : s.unread l = 0) : s.attn l = false := by
  have hfew : decide ((s.link l).watermark ≤ s.unread l) = false := decide_eq_false (by omega)
  simp [State.attn, State.journalCondition, hlatched, hfew]

/-- Settles O43: each rule is its checks and one change of the requesting link's record; LINK_RESET then judges what the
ring may let go, which moves no link's unread count. -/
theorem attentionRequests : Obligations.AttentionRequests := by
  intro t l p s h hp
  have hwater : clampNat 1 256 (be2At p 3) = max 1 (min 256 (be2At p 3)) := clampNat_eq_max_min _ (by decide)
  refine ⟨State.request_outcome h hp (ruleReadConditions_eq l p (s.stamp t)), ?ack, ?force, ?set, fun hne => ?reset, ?place⟩
  case ack =>
    refine (State.request_outcome h hp (rule := ruleAckConditions l p) rfl).trans ?_
    rw [unnamed_condsAt]
    rfl
  case force =>
    refine (State.request_outcome h hp (rule := ruleForceCondition l p) rfl).trans ?_
    rw [unlatched_condsAt]
    rfl
  case set =>
    refine (State.request_outcome h hp (ruleSetAttention_eq l p (s.stamp t))).trans ?_
    rw [unnamed_condsAt, hwater]
    rfl
  case reset => exact (State.request_outcome h hp (ruleLinkReset_badLength l (s.stamp t) hne)).trans rfl
  case place =>
    have hlink := (s.stamp t).linkResetOn_link l
    have hunread := (s.stamp t).linkResetOn_unread_self l
    have hlatched : (((s.stamp t).linkResetOn l).link l).latched = 0#16 := by rw [hlink]; rfl
    have hwatermark : (((s.stamp t).linkResetOn l).link l).watermark = 1 := by rw [hlink]; rfl
    refine ⟨(s.stamp t).linkResetOn l, ?_, hunread, hlatched, by rw [hlink]; rfl, by rw [hlink]; rfl, hwatermark,
      State.attn_of_idle hlatched hwatermark.ge hunread, fun c g hv => State.linkResetOn_view_present (s := s.stamp t) hv,
      fun n hv => State.linkResetOn_view_absent (s := s.stamp t) hv, fun _ => (s.stamp t).linkResetOn_unread_other l,
      (s.stamp t).linkResetOn_other l, ?_⟩
    · refine (State.request_outcome (p := []) h (Nat.zero_le 60) (rule := ruleLinkReset l []) rfl).trans ?_
      rw [State.outcome_passed (by simp [lengthNot]), hunread]
    · rw [State.linkResetOn_eq]
      exact State.judgeRemoval_frame _

end Sys2Proof.Machine
end

section
/-! The encodings read back (R134, R205, R206, R220, R222): the take records from their words and from a load's payload, the
working copy from its image. -/

namespace Sys2Proof.Machine

-- One declaration after another: side by side they open more threads than the check's memory limit holds.
set_option Elab.async false

/-! ### Take records and their words (R220) -/

/-- The four fields of a word. -/
theorem takeWordOf_fields {cls sub level delta : Nat} (hcls : cls < 4) (hsub : sub < 128) (hlevel : level < 128)
    (hdelta : delta < 65536) :
    takeWordOf cls sub level delta < 2 ^ 32 ∧ takeWordOf cls sub level delta / 1073741824 % 4 = cls ∧
      takeWordOf cls sub level delta / 8388608 % 128 = sub ∧ takeWordOf cls sub level delta / 65536 % 128 = level ∧
      takeWordOf cls sub level delta % 65536 = delta := by
  unfold takeWordOf
  omega

/-- A word of 32 bits is made of its four fields. -/
theorem takeWordOf_of_fields {w : Nat} (h : w < 2 ^ 32) :
    takeWordOf (w / 1073741824 % 4) (w / 8388608 % 128) (w / 65536 % 128) (w % 65536) = w := by
  unfold takeWordOf
  omega

theorem keyOfNat_eq_some {n : Nat} {k : KeyIx} (h : keyOfNat n = some k) : k.val = n := by
  unfold keyOfNat at h
  split at h
  · cases h
    rfl
  · cases h

theorem pedalOfNat_eq_some {n : Nat} {c : PedalIx} (h : pedalOfNat n = some c) : c.val = n := by
  unfold pedalOfNat at h
  split at h
  · cases h
    rfl
  · cases h

/-- The levels that a record's word can hold: 1 to 127 for a note, 0 to 127 for a pedal. -/
def TakeRec.levelFits (r : TakeRec) : Prop :=
  (∀ (k : KeyIx) (level : Nat), (r.body = .noteOn k level ∨ r.body = .noteOff k level) → 1 ≤ level ∧ level ≤ 127) ∧
  (∀ (c : PedalIx) (level : Nat), r.body = .pedal c level → level ≤ 127)

theorem TakeRec.word_reads {r : TakeRec} (hdelta : r.delta ≤ 65535) (hlevel : r.levelFits) :
    r.word < 2 ^ 32 ∧ takeOfWord r.word = some r := by
  obtain ⟨hnote, hpedal⟩ := hlevel
  obtain ⟨body, delta⟩ := r
  have hd : delta < 65536 := Nat.lt_succ_of_le hdelta
  unfold TakeRec.word takeOfWord
  cases body with
  | noteOn k level =>
    obtain ⟨hlow, hhigh⟩ := hnote k level (.inl rfl)
    obtain ⟨hword, hcls, hsub, hlev, hdel⟩ := takeWordOf_fields (cls := 0) (by decide) (show k.val < 128 by omega)
      (show level < 128 by omega) hd
    refine ⟨hword, ?_⟩
    simp only [hcls, hsub, hlev, hdel, keyOfNat_val, if_neg (show level ≠ 0 by omega), Option.map_some]
  | noteOff k level =>
    obtain ⟨hlow, hhigh⟩ := hnote k level (.inr rfl)
    obtain ⟨hword, hcls, hsub, hlev, hdel⟩ := takeWordOf_fields (cls := 1) (by decide) (show k.val < 128 by omega)
      (show level < 128 by omega) hd
    refine ⟨hword, ?_⟩
    simp only [hcls, hsub, hlev, hdel, keyOfNat_val, if_neg (show level ≠ 0 by omega), Option.map_some]
  | pedal c level =>
    have hhigh := hpedal c level rfl
    obtain ⟨hword, hcls, hsub, hlev, hdel⟩ := takeWordOf_fields (cls := 2) (by decide) (show c.val < 128 by omega)
      (show level < 128 by omega) hd
    refine ⟨hword, ?_⟩
    simp only [hcls, hsub, hlev, hdel, pedalOfNat_val, Option.map_some]
  | wait =>
    obtain ⟨hword, hcls, hsub, hlev, hdel⟩ := takeWordOf_fields (cls := 3) (sub := 0) (level := 0) (by decide) (by decide)
      (by decide) hd
    refine ⟨hword, ?_⟩
    simp only [hcls, hsub, hlev, hdel, if_true]
  | endMark =>
    obtain ⟨hword, hcls, hsub, hlev, hdel⟩ := takeWordOf_fields (cls := 3) (sub := 1) (level := 0) (by decide) (by decide)
      (by decide) hd
    refine ⟨hword, ?_⟩
    simp only [hcls, hsub, hlev, hdel, if_true, Nat.one_ne_zero, if_false]

/-- What a word is read as: a record made of the word's own fields, whose level its word can hold. -/
theorem takeOfWord_made {w : Nat} {r : TakeRec} (h : takeOfWord w = some r) : r.levelFits ∧ r.delta = w % 65536 ∧
    r.word = takeWordOf (w / 1073741824 % 4) (w / 8388608 % 128) (w / 65536 % 128) (w % 65536) := by
  have hcls : w / 1073741824 % 4 < 4 := Nat.mod_lt _ (by decide)
  have hlevel : w / 65536 % 128 ≤ 127 := Nat.le_of_lt_succ (Nat.mod_lt _ (by decide))
  unfold takeOfWord at h
  generalize w / 1073741824 % 4 = cls at h hcls ⊢
  generalize w / 8388608 % 128 = sub at h ⊢
  generalize w / 65536 % 128 = level at h hlevel ⊢
  generalize w % 65536 = delta at h ⊢
  simp only [] at h
  obtain rfl | rfl | rfl | rfl : cls = 0 ∨ cls = 1 ∨ cls = 2 ∨ cls = 3 := by omega
  · obtain ⟨hne, h⟩ := Option.ite_none_left_eq_some.mp h
    obtain ⟨k, hk, rfl⟩ := Option.map_eq_some_iff.mp h
    refine ⟨⟨fun _ _ hb => ?_, nofun⟩, rfl, by rw [← keyOfNat_eq_some hk]; rfl⟩
    rcases hb with hb | hb <;> cases hb
    exact ⟨Nat.pos_of_ne_zero hne, hlevel⟩
  · obtain ⟨hne, h⟩ := Option.ite_none_left_eq_some.mp h
    obtain ⟨k, hk, rfl⟩ := Option.map_eq_some_iff.mp h
    refine ⟨⟨fun _ _ hb => ?_, nofun⟩, rfl, by rw [← keyOfNat_eq_some hk]; rfl⟩
    rcases hb with hb | hb <;> cases hb
    exact ⟨Nat.pos_of_ne_zero hne, hlevel⟩
  · obtain ⟨c, hc, rfl⟩ := Option.map_eq_some_iff.mp h
    refine ⟨⟨fun _ _ hb => (by rcases hb with hb | hb <;> cases hb), fun _ _ hb => ?_⟩, rfl,
      by rw [← pedalOfNat_eq_some hc]; rfl⟩
    cases hb
    exact hlevel
  · obtain ⟨hzero, hrest⟩ := Option.ite_none_right_eq_some.mp h
    subst hzero
    split at hrest
    · rename_i hsub
      subst hsub
      cases hrest
      exact ⟨⟨fun _ _ hb => (by rcases hb with hb | hb <;> cases hb), nofun⟩, rfl, rfl⟩
    · obtain ⟨hsub, hlast⟩ := Option.ite_none_right_eq_some.mp hrest
      subst hsub
      cases hlast
      exact ⟨⟨fun _ _ hb => (by rcases hb with hb | hb <;> cases hb), nofun⟩, rfl, rfl⟩

/-- What a word is read as has that word. -/
theorem word_of_takeOfWord {w : Nat} {r : TakeRec} (hw : w < 2 ^ 32) (h : takeOfWord w = some r) :
    r.word = w ∧ r.delta ≤ 65535 := by
  obtain ⟨-, hdelta, hword⟩ := takeOfWord_made h
  exact ⟨hword.trans (takeWordOf_of_fields hw), by omega⟩

/-- A record that is read back from its word has a word of 32 bits. -/
theorem TakeRec.word_lt {r : TakeRec} (h : takeOfWord r.word = some r) : r.word < 2 ^ 32 := by
  obtain ⟨hlevel, hdelta, -⟩ := takeOfWord_made h
  exact (TakeRec.word_reads (by omega) hlevel).1

/-! ### A load's payload (R162) -/

/-- One record of a payload, before those read behind it. -/
def takeRead (p : List Byte) (i : Nat) (acc : Option (List TakeRec)) : Option (List TakeRec) :=
  match takeOfWord (be4At p (1 + 4 * i)), acc with
  | some r, some rest => if r.body = .endMark then none else some (r :: rest)
  | _, _ => none

theorem takesOfPayload_eq (p : List Byte) (n : Nat) : takesOfPayload p n = (List.range n).foldr (takeRead p) (some []) := rfl

theorem takeRead_eq_some {p : List Byte} {i : Nat} {acc : Option (List TakeRec)} {rs : List TakeRec}
    (h : takeRead p i acc = some rs) : ∃ r rest, acc = some rest ∧ rs = r :: rest ∧ r.isEnd = false := by
  unfold takeRead at h
  split at h
  · rename_i r rest _
    obtain ⟨hbody, h⟩ := Option.ite_none_left_eq_some.mp h
    cases h
    refine ⟨r, rest, rfl, rfl, ?_⟩
    unfold TakeRec.isEnd
    split
    · exact absurd ‹_› hbody
    · rfl
  · cases h

theorem length_of_foldr_takeRead {p : List Byte} : ∀ {l : List Nat} {rs : List TakeRec},
    l.foldr (takeRead p) (some []) = some rs → rs.length = l.length
  | [], rs, h => by
    cases h
    rfl
  | i :: l, rs, h => by
    obtain ⟨r, rest, hacc, rfl, -⟩ := takeRead_eq_some h
    rw [List.length_cons, List.length_cons, length_of_foldr_takeRead hacc]

theorem takesOfPayload_reads {p : List Byte} {n : Nat} {rs : List TakeRec} (h : takesOfPayload p n = some rs) :
    rs.length = n ∧ ∀ r ∈ rs, r.isEnd = false := by
  rw [takesOfPayload_eq] at h
  exact ⟨(length_of_foldr_takeRead h).trans List.length_range, forall_of_foldr_some (fun _ _ _ => takeRead_eq_some) h⟩

/-! ### Fields read back at their places -/

theorem byteAt_drop (p : List Byte) (n i : Nat) : byteAt (p.drop n) i = byteAt p (n + i) := by
  simp only [byteAt, List.getD_eq_getElem?_getD, List.getElem?_drop]

theorem be2At_drop (p : List Byte) (n i : Nat) : be2At (p.drop n) i = be2At p (n + i) := by
  rw [be2At, be2At, byteAt_drop, byteAt_drop, Nat.add_assoc]

theorem be4At_drop (p : List Byte) (n i : Nat) : be4At (p.drop n) i = be4At p (n + i) := by
  rw [be4At, be4At, be2At_drop, be2At_drop, Nat.add_assoc]

/-- A two-byte field at the head of what is read. -/
theorem be2At_u2 {n : Nat} (h : n ≤ 65535) (rest : List Byte) : be2At (u2 n ++ rest) 0 = n := by
  have hhigh : (byteOf (n / 256)).toNat = n / 256 % 256 := BitVec.toNat_ofNat ..
  have hlow : (byteOf n).toNat = n % 256 := BitVec.toNat_ofNat ..
  change (byteOf (n / 256)).toNat * 256 + (byteOf n).toNat = n
  rw [hhigh, hlow]
  omega

theorem be4At_u4 {n : Nat} (h : n < 2 ^ 32) (rest : List Byte) : be4At (u4 n ++ rest) 0 = n := by
  have hbyte (m : Nat) : (byteOf m).toNat = m % 256 := BitVec.toNat_ofNat ..
  change ((byteOf (n / 16777216)).toNat * 256 + (byteOf (n / 65536)).toNat) * 65536 +
    ((byteOf (n / 256)).toNat * 256 + (byteOf n).toNat) = n
  rw [hbyte, hbyte, hbyte, hbyte]
  omega

theorem byteAt_u1 {n : Nat} (h : n ≤ 255) (rest : List Byte) : byteAt (u1 n ++ rest) 0 = n :=
  byteAt_byteOf n (Nat.lt_succ_of_le h) rest

/-- Blocks of one length, one after another: dropping i blocks leaves block i at the head. -/
theorem drop_flatMap {α : Type} {f : α → List Byte} {m : Nat} (hf : ∀ x : α, (f x).length = m) :
    ∀ (xs : List α) (i : Nat) (hi : i < xs.length) (rest : List Byte),
      ∃ tail, (xs.flatMap f ++ rest).drop (m * i) = f xs[i] ++ tail
  | x :: xs, 0, _, rest => ⟨xs.flatMap f ++ rest, by simp⟩
  | x :: xs, i + 1, hi, rest => by
    obtain ⟨tail, htail⟩ := drop_flatMap hf xs i (Nat.lt_of_succ_lt_succ hi) rest
    refine ⟨tail, ?_⟩
    have hdrop : m * (i + 1) = (f x).length + m * i := by rw [hf]; ring
    rw [List.flatMap_cons, List.append_assoc, hdrop, List.drop_append, List.drop_eq_nil_of_le (Nat.le_add_right _ _),
      Nat.add_sub_cancel_left, List.nil_append, htail, List.getElem_cons_succ]

/-! ### The payload of a load's records -/

/-- The step of `takesOfPayload` on a record that is legal and no END. -/
theorem takeRead_of_word {p : List Byte} {i : Nat} {r : TakeRec} {rest : List TakeRec}
    (h : takeOfWord (be4At p (1 + 4 * i)) = some r) (hbody : r.body ≠ .endMark) :
    takeRead p i (some rest) = some (r :: rest) := by
  simp only [takeRead, h, if_neg hbody]

/-- The records of a payload are read back whole, if each of them is read back from its place. -/
theorem foldr_takeRead {p : List Byte} : ∀ (rs : List TakeRec) (first : Nat),
    (∀ (i : Nat) (hi : i < rs.length), takeOfWord (be4At p (1 + 4 * (first + i))) = some rs[i] ∧ rs[i].body ≠ .endMark) →
    (List.range' first rs.length).foldr (takeRead p) (some []) = some rs
  | [], _, _ => rfl
  | r :: rs, first, h => by
    have hrest := foldr_takeRead rs (first + 1) fun i hi => by
      have hnext := h (i + 1) (Nat.succ_lt_succ hi)
      rw [Nat.add_assoc, Nat.add_comm 1 i]
      exact hnext
    obtain ⟨hword, hbody⟩ := h 0 (Nat.succ_pos _)
    rw [List.length_cons, List.range'_succ, List.foldr_cons, hrest]
    exact takeRead_of_word hword hbody

theorem takesOfPayload_words {rs : List TakeRec} (h : ∀ r ∈ rs, r.body ≠ .endMark ∧ takeOfWord r.word = some r) (b : Byte) :
    takesOfPayload (b :: rs.flatMap (fun r => u4 r.word)) rs.length = some rs := by
  rw [takesOfPayload_eq, List.range_eq_range']
  refine foldr_takeRead rs 0 fun i hi => ?_
  obtain ⟨hbody, hreads⟩ := h rs[i] (List.getElem_mem hi)
  obtain ⟨tail, htail⟩ := drop_flatMap (f := fun r : TakeRec => u4 r.word) (fun r => u4_length r.word) rs i hi []
  rw [List.append_nil] at htail
  have hplace : be4At (b :: rs.flatMap (fun r => u4 r.word)) (1 + 4 * (0 + i)) = rs[i].word := calc
    _ = be4At (rs.flatMap (fun r => u4 r.word)) (4 * i) := by
      rw [Nat.zero_add, ← be4At_drop, List.drop_one, List.tail_cons]
    _ = be4At ((rs.flatMap (fun r => u4 r.word)).drop (4 * i)) 0 := by rw [be4At_drop, Nat.add_zero]
    _ = rs[i].word := by rw [htail, be4At_u4 (TakeRec.word_lt hreads)]
  rw [hplace]
  exact ⟨hreads, hbody⟩

/-! ### The parts of an image (R222) -/

/-- A key's eight bytes: its calibration, and the flags that hold its origin. -/
def WorkingCopy.keyBytes (w : WorkingCopy) (k : KeyIx) : List Byte := keyCalBytes w.keys[k] ++ u1 w.origins[k].code

def PedalCal.bytes (p : PedalCal) : List Byte := u2 p.rest ++ u2 p.full

def Breakpoint.bytes (p : Breakpoint) : List Byte := u2 p.v ++ u1 p.l

/-- The image from its pedal pairs on: the pairs, the engaged count and the check. -/
def imagePedals (w : WorkingCopy) (n : Nat) : List Byte :=
  w.pedals.toList.flatMap PedalCal.bytes ++ (u2 w.cEng ++ u2 (checkOf (imageBody w n)))

/-- The image from its keys on. -/
def imageKeys (w : WorkingCopy) (n : Nat) : List Byte := (List.finRange 88).flatMap w.keyBytes ++ imagePedals w n

/-- The image from its curves on. -/
def imageCurves (w : WorkingCopy) (n : Nat) : List Byte := w.curves.toList.flatMap curveBytes ++ imageKeys w n

theorem imageOf_parts (w : WorkingCopy) (n : Nat) : imageOf w n =
    [0x48#8, 0x4B#8, 0x43#8, 0x31#8, 1#8, byteOf n] ++ u2 832 ++ u1 w.touch.fOn ++ u1 w.touch.fRel ++ u1 w.touch.fRa ++
      u1 w.touch.fSt ++ u1 w.touch.hyst ++ u2 w.touch.quietMs ++ u1 w.activeCurve ++ imageCurves w n := by
  unfold imageCurves imageKeys imagePedals imageOf
  conv => lhs; arg 1; unfold imageBody
  simp only [List.append_assoc]
  rfl

theorem imageOf_drop_curves (w : WorkingCopy) (n : Nat) : (imageOf w n).drop 16 = imageCurves w n := by
  rw [imageOf_parts]
  rfl

theorem imageOf_drop_keys (w : WorkingCopy) (n : Nat) : (imageOf w n).drop 112 = imageKeys w n := by
  have hlength : (w.curves.toList.flatMap curveBytes).length = 96 := by
    rw [length_flatMap_of_length curveBytes_length, Vector.length_toList]
  rw [show (112 : Nat) = 16 + 96 from rfl, ← List.drop_drop, imageOf_drop_curves, imageCurves, List.drop_left' hlength]

theorem imageOf_drop_pedals (w : WorkingCopy) (n : Nat) : (imageOf w n).drop 816 = imagePedals w n := by
  have hlength : ((List.finRange 88).flatMap w.keyBytes).length = 704 := by
    rw [length_flatMap_of_length (n := 8) fun _ => rfl, List.length_finRange]
  rw [show (816 : Nat) = 112 + 704 from rfl, ← List.drop_drop, imageOf_drop_keys, imageKeys, List.drop_left' hlength]

theorem imageOf_drop_cEng (w : WorkingCopy) (n : Nat) :
    (imageOf w n).drop 828 = u2 w.cEng ++ u2 (checkOf (imageBody w n)) := by
  have hlength : (w.pedals.toList.flatMap PedalCal.bytes).length = 12 := by
    rw [length_flatMap_of_length (n := 4) fun _ => rfl, Vector.length_toList]
  rw [show (828 : Nat) = 816 + 12 from rfl, ← List.drop_drop, imageOf_drop_pedals, imagePedals, List.drop_left' hlength]

/-! ### The fields of an image -/

/-- A field at a place, read from where its part begins. -/
theorem be2At_place {im rest : List Byte} {base m i : Nat} (h : (im.drop base).drop m = rest) :
    be2At im (base + m + i) = be2At rest i := by
  rw [← h, be2At_drop, be2At_drop, Nat.add_assoc]

theorem byteAt_place {im rest : List Byte} {base m i : Nat} (h : (im.drop base).drop m = rest) :
    byteAt im (base + m + i) = byteAt rest i := by
  rw [← h, byteAt_drop, byteAt_drop, Nat.add_assoc]

theorem be2At_u2_skip (n : Nat) (rest : List Byte) (i : Nat) : be2At (u2 n ++ rest) (i + 2) = be2At rest i := rfl
theorem byteAt_u2_skip (n : Nat) (rest : List Byte) (i : Nat) : byteAt (u2 n ++ rest) (i + 2) = byteAt rest i := rfl

theorem originOf_code (o : Origin) : originOf o.code = o := by cases o <;> rfl

theorem Origin.code_le (o : Origin) : o.code ≤ 255 := by cases o <;> decide

theorem imageFields_key {w : WorkingCopy} {k : KeyIx} (hlegal : w.keys[k].legal) (n : Nat) :
    (imageFields (imageOf w n)).keys[k] = w.keys[k] ∧ (imageFields (imageOf w n)).origins[k] = w.origins[k] := by
  obtain ⟨hr, hb, hd, hg⟩ := hlegal
  obtain ⟨tail, htail⟩ := drop_flatMap (f := w.keyBytes) (m := 8) (fun _ => rfl) (List.finRange 88) k.val
    (by simp) (imagePedals w n)
  have hplace : ((imageOf w n).drop 112).drop (8 * k.val) =
      u2 w.keys[k].r ++ (u2 w.keys[k].b ++ (u2 w.keys[k].d ++ (u1 w.keys[k].g ++ (u1 w.origins[k].code ++ tail)))) := by
    rw [imageOf_drop_keys, imageKeys, htail, List.getElem_finRange]
    simp only [WorkingCopy.keyBytes, keyCalBytes, List.append_assoc]
    rfl
  have hfield (i : Nat) := be2At_place (i := i) hplace
  have hbyte (i : Nat) := byteAt_place (i := i) hplace
  have hflags : byteAt (imageOf w n) (119 + 8 * k.val) = w.origins[k].code := by
    rw [show 119 + 8 * k.val = 112 + 8 * k.val + 7 by omega, hbyte]
    exact byteAt_u1 (Origin.code_le _) tail
  have hr' : be2At (imageOf w n) (112 + 8 * k.val) = w.keys[k].r :=
    (hfield 0).trans (be2At_u2 (Nat.le_trans hr (by decide)) _)
  have hb' : be2At (imageOf w n) (112 + 8 * k.val + 2) = w.keys[k].b := by
    rw [hfield, be2At_u2_skip, be2At_u2 (Nat.le_trans hb (by decide))]
  have hd' : be2At (imageOf w n) (112 + 8 * k.val + 4) = w.keys[k].d := by
    rw [hfield, be2At_u2_skip, be2At_u2_skip, be2At_u2 hd]
  have hg' : byteAt (imageOf w n) (112 + 8 * k.val + 6) = w.keys[k].g := by
    rw [hbyte, byteAt_u2_skip, byteAt_u2_skip, byteAt_u2_skip, byteAt_u1 hg]
  simp only [imageFields, tableOf_get, hflags, hr', hb', hd', hg', originOf_code, and_self]

theorem imageFields_breakpoint {w : WorkingCopy} {c : Fin 4} {i : Fin 8} (hv : w.curves[c][i].v ≤ 65535)
    (hl : w.curves[c][i].l ≤ 255) (n : Nat) : (imageFields (imageOf w n)).curves[c][i] = w.curves[c][i] := by
  obtain ⟨rest, hrest⟩ := drop_flatMap curveBytes_length w.curves.toList c.val (by simp) (imageKeys w n)
  obtain ⟨tail, htail⟩ := drop_flatMap (f := Breakpoint.bytes) (m := 3) (fun _ => rfl) w.curves[c].toList i.val
    (by simp) rest
  have hplace : ((imageOf w n).drop (16 + 24 * c.val)).drop (3 * i.val) =
      u2 w.curves[c][i].v ++ (u1 w.curves[c][i].l ++ tail) := by
    rw [← List.drop_drop, imageOf_drop_curves, imageCurves, hrest, Vector.getElem_toList]
    exact htail.trans (by rw [Vector.getElem_toList, Breakpoint.bytes, List.append_assoc]; rfl)
  have hv' : be2At (imageOf w n) (16 + 24 * c.val + 3 * i.val) = w.curves[c][i].v :=
    (be2At_place (i := 0) hplace).trans (be2At_u2 hv _)
  have hl' : byteAt (imageOf w n) (18 + 24 * c.val + 3 * i.val) = w.curves[c][i].l := by
    rw [show 18 + 24 * c.val + 3 * i.val = 16 + 24 * c.val + 3 * i.val + 2 by omega, byteAt_place hplace, byteAt_u2_skip,
      byteAt_u1 hl]
  simp only [imageFields, tableOf_get, hv', hl']

theorem imageFields_pedal {w : WorkingCopy} {c : PedalIx} (hfull : w.pedals[c].rest + 200 ≤ w.pedals[c].full)
    (hmost : w.pedals[c].full ≤ 1023) (n : Nat) : (imageFields (imageOf w n)).pedals[c] = w.pedals[c] := by
  obtain ⟨tail, htail⟩ := drop_flatMap (f := PedalCal.bytes) (m := 4) (fun _ => rfl) w.pedals.toList c.val (by simp)
    (u2 w.cEng ++ u2 (checkOf (imageBody w n)))
  have hplace : ((imageOf w n).drop 816).drop (4 * c.val) = u2 w.pedals[c].rest ++ (u2 w.pedals[c].full ++ tail) := by
    rw [imageOf_drop_pedals, imagePedals, htail, Vector.getElem_toList, PedalCal.bytes, List.append_assoc]
    rfl
  have hrest' : be2At (imageOf w n) (816 + 4 * c.val) = w.pedals[c].rest :=
    (be2At_place (i := 0) hplace).trans (be2At_u2 (by omega) _)
  have hfull' : be2At (imageOf w n) (818 + 4 * c.val) = w.pedals[c].full := by
    rw [show 818 + 4 * c.val = 816 + 4 * c.val + 2 by omega, be2At_place hplace, be2At_u2_skip, be2At_u2 (by omega)]
  simp only [imageFields, tableOf_get, hrest', hfull']

theorem imageFields_cEng {w : WorkingCopy} (h : w.cEng ≤ 65535) (n : Nat) : (imageFields (imageOf w n)).cEng = w.cEng := by
  have hplace := be2At_drop (imageOf w n) 828 0
  rw [imageOf_drop_cEng, be2At_u2 h] at hplace
  exact hplace.symm

/-- The touch block and the active curve's index stand in the image's first bytes. -/
theorem imageFields_touch {w : WorkingCopy} (hfractions : w.touch.fOn ≤ 255 ∧ w.touch.fRel ≤ 255 ∧ w.touch.fRa ≤ 255 ∧
      w.touch.fSt ≤ 255) (hhyst : w.touch.hyst ≤ 255) (hquiet : w.touch.quietMs ≤ 65535) (hactive : w.activeCurve ≤ 255)
    (n : Nat) : (imageFields (imageOf w n)).touch = w.touch ∧ (imageFields (imageOf w n)).activeCurve = w.activeCurve := by
  obtain ⟨hOn, hRel, hRa, hSt⟩ := hfractions
  have hdrop : (imageOf w n).drop 8 = u1 w.touch.fOn ++ (u1 w.touch.fRel ++ (u1 w.touch.fRa ++ (u1 w.touch.fSt ++
      (u1 w.touch.hyst ++ (u2 w.touch.quietMs ++ (u1 w.activeCurve ++ imageCurves w n)))))) := by
    rw [imageOf_parts]
    simp only [List.append_assoc]
    rfl
  have hbyte (i : Nat) := byteAt_drop (imageOf w n) 8 i
  have hfield := be2At_drop (imageOf w n) 8 5
  rw [hdrop] at hfield
  simp only [hdrop] at hbyte
  have h8 := (hbyte 0).symm.trans (byteAt_u1 hOn [])
  have h9 := (hbyte 1).symm.trans (byteAt_u1 hRel [])
  have h10 := (hbyte 2).symm.trans (byteAt_u1 hRa [])
  have h11 := (hbyte 3).symm.trans (byteAt_u1 hSt [])
  have h12 := (hbyte 4).symm.trans (byteAt_u1 hhyst [])
  have h13 := hfield.symm.trans (be2At_u2 hquiet [])
  have h15 := (hbyte 7).symm.trans (byteAt_u1 hactive [])
  simp only [Nat.reduceAdd] at h8 h9 h10 h11 h12 h13 h15
  simp only [imageFields, h8, h9, h10, h11, h12, h13, h15, and_self]

/-! ### The round trip -/

theorem imageGround_imageOf (w : WorkingCopy) (n : Nat) : imageGround (imageOf w n) = none := by
  have hlength : (imageBody w n).length = 830 := by
    have h := imageOf_length w n
    rw [imageOf, List.length_append, u2_length] at h
    simp only [Config.imageBytes] at h
    omega
  have hsignature : (imageOf w n).take 4 = [0x48#8, 0x4B#8, 0x43#8, 0x31#8] := by rw [imageOf_parts]; rfl
  have hversion : byteAt (imageOf w n) 4 = 1 := by rw [imageOf_parts]; rfl
  have hsize : be2At (imageOf w n) 6 = 832 := by
    have hdrop : ∃ rest, (imageOf w n).drop 6 = u2 832 ++ rest := ⟨_, by
      rw [imageOf_parts]
      simp only [List.append_assoc]
      rfl⟩
    obtain ⟨rest, hrest⟩ := hdrop
    rw [← be2At_drop _ 6 0, hrest, be2At_u2 (by decide)]
  have hbody : (imageOf w n).take 830 = imageBody w n := List.take_left' hlength
  have hcheck : be2At (imageOf w n) 830 = checkOf (imageBody w n) := by
    have hle : checkOf (imageBody w n) ≤ 65535 := Nat.le_of_lt_succ (Nat.mod_lt _ (by decide))
    have hfield := be2At_u2 hle []
    rw [← be2At_drop _ 830 0, imageOf, List.drop_left' hlength, ← List.append_nil (u2 _), hfield]
  simp only [imageGround, hsignature, hversion, hsize, hbody, hcheck, Config.imageBytes, ne_eq, not_true, or_self, if_false]

/-- A legal copy needs no repair. -/
theorem repairCopy_of_legal {w : WorkingCopy} (h : w.legal) : repairCopy w = w := by
  obtain ⟨hkeys, hfractions, hlow, hhigh, hleast, hmost, hcurves, hactive, hpedals, heng, heng'⟩ := h
  have hkeys' : (repairCopy w).keys = w.keys := table_ext fun k => by
    obtain ⟨hr, hb, -⟩ := hkeys k
    simp only [repairCopy, tableMap_get, clampNat_of_mem (Nat.zero_le _) hr, clampNat_of_mem (Nat.zero_le _) hb]
  have htouch : repairTouch w.touch = w.touch := by
    simp only [repairTouch, hfractions, if_true, clampNat_of_mem hlow hhigh, clampNat_of_mem hleast hmost]
  have hcurves' : (repairCopy w).curves = w.curves := table_ext fun c => by
    simp only [repairCopy, tableOf_get, hcurves c, if_true]
  have hpedals' : (repairCopy w).pedals = w.pedals := table_ext fun c => by
    obtain ⟨hapart, hfull⟩ := hpedals c
    simp only [repairCopy, tableMap_get, repairPedal, clampNat_of_mem (Nat.zero_le _) hfull,
      clampNat_of_mem (Nat.zero_le _) (show w.pedals[c].rest ≤ 1023 by omega), if_neg (Nat.not_lt.mpr hapart)]
  have hactive' : (repairCopy w).activeCurve = w.activeCurve := if_neg (Nat.not_lt.mpr hactive)
  have heng'' : (repairCopy w).cEng = w.cEng := clampNat_of_mem heng heng'
  calc repairCopy w
    _ = { keys := (repairCopy w).keys, origins := w.origins, touch := repairTouch w.touch, curves := (repairCopy w).curves,
          activeCurve := (repairCopy w).activeCurve, pedals := (repairCopy w).pedals, cEng := (repairCopy w).cEng } := rfl
    _ = w := by rw [hkeys', htouch, hcurves', hactive', hpedals', heng'']

/-- The load reads back the copy that the commit wrote (R205, R206). -/
theorem imageFields_imageOf {w : WorkingCopy} (h : w.legal) (n : Nat) : imageFields (imageOf w n) = w := by
  obtain ⟨hkeys, hfractions, hlow, hhigh, hleast, hmost, hcurves, hactive, hpedals, heng, heng'⟩ := h
  obtain ⟨hOn, hRel, hRa, hSt, htop⟩ := (fractionsValid_iff _ _ _ _).mp hfractions
  obtain ⟨htouch, hactive'⟩ := imageFields_touch (w := w) ⟨by omega, by omega, by omega, by omega⟩ (by omega) (by omega)
    (by omega) n
  have hkeys' : (imageFields (imageOf w n)).keys = w.keys := table_ext fun k => (imageFields_key (hkeys k) n).1
  have horigins : (imageFields (imageOf w n)).origins = w.origins := table_ext fun k => (imageFields_key (hkeys k) n).2
  have hcurves' : (imageFields (imageOf w n)).curves = w.curves := table_ext fun c => table_ext fun i => by
    have hspeed := curve_speeds_strictMono (hcurves c) |>.monotone (Fin.le_last i)
    have hlast := curve_last_speed_le (hcurves c)
    have hlevel := curve_level_mem (hcurves c) i
    have hspeed' : w.curves[c][i].v ≤ w.curves[c][(7 : Fin 8)].v := hspeed
    exact imageFields_breakpoint (by omega) (by omega) n
  have hpedals' : (imageFields (imageOf w n)).pedals = w.pedals := table_ext fun c =>
    imageFields_pedal (hpedals c).1 (hpedals c).2 n
  have hcEng := imageFields_cEng (w := w) (by omega) n
  generalize imageFields (imageOf w n) = v at *
  obtain ⟨⟩ := v
  subst_vars
  rfl

/-- Settles O50: each part of an image and each field of a word is read back from its place. -/
theorem encodingsRoundTrip : Obligations.EncodingsRoundTrip := by
  refine ⟨fun w n h hn => ⟨imageOf_length w n, imageGround_imageOf w n, imageFields_imageOf h n, repairCopy_of_legal h, ?_⟩,
    fun r hdelta hnote hpedal => TakeRec.word_reads hdelta ⟨hnote, hpedal⟩, fun w r hw h => word_of_takeOfWord hw h,
    fun p n rs h => takesOfPayload_reads h⟩
  rw [imageOf_parts]
  exact byteAt_u1 hn []

end Sys2Proof.Machine
end

section
/-! Loads and ERASE_TRACK (R161 to R164): each request that is taken, by its checks, and the track and the load after it. -/

namespace Sys2Proof.Machine

-- One declaration after another: side by side they open more threads than the check's memory limit holds.
set_option Elab.async false

/-! ### A request by its rule's answer -/

section Answered

variable {s e : State} {t : Time} {l : Link} {code : Nat} {p payload : List Byte} {rule : State → State × Reply} {st : Status}

/-- A rule that answers OK leaves its effect with the response formed. -/
theorem State.request_replied (h : s.receiving l = true) (hp : p.length ≤ 60) (hr : rule (s.stamp t) = (e, .ok payload)) :
    s.request t l code p rule = .next (e.replied l code p payload) := by
  rw [State.request_taken h hp, hr]
  rfl

/-- A rule that refuses leaves the refusal alone. -/
theorem State.request_denied (h : s.receiving l = true) (hp : p.length ≤ 60)
    (hr : rule (s.stamp t) = (s.stamp t, .no st)) :
    s.request t l code p rule = .next ((s.stamp t).denied l code p st) := by
  rw [State.request_taken h hp, hr]
  rfl

end Answered

/-- A check that passes leaves the rest. -/
theorem firstFailing_pass {b : Bool} {st : Status} (h : b = false) (rest : List (Bool × Status)) :
    firstFailing ((b, st) :: rest) = firstFailing rest := by
  rw [firstFailing_cons, h]
  rfl

theorem State.beforeRunning_of_running {s : State} (h : s.running = true) : s.beforeRunning = (false, .notReady) := by
  rw [State.beforeRunning, h]
  rfl

theorem byteAt_index {n m : Nat} (i : Fin n) (hn : n ≤ 256) (hm : m = i.val) (rest : List Byte) :
    byteAt (byteOf m :: rest) 0 = i.val := by
  rw [hm, byteAt_byteOf _ (by omega)]

section Loads

variable {s : State} {i : TrackIx} {l : Link}

/-! ### ERASE_TRACK and LOAD_BEGIN -/

theorem ruleEraseTrack_taken (hrun : s.running = true) (hidle : s.transport.state = .idle) (hload : s.transport.load = none) :
    ruleEraseTrack [byteOf i.val] s = (s.eraseTrack i, .ok (u2 (s.eraseTrack i).freeSlots)) := by
  have hpass : firstFailing [s.beforeRunning, lengthNot [byteOf i.val] 1, (decide (3 < i.val), .badValue),
      (s.loadOpen, .busy), (s.transport.state.name != .idle, .wrongState)] = none := by
    rw [State.beforeRunning_of_running hrun, State.loadOpen, hload, hidle, decide_eq_false (show ¬ 3 < i.val by omega)]
    rfl
  rw [ruleEraseTrack, byteAt_index i (by decide) rfl, State.checked_passed _ hpass, trackOfNat_val]

theorem ruleLoadBegin_taken (hrun : s.running = true) (hidle : s.transport.state = .idle) (hload : s.transport.load = none)
    (hpresent : s.linkPresent l = true) :
    ruleLoadBegin l [byteOf i.val] s = (s.openLoad i l, .ok (u2 (s.openLoad i l).freeSlots)) := by
  have hpass : firstFailing [s.beforeRunning, lengthNot [byteOf i.val] 1, (decide (3 < i.val), .badValue),
      (s.loadOpen, .busy), (s.transport.state.name != .idle, .wrongState), (!s.linkPresent l, .wrongState)] = none := by
    rw [State.beforeRunning_of_running hrun, State.loadOpen, hload, hidle, decide_eq_false (show ¬ 3 < i.val by omega),
      hpresent]
    rfl
  rw [ruleLoadBegin, byteAt_index i (by decide) rfl, State.checked_passed _ hpass, trackOfNat_val]

theorem State.eraseTrack_track (s : State) (i j : TrackIx) : (s.eraseTrack i).track j =
    if j = i then { s.track i with recs := [{ body := .endMark, delta := 0 }], reserved := false } else s.track j :=
  s.track_setTrack i j _

theorem State.openLoad_track (s : State) (i : TrackIx) (l : Link) (j : TrackIx) : (s.openLoad i l).track j =
    if j = i then { s.track i with recs := [], reserved := true, mode := .mute } else s.track j :=
  s.track_setTrack i j _

/-! ### LOAD_APPEND and LOAD_END -/

theorem State.loadOf_of_open (h : s.transport.load = some { track := i, link := l }) : s.loadOf l = some i := by
  simp only [State.loadOf, h, if_true]

theorem State.loadOf_of_none (h : ∀ i : TrackIx, s.transport.load ≠ some { track := i, link := l }) : s.loadOf l = none := by
  unfold State.loadOf
  split
  · rename_i x hx
    refine if_neg fun hl => h x.track ?_
    rw [hx, ← hl]
  · rfl

theorem ruleLoadAppend_noLoad {p : List Byte} (hrun : s.running = true) (hlength : p.length = 1 + 4 * byteAt p 0)
    (h : ∀ i : TrackIx, s.transport.load ≠ some { track := i, link := l }) :
    ruleLoadAppend l p s = (s, .no .wrongState) := by
  have hpass : firstFailing [s.beforeRunning, (p.length != 1 + 4 * byteAt p 0, .badLength)] = none := by
    rw [State.beforeRunning_of_running hrun, firstFailing_pass rfl, firstFailing_pass (by simp [hlength])]
    rfl
  rw [ruleLoadAppend, State.checked_passed _ hpass, State.loadOf_of_none h]

theorem ruleLoadEnd_noLoad {p : List Byte} (hrun : s.running = true) (hlength : p.length = 2)
    (h : ∀ i : TrackIx, s.transport.load ≠ some { track := i, link := l }) : ruleLoadEnd l p s = (s, .no .wrongState) := by
  have hpass : firstFailing [s.beforeRunning, lengthNot p 2] = none := by
    rw [State.beforeRunning_of_running hrun, lengthNot, hlength]
    rfl
  rw [ruleLoadEnd, State.checked_passed _ hpass, State.loadOf_of_none h]

theorem ruleLoadEnd_taken (hrun : s.running = true) (h : s.transport.load = some { track := i, link := l })
    (hi lo : Byte) : ruleLoadEnd l [hi, lo] s =
      (s.closeLoad i (hi.toNat * 256 + lo.toNat), .ok (u2 ((s.closeLoad i (hi.toNat * 256 + lo.toNat)).track i).recs.length)) := by
  have hpass : firstFailing [s.beforeRunning, lengthNot [hi, lo] 2] = none := by
    rw [State.beforeRunning_of_running hrun]
    rfl
  rw [ruleLoadEnd, State.checked_passed _ hpass, State.loadOf_of_open h]
  rfl

/-- The payload of an append: the count, then each record's word. -/
def appendPayload (rs : List TakeRec) : List Byte := u1 rs.length ++ rs.flatMap (fun r => u4 r.word)

theorem appendPayload_length (rs : List TakeRec) : (appendPayload rs).length = 1 + 4 * rs.length := by
  rw [appendPayload, List.length_append, length_flatMap_of_length (fun r : TakeRec => u4_length r.word), u1_length]
  omega

theorem ruleLoadAppend_taken {rs : List TakeRec} (hrun : s.running = true)
    (h : s.transport.load = some { track := i, link := l }) (hne : rs ≠ []) (hmost : rs.length ≤ 12)
    (hrecs : ∀ r ∈ rs, r.body ≠ .endMark ∧ takeOfWord r.word = some r) :
    ruleLoadAppend l (appendPayload rs) s = s.appendLoad i rs := by
  have hcount : byteAt (appendPayload rs) 0 = rs.length := byteAt_u1 (by omega) _
  have hpass : firstFailing [s.beforeRunning, ((appendPayload rs).length != 1 + 4 * rs.length, .badLength)] = none := by
    rw [State.beforeRunning_of_running hrun, firstFailing_pass rfl, firstFailing_pass (by simp [appendPayload_length])]
    rfl
  have hsome : ¬ (rs.length = 0 ∨ 12 < rs.length) := not_or.mpr ⟨fun h0 => hne (List.length_eq_zero_iff.mp h0), by omega⟩
  rw [ruleLoadAppend, hcount, State.checked_passed _ hpass, State.loadOf_of_open h]
  simp only [if_neg hsome]
  rw [show takesOfPayload (appendPayload rs) rs.length = some rs from takesOfPayload_words hrecs _]

theorem State.closeLoad_track (s : State) (i : TrackIx) (delta : Nat) (j : TrackIx) : (s.closeLoad i delta).track j =
    if j = i then { s.track i with recs := (s.track i).recs ++ [{ body := .endMark, delta := delta }], reserved := false }
    else s.track j :=
  s.track_setTrack i j _

/-- A pool that cannot take the records aborts the load. -/
theorem State.appendLoad_full {rs : List TakeRec} (h : s.freeSlots < rs.length) :
    s.appendLoad i rs = (s.abortLoad .poolFull, .ok (u1 1)) := by
  rw [State.appendLoad, if_neg (Nat.not_le.mpr h)]

/-- A load that is aborted: its END alone on the track, no load, and the TAKE record (R163). -/
theorem State.abortLoad_of_open {x : Load} (h : s.transport.load = some x) (cause : LoadAbort) : s.abortLoad cause =
    ((s.setTrack x.track { s.track x.track with recs := endOnly 0, reserved := false }).setTransport
      { (s.setTrack x.track { s.track x.track with recs := endOnly 0, reserved := false }).transport with load := none }).report
      (.takeLoadAborted x.track cause) .take := by
  simp only [State.abortLoad, h]

end Loads

/-- Settles O40: each request by its checks, which pass or fail as its hypotheses say, and each track by
`State.track_setTrack`. -/
theorem loadsAndErase : Obligations.LoadsAndErase := by
  intro t l s h hrun
  refine ⟨fun i hidle hload => ⟨?erase, fun hpresent => ?begin⟩, fun i rs hload hne hmost hrecs => ?append,
    fun i hi lo hload => ?close, fun hnone => ⟨fun p hp hlength => ?appendDenied, fun p hlength => ?endDenied⟩⟩
  case erase =>
    refine ⟨(s.stamp t).eraseTrack i, State.request_replied (p := [byteOf i.val]) h (by simp)
        (ruleEraseTrack_taken (s := s.stamp t) hrun hidle hload),
      (State.eraseTrack_track _ i i).trans (if_pos rfl), fun j hj => (State.eraseTrack_track _ i j).trans (if_neg hj), rfl⟩
  case begin =>
    refine ⟨(s.stamp t).openLoad i l, State.request_replied (p := [byteOf i.val]) h (by simp)
        (ruleLoadBegin_taken (s := s.stamp t) hrun hidle hload hpresent),
      (State.openLoad_track _ i l i).trans (if_pos rfl), fun j hj => (State.openLoad_track _ i l j).trans (if_neg hj), rfl⟩
  case append =>
    have hrule := ruleLoadAppend_taken (s := s.stamp t) hrun hload hne hmost fun r hr => ⟨(hrecs r hr).1, (hrecs r hr).2.2⟩
    have hlength : (appendPayload rs).length ≤ 60 := by
      rw [appendPayload_length]
      omega
    refine ⟨fun hfits => ?_, fun hfull => ?_⟩
    · have hset : (s.stamp t).appendLoad i rs = _ := if_pos (by exact hfits)
      refine ⟨_, State.request_replied h hlength (hrule.trans hset), ?_, fun j hj => ?_, rfl⟩
      · exact ((s.stamp t).track_setTrack i i _).trans (if_pos rfl)
      · exact ((s.stamp t).track_setTrack i j _).trans (if_neg hj)
    · have habort := State.abortLoad_of_open (s := s.stamp t) hload .poolFull
      refine ⟨_, State.request_replied h hlength (hrule.trans (State.appendLoad_full hfull)), ?_⟩
      rw [habort]
      exact ⟨rfl, ((s.stamp t).track_setTrack i i _).trans (if_pos rfl), State.append_ring _ _ _⟩
  case close =>
    refine ⟨(s.stamp t).closeLoad i (hi.toNat * 256 + lo.toNat),
      State.request_replied (p := [hi, lo]) h (by simp)
        (ruleLoadEnd_taken (s := s.stamp t) hrun hload hi lo),
      (State.closeLoad_track _ i _ i).trans (if_pos rfl), fun j hj => (State.closeLoad_track _ i _ j).trans (if_neg hj), rfl⟩
  case appendDenied => exact State.request_denied h hp (ruleLoadAppend_noLoad (s := s.stamp t) hrun hlength hnone)
  case endDenied =>
    exact State.request_denied h (hlength.le.trans (by decide)) (ruleLoadEnd_noLoad (s := s.stamp t) hrun hlength hnone)

end Sys2Proof.Machine
end

section
/-! The transaction's phases (R186 to R188), and COMMIT with its page acknowledgements and timeout (R206, R207). -/

namespace Sys2Proof.Machine

-- One declaration after another: side by side they open more threads than the check's memory limit holds.
set_option Elab.async false

/-! ### Requests out of RECEIVING (R186) -/

/-- Out of RECEIVING no request is taken: only the action time moves. -/
theorem exec_request_idle {i : Instr} {l : Link} {s : State} (hl : requestLink i = some l) (h : s.receiving l = false) :
    exec i s = .next (s.stamp (commandTime i)) := by
  cases i with
  | unknownRequest t l' code length p =>
    cases hl
    simp only [exec, execUnknownRequest, State.whenDue, State.receiving_stamp, h]
    rfl
  | _ => cases hl <;> exact State.request_idle h

/-! ### The phases (R186, R188) -/

theorem State.setLink_link (s : State) (l : Link) : s.setLink l (s.link l) = s :=
  congrArg (fun x => { s with links := x }) (PerLink.put_get _ _)

theorem Transaction.shifted_of_answering {x : Transaction} {request response : List Byte}
    (h : x = .answering request response) : x.shifted = .discarding := by rw [h]; rfl

theorem Transaction.shifted_of_other {x : Transaction} (h : ∀ request response : List Byte, x ≠ .answering request response) :
    x.shifted = x := by
  unfold Transaction.shifted
  split
  · exact absurd rfl (h _ _)
  · rfl

/-- The codes of 11.1. -/
theorem mem_knownCodes {n : Nat} (h : n ∈ knownCodes) : 0x01 ≤ n ∧ n ≤ 0x0A ∨ n = 0x10 ∨ n = 0x11 ∨ n = 0x18 ∨
    0x20 ≤ n ∧ n ≤ 0x23 ∨ 0x30 ≤ n ∧ n ≤ 0x3F ∨ 0x40 ≤ n ∧ n ≤ 0x46 ∨ 0x50 ≤ n ∧ n ≤ 0x59 ∨ n = 0x60 ∨ n = 0x61 := by
  simp only [knownCodes, List.mem_append, List.mem_map, List.mem_range, List.mem_cons, List.not_mem_nil, or_false] at h
  rcases h with ((((⟨a, ha, rfl⟩ | h) | ⟨a, ha, rfl⟩) | ⟨a, ha, rfl⟩) | ⟨a, ha, rfl⟩) | h <;> omega

theorem execUnknownRequest_taken {t : Time} {l : Link} {code length : Byte} {p : List Byte} {s : State}
    (h : s.receiving l = true) :
    execUnknownRequest t l code length p s = .next ((s.stamp t).refuseFrame l code length p) := by
  simp only [execUnknownRequest, State.whenDue, State.receiving_stamp, h, if_true]

theorem Transaction.answering_shiftsOut {request response : List Byte} {n : Nat} (fillers : Nat) (h : n < response.length) :
    (Transaction.answering request response).shiftsOut fillers (fillers + n) = response[n]? := by
  have hlate : ¬ fillers + n < fillers := by omega
  simp only [Transaction.shiftsOut, if_neg hlate, Nat.add_sub_cancel_left, List.getD_eq_getElem?_getD,
    List.getElem?_eq_getElem h, Option.getD_some]

/-- Settles O44: each phase by the transaction's own case; a frame is refused by its length, else by its code. -/
theorem transactions : Obligations.Transactions := by
  refine ⟨fun t l s => ⟨?_, rfl, fun request response h => ?answered, fun h => ?other, fun code length p h hlength => ?long,
    fun code length p h hlength hcode => ?unknown, ?idle⟩, fun fillers n request response =>
    ⟨rfl, rfl, rfl, fun h => ?filler, fun h => Transaction.answering_shiftsOut fillers h⟩⟩
  · generalize hx : (s.link l).transaction = x
    have hselect : exec (.selectAsserted t l) s = .next { s with
        now := t, links := s.links.put l { s.link l with select := true, transaction := x.selected } } := by rw [← hx]; rfl
    rw [hselect]
    cases x <;> rfl
  case answered =>
    have hshift := Transaction.shifted_of_answering h
    have hexec : exec (.responseShiftedOut t l) s = .next { s with
        now := t, links := s.links.put l { s.link l with transaction := (s.link l).transaction.shifted } } := rfl
    rw [hexec, hshift]
  case other =>
    have hshift := Transaction.shifted_of_other h
    have hexec : exec (.responseShiftedOut t l) s =
        .next ((s.stamp t).setLink l { s.link l with transaction := (s.link l).transaction.shifted }) := rfl
    rw [hexec, hshift]
    exact congrArg _ ((s.stamp t).setLink_link l)
  case long =>
    have hrefused : (s.stamp t).refuseFrame l code length p = (s.stamp t).answer l [code, length] (.no .badLength) :=
      if_pos hlength
    exact (execUnknownRequest_taken h).trans (congrArg _ hrefused)
  case unknown =>
    have hrefused : (s.stamp t).refuseFrame l code length p =
        (s.stamp t).answer l (code :: length :: p) (.no .badCode) :=
      (if_neg (Nat.not_lt.mpr hlength)).trans (if_neg fun hmem => hcode (mem_knownCodes hmem))
    exact (execUnknownRequest_taken h).trans (congrArg _ hrefused)
  case idle =>
    rintro i rfl hl h
    exact exec_request_idle hl h
  case filler => simp only [Transaction.shiftsOut, if_pos h]

/-! ### The EEPROM's pages (11.5) -/

theorem putPage_getD_within {image bytes : List Byte} {page i : Nat} (hpage : 16 * page + 16 ≤ image.length)
    (hbytes : bytes.length = 16) (hlow : 16 * page ≤ i) (hhigh : i < 16 * page + 16) :
    (putPage image page bytes).getD i 0#8 = bytes.getD (i - 16 * page) 0#8 := by
  have htake : (image.take (16 * page)).length = 16 * page := by rw [List.length_take]; omega
  have hplace : putPage image page bytes = image.take (16 * page) ++ bytes ++ image.drop (16 * (page + 1)) := rfl
  rw [hplace, List.getD_append _ _ _ _ (by rw [List.length_append]; omega), List.getD_append_right _ _ _ _ (by omega), htake]

theorem putPage_getD_outside {image bytes : List Byte} {page i : Nat} (hpage : 16 * page + 16 ≤ image.length)
    (hbytes : bytes.length = 16) (h : i < 16 * page ∨ 16 * page + 16 ≤ i) :
    (putPage image page bytes).getD i 0#8 = image.getD i 0#8 := by
  have htake : (image.take (16 * page)).length = 16 * page := by rw [List.length_take]; omega
  have hplace : putPage image page bytes = image.take (16 * page) ++ bytes ++ image.drop (16 * (page + 1)) := rfl
  rw [hplace]
  rcases h with h | h
  · rw [List.getD_append _ _ _ _ (by rw [List.length_append]; omega), List.getD_append _ _ _ _ (by omega)]
    simp only [List.getD_eq_getElem?_getD, List.getElem?_take, if_pos h]
  · have hlength : (image.take (16 * page) ++ bytes).length = 16 * page + 16 := by rw [List.length_append, htake, hbytes]
    rw [List.getD_append_right _ _ _ _ (by omega), hlength]
    simp only [List.getD_eq_getElem?_getD, List.getElem?_drop]
    congr 2
    omega

theorem pageOf_getD {image : List Byte} {page i : Nat} (hlow : 16 * page ≤ i) (hhigh : i < 16 * page + 16) :
    (pageOf image page).getD (i - 16 * page) 0#8 = image.getD i 0#8 := by
  have hplace : pageOf image page = (image.drop (16 * page)).take 16 := rfl
  rw [hplace]
  simp only [List.getD_eq_getElem?_getD, List.getElem?_take, if_pos (show i - 16 * page < 16 by omega), List.getElem?_drop]
  congr 2
  omega

/-! ### The commit (R206, R207) -/

theorem State.readbackRuns_eq (s : State) : s.readbackRuns = decide (s.testKind = some .readback) := by
  unfold State.readbackRuns State.testKind
  cases s.test with
  | none => rfl
  | some x => cases hk : x.run.kind <;> simp [hk]

theorem State.pageDone_of_none {s : State} (h : s.commit = none) : s.pageDone = s := by rw [State.pageDone, h]

theorem State.pageExpires_of_none {s : State} (h : s.commit = none) : s.pageExpires = s := by rw [State.pageExpires, h]

theorem State.pageDone_more {s : State} {c : Commit} (h : s.commit = some c) (hpage : c.page < 51) : s.pageDone =
    { s with
      eeprom := putPage s.eeprom c.page (pageOf c.image c.page)
      commit := some { c with page := c.page + 1, sentAt := s.now } } := by
  simp only [State.pageDone, h, Config.lastPage, if_pos hpage]

theorem State.pageDone_last {s : State} {c : Commit} (h : s.commit = some c) (hpage : c.page = 51) :
    s.pageDone = State.commitDone { s with eeprom := putPage s.eeprom c.page (pageOf c.image c.page) } c := by
  have hlast : ¬ c.page < 51 := by omega
  simp only [State.pageDone, h, Config.lastPage, if_neg hlast]

/-- The page of a lawful commit stands in the EEPROM after its acknowledgement, and no other byte has changed. -/
theorem putPage_written {s : State} {c : Commit} (hlaw : StoreLaw s) (h : s.commit = some c) :
    (putPage s.eeprom c.page (pageOf c.image c.page)).length = 832 ∧
      ∀ i : Nat, (putPage s.eeprom c.page (pageOf c.image c.page)).getD i 0#8 =
        if 16 * c.page ≤ i ∧ i < 16 * c.page + 16 then c.image.getD i 0#8 else s.eeprom.getD i 0#8 := by
  obtain ⟨hsize, -, hcommit⟩ := hlaw
  obtain ⟨hpage, himage, -⟩ := hcommit c h
  have hbytes : (pageOf c.image c.page).length = 16 := pageOf_length himage hpage
  simp only [Config.imageBytes, Config.lastPage] at hsize hpage
  refine ⟨putPage_length hsize hpage hbytes, fun i => ?_⟩
  split
  · rename_i hi
    rw [putPage_getD_within (by omega) hbytes hi.1 hi.2, pageOf_getD hi.1 hi.2]
  · exact putPage_getD_outside (by omega) hbytes (by omega)

theorem State.commitDone_eq (s : State) (c : Commit) : s.commitDone c =
    { State.report { s with
        commit := none, commitCount := c.count, saved := if c.changed then s.saved else true, committed := true }
        .calCommitDone .cal with led := (s.commitDone c).led, ledSince := (s.commitDone c).ledSince } :=
  State.judgeLed_frame _

/-- Settles O48: each command by the commit it finds, each byte of the EEPROM by the page it lies in. -/
theorem commitWritesPages : Obligations.CommitWritesPages := by
  intro t s
  refine ⟨fun l p h hp => ?commit, fun hnone => ?idle, fun c hc hlaw =>
    ⟨fun hpage => ?more, fun hpage => ?last, fun hearly => ?early, fun hdue => ?due⟩⟩
  case commit =>
    refine (State.request_outcome h hp (rule := ruleCommit l p) rfl).trans ?_
    rw [State.readbackRuns_eq]
    rfl
  case idle =>
    exact ⟨congrArg _ (State.pageDone_of_none (s := s.stamp t) hnone), congrArg _ (State.pageExpires_of_none (s := s.stamp t) hnone)⟩
  case more =>
    refine ⟨_, rfl, ?_⟩
    rw [State.pageDone_more (s := s.stamp t) hc hpage]
    exact ⟨putPage_written hlaw hc, rfl⟩
  case last =>
    have hled : ((s.stamp t).pageDone).led = ((s.stamp t).pageDone).ledShows := by
      rw [State.pageDone_last (s := s.stamp t) hc hpage]
      exact State.judgeLed_shows _
    refine ⟨_, rfl, ?_⟩
    rw [State.pageDone_last (s := s.stamp t) hc hpage] at hled ⊢
    rw [State.commitDone_eq] at hled ⊢
    exact ⟨putPage_written hlaw hc, rfl, rfl, rfl, rfl, hled, State.append_ring _ _ _, fun j => State.report_latched _ _ .cal j,
      rfl⟩
  case early =>
    have hkept : (s.stamp t).pageExpires = s.stamp t := by
      simp only [State.pageExpires, State.stamp_commit, hc]
      exact if_neg (Bool.not_eq_true _ ▸ (reached_eq_false _ _ _).mpr hearly)
    exact congrArg _ hkept
  case due =>
    have hfailed : (s.stamp t).pageExpires = (s.stamp t).commitFailed c := by
      simp only [State.pageExpires, State.stamp_commit, hc]
      exact if_pos ((reached_iff _ _ _).mpr hdue)
    obtain ⟨hsize, -, hcommit⟩ := hlaw
    obtain ⟨hpage, -, -⟩ := hcommit c hc
    have hfree : ((List.range 16).map (fun i => Config.freePageByte (s.drawn + i))).length = 16 := by simp
    refine ⟨_, rfl, ?_⟩
    rw [hfailed]
    refine ⟨rfl, rfl, rfl, rfl, ?_, fun i hi => ?_, State.append_ring _ _ _, fun j => State.report_latched _ _ .cal j⟩
    · exact putPage_length hsize hpage hfree
    · simp only [Config.imageBytes, Config.lastPage] at hsize hpage
      exact putPage_getD_outside (image := s.eeprom) (by omega) hfree hi

end Sys2Proof.Machine
end

section
/-! The raw inputs (R61, R67, R120, R189) and the amplifier supply (R120, R125, R126, R129): what a judgement of enabled does
to a lawful jack. -/

namespace Sys2Proof.Machine

-- One declaration after another: side by side they open more threads than the check's memory limit holds.
set_option Elab.async false

/-! ### The judgement of enabled, by its outcome (R120) -/

section Judge

variable {good : Bool} {j : Jack}

/-- A jack that is enabled exactly while it may be is left as it is. -/
theorem Jack.judge_of_settled (h : j.enabled = j.mayEnable good) : j.judge good = j := by
  unfold Jack.judge
  rw [← h]
  cases j.enabled <;> rfl

theorem Jack.judge_enables (hoff : j.enabled = false) (hmay : j.mayEnable good = true) : j.judge good =
    { j with enabled := true, ramp := some { first := j.gain, last := j.target, total := 32, done := 0 } } := by
  simp only [Jack.judge, hoff, hmay]
  rfl

/-- A jack that may no longer be enabled, with the supply still GOOD, falls to 0 over 4 steps. -/
theorem Jack.judge_falls (hon : j.enabled = true) (hmay : j.mayEnable true = false) : j.judge true =
    { j with enabled := false, ramp := some { first := j.gain, last := 0, total := 4, done := 0 } } := by
  simp only [Jack.judge, hon, hmay]
  rfl

/-- With the supply not GOOD a jack is not enabled, and one that was is silent. -/
theorem Jack.judge_silences (hgain : j.gain = 0) (hramp : j.ramp = none) : j.judge false = { j with enabled := false } := by
  have hmay : j.mayEnable false = false := by simp [Jack.mayEnable]
  cases henabled : j.enabled with
  | true =>
    have hmuted : Jack.mute { j with enabled := false } = { j with enabled := false } := by
      obtain ⟨⟩ := j
      simp only at hgain hramp
      subst hgain hramp
      rfl
    simp only [Jack.judge, henabled, hmay]
    exact hmuted
  | false =>
    rw [Jack.judge_of_settled (by rw [henabled, hmay]), ← henabled]

/-- A judged jack is enabled exactly while it may be. -/
theorem Jack.judge_enabled (good : Bool) (j : Jack) : (j.judge good).enabled = j.mayEnable good := by
  unfold Jack.judge
  split
  case h_1 _ hmay => exact hmay.symm
  case h_2 _ hmay => split <;> exact hmay.symm
  case h_3 hoff hon =>
    cases henabled : j.enabled with
    | false => exact (Bool.eq_false_iff.mpr fun hmay => hoff henabled hmay).symm
    | true => exact (Bool.of_not_eq_false fun hmay => hon henabled hmay).symm

/-- Where enabled is as it was, the judgement has changed nothing. -/
theorem Jack.judge_of_enabled_kept (h : j.enabled = (j.judge good).enabled) : j.judge good = j :=
  Jack.judge_of_settled (h.trans (Jack.judge_enabled good j))

theorem Jack.judge_contacts (good : Bool) (j : Jack) : j.judge good =
    { j with enabled := (j.judge good).enabled, gain := (j.judge good).gain, ramp := (j.judge good).ramp } := by
  unfold Jack.judge
  split
  · rfl
  · split <;> rfl
  · rfl

theorem Jack.mayEnable_iff : j.mayEnable good = true ↔
    (j.state = .seated ∧ j.tipRaw.on = true ∧ j.sleeveRaw.on = true) ∧ good = true := by
  simp [Jack.mayEnable]
  tauto

end Judge

/-! ### The raw inputs -/

theorem Jack.turn_tipRaw (j : Jack) (c : Contacts) (closed : Bool) (now : Time) : (j.turn c closed now).tipRaw =
    if c = .sleeve then j.tipRaw else if j.tipRaw.on = closed then j.tipRaw else { on := closed, since := now } := by
  cases c <;> rfl

theorem Jack.turn_sleeveRaw (j : Jack) (c : Contacts) (closed : Bool) (now : Time) : (j.turn c closed now).sleeveRaw =
    if c = .tip then j.sleeveRaw else if j.sleeveRaw.on = closed then j.sleeveRaw else { on := closed, since := now } := by
  cases c <;> rfl

theorem RawInput.turn_on (i : RawInput) (on : Bool) (now : Time) : (i.turn on now).on = on := by
  unfold RawInput.turn
  split
  · assumption
  · rfl

/-- A jack one of whose raw contacts opens may not be enabled. -/
theorem Jack.turn_opened (j : Jack) (c : Contacts) (now : Time) (good : Bool) : (j.turn c false now).mayEnable good = false := by
  rw [← Bool.not_eq_true, Jack.mayEnable_iff]
  rintro ⟨⟨-, htip, hsleeve⟩, -⟩
  cases c with
  | tip => cases (RawInput.turn_on j.tipRaw false now).symm.trans htip
  | sleeve => cases (RawInput.turn_on j.sleeveRaw false now).symm.trans hsleeve
  | both => cases (RawInput.turn_on j.tipRaw false now).symm.trans htip

/-- Settles O22: each input is held by `RawInput.turn`; a jack's enabled is then judged, which leaves a lawful jack as it is
and lets an opened one fall. -/
theorem rawInputsAreHeld : Obligations.RawInputsAreHeld := by
  intro t on s
  refine ⟨rfl, rfl, rfl, fun l => ⟨_, rfl, rfl, PerLink.get_put_self _ _ _, PerLink.get_put_other _ _ _⟩, fun j x hlaw => ?_⟩
  obtain ⟨hjack, -⟩ := (outputLaw_iff s).mp hlaw
  let turned : Jack := (s.jack j).turn x on t
  have hself : (((s.stamp t).setJack j turned).judgeEnabled).jack j = turned.judge s.good := by
    rw [State.judgeEnabled_jack, State.setJack_jack, if_pos rfl]
    rfl
  refine ⟨((s.stamp t).setJack j turned).judgeEnabled, rfl, rfl, fun k hk => ?others, ?tip, ?sleeve, fun hon hopen => ?falls,
    fun hkept => ?kept⟩
  case others =>
    obtain ⟨-, henabled, -⟩ := hjack k
    rw [State.judgeEnabled_jack, State.setJack_jack, if_neg hk]
    exact Jack.judge_of_settled henabled
  case tip =>
    rw [hself, Jack.judge_contacts]
    exact Jack.turn_tipRaw _ _ _ _
  case sleeve =>
    rw [hself, Jack.judge_contacts]
    exact Jack.turn_sleeveRaw _ _ _ _
  case falls =>
    subst hopen
    obtain ⟨-, henabled, -⟩ := hjack j
    have hgood : s.good = true := (Jack.mayEnable_iff.mp (henabled.symm.trans hon)).2
    rw [hself, hgood, Jack.judge_falls (j := turned) hon (Jack.turn_opened _ _ _ _)]
    exact ⟨rfl, rfl, rfl⟩
  case kept =>
    rw [hself] at hkept ⊢
    rw [Jack.judge_of_enabled_kept (j := turned) hkept]
    exact ⟨rfl, rfl⟩

/-! ### A change of the supply (R120, R126, R129) -/

section Supply

variable (s : State) (x : Supply)

theorem State.setSupply_jack (i : JackIx) :
    (s.setSupply x).jack i = ((s.supplied x).jack i).judge (decide (x = .good)) := by
  have hjacks : (s.setSupply x).jacks = (s.supplied x).judgeEnabled.jacks := by
    unfold State.setSupply
    rw [State.judgeLed_frame]
    rfl
  exact (congrArg (fun y : PerJack Jack => y.get i) hjacks).trans (State.judgeEnabled_jack _ i)

theorem State.setSupply_supply : (s.setSupply x).supply = x ∧ (s.setSupply x).supplyGood = s.supplyGood := by
  unfold State.setSupply
  rw [State.judgeLed_frame]
  exact ⟨rfl, rfl⟩

theorem State.setSupply_journal : (s.setSupply x).journal =
    (if s.journal.length < 512 then s.journal else s.journal.tail) ++ [{ body := .supply x.name x.fail, time := s.now }] := by
  unfold State.setSupply
  rw [State.judgeLed_frame]
  exact State.append_ring _ _ _

end Supply

/-- A jack of a supply that was not GOOD and is to be: enabled where it is SEATED with both raw contacts made. -/
theorem Jack.judge_on_good {j : Jack} (henabled : j.enabled = false) (hgain : j.gain = 0) : j.judge true =
    if j.state = .seated ∧ j.tipRaw.on = true ∧ j.sleeveRaw.on = true then
      { j with enabled := true, ramp := some { first := 0, last := j.target, total := 32, done := 0 } }
    else j := by
  split
  · rename_i hseated
    rw [Jack.judge_enables henabled (Jack.mayEnable_iff.mpr ⟨hseated, rfl⟩), hgain]
  · rename_i hnot
    have hmay : j.mayEnable true = false := Bool.eq_false_iff.mpr fun h => hnot (Jack.mayEnable_iff.mp h).1
    exact Jack.judge_of_settled (henabled.trans hmay.symm)

theorem State.supplySwitch_iff (s : State) :
    s.supplySwitch = true ↔ s.supply = .good ∨ ∃ since : Time, s.supply = .rising since := by
  unfold State.supplySwitch
  cases s.supply <;> simp [Supply.switchOn]

/-- The jacks of a supply that leaves GOOD. -/
theorem State.setSupply_jack_leaving {s : State} {x : Supply} (hgood : s.supply = .good) (hx : x ≠ .good) (i : JackIx) :
    (s.setSupply x).jack i = { s.jack i with gain := 0, ramp := none, enabled := false } := by
  rw [State.setSupply_jack, State.supplied_jack, if_pos ⟨hgood, hx⟩, decide_eq_false hx, Jack.judge_silences rfl rfl]
  rfl

/-- The jacks of a supply that is not GOOD and does not become so. -/
theorem State.setSupply_jack_silent {s : State} {x : Supply} {i : JackIx} (hnot : s.supply ≠ .good) (hx : x ≠ .good)
    (henabled : (s.jack i).enabled = false) : (s.setSupply x).jack i = s.jack i := by
  have hmay : (s.jack i).mayEnable false = false := by simp [Jack.mayEnable]
  rw [State.setSupply_jack, State.supplied_jack, if_neg fun h => hnot h.1, decide_eq_false hx,
    Jack.judge_of_settled (henabled.trans hmay.symm)]

/-- The jacks of a supply that becomes GOOD. -/
theorem State.setSupply_jack_good {s : State} {i : JackIx} (henabled : (s.jack i).enabled = false)
    (hgain : (s.jack i).gain = 0) : (s.setSupply .good).jack i =
      if (s.jack i).state = .seated ∧ (s.jack i).tipRaw.on = true ∧ (s.jack i).sleeveRaw.on = true then
        { s.jack i with enabled := true, ramp := some { first := 0, last := (s.jack i).target, total := 32, done := 0 } }
      else s.jack i := by
  rw [State.setSupply_jack, State.supplied_jack, if_neg fun h => h.2 rfl]
  exact Jack.judge_on_good henabled hgain

/-- With the supply not GOOD, no jack of a lawful output is enabled, and each is silent. -/
theorem OutputLaw.idle {s : State} (hlaw : OutputLaw s) (h : s.supply ≠ .good) (i : JackIx) :
    (s.jack i).enabled = false ∧ (s.jack i).gain = 0 ∧ (s.jack i).ramp = none := by
  obtain ⟨-, henabled, hsilent, -⟩ := hlaw
  refine ⟨?_, hsilent h i⟩
  rw [henabled, decide_eq_false h]
  simp [Jack.mayEnable]

/-- What a change of the supply tells: its record, the LED, and nothing outside the output. -/
theorem State.setSupply_tells (s : State) (x : Supply) :
    (s.setSupply x).journal = (if s.journal.length < 512 then s.journal else s.journal.tail) ++
      [{ body := .supply x.name x.fail, time := s.now }] ∧
    (s.setSupply x).led = (s.setSupply x).ledShows ∧ SupplyFrame s (s.setSupply x) :=
  ⟨s.setSupply_journal x, State.judgeLed_shows _, s.setSupply_frame x⟩

theorem State.supplyAsserts_rising {s : State} {since : Time} (h : s.supply = .rising since) :
    s.supplyAsserts = State.setSupply { s with supplyGood := true } .good := by simp only [State.supplyAsserts, h]

theorem State.supplyAsserts_other {s : State} (h : ∀ since : Time, s.supply ≠ .rising since) :
    s.supplyAsserts = { s with supplyGood := true } := by
  simp only [State.supplyAsserts]

theorem State.supplyDrops_good {s : State} (h : s.supply = .good) :
    s.supplyDrops = State.setSupply { s with supplyGood := false } (.failed .lost) := by simp only [State.supplyDrops, h]

theorem State.supplyDrops_other {s : State} (h : s.supply ≠ .good) : s.supplyDrops = { s with supplyGood := false } := by
  simp only [State.supplyDrops]

theorem State.riseExpires_due {s : State} {since : Time} (h : s.supply = .rising since) (hlow : s.supplyGood = false)
    (hdue : 50000 ≤ (s.now - since).toNat) : s.riseExpires = s.setSupply (.failed .riseTimeout) := by
  simp only [State.riseExpires, h]
  exact if_pos ⟨(reached_iff _ _ _).mpr hdue, hlow⟩

theorem State.riseExpires_early {s : State}
    (h : ∀ since : Time, s.supply = .rising since → s.supplyGood = true ∨ (s.now - since).toNat < 50000) :
    s.riseExpires = s := by
  unfold State.riseExpires
  split
  · rename_i since hrising
    refine if_neg fun hdue => ?_
    rcases h since hrising with hhigh | hearly
    · rw [hhigh] at hdue
      cases hdue.2
    · exact absurd ((reached_iff _ _ _).mp hdue.1) (Nat.not_le.mpr hearly)
  · rfl

/-- Settles O32: each input by the supply's state; the jacks by the judgement of enabled over the supply as it becomes. -/
theorem supplyFollowsItsInput : Obligations.SupplyFollowsItsInput := by
  intro t s hlaw
  refine ⟨s.supplySwitch_iff, fun since hrising => ?asserts, fun hnot => ?assertsAlone, fun hgood => ?drops,
    fun hnot => ?dropsAlone, fun since hrising hlow hdue => ?expires, fun hearly => ?early⟩
  case asserts =>
    have hnot : s.supply ≠ .good := by rw [hrising]; nofun
    refine ⟨_, rfl, ?_⟩
    rw [State.supplyAsserts_rising (s := s.stamp t) hrising]
    obtain ⟨hsupply, hinput⟩ := State.setSupply_supply { s.stamp t with supplyGood := true } .good
    refine ⟨hsupply, hinput, by rw [State.supplySwitch, hsupply]; rfl, State.setSupply_tells _ _, fun j => ?_⟩
    obtain ⟨henabled, hgain, -⟩ := hlaw.idle hnot j
    exact State.setSupply_jack_good (s := { s.stamp t with supplyGood := true }) henabled hgain
  case assertsAlone => exact congrArg Host.Outcome.next (State.supplyAsserts_other (s := s.stamp t) hnot)
  case drops =>
    refine ⟨_, rfl, ?_⟩
    rw [State.supplyDrops_good (s := s.stamp t) hgood]
    obtain ⟨hsupply, hinput⟩ := State.setSupply_supply { s.stamp t with supplyGood := false } (.failed .lost)
    exact ⟨hsupply, hinput, by rw [State.supplySwitch, hsupply]; rfl, State.setSupply_tells _ _,
      State.setSupply_jack_leaving (s := { s.stamp t with supplyGood := false }) hgood nofun⟩
  case dropsAlone => exact congrArg Host.Outcome.next (State.supplyDrops_other (s := s.stamp t) hnot)
  case expires =>
    have hnot : s.supply ≠ .good := by rw [hrising]; nofun
    refine ⟨_, rfl, ?_⟩
    rw [State.riseExpires_due (s := s.stamp t) hrising hlow hdue]
    obtain ⟨hsupply, hinput⟩ := State.setSupply_supply (s.stamp t) (.failed .riseTimeout)
    refine ⟨hsupply, hinput.trans hlow, by rw [State.supplySwitch, hsupply]; rfl, State.setSupply_tells _ _,
      PerJack.ext' fun i => ?_⟩
    exact State.setSupply_jack_silent (s := s.stamp t) hnot nofun (hlaw.idle hnot i).1
  case early => exact congrArg Host.Outcome.next (State.riseExpires_early (s := s.stamp t) hearly)

end Sys2Proof.Machine
end

section
/-! What the two resets leave (R167, R212): every block at its reset state, the attached memories as the board gives them, and
after a warm reset the tracks' records. -/

namespace Sys2Proof.Machine

-- One declaration after another: side by side they open more threads than the check's memory limit holds.
set_option Elab.async false

/-! ### The sample memory as the board gives it -/

/-- The word at an address is the last one given for it; no word stands beyond the memory. -/
theorem Memory.read_ofWords (ws : List (Nat × SampleWord)) (a : Nat) : Memory.read (Memory.ofWords ws) a =
    if a ≤ 16777215 then (((ws.filter (fun x => x.1 == a)).getLast?).map (fun x => x.2)).getD 0xFFFF#16 else 0xFFFF#16 := by
  induction ws using List.reverseRecOn with
  | nil =>
    simp only [List.filter_nil, List.getLast?_nil, Option.map_none, Option.getD_none, ite_self]
    rfl
  | append_singleton ws x ih =>
    obtain ⟨b, w⟩ := x
    have hwf := (Memory.wf_iff _).mp (Memory.ofWords_wf ws)
    have hmade : Memory.ofWords (ws ++ [(b, w)]) =
        if b ≤ 16777215 then Memory.write (Memory.ofWords ws) b w else Memory.ofWords ws := by
      rw [Memory.ofWords, List.foldl_concat]
      rfl
    by_cases hb : b ≤ 16777215
    · rw [hmade, if_pos hb, Memory.read_write hwf, ih]
      by_cases hab : a = b
      · subst hab
        simp [hb, List.filter_append]
      · have hba : ¬ b = a := fun h => hab h.symm
        simp [hab, hba, List.filter_append]
    · rw [hmade, if_neg hb, ih]
      by_cases ha : a ≤ 16777215
      · have hba : ¬ b = a := by omega
        simp [hba, List.filter_append]
      · simp only [if_neg ha]

theorem fitImage_of_length {im : List Byte} (h : im.length = 832) : fitImage im = im := List.take_left' h

/-! ### Power-on reset (R212) -/

section Reset

variable (s : State) (kind : ResetKind) (straps : Straps) (tracks : Vector Track 4) (store : TakeStoreOutcome)

/-- After a reset the LED is dark. -/
theorem State.resetBlocks_dark : (s.resetBlocks kind straps tracks store).led = .dark := by
  have hshows : (s.resetBlocks kind straps tracks store).led = (s.resetBlocks kind straps tracks store).ledShows :=
    State.resetBlocks_led _ _ _ _ _
  rw [hshows]
  unfold State.resetBlocks
  rw [State.judgeLed_frame]
  rfl

theorem State.resetBlocks_key (k : KeyIx) : (s.resetBlocks kind straps tracks store).key k = resetTracker := by
  unfold State.resetBlocks
  rw [State.judgeLed_frame]
  exact Vector.getElem_replicate _

theorem State.resetBlocks_liveChannel (i : PedalIx) :
    (s.resetBlocks kind straps tracks store).liveChannel i = resetLiveChannel := by
  unfold State.resetBlocks
  rw [State.judgeLed_frame]
  exact Vector.getElem_replicate _

theorem State.resetBlocks_playChannel (i : PedalIx) :
    (s.resetBlocks kind straps tracks store).playChannel i = resetPlayChannel := by
  unfold State.resetBlocks
  rw [State.judgeLed_frame]
  exact Vector.getElem_replicate _

theorem State.resetBlocks_voice (i : VoiceIx) : (s.resetBlocks kind straps tracks store).voice i = none := by
  unfold State.resetBlocks
  rw [State.judgeLed_frame]
  exact Vector.getElem_replicate _

theorem State.resetBlocks_jack (i : JackIx) :
    (s.resetBlocks kind straps tracks store).jack i = resetJack (s.jack i) s.now := by
  unfold State.resetBlocks
  rw [State.judgeLed_frame]
  exact PerJack.get_map _ _ _

theorem State.resetBlocks_link (l : Link) :
    (s.resetBlocks kind straps tracks store).link l = resetLink (s.link l) s.now := by
  unfold State.resetBlocks
  rw [State.judgeLed_frame]
  exact PerLink.get_map _ _ _

theorem State.resetBlocks_attn (l : Link) : (s.resetBlocks kind straps tracks store).attn l = false := by
  have hlink := s.resetBlocks_link kind straps tracks store l
  refine State.attn_of_idle (by rw [hlink]; rfl) (by rw [hlink]; exact le_rfl) ?_
  rw [State.unread, hlink]
  rfl

/-- The blocks that are one record each. -/
theorem State.resetBlocks_records :
    let s' := s.resetBlocks kind straps tracks store
    s'.startUp =
      { phase := .loading, phaseSince := s.now, straps := straps, resetKind := kind, calSource := none, foundFaulty := 0#88,
        faultyKeys := none, disconnected := none, railOutcome := none, samples := none, takeStore := store } ∧
    s'.learn = none ∧ s'.committed = false ∧ s'.test = none ∧ s'.runs = 0 ∧ s'.lastResult = none ∧
    s'.liveCapture = 0#88 ∧ s'.playCapture = 0#88 ∧ s'.rail = resetRail s.rail s.now ∧ s'.layer = false ∧ s'.windows = [] ∧
    s'.supply = .off ∧ s'.click = none ∧ s'.tone = none ∧ s'.journal = [] ∧ s'.seat = none := by
  unfold State.resetBlocks
  rw [State.judgeLed_frame]
  exact ⟨rfl, rfl, rfl, rfl, rfl, rfl, rfl, rfl, rfl, rfl, rfl, rfl, rfl, rfl, rfl, rfl⟩

/-- What a reset keeps. -/
theorem State.resetBlocks_kept :
    let s' := s.resetBlocks kind straps tracks store
    s'.supplyGood = s.supplyGood ∧ s'.commit = s.commit ∧ s'.cal = s.cal ∧ s'.commitCount = s.commitCount ∧
      s'.saved = s.saved ∧ s'.eeprom = s.eeprom ∧ s'.sampleMem = s.sampleMem := by
  unfold State.resetBlocks
  rw [State.judgeLed_frame]
  exact ⟨rfl, rfl, rfl, rfl, rfl, rfl, rfl⟩

/-- The two resets differ in the reset kind, the take store's outcome and the tracks alone. -/
theorem State.resetBlocks_differ (kind' : ResetKind) (tracks' : Vector Track 4) (store' : TakeStoreOutcome) :
    s.resetBlocks kind' straps tracks' store' =
      { s.resetBlocks kind straps tracks store with
        startUp := { (s.resetBlocks kind straps tracks store).startUp with resetKind := kind', takeStore := store' }
        transport := { (s.resetBlocks kind straps tracks store).transport with tracks := tracks' } } := by
  unfold State.resetBlocks State.judgeLed
  by_cases h : Led.dark = s.led
  · exact (if_pos h).trans (by rw [if_pos (by exact h)]; rfl)
  · exact (if_neg h).trans (by rw [if_neg (by exact h)]; rfl)

end Reset

/-- A reset keeps all of the state outside the blocks that it resets, but for a commit that it cuts short. -/
theorem State.cutCommit_frame (s : State) :
    s.cutCommit = { s with commit := none, eeprom := s.cutCommit.eeprom, drawn := s.cutCommit.drawn } := by
  unfold State.cutCommit
  split
  · rfl
  · rename_i h
    obtain ⟨⟩ := s
    simp only at h
    rw [h]

theorem State.cutCommit_of_none {s : State} (h : s.commit = none) : s.cutCommit = s := by
  rw [State.cutCommit, h]

/-- The memories attached at power-on (log entry 5). -/
theorem State.powerOn_memories (s : State) (b : Board) :
    (b.eeprom = none → s.commit = none → (s.powerOn b).eeprom = s.eeprom) ∧
    (∀ im : List Byte, b.eeprom = some im → im.length = 832 → (s.powerOn b).eeprom = im) ∧
    (b.samples = none → (s.powerOn b).sampleMem = s.sampleMem) ∧
    (∀ ws : List (Nat × SampleWord), b.samples = some ws → (s.powerOn b).sampleMem = Memory.ofWords ws) := by
  obtain ⟨-, -, -, -, -, hblocks⟩ := (s.cutCommit.attach b).resetBlocks_kept .powerOn b.straps (Vector.replicate 4 resetTrack)
    .cleared
  have hcut : s.cutCommit.sampleMem = s.sampleMem := by rw [State.cutCommit_frame]
  unfold State.powerOn
  rw [hblocks.1, hblocks.2]
  refine ⟨fun h hcommit => ?_, fun im h hlength => ?_, fun h => ?_, fun ws h => ?_⟩
  · rw [State.attach, h, State.cutCommit_of_none hcommit]
  · rw [State.attach, h]
    exact fitImage_of_length hlength
  · rw [State.attach, h]
    exact hcut
  · rw [State.attach, h]

/-- Settles O4: each block by its entry in `State.resetBlocks`, the sample words by `Memory.read_ofWords`. -/
theorem powerOnResetClears : Obligations.PowerOnResetClears := by
  intro t b s
  obtain ⟨heeprom, himage, hsamples, hwords⟩ := (s.stamp t).powerOn_memories b
  have hcut := (s.stamp t).cutCommit_frame
  have hlink (l : Link) : ((s.stamp t).powerOn b).link l = resetLink (s.link l) t :=
    (State.resetBlocks_link _ _ _ _ _ l).trans (by rw [hcut]; rfl)
  have htransport : ((s.stamp t).powerOn b).transport = resetTransport (Vector.replicate 4 resetTrack) :=
    State.resetBlocks_transport _ _ _ _ _
  obtain ⟨hstartUp, hlearn, hcommitted, htest, hruns, hlast, hliveC, hplayC, hrail, hlayer, hwindows, hsupply, hclick, htone,
    hjournal, hseat⟩ := ((s.stamp t).cutCommit.attach b).resetBlocks_records .powerOn b.straps (Vector.replicate 4 resetTrack)
    .cleared
  obtain ⟨hgood, hcommit, hcal, hcount, hsaved, -⟩ := ((s.stamp t).cutCommit.attach b).resetBlocks_kept .powerOn b.straps
    (Vector.replicate 4 resetTrack) .cleared
  obtain ⟨hnow, hrail', hgood', hcommit', hcal', hcount', hsaved'⟩ : let s0 := (s.stamp t).cutCommit.attach b
      s0.now = t ∧ s0.rail = s.rail ∧ s0.supplyGood = s.supplyGood ∧ s0.commit = none ∧ s0.cal = s.cal ∧
        s0.commitCount = s.commitCount ∧ s0.saved = s.saved := by
    unfold State.attach
    rw [hcut]
    exact ⟨rfl, rfl, rfl, rfl, rfl, rfl, rfl⟩
  rw [hnow] at hstartUp hrail
  rw [hrail'] at hrail
  refine ⟨(s.stamp t).powerOn b, rfl, hstartUp, State.resetBlocks_key _ _ _ _ _, hlearn, hcommit.trans hcommit', hcommitted, htest, hruns, hlast,
    State.resetBlocks_liveChannel _ _ _ _ _, State.resetBlocks_playChannel _ _ _ _ _, hliveC, hplayC, hrail,
    State.resetBlocks_voice _ _ _ _ _, hlayer, hwindows, fun i => ?_, hsupply, hgood.trans hgood', hclick, htone, by rw [htransport]; rfl,
    fun i => ?_, ?_, hjournal, hseat, fun l => ⟨hlink l, State.resetBlocks_attn _ _ _ _ _ l⟩, State.resetBlocks_dark _ _ _ _ _,
    hcal.trans hcal', hcount.trans hcount', hsaved.trans hsaved', heeprom, himage, hsamples, fun ws h => ?_⟩
  · exact (State.resetBlocks_jack _ _ _ _ _ i).trans (by rw [hcut]; rfl)
  · rw [State.track, htransport]
    exact Vector.getElem_replicate _
  · rw [State.freeSlots, htransport]
    rfl
  · rw [hwords ws h]
    refine ⟨Memory.ofWords_wf ws, fun a ha => ?_, fun a ha => ?_⟩
    · rw [Memory.read_ofWords, if_pos ha]
    · rw [Memory.read_ofWords, if_neg (Nat.not_le.mpr ha)]

/-! ### Warm reset (R167, R212) -/

/-- A warm reset is the power-on reset of the board's straps, but for the reset kind, the take store's outcome and the
tracks. -/
theorem State.warm_eq (s : State) (straps : Straps) : s.warm straps =
    { s.powerOn { straps := straps, eeprom := none, samples := none } with
      startUp := { (s.powerOn { straps := straps, eeprom := none, samples := none }).startUp with
        resetKind := .warm, takeStore := .preserved }
      transport := { (s.powerOn { straps := straps, eeprom := none, samples := none }).transport with
        tracks := tableOf s.transport.keptTrack } } :=
  State.resetBlocks_differ s.cutCommit .powerOn straps (Vector.replicate 4 resetTrack) .cleared .warm
    (tableOf s.transport.keptTrack) .preserved

theorem State.warm_track (s : State) (straps : Straps) (i : TrackIx) : (s.warm straps).track i = s.transport.keptTrack i := by
  rw [State.track, State.warm, State.resetBlocks_transport]
  exact tableOf_get _ i

/-- What a warm reset keeps of each track, by what is open (R167). -/
theorem Transport.keptTrack_frame (x : Transport) (i : TrackIx) :
    x.keptTrack i = { resetTrack with recs := (x.keptTrack i).recs } := rfl

theorem State.keptTrack_closed {s : State} {i : TrackIx} (h : s.trackOpen i = false) :
    (s.transport.keptTrack i).recs = (s.track i).recs := by
  unfold State.trackOpen at h
  unfold Transport.keptTrack
  cases hr : s.transport.recording with
  | some r =>
    rw [hr] at h
    have hi : r.track ≠ i := by
      rintro rfl
      simp at h
    exact if_neg hi
  | none =>
    cases hl : s.transport.load with
    | some y =>
      rw [hr, hl] at h
      have hi : y.track ≠ i := by
        rintro rfl
        simp at h
      exact if_neg hi
    | none => rfl

theorem Transport.keptTrack_recording {x : Transport} {r : Recording} (h : x.recording = some r) :
    (x.keptTrack r.track).recs = x.tracks[r.track].recs ++
      [{ body := .endMark, delta := min 65535 (max x.position 0 - r.lastPos).toNat }] := by
  simp only [Transport.keptTrack, h, if_true]
  rfl

theorem Transport.keptTrack_load {x : Transport} {y : Load} (hr : x.recording = none) (h : x.load = some y) :
    (x.keptTrack y.track).recs = [{ body := .endMark, delta := 0 }] := by
  simp only [Transport.keptTrack, hr, h, if_true]
  rfl

/-- With no load open, a closed recording's END takes the slot that was reserved for it. -/
theorem PoolLaw.keptTrack_slots {s : State} (h : PoolLaw s) (hload : s.transport.load = none) (i : TrackIx) :
    (s.transport.keptTrack i).slots = (s.track i).slots := by
  obtain ⟨hreserved, -⟩ := h.2 i
  cases hr : s.transport.recording with
  | none =>
    have hclosed := State.trackOpen_of_none hr hload i
    rw [Transport.keptTrack_frame, State.keptTrack_closed hclosed, Track.slots, Track.slots, hreserved, hclosed]
    rfl
  | some r =>
    have hopen := State.trackOpen_recording hr hload i
    by_cases hi : i = r.track
    · subst hi
      rw [Transport.keptTrack_frame, Transport.keptTrack_recording hr, Track.slots, Track.slots, hreserved, hopen,
        List.length_append]
      simp only [decide_true, if_true]
      rfl
    · rw [decide_eq_false hi] at hopen
      rw [Transport.keptTrack_frame, State.keptTrack_closed hopen, Track.slots, Track.slots, hreserved, hopen]
      rfl

/-- Settles O5: the two resets by `State.warm_eq`, each track by what is open. -/
theorem warmResetKeepsTakes : Obligations.WarmResetKeepsTakes := by
  intro t straps s
  have htrack (i : TrackIx) := (s.stamp t).warm_track straps i
  have hpower (i : TrackIx) : ((s.stamp t).powerOn { straps := straps, eeprom := none, samples := none }).track i = resetTrack := by
    rw [State.track, State.powerOn, State.resetBlocks_transport]
    exact Vector.getElem_replicate _
  have heq := (s.stamp t).warm_eq straps
  have htracks : ((s.stamp t).warm straps).transport.tracks = tableOf s.transport.keptTrack := by rw [heq]; rfl
  refine ⟨(s.stamp t).warm straps, (s.stamp t).powerOn { straps := straps, eeprom := none, samples := none }, rfl, rfl,
    by rw [htracks]; exact heq, fun i => by rw [htrack, hpower]; rfl, fun i hi => ?_, fun r hr => ?_, fun x hr hx => ?_,
    fun hpool hload => ?_⟩
  · rw [htrack]
    exact State.keptTrack_closed hi
  · rw [htrack]
    exact Transport.keptTrack_recording hr
  · rw [htrack]
    exact Transport.keptTrack_load hr hx
  · rw [State.freeSlots, State.freeSlots, Transport.used_eq, Transport.used_eq, htracks]
    refine congrArg _ (Finset.sum_congr rfl fun i _ => ?_)
    rw [tableOf_get]
    exact hpool.keptTrack_slots hload i

end Sys2Proof.Machine
end

section
/-! Start-up: the load's judgement of the image (R205), and the entry to RUNNING by the header check and by START_RELEASE
(R111, R198, R208 to R210). -/

namespace Sys2Proof.Machine

-- One declaration after another: side by side they open more threads than the check's memory limit holds.
set_option Elab.async false

/-! ### The load (R205) -/

/-- The end of a load: CHECKING begins, with the quiet start set. -/
theorem State.endLoad_eq (s : State) : s.endLoad = { s with
    startUp := { s.startUp with phase := .checking, phaseSince := s.now }
    rail := { s.rail with quiet := { s.rail.quiet with start := some s.now } }
    led := s.endLoad.led, ledSince := s.endLoad.ledSince } := by
  unfold State.endLoad State.setPhase
  rw [State.judgeLed_frame]
  rfl

theorem execCalibrationLoad_loading {t : Time} {s : State} (h : s.startUp.phase = .loading) :
    execCalibrationLoad t s = .next (s.stamp t).loadImage := by
  simp only [execCalibrationLoad, State.whenDue, State.stamp_startUp, h]
  rfl

/-- Settles O7: the load's end by `State.endLoad_eq`; the copy is legal by the repairs, or as the defaults are. -/
theorem loadJudgesImage : Obligations.LoadJudgesImage := by
  intro t s hphase
  have hrefused (g : Ground) : let s' := (s.stamp t).loadRefused g
      (s' = { s with
        now := t, cal := s'.cal, commitCount := s'.commitCount, saved := s'.saved
        startUp := { s.startUp with phase := .checking, phaseSince := t, calSource := some (.defaults g) }
        rail := { s.rail with quiet := { s.rail.quiet with start := some t } }, led := s'.led, ledSince := s'.ledSince } ∧
      s'.led = s'.ledShows ∧ s'.cal.legal) ∧ s'.cal = defaultWorkingCopy ∧ s'.commitCount = 0 ∧ s'.saved = false := by
    have hled : ((s.stamp t).loadRefused g).led = ((s.stamp t).loadRefused g).ledShows := State.endLoad_led _
    unfold State.loadRefused at hled ⊢
    rw [State.endLoad_eq] at hled ⊢
    exact ⟨⟨rfl, hled, defaultWorkingCopy_legal⟩, rfl, rfl, rfl⟩
  refine ⟨fun g hg => ⟨_, execCalibrationLoad_loading hphase, ?_⟩, fun hg => ⟨_, execCalibrationLoad_loading hphase, ?_⟩,
    fun hdue => ⟨(s.stamp t).loadRefused .noAnswer, ?_, hrefused .noAnswer⟩⟩
  · have himage : (s.stamp t).loadImage = (s.stamp t).loadRefused g := by simp only [State.loadImage, State.stamp_eeprom, hg]
    rw [himage]
    exact hrefused g
  · have himage : (s.stamp t).loadImage = (s.stamp t).loadTaken s.eeprom := by
      simp only [State.loadImage, State.stamp_eeprom, hg]
    rw [himage]
    have hled : ((s.stamp t).loadTaken s.eeprom).led = ((s.stamp t).loadTaken s.eeprom).ledShows := State.endLoad_led _
    unfold State.loadTaken at hled ⊢
    rw [State.endLoad_eq] at hled ⊢
    exact ⟨⟨rfl, hled, repairCopy_imageFields_legal _⟩, rfl, rfl, decide_eq_true_iff⟩
  · have hreached : reached s.startUp.phaseSince 20000 t = true := (reached_iff _ _ _).mpr hdue
    simp only [exec, execLoadNoAnswer, State.whenDue, State.stamp_startUp, hphase, Config.eepromAnswer, hreached]
    rfl

/-! ### A record and its condition -/

/-- A ring with room takes the record, and each link its condition. -/
theorem State.report_of_room {s : State} (h : s.journal.length < 512) (b : JournalBody) (c : Condition) :
    (s.report b c).journal = s.journal ++ [{ body := b, time := s.now }] ∧
      ∀ l : Link, ((s.report b c).link l).latched = (s.link l).latched ||| c.mask := by
  refine ⟨(State.report_ring s b c).trans (by rw [if_pos h]), fun l => ?_⟩
  rw [State.report, State.raise_link]
  exact congrArg (· ||| c.mask) (State.append_latched_of_room l b s.now h)

/-! ### The entry to RUNNING (R198, R209) -/

/-- The CAL record of a load that gave the defaults. -/
def State.calRecorded (s : State) : State :=
  match s.startUp.calSource with
  | some (.defaults g) => s.report (.calDefaults g) .cal
  | _ => s

/-- The records of the load's outcome. -/
def State.calRecords (s : State) : List JournalRec :=
  match s.startUp.calSource with
  | some (.defaults g) => [{ body := .calDefaults g, time := s.now }]
  | _ => []

theorem State.enterRunning_eq (s : State) :
    s.enterRunning = ((s.setPhase .running).calRecorded.judgeSeatDefault.raise .startup).judgeLed := rfl

theorem State.calRecorded_frame (s : State) :
    s.calRecorded = { s with journal := s.calRecorded.journal, links := s.calRecorded.links } := by
  unfold State.calRecorded
  split <;> rfl

theorem State.calRecorded_of_room {s : State} (h : s.journal.length < 512) :
    s.calRecorded.journal = s.journal ++ s.calRecords ∧
    (∀ l : Link, (s.calRecorded.link l).latched = (s.link l).latched |||
      (if s.startUp.calSource.any (fun c => c != .stored) then Condition.cal.mask else 0#16)) ∧
    ∀ l : Link, s.calRecorded.linkPresent l = s.linkPresent l := by
  unfold State.calRecorded State.calRecords
  cases s.startUp.calSource with
  | none => exact ⟨(List.append_nil _).symm, fun l => by simp, fun _ => rfl⟩
  | some source =>
    cases source with
    | stored => exact ⟨(List.append_nil _).symm, fun l => by simp, fun _ => rfl⟩
    | defaults g =>
      obtain ⟨hring, hlatched⟩ := State.report_of_room h (.calDefaults g) .cal
      exact ⟨hring, hlatched, fun l => (State.raise_linkPresent _ _ l).trans (State.append_linkPresent _ _ _ l)⟩

/-- The vacant seat is given to the present link of SEAT_DEFAULT. -/
def State.seatGiven (s : State) : Bool := s.seat == none && s.linkPresent s.startUp.straps.seatDefault

theorem State.judgeSeatDefault_of_given {s : State} (h : s.seatGiven = true) (htest : s.test = none) :
    s.judgeSeatDefault = s.seatRecorded (some s.startUp.straps.seatDefault) .startUp ∧ s.seat = none := by
  obtain ⟨hseat, hpresent⟩ : s.seat = none ∧ s.linkPresent s.startUp.straps.seatDefault = true := by
    simpa [State.seatGiven] using h
  refine ⟨(if_pos ⟨hseat, hpresent⟩).trans ?_, hseat⟩
  have hlearn (x : State) : x.endLearnUnder none = x := by
    unfold State.endLearnUnder
    split
    · exact if_neg nofun
    · rfl
  rw [State.seatChange_eq, hseat, hlearn]
  exact State.abortTest_of_none (s := s.seatRecorded _ _) htest 2

theorem State.judgeSeatDefault_of_kept {s : State} (h : s.seatGiven = false) : s.judgeSeatDefault = s := by
  refine if_neg fun hgiven => ?_
  rw [State.seatGiven, hgiven.1, hgiven.2] at h
  cases h

/-- The seat's part of the entry. -/
theorem State.judgeSeatDefault_of_room {s : State} (h : s.journal.length < 512) (htest : s.test = none) :
    s.judgeSeatDefault.seat = (if s.seatGiven then some s.startUp.straps.seatDefault else s.seat) ∧
    s.judgeSeatDefault.journal = s.journal ++
      (if s.seatGiven then [{ body := .seat (some s.startUp.straps.seatDefault) none .startUp, time := s.now }] else []) ∧
    (∀ l : Link, (s.judgeSeatDefault.link l).latched = (s.link l).latched |||
      (if s.seatGiven then Condition.seat.mask else 0#16)) ∧
    s.judgeSeatDefault.startUp = s.startUp ∧ s.judgeSeatDefault.now = s.now := by
  cases hgiven : s.seatGiven with
  | false =>
    rw [State.judgeSeatDefault_of_kept hgiven]
    exact ⟨rfl, (List.append_nil _).symm, fun l => by simp, rfl, rfl⟩
  | true =>
    obtain ⟨heq, hseat⟩ := State.judgeSeatDefault_of_given hgiven htest
    rw [heq]
    unfold State.seatRecorded
    rw [hseat]
    obtain ⟨hring, hlatched⟩ := State.report_of_room (s := { s with seat := some s.startUp.straps.seatDefault }) h
      (.seat (some s.startUp.straps.seatDefault) none .startUp) .seat
    exact ⟨rfl, hring, hlatched, rfl, rfl⟩

/-- The entry to RUNNING of a ring with room for its two records. -/
theorem State.enterRunning_enters {s : State} (htest : s.test = none) (hroom : s.journal.length ≤ 510) :
    let s' := s.enterRunning
    s'.now = s.now ∧ s'.startUp.phase = .running ∧ s'.startUp.phaseSince = s.now ∧ s'.led = s'.ledShows ∧
    s'.seat = (if s.seatGiven then some s.startUp.straps.seatDefault else s.seat) ∧
    (∀ l : Link, (s'.link l).latched = (s.link l).latched ||| Condition.startup.mask |||
      (if s.startUp.calSource.any (fun c => c != .stored) then Condition.cal.mask else 0#16) |||
      (if s.seatGiven then Condition.seat.mask else 0#16)) ∧
    s'.journal = s.journal ++ s.calRecords ++
      (if s.seatGiven then [{ body := .seat (some s.startUp.straps.seatDefault) none .startUp, time := s.now }] else []) := by
  have hled : s.enterRunning.led = s.enterRunning.ledShows := s.enterRunning_led
  obtain ⟨led, since, hphase⟩ : ∃ led since, s.setPhase .running =
      { s with startUp := { s.startUp with phase := .running, phaseSince := s.now }, led := led, ledSince := since } :=
    ⟨_, _, State.judgeLed_frame _⟩
  rw [State.enterRunning_eq, hphase] at hled ⊢
  generalize hx : ({ s with
    startUp := { s.startUp with phase := .running, phaseSince := s.now }, led := led, ledSince := since } : State) = x at hled ⊢
  obtain ⟨hjournal, hlatched, hpresent⟩ := State.calRecorded_of_room (s := x) (by rw [← hx]; exact Nat.lt_of_le_of_lt hroom (by decide))
  have hframe := x.calRecorded_frame
  have hrecords : x.calRecords = s.calRecords := by rw [← hx]; rfl
  have hfew : x.calRecorded.journal.length < 512 := by
    have hone : s.calRecords.length ≤ 1 := by
      unfold State.calRecords
      split <;> simp
    have hring : x.journal.length = s.journal.length := by rw [← hx]
    rw [hjournal, List.length_append, hrecords, hring]
    omega
  have hgiven : x.calRecorded.seatGiven = s.seatGiven := by
    rw [State.seatGiven, hpresent, hframe, ← hx]
    rfl
  obtain ⟨hseat, hring, hlatched', hstart, hnow⟩ := State.judgeSeatDefault_of_room hfew (by rw [hframe, ← hx]; exact htest)
  rw [State.judgeLed_frame] at hled ⊢
  refine ⟨?_, ?_, ?_, hled, ?_, fun l => ?_, ?_⟩
  · exact hnow.trans (by rw [hframe, ← hx])
  · exact congrArg StartUp.phase (hstart.trans (by rw [hframe, ← hx]))
  · exact congrArg StartUp.phaseSince (hstart.trans (by rw [hframe, ← hx]))
  · refine hseat.trans ?_
    rw [hgiven, hframe, ← hx]
  · refine (congrArg LinkRec.latched (State.raise_link _ .startup l)).trans ?_
    change _ ||| _ = _
    rw [hlatched', hlatched, hgiven, ← hx]
    change (((s.link l).latched ||| _) ||| _) ||| _ = _
    ac_rfl
  · refine hring.trans ?_
    rw [hjournal, hrecords, hgiven, hframe, ← hx]

/-! ### The header check and START_RELEASE -/

theorem State.setPhase_eq (s : State) (p : Phase) : s.setPhase p = { s with
    startUp := { s.startUp with phase := p, phaseSince := s.now }
    led := (s.setPhase p).led, ledSince := (s.setPhase p).ledSince } := State.judgeLed_frame _

theorem State.enterRunning_startUp (s : State) :
    s.enterRunning.startUp = { s.startUp with phase := .running, phaseSince := s.now } := by
  rw [State.enterRunning_eq, State.judgeLed_frame]
  refine (State.judgeSeatDefault_frame _).startUp_eq.trans ?_
  rw [State.calRecorded_frame, State.setPhase_eq]

/-- What the header check reports. -/
def State.headerOutcome (s : State) : SamplesOutcome :=
  match headerWindows s.sampleMem with
  | some l => .present l.length
  | none => .absent

/-- The windows and the samples' outcome set by the header check. -/
def State.headerRead (s : State) : State :=
  { s with
    windows := (headerWindows s.sampleMem).getD []
    startUp := { s.startUp with samples := some s.headerOutcome } }

theorem State.checkHeader_eq (s : State) :
    s.checkHeader = if s.startUp.straps.holdStart then s.headerRead.setPhase .held else s.headerRead.enterRunning := rfl

theorem State.checkHeader_samples (s : State) : s.checkHeader.startUp.samples = s.headerRead.startUp.samples := by
  rw [State.checkHeader_eq]
  split
  · rw [State.setPhase_eq]
  · rw [State.enterRunning_startUp]

section Release

variable {s : State}

theorem ruleStartRelease_held (h : s.startUp.phase = .held) : ruleStartRelease [] s = (s.enterRunning, .ok [4#8]) := by
  have hpass : firstFailing [lengthNot [] 0, s.beforeHeld, (s.running, .wrongState)] = none := by
    simp [lengthNot, State.beforeHeld, State.heldOrRunning, State.running, h, firstFailing_cons]
  rw [ruleStartRelease, State.checked_passed _ hpass]
  rfl

theorem ruleStartRelease_running (h : s.startUp.phase = .running) : ruleStartRelease [] s = (s, .no .wrongState) := by
  have hfail : firstFailing [lengthNot [] 0, s.beforeHeld, (s.running, .wrongState)] = some .wrongState := by
    simp [lengthNot, State.beforeHeld, State.heldOrRunning, State.running, h, firstFailing_cons]
  rw [ruleStartRelease, State.checked_refused _ hfail]

theorem ruleStartRelease_early (h : s.heldOrRunning = false) : ruleStartRelease [] s = (s, .no .notReady) := by
  have hfail : firstFailing [lengthNot [] 0, s.beforeHeld, (s.running, .wrongState)] = some .notReady := by
    simp [lengthNot, State.beforeHeld, h, firstFailing_cons]
  rw [ruleStartRelease, State.checked_refused _ hfail]

theorem ruleStartRelease_badLength {p : List Byte} (h : p ≠ []) : ruleStartRelease p s = (s, .no .badLength) := by
  have hfail : firstFailing [lengthNot p 0, s.beforeHeld, (s.running, .wrongState)] = some .badLength := by
    simp [lengthNot, firstFailing_cons, h]
  rw [ruleStartRelease, State.checked_refused _ hfail]

end Release

/-- Settles O8: both ways into RUNNING by `State.enterRunning_enters`; START_RELEASE's refusals by its checks. -/
theorem entryToRunning : Obligations.EntryToRunning := by
  refine ⟨fun t s hphase => ?header, fun t l s h htest hroom =>
    ⟨fun hheld => ?held, fun hrun => ?running, fun hearly => ?early, fun p hp => ?badLength⟩⟩
  case header =>
    have hdue : execSampleHeaderCheck t s = .next (s.stamp t).checkHeader := by
      simp only [execSampleHeaderCheck, State.whenDue, State.stamp_startUp, hphase]
      rfl
    have heq := (s.stamp t).checkHeader_eq
    refine ⟨_, hdue, State.checkHeader_windows _, State.checkHeader_samples _, fun hhold => ?_, fun hgo htest hroom => ?_⟩
    · rw [heq, if_pos (by exact hhold), State.setPhase_eq]
      rfl
    · rw [heq, if_neg (by rw [State.stamp_startUp, hgo]; nofun)]
      exact State.enterRunning_enters (s := (s.stamp t).headerRead) htest hroom
  case held =>
    exact ⟨(s.stamp t).enterRunning, State.enterRunning_enters (s := s.stamp t) htest hroom,
      State.request_replied (p := []) h (Nat.zero_le _) (ruleStartRelease_held (s := s.stamp t) hheld)⟩
  case running => exact State.request_denied (p := []) h (Nat.zero_le _) (ruleStartRelease_running (s := s.stamp t) hrun)
  case early => exact State.request_denied (p := []) h (Nat.zero_le _) (ruleStartRelease_early (s := s.stamp t) hearly)
  case badLength =>
    by_cases hlong : p.length ≤ 60
    · exact State.request_denied h hlong (ruleStartRelease_badLength (s := s.stamp t) hp)
    · exact State.request_overlong h (not_le.mp hlong)

end Sys2Proof.Machine
end

section
/-! What a chain of rail entries leaves: the rail it comes to, and the records it appends, each with its condition (R83). -/

namespace Sys2Proof.Machine

-- One declaration after another: side by side they open more threads than the check's memory limit holds.
set_option Elab.async false

/-! ### Records one after another -/

/-- A record of the block, and the condition it raises. -/
abbrev Notice := JournalBody × Condition

/-- The ring after these records, each written now; a full ring drops its oldest for each. -/
def State.ringAfter (s : State) (notices : List Notice) : List JournalRec :=
  notices.foldl (fun ring n => (if ring.length < 512 then ring else ring.tail) ++ [{ body := n.1, time := s.now }]) s.journal

/-- The latched conditions with those of the records. -/
def latchedAfter (latched : CondSet) (notices : List Notice) : CondSet := notices.foldl (fun set n => set ||| n.2.mask) latched

/-- The time stands, and these records have been appended, each with its condition. -/
structure State.Notes (s : State) (notices : List Notice) (s' : State) : Prop where
  now : s'.now = s.now
  ring : s'.journal = s.ringAfter notices
  latched : s.journal.length + notices.length ≤ 512 → ∀ l : Link, (s'.link l).latched = latchedAfter (s.link l).latched notices

section Notes
variable {a b c : State} {m n : List Notice}

theorem State.ringAfter_of_room (s : State) (notices : List Notice) (h : s.journal.length + notices.length ≤ 512) :
    s.ringAfter notices = s.journal ++ notices.map (fun n => { body := n.1, time := s.now }) := by
  unfold State.ringAfter
  generalize s.journal = ring at h ⊢
  induction notices generalizing ring with
  | nil => simp
  | cons n notices ih =>
    rw [List.length_cons] at h
    rw [List.foldl_cons, if_pos (by omega), ih _ (by rw [List.length_append, List.length_singleton]; omega), List.map_cons,
      List.append_assoc]
    rfl

theorem State.Notes.of_unchanged (now : b.now = a.now) (journal : b.journal = a.journal) (links : b.links = a.links) :
    a.Notes [] b :=
  ⟨now, journal, fun _ l => by rw [State.link, links]; rfl⟩

theorem State.Notes.refl (s : State) : s.Notes [] s := .of_unchanged rfl rfl rfl

theorem State.Notes.trans (h : a.Notes m b) (g : b.Notes n c) : a.Notes (m ++ n) c := by
  refine ⟨g.now.trans h.now, ?_, fun hroom l => ?_⟩
  · rw [g.ring, State.ringAfter, h.ring, h.now, State.ringAfter, State.ringAfter, ← List.foldl_append]
  · rw [List.length_append] at hroom
    have hlength : b.journal.length = a.journal.length + m.length := by
      rw [h.ring, State.ringAfter_of_room _ _ (by omega), List.length_append, List.length_map]
    rw [g.latched (by omega), h.latched (by omega), latchedAfter, latchedAfter, latchedAfter, ← List.foldl_append]

theorem State.Notes.journal_of_room (h : a.Notes m b) (room : a.journal.length + m.length ≤ 512) :
    b.journal = a.journal ++ m.map (fun n => { body := n.1, time := a.now }) := h.ring.trans (State.ringAfter_of_room _ _ room)

theorem State.Notes.congr_left {a' : State} (h : a.Notes m b) (now : a'.now = a.now) (journal : a'.journal = a.journal)
    (links : a'.links = a.links) : a'.Notes m b :=
  (State.Notes.of_unchanged now.symm journal.symm links.symm).trans h

end Notes

theorem State.report_notes (s : State) (b : JournalBody) (c : Condition) : s.Notes [(b, c)] (s.report b c) :=
  ⟨rfl, State.report_ring s b c, fun hroom => (State.report_of_room hroom b c).2⟩

/-! ### Entries of the rail -/

/-- The RAIL record of a state, without a waiting notice. -/
def RailState.notice (st : RailState) (votes : Votes) : Notice := (.rail st.name st.testPhase st.cause votes, .rail)

/-- The time for which the motor has been driven by now. -/
def Rail.driven (r : Rail) (now : Time) : Nat :=
  match r.drive with
  | some g => elapsed g.start now
  | none => 0

/-- The rail as the chain of entries leaves it, its records, and everything else as it was. -/
structure State.RailGoes (s : State) (r : Rail) (notices : List Notice) (s' : State) : Prop where
  frame : RailFrame s s'
  rail : s'.rail = r
  notes : s.Notes notices s'

section Goes
variable {a b c : State} {r q : Rail} {m n : List Notice}

theorem State.RailGoes.trans (h : a.RailGoes r m b) (g : b.RailGoes q n c) : a.RailGoes q (m ++ n) c :=
  ⟨h.frame.trans g.frame, g.rail, h.notes.trans g.notes⟩

/-- A chain of which the last state is settled. -/
theorem State.RailGoes.settle (h : a.RailGoes r m b) (g : b.railRule = none) : a.RailGoes r m b.settle := by
  rwa [State.settle_of_none g]

/-- A chain after which one more rule acts. -/
theorem State.RailGoes.settle_once (h : a.RailGoes r m b) (rule : b.railRule = some c) (g : b.RailGoes q n c)
    (last : c.railRule = none) : a.RailGoes q (m ++ n) b.settle := by
  rw [State.settle_of_some rule last]
  exact h.trans g

variable (s : State)

theorem State.setRail_goes (r : Rail) : s.RailGoes r [] (s.setRail r) := ⟨rfl, rfl, .of_unchanged rfl rfl rfl⟩

theorem State.enterRail_goes (st : RailState) :
    s.RailGoes { s.rail with state := st } [st.notice s.rail.votes] (s.enterRail st) := by
  refine ⟨(s.enterRail_railOnly st).1, s.enterRail_rail st, ?_⟩
  rw [State.enterRail, State.judgeLed_frame]
  have hreport := ((s.setRail_goes { s.rail with state := st }).notes.trans
    (State.report_notes _ (.rail st.name st.testPhase st.cause s.rail.votes) .rail))
  exact hreport.trans (n := []) (.of_unchanged rfl rfl rfl)

theorem State.endSegment_goes :
    s.RailGoes { s.rail with drive := none, state := s.rail.state.addDriven (s.rail.driven s.now) } [] s.endSegment := by
  unfold State.endSegment Rail.driven
  cases hdrive : s.rail.drive with
  | some g => exact s.setRail_goes _
  | none =>
    refine ⟨rfl, ?_, .refl s⟩
    have hstate : s.rail.state.addDriven 0 = s.rail.state := by
      cases s.rail.state with
      | testing p a b => cases p <;> rfl
      | _ => rfl
    simp only [hstate, ← hdrive]

/-- The state of a move in a direction. -/
def movingState : Travel → RailState
  | .inward => .movingIn
  | .outward => .movingOut

theorem State.beginMove_goes (dir : Travel) :
    s.RailGoes
      { s.rail with
        state := movingState dir, drive := some { dir := dir, start := s.now, lastEdge := s.now }
        segCount := some s.cal.cEng }
      [(movingState dir).notice s.rail.votes] (s.beginMove dir) := by
  have hgoes := (s.setRail_goes { s.rail with
    drive := some { dir := dir, start := s.now, lastEdge := s.now }, segCount := some s.cal.cEng }).trans
    (State.enterRail_goes (s.startSegment dir) (movingState dir))
  exact ⟨hgoes.frame, s.beginMove_rail dir, hgoes.notes⟩

theorem State.arriveParked_goes :
    s.RailGoes { s.rail with state := .parked, drive := none, count := 0, segCount := none }
      [RailState.parked.notice s.rail.votes] s.arriveParked := by
  have hsegment := s.endSegment_goes
  have hgoes := (hsegment.trans (State.setRail_goes _ _)).trans (State.enterRail_goes
    (s.endSegment.setRail { s.endSegment.rail with count := 0, segCount := none }) .parked)
  have hvotes : s.endSegment.rail.votes = s.rail.votes := by rw [hsegment.rail]
  exact ⟨hgoes.frame, s.arriveParked_rail, by rw [← hvotes]; exact hgoes.notes⟩

theorem State.arriveEngaged_goes :
    s.RailGoes
      { s.rail with
        state := .engaged, drive := none, segCount := none
        count := match s.rail.segCount with | some c => (c : Int) | none => s.rail.count }
      [RailState.engaged.notice s.rail.votes] s.arriveEngaged := by
  have hsegment := s.endSegment_goes
  have hgoes := (hsegment.trans (State.setRail_goes _ _)).trans (State.enterRail_goes
    (s.endSegment.setRail { s.endSegment.rail with
      count := (match s.endSegment.rail.segCount with | some c => (c : Int) | none => s.endSegment.rail.count)
      segCount := none }) .engaged)
  have hvotes : s.endSegment.rail.votes = s.rail.votes := by rw [hsegment.rail]
  exact ⟨hgoes.frame, s.arriveEngaged_rail.trans rfl, by rw [← hvotes]; exact hgoes.notes⟩

/-- A fault outside a test cycle (R76). -/
theorem State.railFault_goes (cause : RailFault) (h : s.rail.state.name ≠ .testing) :
    s.RailGoes { s.rail with state := .fault cause, drive := none, segCount := none }
      [(RailState.fault cause).notice s.rail.votes] (s.railFault cause) := by
  have hsegment := s.endSegment_goes
  have hgoes := (hsegment.trans (State.setRail_goes _ _)).trans (State.enterRail_goes
    (s.endSegment.setRail { s.endSegment.rail with segCount := none }) (.fault cause))
  have heq : s.railFault cause = (s.endSegment.setRail { s.endSegment.rail with segCount := none }).enterRail (.fault cause) := by
    unfold State.railFault
    cases hst : s.rail.state with
    | testing p a b => exact absurd (by rw [hst]; rfl) h
    | _ => rfl
  rw [heq]
  have hvotes : s.endSegment.rail.votes = s.rail.votes := by rw [hsegment.rail]
  refine ⟨hgoes.frame, hgoes.rail.trans ?_, by rw [← hvotes]; exact hgoes.notes⟩
  rw [State.setRail, hsegment.rail]

/-- A fault leaves the LED as it is to show (R213). -/
theorem State.railFault_led (cause : RailFault) (h : s.rail.state.name ≠ .testing) :
    (s.railFault cause).led = (s.railFault cause).ledShows := by
  unfold State.railFault
  cases hst : s.rail.state with
  | testing p a b => exact absurd (by rw [hst]; rfl) h
  | _ => exact State.enterRail_led _ _

end Goes

/-! ### Where no rule of the rail acts -/

section Rest
variable {s : State}

theorem State.railRule_waiting {since : Time} {told : Bool} (state : s.rail.state = .pendingIn since told ∨ s.rail.state = .pendingOut since told)
    (quiet : s.rail.quiet.quiet = false) : s.railRule = none := by
  unfold State.railRule
  rcases state with h | h <;> simp [h, quiet]

/-- An end of travel left as the vote set asks, while quiet is no. -/
theorem State.settle_parked_goes (state : s.rail.state = .parked) (quiet : s.rail.votes.any = true → s.rail.quiet.quiet = false) :
    s.RailGoes { s.rail with state := if s.rail.votes.any then .pendingIn s.now false else .parked }
      (if s.rail.votes.any then [(RailState.pendingIn s.now false).notice s.rail.votes] else []) s.settle := by
  have hself : s.RailGoes s.rail [] s := ⟨rfl, rfl, .refl s⟩
  cases hvotes : s.rail.votes.any with
  | true =>
    have hrule : s.railRule = some (s.enterRail (.pendingIn s.now false)) := by simp [State.railRule, state, hvotes]
    have hgoes := s.enterRail_goes (.pendingIn s.now false)
    exact hself.settle_once hrule hgoes (State.railRule_waiting (.inl (by rw [hgoes.rail])) (by rw [hgoes.rail]; exact quiet hvotes))
  | false =>
    have hrule : s.railRule = none := by simp [State.railRule, state, hvotes]
    have hrail : s.rail = { s.rail with state := .parked } := by rw [← state]
    exact hrail ▸ hself.settle hrule

theorem State.settle_engaged_goes (state : s.rail.state = .engaged) (quiet : s.rail.votes.any = false → s.rail.quiet.quiet = false) :
    s.RailGoes { s.rail with state := if s.rail.votes.any then .engaged else .pendingOut s.now false }
      (if s.rail.votes.any then [] else [(RailState.pendingOut s.now false).notice s.rail.votes]) s.settle := by
  have hself : s.RailGoes s.rail [] s := ⟨rfl, rfl, .refl s⟩
  cases hvotes : s.rail.votes.any with
  | false =>
    have hrule : s.railRule = some (s.enterRail (.pendingOut s.now false)) := by simp [State.railRule, state, hvotes]
    have hgoes := s.enterRail_goes (.pendingOut s.now false)
    exact hself.settle_once hrule hgoes (State.railRule_waiting (.inr (by rw [hgoes.rail])) (by rw [hgoes.rail]; exact quiet hvotes))
  | true =>
    have hrule : s.railRule = none := by simp [State.railRule, state, hvotes]
    have hrail : s.rail = { s.rail with state := .engaged } := by rw [← state]
    exact hrail ▸ hself.settle hrule

end Rest

end Sys2Proof.Machine
end

section
/-! Start-up: a key's evaluation reading (R22), and the rail's start-up decision (R86). -/

namespace Sys2Proof.Machine

-- One declaration after another: side by side they open more threads than the check's memory limit holds.
set_option Elab.async false

section Evaluation

variable {s : State}

theorem State.scanReading_of_idle (h : s.test = none) (k : KeyIx) (c : KeyCal) (raw : Nat) : s.scanReading k c raw = s := by
  unfold State.scanReading
  rw [h]

theorem KeyCal.plausible_eq_false_iff (c : KeyCal) (raw : Nat) :
    c.plausible raw = false ↔ (raw : Int) < c.r - 64 ∨ (c.b : Int) + 64 < raw := by
  rw [← Bool.not_eq_true, KeyCal.plausible, Bool.and_eq_true_iff, decide_eq_true_iff, decide_eq_true_iff,
    Config.plausibleMargin]
  omega

theorem State.evaluateKey_key (s : State) (k j : KeyIx) (raw : Nat) : (s.evaluateKey k raw).key j =
    if j = k then { s.key k with
      state := (evaluatedState (s.keyCal k) s.cal.touch raw).1, last := some ((s.keyCal k).clamped raw, s.now)
      implausible := (evaluatedState (s.keyCal k) s.cal.touch raw).2, evaluated := true }
    else s.key j := s.key_setKey k j _

theorem State.allKeysEvaluated_iff (s : State) : s.allKeysEvaluated = true ↔ ∀ k : KeyIx, (s.key k).evaluated = true := by
  simp only [State.allKeysEvaluated, State.key, List.all_eq_true, Vector.mem_toList_iff]
  constructor
  · exact fun h k => h _ (Vector.getElem_mem _)
  · intro h x hx
    obtain ⟨i, hi, rfl⟩ := Vector.getElem_of_mem hx
    exact h ⟨i, hi⟩

/-- With the key evaluated, all are exactly if all the others are. -/
theorem State.evaluateKey_all (s : State) (k : KeyIx) (raw : Nat) :
    (s.evaluateKey k raw).allKeysEvaluated = decide (∀ j : KeyIx, j ≠ k → (s.key j).evaluated = true) := by
  rw [Bool.eq_iff_iff, State.allKeysEvaluated_iff, decide_eq_true_iff]
  constructor
  · intro h j hj
    simpa [State.evaluateKey_key, hj] using h j
  · intro h j
    rw [State.evaluateKey_key]
    by_cases hj : j = k
    · rw [if_pos hj]
    · rw [if_neg hj]
      exact h j hj

theorem evaluatedState_atRest (c : KeyCal) (x : Touch) (raw : Nat) :
    (evaluatedState c x raw).1.atRest = decide ((evaluatedState c x raw).1 ≠ .returning) := by
  unfold evaluatedState
  split
  · rfl
  · split
    · rfl
    · split <;> rfl

theorem evaluatedState_isFaulty (c : KeyCal) (x : Touch) (raw : Nat) : (evaluatedState c x raw).1.isFaulty = true ↔
    (evaluatedState c x raw).1 = .faulty .span ∨ (evaluatedState c x raw).1 = .faulty .readings := by
  unfold evaluatedState
  split
  · simp [KeyState.isFaulty]
  · split
    · simp [KeyState.isFaulty]
    · split <;> simp [KeyState.isFaulty]

/-- What the rail is told where quiet was no: one key more not at rest, where the key has left it (R63). -/
theorem State.restReport_from_rest (h : s.rail.quiet.quiet = false) (after : Bool) :
    s.restReport true after = s.setRail { s.rail with quiet := if after then s.rail.quiet else
      { notAtRest := s.rail.quiet.notAtRest + 1, start := none, quiet := false } } := by
  cases after with
  | true => rfl
  | false =>
    change s.endQuiet _ = _
    unfold State.endQuiet
    rw [h]
    rfl

/-- The phase moves on where the three reports of CHECKING are in. -/
theorem State.judgeChecking_startUp (s : State) (h : s.startUp.phase = .checking) : s.judgeChecking.startUp =
    if s.allKeysEvaluated = true ∧ s.allPedalsEvaluated = true ∧ s.rail.decided = true then
      { s.startUp with phase := .samples, phaseSince := s.now } else s.startUp := by
  unfold State.judgeChecking
  simp only [h, true_and]
  split
  · rw [State.setPhase_eq]
  · rfl

theorem State.reportSensors_startUp (s : State) (h : s.startUp.phase = .checking) :
    s.reportSensors.startUp.foundFaulty = s.startUp.foundFaulty ∧
    s.reportSensors.startUp.faultyKeys = (if s.allKeysEvaluated then some s.startUp.foundFaulty else s.startUp.faultyKeys) ∧
    s.reportSensors.startUp.phase =
      (if s.allKeysEvaluated = true ∧ s.allPedalsEvaluated = true ∧ s.rail.decided = true then .samples else .checking) := by
  unfold State.reportSensors
  cases hall : s.allKeysEvaluated with
  | false => simp [h]
  | true =>
    rw [if_pos rfl, State.judgeChecking_startUp _ (by exact h)]
    have hkeys : State.allKeysEvaluated { s with startUp := { s.startUp with faultyKeys := some s.startUp.foundFaulty } } = true := hall
    have hpedals : State.allPedalsEvaluated { s with startUp := { s.startUp with faultyKeys := some s.startUp.foundFaulty } } =
      s.allPedalsEvaluated := rfl
    simp only [hkeys, hpedals, true_and, if_true]
    split
    · exact ⟨rfl, rfl, rfl⟩
    · exact ⟨rfl, rfl, h⟩

end Evaluation

section Decision

variable {s : State}

theorem Rail.with_state {r : Rail} {st : RailState} (h : r.state = st) : { r with state := st } = r := by rw [← h]

/-- The state that the start-up decision comes to, once the vote set is followed (R69, R86). -/
def decidedState (park stop any : Bool) (t : Time) : RailState :=
  match park, stop with
  | true, false => if any then .pendingIn t false else .parked
  | false, true => if any then .engaged else .pendingOut t false
  | false, false => .homing
  | true, true => .fault .switches

theorem State.settle_still_goes (h : s.railRule = none) : s.RailGoes s.rail [] s.settle := by
  rw [State.settle_of_none h]
  exact ⟨rfl, rfl, .refl s⟩

/-- A rail that stands where the decision puts it settles by the vote set, with quiet no. -/
theorem State.settle_decided (quiet : s.rail.quiet.quiet = false)
    (state : s.rail.state = (railDecision s.rail.park s.rail.stop s.cal.cEng).1) :
    ∃ notices : List Notice, (∀ n ∈ notices, n.2 = .rail) ∧ notices.length ≤ 1 ∧
      s.RailGoes { s.rail with state := decidedState s.rail.park s.rail.stop s.rail.votes.any s.now } notices s.settle := by
  cases hpark : s.rail.park <;> cases hstop : s.rail.stop <;> rw [hpark, hstop] at state
  case true.false =>
    exact ⟨_, by split <;> simp [RailState.notice], by split <;> simp, State.settle_parked_goes state fun _ => quiet⟩
  case false.true =>
    exact ⟨_, by split <;> simp [RailState.notice], by split <;> simp, State.settle_engaged_goes state fun _ => quiet⟩
  case false.false =>
    have hgoes := State.settle_still_goes (s := s) (by simp [State.railRule, show s.rail.state = .homing from state, quiet])
    exact ⟨[], List.forall_mem_nil _, Nat.zero_le 1, hgoes.frame, hgoes.rail.trans (Rail.with_state state).symm, hgoes.notes⟩
  case true.true =>
    have hgoes := State.settle_still_goes (s := s) (by simp [State.railRule, show s.rail.state = .fault .switches from state])
    exact ⟨[], List.forall_mem_nil _, Nat.zero_le 1, hgoes.frame, hgoes.rail.trans (Rail.with_state state).symm, hgoes.notes⟩

/-- Records of the rail alone raise its one condition. -/
theorem latchedAfter_rail (latched : CondSet) {notices : List Notice} (h : ∀ n ∈ notices, n.2 = .rail) :
    latchedAfter (latched ||| Condition.mask .rail) notices = latched ||| Condition.mask .rail := by
  unfold latchedAfter
  induction notices with
  | nil => rfl
  | cons n notices ih =>
    rw [List.forall_mem_cons] at h
    rw [List.foldl_cons, h.1, BitVec.or_assoc, BitVec.or_self]
    exact ih h.2

/-- The decision with its report, before the rail goes on (R86). -/
def State.decisionTaken (s : State) : State :=
  let d := railDecision s.rail.park s.rail.stop s.cal.cEng
  let s1 := (s.setRail { s.rail with decided := true, count := d.2 }).enterRail d.1
  { s1 with startUp := { s1.startUp with railOutcome := some (d.1.name, d.1.cause) } }

theorem State.decideRail_eq (s : State) : s.decideRail = s.decisionTaken.judgeChecking.settle := rfl

theorem State.decisionTaken_leaves (s : State) :
    let d := railDecision s.rail.park s.rail.stop s.cal.cEng
    s.decisionTaken.rail = { s.rail with decided := true, count := d.2, state := d.1 } ∧
    s.decisionTaken.startUp = { s.startUp with railOutcome := some (d.1.name, d.1.cause) } ∧
    s.Notes [d.1.notice s.rail.votes] s.decisionTaken ∧
    s.decisionTaken = { s with
      rail := s.decisionTaken.rail, startUp := s.decisionTaken.startUp, journal := s.decisionTaken.journal
      links := s.decisionTaken.links, led := s.decisionTaken.led, ledSince := s.decisionTaken.ledSince } := by
  have hgoes := (s.setRail_goes { s.rail with
    decided := true, count := (railDecision s.rail.park s.rail.stop s.cal.cEng).2 }).trans
    (State.enterRail_goes _ (railDecision s.rail.park s.rail.stop s.cal.cEng).1)
  have hframe := hgoes.frame
  unfold RailFrame at hframe
  refine ⟨hgoes.rail, ?_, hgoes.notes.trans (n := []) (.of_unchanged rfl rfl rfl), ?_⟩
  · unfold State.decisionTaken
    simp only []
    rw [hframe]
  · unfold State.decisionTaken
    simp only []
    rw [hframe]

/-- The phase after the decision's report. -/
theorem State.decisionTaken_phase (h : s.startUp.phase = .checking) : s.decisionTaken.judgeChecking.startUp.phase = .samples ↔
    s.allKeysEvaluated = true ∧ s.allPedalsEvaluated = true := by
  obtain ⟨hrail, hstart, -, hframe⟩ := s.decisionTaken_leaves
  have hphase : s.decisionTaken.startUp.phase = .checking := by rw [hstart]; exact h
  have hkeys : s.decisionTaken.allKeysEvaluated = s.allKeysEvaluated := by rw [hframe]; rfl
  have hpedals : s.decisionTaken.allPedalsEvaluated = s.allPedalsEvaluated := by rw [hframe]; rfl
  rw [State.judgeChecking_startUp _ hphase, hkeys, hpedals, hrail]
  constructor
  · intro hsamples
    by_contra hnot
    rw [if_neg (by tauto), hphase] at hsamples
    cases hsamples
  · rintro ⟨hall, hlive⟩
    rw [if_pos ⟨hall, hlive, rfl⟩]

theorem State.decisionTaken_outcome (h : s.startUp.phase = .checking) : s.decisionTaken.judgeChecking.startUp.railOutcome =
    some ((railDecision s.rail.park s.rail.stop s.cal.cEng).1.name, (railDecision s.rail.park s.rail.stop s.cal.cEng).1.cause) := by
  obtain ⟨-, hstart, -, -⟩ := s.decisionTaken_leaves
  rw [State.judgeChecking_startUp _ (by rw [hstart]; exact h), hstart]
  split <;> rfl

end Decision

/-- An evaluation reading of a key at rest, with quiet no and no test: the key evaluated, told to the rail where it has left
rest, and reported (R22, R63). -/
theorem State.keyReading_evaluates {s : State} {k : KeyIx} (phase : s.startUp.phase = .checking) (first : (s.key k).evaluated = false)
    (rest : (s.key k).state = .rest) (quiet : s.rail.quiet.quiet = false) (test : s.test = none) (raw : Nat) :
    s.keyReading k raw = State.reportSensors ((s.evaluateKey k raw).setRail { s.rail with
      quiet := if (evaluatedState (s.keyCal k) s.cal.touch raw).1 = .returning then
        { notAtRest := s.rail.quiet.notAtRest + 1, start := none, quiet := false } else s.rail.quiet }) := by
  have htold : s.restTold (s.evaluateKey k raw) k = (s.evaluateKey k raw).setRail { s.rail with
      quiet := if (evaluatedState (s.keyCal k) s.cal.touch raw).1 = .returning then
        { notAtRest := s.rail.quiet.notAtRest + 1, start := none, quiet := false } else s.rail.quiet } := by
    rw [State.restTold, rest, State.evaluateKey_key, if_pos rfl]
    refine (State.restReport_from_rest (s := s.evaluateKey k raw) quiet _).trans ?_
    rw [evaluatedState_atRest]
    by_cases hreturns : (evaluatedState (s.keyCal k) s.cal.touch raw).1 = .returning
    · simp only [hreturns, if_true]
      rfl
    · simp only [hreturns, ne_eq, not_false_eq_true, decide_true, if_true, if_false]
      rfl
  rcases s.keyReading_cases k raw with ⟨h, -⟩ | ⟨-, -, h⟩ | ⟨-, h, -⟩
  · exact absurd (phase.symm.trans h) nofun
  · rw [h, htold, State.scanReading_of_idle]
    rw [State.reportSensors_frame]
    exact test
  · exact absurd ((h phase).symm.trans first) nofun

/-- Settles O9: the evaluation by `State.keyReading_evaluates`, the decision by `State.decisionTaken` and what settles
from it. -/
theorem startUpDecision : Obligations.StartUpDecision := by
  refine ⟨fun t k r s hphase hfirst hrest hquiet htest => ?evaluation, fun t s hphase hdecided hdue hquiet hdrive hroom => ?decision⟩
  case evaluation =>
    extract_lets c x found last
    have hfound : evaluatedState c s.cal.touch r.val = found := by
      unfold evaluatedState
      simp only [KeyCal.plausible_eq_false_iff, Config.leastSpan, Config.faultRun]
      rfl
    have hread := State.keyReading_evaluates (s := s.stamp t) hphase hfirst hrest hquiet htest r.val
    generalize hb : (State.setRail ((s.stamp t).evaluateKey k r.val) _) = b at hread
    have hkeys (j : KeyIx) : b.key j = if j = k then
        { s.key k with state := found.1, last := some (x, t), implausible := found.2, evaluated := true } else s.key j := by
      rw [← hb, ← hfound]
      exact (s.stamp t).evaluateKey_key k j r.val
    have hall : b.allKeysEvaluated = last := by
      rw [← hb]
      exact (s.stamp t).evaluateKey_all k r.val
    have hfaulty : b.startUp.foundFaulty = if found.1 = .faulty .span ∨ found.1 = .faulty .readings then
        KeySet.add s.startUp.foundFaulty k else s.startUp.foundFaulty := by
      rw [← hb, ← hfound]
      exact if_congr (evaluatedState_isFaulty _ _ _) rfl rfl
    obtain ⟨hfoundFaulty, hfaultyKeys, hphase'⟩ := b.reportSensors_startUp (by rw [← hb]; exact hphase)
    have hframe := b.reportSensors_frame
    refine ⟨b.reportSensors, congrArg Host.Outcome.next hread, ?_, fun j hj => ?_, ?_, ?_, ?_, ?_, ?_⟩
    · rw [hframe]
      exact (hkeys k).trans (if_pos rfl)
    · rw [hframe]
      exact (hkeys j).trans (if_neg hj)
    · exact hfoundFaulty.trans hfaulty
    · rw [hfaultyKeys, hfoundFaulty, hall, ← hb]
      rfl
    · rw [hphase', hall, ← hb]
      rfl
    · rw [hframe, ← hb, ← hfound]
      rfl
    · rw [hframe, ← hb]
      rfl
  case decision =>
    have hreached : reached s.startUp.phaseSince 5000 t = true := (reached_iff _ _ _).mpr hdue
    have hexec : exec (.startUpDecision t) s = .next (s.stamp t).decisionTaken.judgeChecking.settle := by
      simp only [exec, execStartUpDecision, State.whenDue, State.stamp_startUp, hphase, Config.decisionDelay, hreached,
        State.stamp_rail, hdecided]
      exact congrArg Host.Outcome.next (s.stamp t).decideRail_eq
    have houtcome := State.decisionTaken_outcome (s := s.stamp t) hphase
    have hsamples := State.decisionTaken_phase (s := s.stamp t) hphase
    obtain ⟨hrail, -, hnotes, hleaves⟩ := (s.stamp t).decisionTaken_leaves
    generalize (s.stamp t).decisionTaken = c at hrail hnotes hleaves houtcome hsamples hexec
    have hjudged := c.judgeChecking_frame
    generalize hd : c.judgeChecking = d at hjudged houtcome hsamples hexec
    have hdrail : d.rail = { s.rail with
        decided := true, count := (railDecision s.rail.park s.rail.stop s.cal.cEng).2
        state := (railDecision s.rail.park s.rail.stop s.cal.cEng).1 } := by
      rw [hjudged]
      exact hrail
    have hdcal : d.cal = s.cal := by rw [hjudged, hleaves]; rfl
    have hdnow : d.now = t := by rw [hjudged, hleaves]; rfl
    obtain ⟨notices, hnotices, hfew, hgoes⟩ := State.settle_decided (s := d) (by rw [hdrail]; exact hquiet)
      (by rw [hdrail, hdcal])
    have hframe := hgoes.frame
    unfold RailFrame at hframe
    refine ⟨d.settle, hexec, ?_, ?_, ?_, ?_, ?_, ?_, fun l => ?_⟩
    · rw [hgoes.rail, hdrail]
    · rw [hgoes.rail, hdrail]
      exact hdrive
    · rw [hframe, houtcome]
      congr 1
      change ((railDecision s.rail.park s.rail.stop s.cal.cEng).1.name,
        (railDecision s.rail.park s.rail.stop s.cal.cEng).1.cause) = _
      cases s.rail.park <;> cases s.rail.stop <;> rfl
    · rw [hgoes.rail, hdrail, hdnow]
      rfl
    · rw [hgoes.rail, hdrail]
      change (railDecision s.rail.park s.rail.stop s.cal.cEng).2 = _
      cases s.rail.park <;> cases s.rail.stop <;> rfl
    · rw [hframe]
      exact hsamples
    · have hlink : d.link l = c.link l := by rw [hjudged]; rfl
      have hring : d.journal = c.journal := by rw [hjudged]
      have hone := hnotes.journal_of_room (by exact Nat.le_trans (Nat.succ_le_succ hroom) (by decide))
      have hlength : d.journal.length = s.journal.length + 1 := by
        rw [hring, hone, List.length_append]
        rfl
      rw [hgoes.notes.latched (by omega), hlink, hnotes.latched (by exact Nat.le_trans (Nat.succ_le_succ hroom) (by decide))]
      exact latchedAfter_rail _ hnotices

end Sys2Proof.Machine
end

section
/-! The rail: the encoder's edges and the index pulse (R66, R72, R75), and its timers (R63, R70, R71, R74). -/

namespace Sys2Proof.Machine

-- One declaration after another: side by side they open more threads than the check's memory limit holds.
set_option Elab.async false

/-! ### Encoder edges and the index pulse -/

section Travel

variable {s : State}

theorem State.RailGoes.record {r : Rail} {b : JournalBody} {c : Condition} {s' : State} (h : s.RailGoes r [(b, c)] s') :
    s'.journal = (if s.journal.length < 512 then s.journal else s.journal.tail) ++ [{ body := b, time := s.now }] :=
  h.notes.ring

theorem countEdge_eq (count : Int) (sense : Travel) :
    countEdge count sense = max (-32768) (min 32767 (count + match sense with | .inward => 1 | .outward => -1)) := by
  unfold countEdge
  exact clamp_eq_max_min _ (by decide)

/-- The rail after an edge, before the count is judged. -/
def State.edgeCounted (s : State) (sense : Travel) : State :=
  s.setRail { s.rail with
    count := countEdge s.rail.count sense, drive := s.rail.drive.map (fun g => { g with lastEdge := s.now }) }

/-- The edge of a motor that is OFF moves the count alone. -/
theorem State.edgeCounted_off {sense : Travel} (h : s.rail.drive = none) :
    s.edgeCounted sense = s.setRail { s.rail with count := countEdge s.rail.count sense } := by
  unfold State.edgeCounted
  rw [h, Option.map_none, ← h]

/-- The edge of a driven motor is its latest. -/
theorem State.edgeCounted_driven {sense : Travel} {g : Segment} (h : s.rail.drive = some g) :
    s.edgeCounted sense = s.setRail { s.rail with
      count := countEdge s.rail.count sense, drive := some { g with lastEdge := s.now } } := by
  unfold State.edgeCounted
  rw [h, Option.map_some]

theorem State.edgeSeen_eq (sense : Travel) : s.edgeSeen sense =
    if ((s.edgeCounted sense).rail.drive.isSome && (s.edgeCounted sense).rail.state.judgesTravel &&
        (s.edgeCounted sense).rail.overtravelled) = true then (s.edgeCounted sense).railFault .overtravel
    else s.edgeCounted sense := rfl

theorem State.edgeSeen_counts {sense : Travel} (h : (s.edgeCounted sense).rail.drive = none ∨
    (s.edgeCounted sense).rail.overtravelled = false) : s.edgeSeen sense = s.edgeCounted sense := by
  refine (s.edgeSeen_eq sense).trans (if_neg ?_)
  rcases h with h | h <;> simp [h]

theorem State.edgeSeen_faults {sense : Travel} {g : Segment} (drive : s.rail.drive = some g)
    (judges : s.rail.state.judgesTravel = true) (beyond : (s.edgeCounted sense).rail.overtravelled = true) :
    s.edgeSeen sense = (s.edgeCounted sense).railFault .overtravel := by
  have hdrive : (s.edgeCounted sense).rail.drive.isSome = true := by
    change (s.rail.drive.map _).isSome = true
    rw [drive]
    rfl
  refine (s.edgeSeen_eq sense).trans (if_pos ?_)
  rw [beyond, hdrive, Bool.and_true, Bool.true_and]
  exact judges

theorem Rail.overtravelled_eq_false {r : Rail} {m : Nat} (seg : r.segCount = some m) (low : -200 ≤ r.count) (high : r.count ≤ m + 200) :
    r.overtravelled = false := by
  simp only [Rail.overtravelled, seg, Config.overtravel]
  have hhigh : ¬ ((m : Int) + 200 < r.count) := by omega
  have hlow : ¬ (r.count < -200) := by omega
  simp [hhigh, hlow]

theorem Rail.overtravelled_eq_true {r : Rail} {m : Nat} (seg : r.segCount = some m)
    (h : r.count < -200 ∧ r.park = false ∨ (m : Int) + 200 < r.count ∧ r.stop = false) : r.overtravelled = true := by
  simp only [Rail.overtravelled, seg, Config.overtravel]
  rcases h with ⟨hcount, hopen⟩ | ⟨hcount, hopen⟩ <;> simp [hcount, hopen]

/-- The index pulse ends an outward move or homing, with no vote standing (R72, R78). -/
theorem State.indexSeen_arrives (decided : s.rail.decided = true)
    (state : s.rail.state = .movingOut ∨ s.rail.state = .pausedOut ∨ s.rail.state = .homing) :
    s.indexSeen = (s.setRail { s.rail with count := 0 }).arriveParked.settle := by
  unfold State.indexSeen
  refine (if_pos decided).trans ?_
  simp only [State.setRail]
  rcases state with h | h | h <;> rw [h]

/-- Settles O24: an edge counts and then may fault by `State.railFault_goes`; the index arrives by
`State.arriveParked_goes`. -/
theorem encoderAndIndex : Obligations.EncoderAndIndex := by
  intro t s
  refine ⟨fun sense => ?_, fun hparked => ?_, fun hdecided hstate hvotes => ?_⟩
  · extract_lets n
    have hn : n = countEdge s.rail.count sense := (countEdge_eq _ _).symm
    rw [hn]
    refine ⟨fun hdrive => ?_, fun g m hdrive hseg hlow hhigh => ?_, fun g m hdrive hseg hstate hbeyond => ?_⟩
    · have hnone : ((s.stamp t).edgeCounted sense).rail.drive = none := congrArg (Option.map _) hdrive
      exact congrArg Host.Outcome.next ((State.edgeSeen_counts (.inl hnone)).trans (State.edgeCounted_off hdrive))
    · exact congrArg Host.Outcome.next ((State.edgeSeen_counts (s := s.stamp t) (.inr (Rail.overtravelled_eq_false
        (m := m) hseg hlow hhigh))).trans (State.edgeCounted_driven hdrive))
    · have hjudges : s.rail.state.judgesTravel = true := by rcases hstate with h | h <;> rw [h] <;> rfl
      have hname : ((s.stamp t).edgeCounted sense).rail.state.name ≠ .testing := by
        change s.rail.state.name ≠ .testing
        rcases hstate with h | h <;> rw [h] <;> nofun
      have hgoes := State.railFault_goes _ .overtravel hname
      refine ⟨_, congrArg Host.Outcome.next (State.edgeSeen_faults (s := s.stamp t) hdrive hjudges
        (Rail.overtravelled_eq_true (m := m) hseg hbeyond)), ?_, State.railFault_led _ _ hname, hgoes.record⟩
      rw [hgoes.rail]
      rfl
  · refine congrArg Host.Outcome.next ?_
    unfold State.indexSeen
    simp only [State.setRail, State.stamp_rail, hparked]
    split <;> rfl
  · have hgoes := ((s.stamp t).setRail_goes { s.rail with count := 0 }).trans (State.arriveParked_goes _)
    have hrest : State.railRule ((s.stamp t).setRail { s.rail with count := 0 }).arriveParked = none := by
      unfold State.railRule
      rw [hgoes.rail]
      exact if_neg (by rw [show ((s.stamp t).setRail { s.rail with count := 0 }).rail.votes = s.rail.votes from rfl, hvotes]; nofun)
    have hsettled := hgoes.settle hrest
    exact ⟨_, congrArg Host.Outcome.next (State.indexSeen_arrives (s := s.stamp t) hdecided hstate), hsettled.rail, hsettled.record⟩

end Travel

/-! ### Timers -/

section Timers

variable {s : State}

/-- The end switch that a direction leads to. -/
def travelEnd : Travel → EndSwitch
  | .inward => .stop
  | .outward => .park

/-- A rail that has awaited quiet begins its move, with the switch of its end open (R70). -/
theorem State.settle_begins {dir : Travel} (state : s.rail.state.awaits = some dir) (quiet : s.rail.quiet.quiet = true)
    (opened : s.rail.madeSwitch (travelEnd dir) = false) :
    s.RailGoes
      { s.rail with
        state := movingState dir, drive := some { dir := dir, start := s.now, lastEdge := s.now }
        segCount := some s.cal.cEng }
      [(movingState dir).notice s.rail.votes] s.settle := by
  have hgoes := s.beginMove_goes dir
  have hrule : s.railRule = some (s.beginMove dir) := by
    unfold State.railRule
    cases hst : s.rail.state <;> rw [hst] at state <;> cases state <;> simp only [hst, quiet, if_true]
  have hlast : (s.beginMove dir).railRule = none := by
    unfold State.railRule
    rw [hgoes.rail]
    cases dir <;> exact if_neg fun h => Bool.false_ne_true (opened.symm.trans h)
  rw [State.settle_of_some hrule hlast]
  exact hgoes

/-- A rail that drives without a state to enter, homing or in a test's phase, begins its segment (R78, R80). -/
theorem State.settle_drives {dir : Travel} (state : s.rail.state = .homing ∧ s.rail.decided = true ∨ s.rail.state.name = .testing)
    (drives : s.rail.state.drives = some dir) (quiet : s.rail.quiet.quiet = true) (off : s.rail.drive = none) :
    s.settle = s.startSegment dir := by
  have hrule : s.railRule = some (s.startSegment dir) := by
    unfold State.railRule
    cases hst : s.rail.state <;> rw [hst] at state drives <;> simp [RailState.name] at state <;> cases drives
    case homing => simp [hst, state, quiet, off]
    case testing => simp [hst, quiet, off]
  refine State.settle_of_some hrule ?_
  unfold State.railRule
  have hstart : (s.startSegment dir).rail.state = s.rail.state := rfl
  have hdriven : (s.startSegment dir).rail.drive.isNone = false := rfl
  cases hst : s.rail.state <;> rw [hst] at state <;> simp [RailState.name] at state <;> simp [hstart, hst, hdriven]

/-- Quiet moves no rail that stands where it is asked to, and none that is driven. -/
theorem State.railRule_stands (h : s.rail.state = .parked ∧ s.rail.votes.any = false ∨
    s.rail.state = .engaged ∧ s.rail.votes.any = true ∨ s.rail.state.isFault = true ∨
    s.rail.state = .homing ∧ (s.rail.decided = false ∨ s.rail.drive.isSome = true) ∨
    s.rail.state.name = .testing ∧ s.rail.drive.isSome = true) : s.railRule = none := by
  unfold State.railRule
  rcases h with ⟨hst, hvotes⟩ | ⟨hst, hvotes⟩ | hst | ⟨hst, hoff⟩ | ⟨hst, hdriven⟩
  · simp [hst, hvotes]
  · simp [hst, hvotes]
  · cases hrail : s.rail.state <;> rw [hrail] at hst <;> simp [RailState.isFault] at hst
    simp [hrail]
  · obtain hoff | hoff := hoff
    · simp [hst, hoff]
    · obtain ⟨g, hg⟩ := Option.isSome_iff_exists.mp hoff
      simp [hst, hg]
  · obtain ⟨p, a, b, hrail⟩ := RailState.testing_of_name hst
    obtain ⟨g, hg⟩ := Option.isSome_iff_exists.mp hdriven
    simp [hrail, hg]

theorem execQuietEvent_due {t q : Time} (hq : s.rail.quiet.start = some q) (h : 1000 * s.cal.touch.quietMs ≤ (t - q).toNat) :
    exec (.quietEvent t) s =
      .next ((s.stamp t).setQuiet { s.rail.quiet with start := none, quiet := true }).settle :=
  congrArg Host.Outcome.next (State.judgeQuiet_of_due (s := s.stamp t) hq h)

/-- A waiting notice that is not due changes nothing. -/
theorem State.notice_of_early (h : ∀ p : Time, s.rail.state = .pendingIn p false ∨ s.rail.state = .pendingOut p false →
    (s.now - p).toNat < 8000000) : s.notice = s := by
  unfold State.notice
  split
  · rename_i since hst
    exact if_neg (by rw [Config.waitingTime, (reached_eq_false _ _ _).mpr (h since (.inl hst))]; nofun)
  · rename_i since hst
    exact if_neg (by rw [Config.waitingTime, (reached_eq_false _ _ _).mpr (h since (.inr hst))]; nofun)
  · rfl

theorem State.notice_of_due {p : Time} {st : RailState} (due : 8000000 ≤ (s.now - p).toNat)
    (h : s.rail.state = .pendingIn p false ∧ st = .pendingIn p true ∨ s.rail.state = .pendingOut p false ∧ st = .pendingOut p true) :
    s.notice = (s.setRail { s.rail with state := st }).railRecord true := by
  have hreached : reached p Config.waitingTime s.now = true := (reached_iff _ _ _).mpr due
  unfold State.notice
  rcases h with ⟨hst, rfl⟩ | ⟨hst, rfl⟩ <;> rw [hst] <;> exact if_pos hreached

theorem State.waitingRecord_journal (st : RailState) : ((s.setRail { s.rail with state := st }).railRecord true).journal =
    (if s.journal.length < 512 then s.journal else s.journal.tail) ++
      [{ body := .rail st.name st.testPhase .waiting s.rail.votes, time := s.now }] := State.report_ring _ _ _

theorem Rail.stalled_eq {r : Rail} {g : Segment} (h : r.drive = some g) (now : Time) :
    r.stalled now = reached g.lastEdge 40000 now := by rw [Rail.stalled, h]; rfl

theorem Rail.timedOut_eq {r : Rail} {g : Segment} (h : r.drive = some g) (now : Time) :
    r.timedOut now = reached g.start 1500000 now := by rw [Rail.timedOut, h]; rfl

/-- Settles O25: the quiet event by what settles once quiet has come, the others by whether they are due. -/
theorem railTimers : Obligations.RailTimers := by
  intro t s record
  refine ⟨fun hstart => ?_, fun q hq hearly => ?_, fun q hq hdue => ?quiet, fun p hst hdue => ?_, fun p hst hdue => ?_, fun hearly => ?_,
    fun hoff => ⟨?_, ?_⟩, fun g hg => ⟨fun hearly => ?_, fun hearly => ?_, fun hname => ⟨fun hdue => ?_, fun hdue => ?_⟩⟩⟩
  case quiet =>
    intro quiet' segment
    have hexec := execQuietEvent_due hq hdue
    have hgoes := (s.stamp t).setRail_goes { s.rail with quiet := quiet' }
    have hbegins {dir : Travel} (state : s.rail.state.awaits = some dir)
        (opened : s.rail.madeSwitch (travelEnd dir) = false) :=
      State.settle_begins (s := (s.stamp t).setQuiet quiet') (dir := dir) state rfl opened
    have hdrives {dir : Travel} (state : s.rail.state = .homing ∧ s.rail.decided = true ∨ s.rail.state.name = .testing)
        (drives : s.rail.state.drives = some dir) (off : s.rail.drive = none) :=
      State.settle_drives (s := (s.stamp t).setQuiet quiet') state drives rfl off
    refine ⟨fun hstands => ?_, fun hst hopen => ?_, fun hst hopen => ?_, fun hst hdecided hoff => ?_, fun phase a b hst hoff => ?_⟩
    · exact hexec.trans (congrArg Host.Outcome.next (State.settle_of_none (State.railRule_stands hstands)))
    · have hawaits : s.rail.state.awaits = some .inward := by
        rcases hst with h | ⟨p, n, h⟩ <;> rw [h] <;> rfl
      have h := hbegins hawaits hopen
      exact ⟨_, hexec, h.record, h.rail⟩
    · have hawaits : s.rail.state.awaits = some .outward := by
        rcases hst with h | ⟨p, n, h⟩ <;> rw [h] <;> rfl
      have h := hbegins hawaits hopen
      exact ⟨_, hexec, h.record, h.rail⟩
    · exact hexec.trans (congrArg Host.Outcome.next (hdrives (.inl ⟨hst, hdecided⟩) (by rw [hst]; rfl) hoff))
    · exact hexec.trans (congrArg Host.Outcome.next (hdrives (.inr (by rw [hst]; rfl)) (by rw [hst]; rfl) hoff))
  · exact congrArg Host.Outcome.next (State.judgeQuiet_of_early (s := s.stamp t) fun q hq => absurd (hstart.symm.trans hq) nofun)
  · refine congrArg Host.Outcome.next (State.judgeQuiet_of_early (s := s.stamp t) fun q' hq' => ?_)
    obtain rfl : q = q' := Option.some.inj (hq.symm.trans hq')
    exact hearly
  · exact ⟨_, congrArg Host.Outcome.next (State.notice_of_due (s := s.stamp t) hdue (.inl ⟨hst, rfl⟩)), rfl,
      State.waitingRecord_journal _⟩
  · exact ⟨_, congrArg Host.Outcome.next (State.notice_of_due (s := s.stamp t) hdue (.inr ⟨hst, rfl⟩)), rfl,
      State.waitingRecord_journal _⟩
  · exact congrArg Host.Outcome.next (State.notice_of_early (s := s.stamp t) hearly)
  · simp [exec, execStall, State.whenDue, Rail.stalled, hoff, State.stamp]
  · simp [exec, execTimeout, State.whenDue, Rail.timedOut, hoff, State.stamp]
  · have hnot : (s.stamp t).rail.stalled t = false := (Rail.stalled_eq hg t).trans ((reached_eq_false _ _ _).mpr hearly)
    simp only [exec, execStall, State.whenDue, hnot]
    rfl
  · have hnot : (s.stamp t).rail.timedOut t = false := (Rail.timedOut_eq hg t).trans ((reached_eq_false _ _ _).mpr hearly)
    simp only [exec, execTimeout, State.whenDue, hnot]
    rfl
  · have hyes : (s.stamp t).rail.stalled t = true := (Rail.stalled_eq hg t).trans ((reached_iff _ _ _).mpr hdue)
    have hgoes := State.railFault_goes (s.stamp t) .stall hname
    refine ⟨(s.stamp t).railFault .stall, ?_, State.railFault_led _ _ hname, hgoes.rail, hgoes.record⟩
    simp only [exec, execStall, State.whenDue, hyes, if_true]
  · have hyes : (s.stamp t).rail.timedOut t = true := (Rail.timedOut_eq hg t).trans ((reached_iff _ _ _).mpr hdue)
    have hgoes := State.railFault_goes (s.stamp t) .timeout hname
    refine ⟨(s.stamp t).railFault .timeout, ?_, State.railFault_led _ _ hname, hgoes.rail, hgoes.record⟩
    simp only [exec, execTimeout, State.whenDue, hyes, if_true]

end Timers

end Sys2Proof.Machine
end

section
/-! The rail: the vote set and the recovery (R61, R62, R69, R73, R77). -/

namespace Sys2Proof.Machine

-- One declaration after another: side by side they open more threads than the check's memory limit holds.
set_option Elab.async false

section Votes

variable {s : State} {l : Link} {p : List Byte}

theorem ruleVoteSilent_early (h : s.heldOrRunning = false) : ruleVoteSilent l p s = (s, .no .notReady) :=
  State.checked_refused _ (by simp [State.beforeHeld, h, firstFailing_cons])

theorem ruleVoteSilent_badLength (h : s.heldOrRunning = true) (hp : p.length ≠ 1) : ruleVoteSilent l p s = (s, .no .badLength) :=
  State.checked_refused _ (by simp [State.beforeHeld, h, lengthNot, hp, firstFailing_cons])

theorem voteChecks_pass {b : Byte} (h : s.heldOrRunning = true) : firstFailing [s.beforeHeld, lengthNot [b] 1] = none := by
  simp [State.beforeHeld, h, lengthNot, firstFailing]

theorem ruleVoteSilent_badValue {b : Byte} (h : s.heldOrRunning = true) (hb : 1 < b.toNat) :
    ruleVoteSilent l [b] s = (s, .no .badValue) := by
  rw [ruleVoteSilent, State.checked_passed _ (voteChecks_pass h), flagOfCode_of_gt (n := byteAt [b] 0) hb]

theorem flagOfCode_yesNo (on : Bool) : flagOfCode (byteAt (yesNo on) 0) = some on := by
  cases on <;> rfl

theorem yesNo_length_le (on : Bool) : (yesNo on).length ≤ 60 := by
  cases on <;> decide

theorem ruleVoteSilent_votes (h : s.heldOrRunning = true) (on : Bool) :
    ruleVoteSilent l (yesNo on) s = (s.setVotes (s.rail.votes.put l on),
      .ok (u1 (s.setVotes (s.rail.votes.put l on)).rail.votes.code ++
        u1 (s.setVotes (s.rail.votes.put l on)).rail.state.name.code)) := by
  rw [ruleVoteSilent, State.checked_passed _ (by exact voteChecks_pass h), flagOfCode_yesNo]

theorem Votes.put_any (v : Votes) (l : Link) : (v.put l true).any = true := by
  cases l <;> simp [Votes.put, Votes.any]

theorem State.setVotes_changes {v : Votes} (h : v ≠ s.rail.votes) :
    s.setVotes v = (s.setRail { s.rail with votes := v }).votesChanged := if_neg h

/-- Before the start-up decision the vote set changes alone. -/
theorem State.setVotes_undecided {v : Votes} (h : s.rail.decided = false) :
    s.setVotes v = s.setRail { s.rail with votes := v } := by
  unfold State.setVotes
  split
  · rename_i hv
    rw [hv]
    rfl
  · exact if_neg fun hd => Bool.false_ne_true (h.symm.trans hd)

theorem State.setVotes_fit (v : Votes) (h : RailFit s.rail) : RailFit (s.setVotes v).rail := by
  obtain ⟨⟨hdriven, hmoving, hundecided⟩, -⟩ := id h
  unfold State.setVotes
  split
  · exact h
  · exact (State.votesChanged_fit (s := s.setRail { s.rail with votes := v }) ⟨hdriven, hmoving, hundecided⟩).1

/-- A vote at a rail that is PARKED has it wait to go in (R69). -/
theorem State.votesChanged_parked (decided : s.rail.decided = true) (state : s.rail.state = .parked)
    (votes : s.rail.votes.any = true) (quiet : s.rail.quiet.quiet = false) :
    s.votesChanged.rail.state = .pendingIn s.now false := by
  have hsettle : s.votesChanged = s.settle := by simp [State.votesChanged, decided, state, votes]
  rw [hsettle, (State.settle_parked_goes state fun _ => quiet).rail, votes]
  rfl

/-- A move inward that no vote asks for any more is turned round with a new segment (R73). -/
theorem State.votesChanged_turns (decided : s.rail.decided = true) (state : s.rail.state = .movingIn)
    (votes : s.rail.votes.any = false) (opened : s.rail.park = false) :
    s.votesChanged.rail.state = .movingOut ∧ s.votesChanged.rail.segCount = some s.cal.cEng ∧
      s.votesChanged.rail.drive = some { dir := .outward, start := s.now, lastEdge := s.now } := by
  have hgoes := s.endSegment_goes.trans (s.endSegment.beginMove_goes .outward)
  have hlast : (s.endSegment.beginMove .outward).railRule = none := by
    unfold State.railRule
    rw [hgoes.rail, s.endSegment_goes.rail]
    exact if_neg fun h => Bool.false_ne_true (opened.symm.trans h)
  have hturn : s.votesChanged = s.endSegment.beginMove .outward := by
    refine Eq.trans ?_ (State.settle_of_none hlast)
    simp [State.votesChanged, decided, state, votes, State.reverse]
  have hframe := s.endSegment_goes.frame
  rw [hturn, hgoes.rail, hframe]
  exact ⟨rfl, rfl, rfl⟩

end Votes

section Recovery

variable {s : State}

theorem State.arriveParked_led (s : State) : s.arriveParked.led = s.arriveParked.ledShows := State.enterRail_led _ _

/-- Where a recovery takes the rail, with no vote standing and no quiet, by its switches (R77). -/
def Rail.recovered (r : Rail) : Rail :=
  match r.park, r.stop with
  | true, true => { r with state := .fault .switches, drive := none, segCount := none }
  | true, false => { r with state := .parked, drive := none, count := 0, segCount := none }
  | false, _ => { r with state := .homing }

/-- A recovery with no vote standing and no quiet: the state that the switches ask for, told last (R77). -/
theorem State.recoverRail_goes (quiet : s.rail.quiet.quiet = false) (votes : s.rail.votes.any = false) :
    ∃ notices : List Notice, s.RailGoes s.rail.recovered notices s.recoverRail ∧ s.recoverRail.led = s.recoverRail.ledShows ∧
      notices.getLast? = some (s.rail.recovered.state.notice s.rail.votes) := by
  have hgoes := s.enterRail_goes .homing
  unfold State.recoverRail
  simp only [hgoes.rail]
  cases hpark : s.rail.park
  · have hrecovered : s.rail.recovered = { s.rail with state := .homing } := by simp only [Rail.recovered, hpark]
    have hrule : (s.enterRail .homing).railRule = none := by
      unfold State.railRule
      rw [hgoes.rail]
      exact if_neg (by simp [quiet])
    simp only [Bool.false_and, Bool.false_eq_true, if_false]
    rw [State.settle_of_none hrule, hrecovered]
    exact ⟨_, hgoes, State.enterRail_led _ _, rfl⟩
  · cases hstop : s.rail.stop
    · have hrecovered : s.rail.recovered = { s.rail with state := .parked, drive := none, count := 0, segCount := none } := by
        simp only [Rail.recovered, hpark, hstop]
      have harrives := hgoes.trans (s.enterRail .homing).arriveParked_goes
      have hrule : (s.enterRail .homing).arriveParked.railRule = none := by
        unfold State.railRule
        rw [harrives.rail, hgoes.rail]
        exact if_neg (by simp [votes])
      simp only [Bool.true_and, Bool.false_eq_true, if_false, if_true]
      rw [State.settle_of_none hrule, hrecovered]
      rw [hgoes.rail] at harrives
      exact ⟨_, harrives, State.arriveParked_led _, rfl⟩
    · have hrecovered : s.rail.recovered = { s.rail with state := .fault .switches, drive := none, segCount := none } := by
        simp only [Rail.recovered, hpark, hstop]
      have hname : (s.enterRail .homing).rail.state.name ≠ .testing := by rw [hgoes.rail]; nofun
      have hfaults := hgoes.trans (State.railFault_goes (s.enterRail .homing) .switches hname)
      simp only [Bool.true_and, if_true]
      rw [hgoes.rail] at hfaults
      rw [hrecovered]
      exact ⟨_, hfaults, State.railFault_led _ _ hname, rfl⟩

/-- The last of these records is the last of the ring. -/
theorem State.ringAfter_getLast? (s : State) {notices : List Notice} {n : Notice} (h : notices.getLast? = some n) :
    (s.ringAfter notices).getLast? = some { body := n.1, time := s.now } := by
  obtain ⟨before, rfl⟩ := List.getLast?_eq_some_iff.mp h
  rw [State.ringAfter, List.foldl_append, List.foldl_cons, List.foldl_nil, List.getLast?_append]
  rfl

theorem ruleRailRecover_eq (l : Link) (p : List Byte) (fault : s.rail.state.isFault = true) : ruleRailRecover l p s =
    s.checked [(!s.running, .notReady), (s.seat != some l, .noSeat), (p.length != 0, .badLength)]
      (s.recoverRail, .ok (u1 s.recoverRail.rail.state.name.code)) := by
  have h := s.checked_append [s.beforeRunning, s.noSeat l, lengthNot p 0] [(!s.rail.state.isFault, .wrongState)]
    (s.recoverRail, .ok (u1 s.recoverRail.rail.state.name.code))
  rw [fault] at h
  exact (by rw [ruleRailRecover, fault]; exact h)

/-- A rail that stands still in FAULT recovers to another state with its other fields as they are, but the count of a rail
found parked. -/
theorem Rail.recovered_eq {r : Rail} (off : r.drive = none) (segment : r.segCount = none) : r.recovered = { r with
    state := r.recovered.state, count := if r.park && !r.stop then 0 else r.count } := by
  obtain ⟨state, decided, drive, count, segCount, park, stop, parkRaw, stopRaw, leverRaw, votes, quiet⟩ := r
  obtain rfl : drive = none := off
  obtain rfl : segCount = none := segment
  cases park <;> cases stop <;> rfl

end Recovery

/-- Settles O26: a vote by what the rail does on a changed set, a recovery by `State.recoverRail_goes`. -/
theorem votesAndRecovery : Obligations.VotesAndRecovery := by
  intro t l s h
  refine ⟨fun p hearly hp => ?_, fun p hheld hp => ?_, fun b hheld hb => ?_, fun on hheld hkept => ?_, fun on hheld hchanged => ?vote,
    fun p c hst hdecided hoff hseg hquiet hvotes hp => ?recover, fun p hst hrun hseat hp => ?_⟩
  · exact State.request_denied h hp (ruleVoteSilent_early (s := s.stamp t) hearly)
  · by_cases hlong : p.length ≤ 60
    · exact State.request_denied h hlong (ruleVoteSilent_badLength (s := s.stamp t) hheld hp)
    · exact State.request_overlong h (not_le.mp hlong)
  · exact State.request_denied (p := [b]) h (by simp) (ruleVoteSilent_badValue (s := s.stamp t) hheld hb)
  · have hrule := ruleVoteSilent_votes (l := l) (s := s.stamp t) hheld on
    have hsame : (s.stamp t).setVotes ((s.stamp t).rail.votes.put l on) = s.stamp t := if_pos hkept
    rw [hsame] at hrule
    exact State.request_replied h (yesNo_length_le on) hrule
  case vote =>
    have hrule := ruleVoteSilent_votes (l := l) (s := s.stamp t) hheld on
    have hset := State.setVotes_changes (s := s.stamp t) hchanged
    refine ⟨(s.stamp t).setVotes (s.rail.votes.put l on), State.request_replied (p := yesNo on) h (yesNo_length_le on) hrule,
      State.setVotes_votes _ _, ?_, fun hdecided hvote hmotor => ?_, fun hdecided hst hquiet hon => ?_,
      fun hdecided hst hquiet hopen hnone => ?_, fun hundecided => ?_⟩
    · exact State.setVotes_frame _ _
    · exact (State.setVotes_fit (s := s.stamp t) _ ⟨hmotor, hvote⟩).symm
    · subst hon
      rw [hset]
      exact State.votesChanged_parked hdecided hst (Votes.put_any _ _) hquiet
    · rw [hset]
      exact State.votesChanged_turns hdecided hst hnone hopen
    · rw [State.setVotes_undecided (s := s.stamp t) hundecided]
      exact ⟨rfl, rfl⟩
  case recover =>
    obtain ⟨notices, hgoes, hled, hlast⟩ := State.recoverRail_goes (s := s.stamp t) hquiet hvotes
    refine ⟨(s.stamp t).recoverRail, State.request_outcome h hp (ruleRailRecover_eq (s := s.stamp t) l p (by
      change s.rail.state.isFault = true
      rw [hst]
      rfl)), ?_, ?_, ?_, hled⟩
    · rw [hgoes.rail]
      change s.rail.recovered.state = _
      unfold Rail.recovered
      cases s.rail.park <;> cases s.rail.stop <;> rfl
    · rw [hgoes.rail]
      exact Rail.recovered_eq hoff hseg
    · rw [hgoes.notes.ring, hgoes.rail]
      refine (State.ringAfter_getLast? _ hlast).trans ?_
      have hphase : s.rail.recovered.state.testPhase = none := by
        unfold Rail.recovered
        cases s.rail.park <;> cases s.rail.stop <;> rfl
      exact congrArg (fun phase => some (JournalRec.mk (.rail s.rail.recovered.state.name phase s.rail.recovered.state.cause s.rail.votes) t)) hphase
  · subst hp
    have hrule : ruleRailRecover l [] (s.stamp t) = (s.stamp t, .no .wrongState) := State.checked_refused _ ?_
    · exact State.request_denied (p := []) h (by simp) hrule
    simp [State.beforeRunning, State.noSeat, State.holds, lengthNot, hrun, hseat, hst, firstFailing_cons]

end Sys2Proof.Machine
end

section
/-! The rail's debounced inputs: the mode lever (R61) and the end switches (R67, R72, R78). -/

namespace Sys2Proof.Machine

-- One declaration after another: side by side they open more threads than the check's memory limit holds.
set_option Elab.async false

/-! ### A raw input that is due -/

theorem RawInput.due_iff {i : RawInput} {debounced : Bool} {hold : Nat} {now : Time} :
    i.due debounced hold now = true ↔ i.on ≠ debounced ∧ hold ≤ (now - i.since).toNat := by
  rw [RawInput.due, Bool.and_eq_true, reached_iff, bne_iff_ne]

theorem RawInput.due_eq_false {i : RawInput} {debounced : Bool} {hold : Nat} {now : Time}
    (h : i.on = debounced ∨ (now - i.since).toNat < hold) : i.due debounced hold now = false := by
  rw [← Bool.not_eq_true, RawInput.due_iff]
  rintro ⟨hne, hle⟩
  exact h.elim hne (Nat.not_lt.mpr hle)

/-! ### An end switch that has changed -/

section Switch

variable {s : State} {x : EndSwitch}

/-- The switch ends a move, a homing or a test's phase of this state when it becomes MADE (R72, R78, R80). -/
def EndSwitch.ends : EndSwitch → RailState → Bool
  | .stop, .movingIn => true
  | .stop, .pausedIn => true
  | .stop, .testing .inward _ _ => true
  | .park, .movingOut => true
  | .park, .pausedOut => true
  | .park, .homing => true
  | .park, .testing .outward _ _ => true
  | _, _ => false

/-- A switch that opens, one that ends no move, and one at a rail that is undecided or in FAULT change nothing more. -/
theorem State.switchChanged_still {made : Bool} (h : made = false ∨ s.rail.decided = false ∨ s.rail.state.isFault = true ∨
    EndSwitch.ends x s.rail.state = false) (one : (s.rail.park && s.rail.stop) = true → s.rail.decided = false ∨ s.rail.state.isFault = true) :
    s.switchChanged x made = s := by
  unfold State.switchChanged
  cases hdecided : s.rail.decided with
  | false => rfl
  | true =>
    rw [if_pos rfl]
    cases hst : s.rail.state with
    | fault cause => rfl
    | testing p a b =>
      have hone : (s.rail.park && s.rail.stop) = false := Bool.eq_false_iff.mpr fun hb => by simpa [hdecided, hst, RailState.isFault] using one hb
      rw [hdecided, hst] at h
      cases p <;> cases x <;> cases made <;> simp_all [RailState.isFault, EndSwitch.ends]
    | _ =>
      have hone : (s.rail.park && s.rail.stop) = false := Bool.eq_false_iff.mpr fun hb => by simpa [hdecided, hst, RailState.isFault] using one hb
      rw [hdecided, hst] at h
      cases x <;> cases made <;> simp_all [RailState.isFault, EndSwitch.ends]

/-- Both switches MADE fault the rail (R67). -/
theorem State.switchChanged_faults {made : Bool} (decided : s.rail.decided = true) (fault : s.rail.state.isFault = false)
    (both : (s.rail.park && s.rail.stop) = true) : s.switchChanged x made = s.railFault .switches := by
  unfold State.switchChanged
  rw [if_pos decided]
  cases hst : s.rail.state with
  | fault cause => rw [hst] at fault; cases fault
  | _ => exact if_pos both

/-- The stop switch ends a move inward (R72). -/
theorem State.switchChanged_engages (decided : s.rail.decided = true) (opened : s.rail.park = false)
    (state : s.rail.state = .movingIn ∨ s.rail.state = .pausedIn) : s.switchChanged .stop true = s.arriveEngaged.settle := by
  unfold State.switchChanged
  rw [if_pos decided, opened]
  rcases state with h | h <;> simp [h]

/-- The park switch ends a move outward, and homing (R72, R78). -/
theorem State.switchChanged_parks (decided : s.rail.decided = true) (opened : s.rail.stop = false)
    (state : s.rail.state = .movingOut ∨ s.rail.state = .pausedOut ∨ s.rail.state = .homing) :
    s.switchChanged .park true = s.arriveParked.settle := by
  unfold State.switchChanged
  rw [if_pos decided, opened]
  rcases state with h | h | h <;> simp [h]

theorem execEndSwitchDebounced_due {t : Time} (changed : (s.rail.rawSwitch x).on ≠ s.rail.madeSwitch x)
    (due : 5000 ≤ (t - (s.rail.rawSwitch x).since).toNat) : exec (.endSwitchDebounced t x) s =
      .next (State.switchChanged ((s.stamp t).setRail (s.rail.putMade x (s.rail.rawSwitch x).on)) x (s.rail.rawSwitch x).on) := by
  have hdue : ((s.stamp t).rail.rawSwitch x).due ((s.stamp t).rail.madeSwitch x) Config.switchHold t = true :=
    RawInput.due_iff.mpr ⟨changed, due⟩
  simp only [exec, execEndSwitchDebounced, State.whenDue, hdue, if_true]
  rfl

theorem execEndSwitchDebounced_early {t : Time} (h : (s.rail.rawSwitch x).on = s.rail.madeSwitch x ∨
    (t - (s.rail.rawSwitch x).since).toNat < 5000) : exec (.endSwitchDebounced t x) s = .next (s.stamp t) := by
  have hdue : ((s.stamp t).rail.rawSwitch x).due ((s.stamp t).rail.madeSwitch x) Config.switchHold t = false :=
    RawInput.due_eq_false h
  simp only [exec, execEndSwitchDebounced, State.whenDue, hdue, Bool.false_eq_true, if_false]

/-- An arrival in, with a vote standing (R72). -/
theorem State.arriveEngaged_settles (votes : s.rail.votes.any = true) : s.RailGoes
    { s.rail with
      state := .engaged, drive := none, segCount := none
      count := match s.rail.segCount with | some c => (c : Int) | none => s.rail.count }
    [RailState.engaged.notice s.rail.votes] s.arriveEngaged.settle := by
  refine s.arriveEngaged_goes.settle ?_
  unfold State.railRule
  rw [s.arriveEngaged_goes.rail]
  exact if_pos votes

/-- An arrival out: the rail waits to go in where a vote stands, with quiet no (R69, R72). -/
theorem State.arriveParked_settles (quiet : s.rail.votes.any = true → s.rail.quiet.quiet = false) : s.RailGoes
    { s.rail with
      state := if s.rail.votes.any then .pendingIn s.now false else .parked, drive := none, count := 0, segCount := none }
    (RailState.parked.notice s.rail.votes ::
      if s.rail.votes.any then [(RailState.pendingIn s.now false).notice s.rail.votes] else []) s.arriveParked.settle := by
  have harrives := s.arriveParked_goes
  have hsettles := State.settle_parked_goes (s := s.arriveParked) (by rw [harrives.rail]) (by rw [harrives.rail]; exact quiet)
  have hnow : s.arriveParked.now = s.now := harrives.notes.now
  rw [harrives.rail, hnow] at hsettles
  exact harrives.trans hsettles

end Switch

/-- A lever that has held its new level joins or leaves the vote set, and the rail follows (R61). -/
theorem leverDebounced_acts (t : Time) (s : State) (hraw : s.rail.leverRaw.on ≠ s.rail.votes.lever)
    (hdue : 10000 ≤ (t - s.rail.leverRaw.since).toNat) :
    ∃ s' : State, exec (.leverDebounced t) s = .next s' ∧
      s'.rail.votes = { s.rail.votes with lever := s.rail.leverRaw.on } ∧
      (RailFit s.rail → RailFit s'.rail) ∧ RailFrame (s.stamp t) s' := by
  have hdue' : (s.stamp t).rail.leverRaw.due (s.stamp t).rail.votes.lever Config.leverHold t = true :=
    RawInput.due_iff.mpr ⟨hraw, hdue⟩
  refine ⟨(s.stamp t).leverFollows, ?_, State.setVotes_votes _ _,
    State.setVotes_fit (s := s.stamp t) _, State.setVotes_frame _ _⟩
  simp only [exec, execLeverDebounced, State.whenDue, hdue', if_true]

theorem leverDebounced_early (t : Time) (s : State) (h : s.rail.leverRaw.on = s.rail.votes.lever ∨
    (t - s.rail.leverRaw.since).toNat < 10000) : exec (.leverDebounced t) s = .next (s.stamp t) := by
  have hdue : (s.stamp t).rail.leverRaw.due (s.stamp t).rail.votes.lever Config.leverHold t = false :=
    RawInput.due_eq_false h
  simp only [exec, execLeverDebounced, State.whenDue, hdue, Bool.false_eq_true, if_false]

end Sys2Proof.Machine
end

section
/-! The end switches' debounced levels in the order of their cases (R67, R72, R78), and the jacks' contacts with what the
supply makes of them (R119, R120, R125 to R128). -/

namespace Sys2Proof.Machine

-- One declaration after another: side by side they open more threads than the check's memory limit holds.
set_option Elab.async false

/-! ### The end switches -/

section Switches

variable {t : Time} {s : State} {x : EndSwitch}

/-- The debounced switch of the other end. -/
def Rail.otherSwitch (r : Rail) : EndSwitch → Bool
  | .park => r.stop
  | .stop => r.park

/-- A switch that changes and does nothing more. -/
theorem endSwitchDebounced_still (changed : (s.rail.rawSwitch x).on ≠ s.rail.madeSwitch x)
    (due : 5000 ≤ (t - (s.rail.rawSwitch x).since).toNat)
    (h : (s.rail.rawSwitch x).on = false ∨ s.rail.decided = false ∨ s.rail.state.isFault = true ∨
      s.rail.otherSwitch x = false ∧ EndSwitch.ends x s.rail.state = false) :
    exec (.endSwitchDebounced t x) s = .next ((s.stamp t).setRail (s.rail.putMade x (s.rail.rawSwitch x).on)) := by
  refine (execEndSwitchDebounced_due changed due).trans (congrArg Host.Outcome.next (State.switchChanged_still ?_ ?_))
  · rcases h with h | h | h | ⟨-, h⟩
    · exact .inl h
    · exact .inr (.inl (by cases x <;> exact h))
    · exact .inr (.inr (.inl (by cases x <;> exact h)))
    · exact .inr (.inr (.inr (by cases x <;> exact h)))
  · intro hboth
    rcases h with h | h | h | ⟨h, -⟩
    · cases x <;> simp [State.setRail, Rail.putMade, h] at hboth
    · exact .inl (by cases x <;> exact h)
    · exact .inr (by cases x <;> exact h)
    · have hother : (s.rail.putMade x (s.rail.rawSwitch x).on).otherSwitch x = false := by cases x <;> exact h
      cases x
      · exact absurd (Bool.and_eq_true_iff.mp hboth).2 (Bool.eq_false_iff.mp hother)
      · exact absurd (Bool.and_eq_true_iff.mp hboth).1 (Bool.eq_false_iff.mp hother)

end Switches

/-! ### The jacks' contacts -/

section Contacts

variable {s : State} {i : JackIx} {c : Contacts}

theorem State.anySeated_iff (s : State) : s.anySeated = true ↔ ∃ j : JackIx, (s.jack j).state = .seated := by
  rw [State.anySeated, Bool.or_eq_true, beq_iff_eq, beq_iff_eq]
  constructor
  · rintro (h | h)
    · exact ⟨.j1, h⟩
    · exact ⟨.j2, h⟩
  · rintro ⟨j, h⟩
    cases j
    · exact .inl h
    · exact .inr h

/-- A jack but for enabled, its gain and its ramp, which alone a judgement moves. -/
def Jack.SameContacts (a b : Jack) : Prop := b = { a with enabled := b.enabled, gain := b.gain, ramp := b.ramp }

theorem Jack.SameContacts.trans {a b c : Jack} (h : a.SameContacts b) (g : b.SameContacts c) : a.SameContacts c := by
  unfold Jack.SameContacts at *
  rw [g, h]

theorem Jack.judge_sameContacts (good : Bool) (j : Jack) : j.SameContacts (j.judge good) := Jack.judge_contacts good j

theorem State.setSupply_sameContacts (s : State) (x : Supply) (j : JackIx) : (s.jack j).SameContacts ((s.setSupply x).jack j) := by
  rw [State.setSupply_jack, State.supplied_jack]
  refine Jack.SameContacts.trans ?_ (Jack.judge_sameContacts _ _)
  split <;> rfl

theorem State.setSupply_notes (s : State) (x : Supply) : s.Notes [(.supply x.name x.fail, .supply)] (s.setSupply x) := by
  rw [State.setSupply, State.judgeLed_frame]
  have hreport := State.report_notes (s.supplied x).judgeEnabled (.supply x.name x.fail) .supply
  exact (hreport.congr_left (a' := s) rfl rfl rfl).trans (n := []) (.of_unchanged rfl rfl rfl)

/-- The jack with the contacts of the selection that are due, after the record of a changed state, and both judged. -/
def State.contactsTold (s : State) (i : JackIx) (c : Contacts) : State :=
  State.judgeEnabled (if ((s.jack i).debounce c s.now).state = (s.jack i).state then s.setJack i ((s.jack i).debounce c s.now)
    else (s.setJack i ((s.jack i).debounce c s.now)).report (.jack i ((s.jack i).debounce c s.now).state
      ((s.jack i).debounce c s.now).tip ((s.jack i).debounce c s.now).sleeve) .jack)

theorem State.debounceJack_eq (s : State) (i : JackIx) (c : Contacts) :
    s.debounceJack i c = (s.contactsTold i c).judgeSupply := rfl

theorem State.contactsTold_jack (s : State) (i j : JackIx) (c : Contacts) : (s.contactsTold i c).jack j =
    (if j = i then (s.jack i).debounce c s.now else s.jack j).judge s.good := by
  unfold State.contactsTold
  rw [State.judgeEnabled_jack, ← State.setJack_jack]
  split <;> rfl

theorem State.contactsTold_supply (s : State) (i : JackIx) (c : Contacts) :
    (s.contactsTold i c).supply = s.supply ∧ (s.contactsTold i c).supplyGood = s.supplyGood ∧ (s.contactsTold i c).now = s.now := by
  have hjudged (x : State) (h : x.supply = s.supply ∧ x.supplyGood = s.supplyGood ∧ x.now = s.now) :
      x.judgeEnabled.supply = s.supply ∧ x.judgeEnabled.supplyGood = s.supplyGood ∧ x.judgeEnabled.now = s.now := h
  unfold State.contactsTold
  generalize (s.jack i).debounce c s.now = j
  refine hjudged _ ?_
  split
  · exact ⟨rfl, rfl, rfl⟩
  · simp only [State.report_supply, State.report_supplyGood, State.report_now]
    exact ⟨rfl, rfl, rfl⟩

theorem State.contactsTold_notes (changed : ((s.jack i).debounce c s.now).state ≠ (s.jack i).state) :
    s.Notes [(.jack i ((s.jack i).debounce c s.now).state ((s.jack i).debounce c s.now).tip
      ((s.jack i).debounce c s.now).sleeve, .jack)] (s.contactsTold i c) := by
  unfold State.contactsTold
  rw [if_neg changed]
  have hreport := State.report_notes (s.setJack i ((s.jack i).debounce c s.now)) (.jack i
    ((s.jack i).debounce c s.now).state ((s.jack i).debounce c s.now).tip ((s.jack i).debounce c s.now).sleeve) .jack
  exact (hreport.congr_left (a' := s) rfl rfl rfl).trans (n := []) (.of_unchanged rfl rfl rfl)

/-- The other jack of a lawful output is as it was. -/
theorem State.contactsTold_other (h : OutputLaw s) {j : JackIx} (hj : j ≠ i) : (s.contactsTold i c).jack j = s.jack j := by
  obtain ⟨hjack, -⟩ := (outputLaw_iff s).mp h
  rw [State.contactsTold_jack, if_neg hj]
  exact Jack.judge_of_settled (hjack j).2.1

theorem State.contactsTold_state (s : State) (i j : JackIx) (c : Contacts) : ((s.contactsTold i c).jack j).state =
    if j = i then ((s.jack i).debounce c s.now).state else (s.jack j).state := by
  rw [State.contactsTold_jack, Jack.judge_state]
  split <;> rfl

/-- With a state that has not changed, a jack of a lawful output has its contacts set and nothing else follows. -/
theorem State.debounceJack_kept (h : OutputLaw s) (kept : ((s.jack i).debounce c s.now).state = (s.jack i).state) :
    s.debounceJack i c = s.setJack i ((s.jack i).debounce c s.now) := by
  obtain ⟨hjack, hseated⟩ := (outputLaw_iff s).mp h
  have htold : s.contactsTold i c = s.setJack i ((s.jack i).debounce c s.now) := by
    have hjacks : (s.contactsTold i c).jacks = (s.setJack i ((s.jack i).debounce c s.now)).jacks := PerJack.ext' fun j => by
      refine (s.contactsTold_jack i j c).trans (Eq.trans ?_ (s.setJack_jack i j _).symm)
      split
      · refine Jack.judge_of_settled ((hjack i).2.1.trans ?_)
        simp only [Jack.mayEnable, kept]
        rfl
      · exact Jack.judge_of_settled (hjack j).2.1
    have hshape : s.contactsTold i c = { s with jacks := (s.contactsTold i c).jacks } := by
      unfold State.contactsTold
      rw [if_pos kept]
      rfl
    rw [hshape, hjacks]
    rfl
  have hstates : (s.contactsTold i c).anySeated = s.anySeated := State.anySeated_of_states fun j => by
    rw [State.contactsTold_state]
    split
    · rename_i hj
      rw [kept, hj]
    · rfl
  rw [State.debounceJack_eq, ← htold]
  rcases (s.contactsTold i c).judgeSupply_cases with ⟨hoff, hany, -⟩ | ⟨hon, hnone, -⟩ | ⟨-, hsame⟩
  · rw [(s.contactsTold_supply i c).1] at hoff
    rw [hstates, hseated.mp hoff] at hany
    cases hany
  · rw [(s.contactsTold_supply i c).1] at hon
    rw [hstates] at hnone
    exact absurd (hseated.mpr hnone) hon
  · exact hsame

theorem State.judgeSupply_sameContacts (s : State) (j : JackIx) : (s.jack j).SameContacts (s.judgeSupply.jack j) := by
  rcases s.judgeSupply_cases with ⟨-, -, h⟩ | ⟨-, -, h⟩ | ⟨-, h⟩ <;> rw [h]
  · split
    · exact (s.setSupply_sameContacts _ j).trans (State.setSupply_sameContacts _ _ j)
    · exact s.setSupply_sameContacts _ j
  · exact s.setSupply_sameContacts _ j
  · rfl

theorem State.judgeSupply_supplyGood (s : State) : s.judgeSupply.supplyGood = s.supplyGood := by
  have hset (x : Supply) : (s.setSupply x).supplyGood = s.supplyGood := (s.setSupply_supply x).2
  rcases s.judgeSupply_cases with ⟨-, -, h⟩ | ⟨-, -, h⟩ | ⟨-, h⟩ <;> rw [h]
  · split
    · exact (State.setSupply_supply _ _).2.trans (hset _)
    · exact hset _
  · exact hset _

/-- The supply requested with its input low: it rises (R125). -/
theorem State.judgeSupply_rises (off : s.supply = .off) (seated : s.anySeated = true) (low : s.supplyGood = false) :
    s.judgeSupply = s.setSupply (.rising s.now) := by
  unfold State.judgeSupply
  rw [off, seated]
  exact if_neg (by rw [(s.setSupply_supply _).2, low]; nofun)

/-- The supply requested with its input asserted: it rises and is GOOD at once (R125). -/
theorem State.judgeSupply_good (off : s.supply = .off) (seated : s.anySeated = true) (high : s.supplyGood = true) :
    s.judgeSupply = (s.setSupply (.rising s.now)).setSupply .good := by
  unfold State.judgeSupply
  rw [off, seated]
  exact if_pos ((s.setSupply_supply _).2.trans high)

theorem State.judgeSupply_off (on : s.supply ≠ .off) (unseated : s.anySeated = false) : s.judgeSupply = s.setSupply .off := by
  rcases s.judgeSupply_cases with ⟨h, -, -⟩ | ⟨-, -, h⟩ | ⟨h, -⟩
  · exact absurd h on
  · exact h
  · exact absurd (h.mpr unseated) on

theorem State.judgeSupply_kept (h : s.supply = .off ↔ s.anySeated = false) : s.judgeSupply = s := by
  rcases s.judgeSupply_cases with ⟨hoff, hseated, -⟩ | ⟨hon, hnone, -⟩ | ⟨-, hs⟩
  · cases (h.mp hoff).symm.trans hseated
  · exact absurd (h.mpr hnone) hon
  · exact hs

theorem jackStateOf_eq (tip sleeve : Bool) : jackStateOf tip sleeve =
    if tip && sleeve then .seated else if tip || sleeve then .partly else .empty := by
  cases tip <;> cases sleeve <;> rfl

theorem namesTip_eq (c : Contacts) : namesTip c = (c != .sleeve) := by cases c <;> rfl

theorem namesSleeve_eq (c : Contacts) : namesSleeve c = (c != .tip) := by cases c <;> rfl

/-- The jack of a lawful output after its contacts: its contacts as set, and enabled where it may be. -/
theorem State.debounceJack_self (h : OutputLaw s) : (s.debounceJack i c).jack i = { (s.jack i).debounce c s.now with
    gain := ((s.debounceJack i c).jack i).gain, ramp := ((s.debounceJack i c).jack i).ramp
    enabled := decide (((s.jack i).debounce c s.now).state = .seated ∧ (s.debounceJack i c).supply = .good) &&
      (s.jack i).tipRaw.on && (s.jack i).sleeveRaw.on } := by
  have hsame : ((s.jack i).debounce c s.now).SameContacts ((s.debounceJack i c).jack i) := by
    rw [State.debounceJack_eq]
    refine Jack.SameContacts.trans ?_ (State.judgeSupply_sameContacts _ i)
    rw [State.contactsTold_jack, if_pos rfl]
    exact Jack.judge_sameContacts _ _
  obtain ⟨-, henabled, -, -⟩ := h.debounceJack i c
  have hmay := henabled i
  generalize (s.debounceJack i c).jack i = d at hsame hmay
  unfold Jack.SameContacts at hsame
  rw [hsame] at hmay ⊢
  congr 1
  have hboth : decide (((s.jack i).debounce c s.now).state = .seated ∧ (s.debounceJack i c).supply = .good) =
      (((s.jack i).debounce c s.now).state == .seated && decide ((s.debounceJack i c).supply = .good)) := by
    rw [Bool.decide_and]
    rfl
  rw [hboth]
  exact hmay

/-- The JACK record of a selection's contacts (R128). -/
def State.contactNotice (s : State) (i : JackIx) (c : Contacts) : Notice :=
  (.jack i ((s.jack i).debounce c s.now).state ((s.jack i).debounce c s.now).tip ((s.jack i).debounce c s.now).sleeve, .jack)

/-- The supply of a lawful output is OFF exactly while no jack is SEATED. -/
theorem OutputLaw.off_iff (h : OutputLaw s) : s.supply = .off ↔ ∀ j : JackIx, (s.jack j).state ≠ .seated := by
  obtain ⟨-, -, -, hseated⟩ := h
  rw [hseated, ← Bool.not_eq_true, State.anySeated_iff]
  simp only [not_exists, ne_eq]

/-- Once the contacts are told, a jack is SEATED where the changed one is, or another is. -/
theorem State.contactsTold_anySeated (s : State) (i : JackIx) (c : Contacts) : (s.contactsTold i c).anySeated = true ↔
    ((s.jack i).debounce c s.now).state = .seated ∨ ∃ j : JackIx, j ≠ i ∧ (s.jack j).state = .seated := by
  rw [State.anySeated_iff]
  constructor
  · rintro ⟨j, hj⟩
    rw [State.contactsTold_state] at hj
    split at hj
    · exact .inl hj
    · exact .inr ⟨j, ‹_›, hj⟩
  · rintro (h | ⟨j, hj, h⟩)
    · exact ⟨i, by rw [State.contactsTold_state, if_pos rfl]; exact h⟩
    · exact ⟨j, by rw [State.contactsTold_state, if_neg hj]; exact h⟩

/-- The other jack where the supply rises: it is not SEATED, and stays as it was. -/
theorem State.setSupply_contactsTold_other (h : OutputLaw s) (off : s.supply = .off) {j : JackIx} (hj : j ≠ i) (t : Time) :
    ((s.contactsTold i c).setSupply (.rising t)).jack j = s.jack j := by
  have hother := State.contactsTold_other (c := c) h hj
  have hnot : s.supply ≠ .good := by rw [off]; nofun
  rw [State.setSupply_jack_silent (x := .rising t) (by rw [(s.contactsTold_supply i c).1]; exact hnot) nofun
    (by rw [hother]; exact (h.idle hnot j).1), hother]

section Changed

variable (h : OutputLaw s) (changed : ((s.jack i).debounce c s.now).state ≠ (s.jack i).state)
include h changed

/-- A first SEATED jack has the supply rise (R125). -/
theorem State.debounceJack_rises (seated : ((s.jack i).debounce c s.now).state = .seated) (off : s.supply = .off)
    (low : s.supplyGood = false) : (s.debounceJack i c).supply = .rising s.now ∧
      (∀ j : JackIx, j ≠ i → (s.debounceJack i c).jack j = s.jack j) ∧
      s.Notes [s.contactNotice i c, (.supply .rising none, .supply)] (s.debounceJack i c) := by
  obtain ⟨hsupply, hinput, hnow⟩ := s.contactsTold_supply i c
  have heq : s.debounceJack i c = (s.contactsTold i c).setSupply (.rising s.now) := by
    rw [State.debounceJack_eq, State.judgeSupply_rises (hsupply.trans off) ((s.contactsTold_anySeated i c).mpr (.inl seated))
      (hinput.trans low), hnow]
  rw [heq]
  exact ⟨(State.setSupply_supply _ _).1, fun j hj => State.setSupply_contactsTold_other h off hj _,
    (State.contactsTold_notes changed).trans (State.setSupply_notes _ (.rising s.now))⟩

/-- With the input asserted, a first SEATED jack has the supply rise and be GOOD at once (R125). -/
theorem State.debounceJack_good (seated : ((s.jack i).debounce c s.now).state = .seated) (off : s.supply = .off)
    (high : s.supplyGood = true) : (s.debounceJack i c).supply = .good ∧
      (∀ j : JackIx, j ≠ i → (s.debounceJack i c).jack j = s.jack j) ∧
      s.Notes [s.contactNotice i c, (.supply .rising none, .supply), (.supply .good none, .supply)] (s.debounceJack i c) := by
  obtain ⟨hsupply, hinput, hnow⟩ := s.contactsTold_supply i c
  have hnot : s.supply ≠ .good := by rw [off]; nofun
  have heq : s.debounceJack i c = ((s.contactsTold i c).setSupply (.rising s.now)).setSupply .good := by
    rw [State.debounceJack_eq, State.judgeSupply_good (hsupply.trans off) ((s.contactsTold_anySeated i c).mpr (.inl seated))
      (hinput.trans high), hnow]
  rw [heq]
  refine ⟨(State.setSupply_supply _ _).1, fun j hj => ?_,
    ((State.contactsTold_notes changed).trans (State.setSupply_notes _ (.rising s.now))).trans (State.setSupply_notes _ .good)⟩
  have hj' := State.setSupply_contactsTold_other (c := c) h off hj s.now
  obtain ⟨henabled, hgain, -⟩ := h.idle hnot j
  rw [State.setSupply_jack_good (by rw [hj']; exact henabled) (by rw [hj']; exact hgain), hj']
  exact if_neg fun hseated => h.off_iff.mp off j hseated.1

/-- The last jack that leaves SEATED turns the supply OFF (R127). -/
theorem State.debounceJack_off (old : (s.jack i).state = .seated) (alone : ¬ ∃ j : JackIx, j ≠ i ∧ (s.jack j).state = .seated) :
    (s.debounceJack i c).supply = .off ∧ s.Notes [s.contactNotice i c, (.supply .off none, .supply)] (s.debounceJack i c) := by
  obtain ⟨hsupply, -, -⟩ := s.contactsTold_supply i c
  have hnone : (s.contactsTold i c).anySeated = false := by
    rw [← Bool.not_eq_true, State.contactsTold_anySeated]
    exact fun hor => hor.elim (fun hseated => changed (hseated.trans old.symm)) alone
  have hon : s.supply ≠ .off := fun hoff => h.off_iff.mp hoff i old
  rw [State.debounceJack_eq, State.judgeSupply_off (by rw [hsupply]; exact hon) hnone]
  exact ⟨(State.setSupply_supply _ _).1, (State.contactsTold_notes changed).trans (State.setSupply_notes _ .off)⟩

/-- In every other case the supply stays as it is. -/
theorem State.debounceJack_alone (stays : ((s.jack i).debounce c s.now).state = .seated ∧ s.supply ≠ .off ∨
    ((s.jack i).debounce c s.now).state ≠ .seated ∧
      ((s.jack i).state ≠ .seated ∨ ∃ j : JackIx, j ≠ i ∧ (s.jack j).state = .seated)) :
    (s.debounceJack i c).supply = s.supply ∧ (∀ j : JackIx, j ≠ i → (s.debounceJack i c).jack j = s.jack j) ∧
      s.Notes [s.contactNotice i c] (s.debounceJack i c) := by
  obtain ⟨hsupply, -, -⟩ := s.contactsTold_supply i c
  have hkept : (s.contactsTold i c).supply = .off ↔ (s.contactsTold i c).anySeated = false := by
    rw [hsupply, ← Bool.not_eq_true, State.contactsTold_anySeated]
    rcases stays with ⟨hseated, hon⟩ | ⟨hleft, hold⟩
    · exact ⟨fun hoff => absurd hoff hon, fun hnone => absurd (.inl hseated) hnone⟩
    · rw [h.off_iff, not_or, not_exists]
      refine ⟨fun hall => ⟨hleft, fun j hj => hall j hj.2⟩, fun ⟨_, hothers⟩ j hj => ?_⟩
      by_cases hji : j = i
      · subst hji
        exact hold.elim (fun hnot => hnot hj) fun ⟨k, hk⟩ => hothers k hk
      · exact hothers j ⟨hji, hj⟩
  rw [State.debounceJack_eq, State.judgeSupply_kept hkept]
  exact ⟨hsupply, fun j hj => State.contactsTold_other h hj, State.contactsTold_notes changed⟩

omit h in
/-- A changed state is told first, and at most two records of the supply follow. -/
theorem State.debounceJack_notes : ∃ more : List Notice, more.length ≤ 2 ∧
    s.Notes (s.contactNotice i c :: more) (s.debounceJack i c) := by
  have htold := State.contactsTold_notes changed
  rw [State.debounceJack_eq]
  rcases (s.contactsTold i c).judgeSupply_cases with ⟨-, -, h⟩ | ⟨-, -, h⟩ | ⟨-, h⟩ <;> rw [h]
  · split
    · exact ⟨_, by simp, (htold.trans (State.setSupply_notes _ _)).trans (State.setSupply_notes _ _)⟩
    · exact ⟨_, by simp, htold.trans (State.setSupply_notes _ _)⟩
  · exact ⟨_, by simp, htold.trans (State.setSupply_notes _ _)⟩
  · exact ⟨[], by simp, htold⟩

end Changed

end Contacts

/-- The first of these records leaves its condition latched, where there is room for all. -/
theorem State.Notes.first_latched {s s' : State} {n : Notice} {more : List Notice} (h : s.Notes (n :: more) s')
    (room : s.journal.length + (more.length + 1) ≤ 512) (l : Link) : (s'.link l).latched.getLsbD n.2.bit = true := by
  have hkeeps (set : CondSet) (hset : set.getLsbD n.2.bit = true) : (latchedAfter set more).getLsbD n.2.bit = true := by
    clear h room
    unfold latchedAfter
    induction more generalizing set with
    | nil => exact hset
    | cons m more ih => exact ih _ (by rw [BitVec.getLsbD_or, hset, Bool.true_or])
  rw [h.latched (by rw [List.length_cons]; exact room)]
  exact hkeeps _ (by rw [BitVec.getLsbD_or, Condition.mask_bit, Bool.or_true])

/-- A jack after the contacts of a selection that are due. -/
theorem Jack.debounce_eq (j : Jack) (c : Contacts) (t : Time) :
    let due (raw : RawInput) (contact : Bool) : Bool := raw.on != contact && decide (20000 ≤ (t - raw.since).toNat)
    let tip := if c != .sleeve && due j.tipRaw j.tip then j.tipRaw.on else j.tip
    let sleeve := if c != .tip && due j.sleeveRaw j.sleeve then j.sleeveRaw.on else j.sleeve
    j.debounce c t = { j with
      tip := tip, sleeve := sleeve
      state := if tip && sleeve then .seated else if tip || sleeve then .partly else .empty } := by
  unfold Jack.debounce
  rw [namesTip_eq, namesSleeve_eq]
  simp only [jackStateOf_eq]
  rfl

/-- Settles O23: the lever by `State.setVotes`, an end switch by what it ends, a jack's contacts by what the supply makes of
them. -/
theorem debouncedInputsAct : Obligations.DebouncedInputsAct := by
  refine ⟨leverDebounced_early, fun t s hraw hdue => ?lever, fun t x s hearly => execEndSwitchDebounced_early hearly,
    fun t x s hchanged hdue => ?switches, fun t j x s hlaw => ?jack⟩
  case lever =>
    obtain ⟨s', hexec, hvotes, hfit, hframe⟩ := leverDebounced_acts t s hraw hdue
    exact ⟨s', hexec, hvotes, fun _ hvote hmotor => (hfit ⟨hmotor, hvote⟩).symm, hframe⟩
  case switches =>
    intro made other switched ends
    have hexec := execEndSwitchDebounced_due hchanged hdue
    have hends : ends = EndSwitch.ends x s.rail.state := rfl
    have hswitched : s.rail.putMade x made = switched := rfl
    refine ⟨fun hstill => ?_, fun hmade hdecided hfault hother hname => ?_,
      fun n hx hmade hdecided hopen hstate hseg hvotes hroom => ?_, fun hx hmade hdecided hopen hstate hquiet hroom => ?_⟩
    · rw [hends, show other = s.rail.otherSwitch x from rfl] at hstill
      exact endSwitchDebounced_still hchanged hdue hstill
    · have hstate : switched.state = s.rail.state := by cases x <;> rfl
      have hvotes : switched.votes = s.rail.votes := by cases x <;> rfl
      have hboth : (switched.park && switched.stop) = true := by
        cases x
        · exact Bool.and_eq_true_iff.mpr ⟨hmade, hother⟩
        · exact Bool.and_eq_true_iff.mpr ⟨hother, hmade⟩
      have hfaults : State.switchChanged ((s.stamp t).setRail switched) x made = ((s.stamp t).setRail switched).railFault .switches :=
        State.switchChanged_faults (s := (s.stamp t).setRail switched) (by cases x <;> exact hdecided)
          (by change switched.state.isFault = false; rw [hstate]; exact hfault) hboth
      have hname' : ((s.stamp t).setRail switched).rail.state.name ≠ .testing := by
        change switched.state.name ≠ .testing
        rw [hstate]
        exact hname
      have hgoes := State.railFault_goes ((s.stamp t).setRail switched) .switches hname'
      refine ⟨_, hexec.trans (congrArg Host.Outcome.next hfaults), State.railFault_led _ _ hname', hgoes.rail, ?_⟩
      rw [← hvotes]
      exact hgoes.record
    · subst hx
      have hengages := State.switchChanged_engages (s := (s.stamp t).setRail { s.rail with stop := true }) hdecided hopen hstate
      have hgoes := State.arriveEngaged_settles (s := (s.stamp t).setRail { s.rail with stop := true }) hvotes
      have hroom' : s.journal.length + 1 ≤ 512 := hroom
      refine ⟨_, hexec.trans (congrArg Host.Outcome.next ?_), ?_, hgoes.notes.journal_of_room hroom', ?_, hgoes.notes.latched hroom'⟩
      · rw [show (s.rail.rawSwitch .stop).on = true from hmade]
        exact hengages
      · rw [hgoes.rail]
        simp only [State.setRail, hseg]
      · rw [State.silentEffective, hgoes.rail]
    · subst hx
      have hparks := State.switchChanged_parks (s := (s.stamp t).setRail { s.rail with park := true }) hdecided hopen hstate
      have hgoes := State.arriveParked_settles (s := (s.stamp t).setRail { s.rail with park := true }) hquiet
      have hnotes : State.Notes _ (RailState.parked.notice s.rail.votes ::
        if s.rail.votes.any then [(RailState.pendingIn t false).notice s.rail.votes] else []) _ := hgoes.notes
      have hfew (b : Bool) : s.journal.length + (RailState.parked.notice s.rail.votes ::
          if b then [(RailState.pendingIn t false).notice s.rail.votes] else []).length ≤ 512 := by
        cases b <;> simp only [List.length_cons, if_true, Bool.false_eq_true, if_false, List.length_nil] <;> omega
      refine ⟨_, hexec.trans (congrArg Host.Outcome.next ?_), hgoes.rail, ?_, fun l => ?_⟩
      · rw [show (s.rail.rawSwitch .park).on = true from hmade]
        exact hparks
      · refine (hnotes.journal_of_room (hfew _)).trans ?_
        change s.journal ++ _ = _
        cases s.rail.votes.any <;> rfl
      · refine (hnotes.latched (hfew _) l).trans (latchedAfter_rail _ ?_)
        cases s.rail.votes.any <;> simp [RailState.notice]
  case jack =>
    intro due old tip sleeve state jackRecord supplyRecord othersSeated
    have hnew : (s.jack j).debounce x t = { old with tip := tip, sleeve := sleeve, state := state } := Jack.debounce_eq _ _ _
    have hlaw' : OutputLaw (s.stamp t) := hlaw
    refine ⟨fun hkept => ?_, fun hchanged hroom => ?_⟩
    · have hkept' : (((s.stamp t).jack j).debounce x t).state = ((s.stamp t).jack j).state := by
        refine (congrArg Jack.state hnew).trans hkept
      refine congrArg Host.Outcome.next ((State.debounceJack_kept (s := s.stamp t) hlaw' hkept').trans ?_)
      change { s with now := t, jacks := s.jacks.put j ((s.jack j).debounce x t) } = _
      rw [hnew, hkept]
    · have hchanged' : (((s.stamp t).jack j).debounce x t).state ≠ ((s.stamp t).jack j).state := by
        rw [show ((s.stamp t).jack j).debounce x t = _ from hnew]
        exact hchanged
      have hnew' : ((s.stamp t).jack j).debounce x (s.stamp t).now = { old with tip := tip, sleeve := sleeve, state := state } :=
        hnew
      have hnotice : (s.stamp t).contactNotice j x = (.jack j state tip sleeve, .jack) := by
        rw [State.contactNotice, hnew']
      have hself := State.debounceJack_self (i := j) (c := x) hlaw'
      rw [hnew'] at hself
      obtain ⟨more, hfew, htold⟩ := State.debounceJack_notes (i := j) (c := x) hchanged'
      rw [hnotice] at htold
      have hframe := (s.stamp t).debounceJack_frame j x
      have hgood : ((s.stamp t).debounceJack j x).supplyGood = s.supplyGood :=
        (State.judgeSupply_supplyGood _).trans ((s.stamp t).contactsTold_supply j x).2.1
      have hlawful := hlaw'.debounceJack j x
      have hrises := State.debounceJack_rises hlaw' hchanged'
      have hreaches := State.debounceJack_good hlaw' hchanged'
      have hfalls := State.debounceJack_off hlaw' hchanged'
      have hstays := State.debounceJack_alone hlaw' hchanged'
      rw [hnew', hnotice] at hrises hreaches hstays
      rw [hnotice] at hfalls
      refine ⟨(s.stamp t).debounceJack j x, rfl, ?_⟩
      generalize (s.stamp t).debounceJack j x = s' at *
      unfold SupplyFrame at hframe
      rw [hgood] at hframe
      have hthree {notices : List Notice} (h : notices.length ≤ 3) : (s.stamp t).journal.length + notices.length ≤ 512 := by
        change s.journal.length + notices.length ≤ 512
        omega
      refine ⟨hself, htold.first_latched (by change s.journal.length + _ ≤ 512; omega), hframe,
        fun hseated hoff hlow => ?_, fun hseated hoff hhigh => ?_, fun hold halone => ?_, fun hcase => ?_⟩
      · obtain ⟨hsupply, hothers, hnotes⟩ := hrises hseated hoff hlow
        have hroom' := hthree (notices := [(.jack j state tip sleeve, .jack), (.supply .rising none, .supply)]) (by simp)
        exact ⟨hsupply, by rw [State.supplySwitch, hsupply]; rfl, hothers, hnotes.journal_of_room hroom', hnotes.latched hroom'⟩
      · obtain ⟨hsupply, hothers, hnotes⟩ := hreaches hseated hoff hhigh
        exact ⟨hsupply, by rw [State.supplySwitch, hsupply]; rfl, hothers, hnotes.journal_of_room (hthree (by simp))⟩
      · obtain ⟨hsupply, hnotes⟩ := hfalls hold halone
        obtain ⟨-, -, hsilent, -⟩ := hlawful
        exact ⟨hsupply, by rw [State.supplySwitch, hsupply]; rfl, hsilent (by rw [hsupply]; nofun),
          hnotes.journal_of_room (hthree (by simp))⟩
      · obtain ⟨hsupply, hothers, hnotes⟩ := hstays hcase
        exact ⟨hsupply, hothers, hnotes.journal_of_room (hthree (by simp))⟩

end Sys2Proof.Machine
end

section
/-! A key's reading in RUNNING: the transitions that one reading makes (R9), and the onset (R11). -/

namespace Sys2Proof.Machine

-- One declaration after another: side by side they open more threads than the check's memory limit holds.
set_option Elab.async false

section Reading

variable {s : State} {k : KeyIx}

/-! ### The reading and its crossings -/

theorem KeyCal.clamped_eq {c : KeyCal} (h : c.r ≤ c.b) (raw : Nat) : c.clamped raw = max c.r (min c.b raw) := by
  rw [KeyCal.clamped, clamp_eq_max_min _ (by exact_mod_cast h)]
  omega

theorem KeyCal.clamped_clamped {c : KeyCal} (h : c.r ≤ c.b) (raw : Nat) : c.clamped (c.clamped raw) = c.clamped raw := by
  rw [KeyCal.clamped_eq h, KeyCal.clamped_eq h]
  omega

/-- A reading that follows one of no more than 2^31 microseconds before. -/
theorem Reading.of_last {x : Tracker} {v : Nat} {t t0 : Time} (last : x.last = some (v, t0)) (young : (t - t0).toNat < 2147483648)
    (c : KeyCal) (raw : Nat) : Reading.of x c t raw = { time := t, value := c.clamped raw, last := some ((v : Int), t0) } := by
  rw [Reading.of, last]
  simp only [elapsed, Config.tooOld, young, if_true]

section Crossing
variable {t t0 : Time} {x v : Int}

theorem Reading.crossDown_none {level : Int} (h : x < level ∨ level ≤ v) :
    Reading.crossDown { time := t, value := x, last := some (v, t0) } level = none :=
  if_neg fun hcross => absurd h (by obtain ⟨hv, hx⟩ : v < level ∧ level ≤ x := hcross; omega)

theorem Reading.crossUp_none {point : Int} (h : point ≤ x ∨ v < point) :
    Reading.crossUp { time := t, value := x, last := some (v, t0) } point = none :=
  if_neg fun hcross => absurd h (by obtain ⟨hx, hv⟩ : x < point ∧ point ≤ v := hcross; omega)

end Crossing

/-! ### One transition -/

/-- A transition after which the state watches no crossing that the reading makes. -/
theorem State.transitions_once {c : KeyCal} {x : Reading} {s' : State} {from' : Bool} (h : s.transition k c x false = some (s', from'))
    (last : s'.transition k c x from' = none) : s.transitions k c x false 8 = s' := by
  rw [State.transitions, h]
  simp only []
  rw [State.transitions, last]

/-- A plausible reading out of LEARN and FAULTY ends the implausible run and makes its transitions (R6, R9). -/
theorem State.trackerReading_played {raw : Nat} (learn : ∀ m, (s.key k).state ≠ .learn m) (faulty : ∀ c, (s.key k).state ≠ .faulty c) :
    s.trackerReading k raw = s.playedReading k raw := by
  unfold State.trackerReading
  cases hst : (s.key k).state with
  | learn seen => exact absurd hst (learn seen)
  | faulty cause => exact absurd hst (faulty cause)
  | _ => rfl

/-- The reading stored by a tracker once its transitions are made. -/
def State.stored (s : State) (k : KeyIx) (x : Nat) (t : Time) : State := s.setKey k { s.key k with last := some (x, t) }

theorem State.playedReading_plausible {raw : Nat} (plausible : (s.keyCal k).plausible raw = true) (ordered : (s.keyCal k).r ≤ (s.keyCal k).b)
    {s' : State} (cal : s'.keyCal k = s.keyCal k)
    (h : (s.setKey k { s.key k with implausible := 0 }).transitions k (s.keyCal k)
      (Reading.of (s.key k) (s.keyCal k) s.now raw) false 8 = s') :
    s.playedReading k raw = s'.stored k ((s.keyCal k).clamped raw) s.now := by
  unfold State.playedReading
  simp only [plausible, if_true]
  rw [if_neg (by decide), h, cal, KeyCal.clamped_clamped ordered]
  rfl

/-- In RUNNING a reading reaches its tracker; then the rail is told of the key, and a sensor scan judges it. -/
theorem State.keyReading_running (h : s.running = true) (raw : Nat) :
    s.keyReading k raw = (s.restTold (s.trackerReading k raw) k).scanReading k (s.keyCal k) raw := by
  have hphase : s.startUp.phase = .running := by simpa [State.running] using h
  rcases s.keyReading_cases k raw with ⟨hp, -⟩ | ⟨hp, -⟩ | ⟨-, -, heq⟩
  · cases hphase.symm.trans hp
  · cases hphase.symm.trans hp
  · exact heq

end Reading

/-! ### The onset (R11) -/

/-- Settles O11: the onset is the reading's one transition; the rail is told that the key has left rest. -/
theorem onsetBeginsStroke : Obligations.OnsetBeginsStroke := by
  intro t t0 k r v s c on x hrun hst hlast hyoung hplausible hordered hv hx hstrike
  have hread := Reading.of_last hlast hyoung c r.val
  let s0 : State := (s.stamp t).setKey k { s.key k with implausible := 0 }
  have hkey0 : s0.key k = { s.key k with implausible := 0 } := (State.key_setKey _ _ _ _).trans (if_pos rfl)
  let tc : Time := t0 + BitVec.ofInt 32 (Int.fdiv (((t - t0).toNat : Int) * (on - v)) (x - v))
  let s1 : State := s0.setKeyState k (.onset .fresh tc)
  have hkey1 : s1.key k = { s0.key k with state := .onset .fresh tc } := (State.key_setKey _ _ _ _).trans (if_pos rfl)
  have hfirst : s0.transition k c { time := t, value := x, last := some ((v : Int), t0) } false = some (s1, false) := by
    have hrun0 : s0.running = true := hrun
    unfold State.transition
    rw [hkey0]
    simp only [hst, hrun0, if_true]
    rw [show s0.cal = s.cal from rfl, Reading.crossDown_of_last t t0 hv hx]
    rfl
  have hsecond : s1.transition k c { time := t, value := x, last := some ((v : Int), t0) } false = none := by
    unfold State.transition
    rw [hkey1]
    simp only []
    rw [show s1.cal = s.cal from rfl, Reading.crossDown_none (.inl hstrike)]
    simp only []
    rw [Reading.crossUp_none, Option.map_none]
    omega
  have hplayed : (s.stamp t).trackerReading k r.val = s1.stored k x t := by
    rw [State.trackerReading_played (s := s.stamp t) (fun m h => by cases hst.symm.trans h) fun e h => by cases hst.symm.trans h]
    refine State.playedReading_plausible (s := s.stamp t) hplausible hordered rfl ?_
    refine Eq.trans ?_ (State.transitions_once hfirst hsecond)
    exact congrArg (fun y => State.transitions s0 k c y false 8) hread
  have hkey : (s1.stored k x t).key k = { s.key k with
      state := .onset .fresh tc, last := some (x, t), implausible := 0 } := by
    rw [State.stored, State.key_setKey, if_pos rfl, hkey1, hkey0]
  have htold : (s.stamp t).restTold (s1.stored k x t) k = (s1.stored k x t).keyLeft := by
    rw [State.restTold, hkey, show ((s.stamp t).key k).state = .rest from hst]
    rfl
  have hframe := ((s1.stored k x t).keyLeft.scanReading_frame k c r.val)
  have hleft := (s1.stored k x t).keyLeft_frame
  unfold ScanFrame at hframe
  unfold RailFrame at hleft
  refine ⟨_, congrArg Host.Outcome.next (State.keyReading_running (s := s.stamp t) hrun r.val), ?_⟩
  rw [hplayed, htold, show (s.stamp t).keyCal k = c from rfl, hframe]
  refine ⟨?_, ?_, ?_, ?_, ?_⟩
  · rw [hleft]
    exact hkey
  · exact State.endQuiet_quiet _ _
  · rw [hleft]
    rfl
  · rw [hleft]
    rfl
  · rw [hleft]
    rfl

end Sys2Proof.Machine
end

section
/-! The strike and the release (R12 to R18): what a reading that makes one of them sounds and appends. -/

namespace Sys2Proof.Machine

-- One declaration after another: side by side they open more threads than the check's memory limit holds.
set_option Elab.async false

/-! ### A note-on reads no tracker -/

section Trackers

variable (s : State) (keys : Vector Tracker 88)

/-- The state with other trackers. -/
def State.withKeys : State := { s with keys := keys }

theorem State.stealVictim_withKeys (but : Option VoiceIx) : (s.withKeys keys).stealVictim but = s.stealVictim but := rfl

theorem State.shed_withKeys (i : VoiceIx) (cost : Nat) : ∀ (n : Nat) (s : State),
    State.shed (s.withKeys keys) i cost n = (State.shed s i cost n).withKeys keys
  | 0, _ => rfl
  | n + 1, s => by
    have hcost : (s.withKeys keys).costBut i = s.costBut i := rfl
    unfold State.shed
    rw [hcost, State.stealVictim_withKeys]
    split
    · rfl
    · split
      · exact State.shed_withKeys i cost n (s.setVoice _ none)
      · rfl

theorem State.noteOn_withKeys (src : Source) (k : KeyIx) (level : Nat) : (s.withKeys keys).noteOn src k level =
    ((s.noteOn src k level).1.withKeys keys, (s.noteOn src k level).2) := by
  have hdamp : (s.withKeys keys).dampKey src.group k = (s.dampKey src.group k).withKeys keys := rfl
  unfold State.noteOn
  rw [hdamp]
  generalize s.dampKey src.group k = d
  have hwindows : (d.withKeys keys).windows = d.windows := rfl
  have hchoose : (d.withKeys keys).chooseVoice = d.chooseVoice := rfl
  simp only [hwindows, hchoose, State.shed_withKeys]
  split <;> rfl

end Trackers

/-! ### Levels -/

theorem strikeLevel_mem (w : WorkingCopy) (k : KeyIx) (stroke : Stroke) (ta tb : Time) (on : Bool) :
    1 ≤ strikeLevel w k stroke ta tb on ∧ strikeLevel w k stroke ta tb on ≤ 127 := by
  unfold strikeLevel
  have h (x : Int) : 1 ≤ (clamp 1 127 x).toNat ∧ (clamp 1 127 x).toNat ≤ 127 := by
    have := clamp_mem (lo := 1) (hi := 127) x (by decide)
    omega
  exact h _

theorem releaseLevel_mem (w : WorkingCopy) (k : KeyIx) (tUp tOff : Time) :
    1 ≤ releaseLevel w k tUp tOff ∧ releaseLevel w k tUp tOff ≤ 127 := by
  have h := releaseLevel_eq w k tUp tOff
  omega

/-! ### What a tracker hands on -/

section Hands

variable (s : State) (k : KeyIx)

/-- The note of a strike, sounded where the live route is open and recorded, before the transport is told (R17). -/
def State.struck (level : Nat) (rep : Bool) (time : Time) : State :=
  ((if s.liveRoute then (s.noteOn .live k level).1 else s).append
    (.keyOn k level rep (s.liveRoute && (s.noteOn .live k level).2.isSome)) time)

theorem State.keyOn_eq (stroke : Stroke) (ta tb : Time) (rep : Bool) : s.keyOn k stroke ta tb rep =
    (s.struck k (strikeLevel s.cal k stroke ta tb (s.liveChannel unaCordaIx).switch) rep tb).transportKeyOn k
      (strikeLevel s.cal k stroke ta tb (s.liveChannel unaCordaIx).switch) := by
  unfold State.keyOn State.struck
  simp only []
  cases s.liveRoute <;> rfl

/-- The note of a release, ended and recorded, before the transport is told (R18). -/
def State.released (level : Nat) (cause : OffCause) (time : Time) : State :=
  (s.noteOff .live k level).append (.keyOff k level cause) time

theorem State.keyOff_eq (level : Nat) (cause : OffCause) (time : Time) :
    s.keyOff k level cause time = (s.released k level cause time).transportKeyOff k level := rfl

end Hands

/-! ### A reading told and judged -/

theorem State.restReport_same (s : State) (rest : Bool) : s.restReport rest rest = s := by
  cases rest <;> rfl

/-- A reading whose handling leaves the key at rest or away from it as it was, with no test: the handling alone. -/
theorem State.keyReading_of_kept {s b : State} {k : KeyIx} {raw : Nat} (running : s.running = true)
    (h : s.trackerReading k raw = b) (test : b.test = none)
    (rest : (b.key k).state.atRest = (s.key k).state.atRest) : s.keyReading k raw = b := by
  rw [State.keyReading_running running, h, State.restTold, rest, State.restReport_same, State.scanReading_of_idle test]

section Stroke

variable {s : State} {k : KeyIx}

/-- The reading of a tracker begins with the run of implausible readings ended. -/
def State.runEnded (s : State) (k : KeyIx) : State := s.setKey k { s.key k with implausible := 0 }

theorem State.runEnded_key (s : State) (k : KeyIx) : (s.runEnded k).key k = { s.key k with implausible := 0 } :=
  (State.key_setKey _ _ _ _).trans (if_pos rfl)

theorem State.setKeyState_key (s : State) (k : KeyIx) (st : KeyState) :
    (s.setKeyState k st).key k = { s.key k with state := st } := (State.key_setKey _ _ _ _).trans (if_pos rfl)

/-- A tracker that is DOWN watches for no downward crossing. -/
theorem State.transition_down {c : KeyCal} {t t0 : Time} {x v : Int} (state : (s.key k).state = .down) (h : v < x) (from' : Bool) :
    s.transition k c { time := t, value := x, last := some (v, t0) } from' = none := by
  unfold State.transition
  rw [state]
  simp only []
  rw [Reading.crossUp_none, Option.map_none]
  omega

/-- The strike of an ONSET or of a RESTRIKE (R12, R15). -/
theorem State.transition_strikes {c : KeyCal} {t t0 ta : Time} {x v : Int} {stroke : Stroke} {rep : Bool}
    (state : (s.key k).state = .onset stroke ta ∧ rep = false ∨
      stroke = .short ∧ rep = true ∧ ∃ tu : Time, (s.key k).state = .restrike ta tu)
    (hv : v < c.level s.cal.touch.fSt) (hx : c.level s.cal.touch.fSt ≤ x) :
    s.transition k c { time := t, value := x, last := some (v, t0) } false =
      some ((s.setKeyState k .down).keyOn k stroke ta
        (later t0 (floorDiv (elapsed t0 t * (c.level s.cal.touch.fSt - v)) (x - v))) rep, false) := by
  unfold State.transition
  rcases state with ⟨hst, rfl⟩ | ⟨rfl, rfl, tu, hst⟩ <;> rw [hst] <;> simp only [] <;> rw [Reading.crossDown_of_last t t0 hv hx]

theorem TakeFrame.kept {a b : State} (h : TakeFrame a b) : b.keys = a.keys ∧ b.test = a.test ∧ b.cal = a.cal := by
  unfold TakeFrame at h
  rw [h]
  exact ⟨rfl, rfl, rfl⟩

theorem KeyState.struck_notLearn {stroke : Stroke} {rep : Bool} {ta : Time} {st : KeyState} (h : st = .onset stroke ta ∧ rep = false ∨
    stroke = .short ∧ rep = true ∧ ∃ tu : Time, st = .restrike ta tu) :
    (∀ m, st ≠ .learn m) ∧ (∀ c, st ≠ .faulty c) ∧ st.atRest = false := by
  rcases h with ⟨rfl, -⟩ | ⟨-, -, tu, rfl⟩ <;> exact ⟨nofun, nofun, rfl⟩

section Once

variable {t0 : Time} {v raw : Nat} {b : State} {st : KeyState}

/-- A reading of one transition, to a state of the stroke that the key was away from rest in already. -/
theorem State.keyReading_once (running : s.running = true) (learn : ∀ m, (s.key k).state ≠ .learn m)
    (faulty : ∀ c, (s.key k).state ≠ .faulty c) (away : (s.key k).state.atRest = false) (away' : st.atRest = false)
    (last : (s.key k).last = some (v, t0)) (young : (s.now - t0).toNat < 2147483648)
    (plausible : (s.keyCal k).plausible raw = true) (ordered : (s.keyCal k).r ≤ (s.keyCal k).b) (test : s.test = none)
    (first : (s.runEnded k).transition k (s.keyCal k)
      { time := s.now, value := (s.keyCal k).clamped raw, last := some ((v : Int), t0) } false = some (b, false))
    (frame : TakeFrame ((s.runEnded k).setKeyState k st) b)
    (second : b.transition k (s.keyCal k)
      { time := s.now, value := (s.keyCal k).clamped raw, last := some ((v : Int), t0) } false = none) :
    s.keyReading k raw = b.stored k ((s.keyCal k).clamped raw) s.now ∧
      b.key k = { s.key k with state := st, implausible := 0 } := by
  obtain ⟨hkeys, htest, hcal⟩ := frame.kept
  have hkey : b.key k = { s.key k with state := st, implausible := 0 } := by
    have h : b.key k = ((s.runEnded k).setKeyState k st).key k := by rw [State.key, hkeys]; rfl
    rw [h, State.setKeyState_key, State.runEnded_key]
  refine ⟨State.keyReading_of_kept running ?_ (htest.trans test) ?_, hkey⟩
  · rw [State.trackerReading_played learn faulty]
    refine State.playedReading_plausible plausible ordered (congrArg (fun w : WorkingCopy => w.keys[k]) hcal) ?_
    rw [Reading.of_last last young]
    exact State.transitions_once first second
  · rw [State.stored, State.key_setKey, if_pos rfl, hkey, away]
    exact away'

end Once

end Stroke

/-- Settles O12: the strike is the reading's one transition, `State.keyOn`; its note is told by `State.struck`. -/
theorem strikeSoundsKeyOn : Obligations.StrikeSoundsKeyOn := by
  intro t t0 ta k r v stroke rep s c at' x tc level voiced note hrun hst hlast hyoung hplausible hordered hv hx htest
  obtain ⟨hlearn, hfaulty, haway⟩ := KeyState.struck_notLearn hst
  let s0 : State := ((s.stamp t).runEnded k).setKeyState k .down
  have hstruck : s0.keyOn k stroke ta tc rep = (s0.struck k level rep tc).transportKeyOn k level := s0.keyOn_eq k stroke ta tc rep
  have hfirst : ((s.stamp t).runEnded k).transition k c { time := t, value := x, last := some ((v : Int), t0) } false =
      some (s0.keyOn k stroke ta tc rep, false) :=
    State.transition_strikes (s := (s.stamp t).runEnded k) (by rw [State.runEnded_key]; exact hst) hv hx
  have hframe : TakeFrame s0 (s0.keyOn k stroke ta tc rep) := s0.keyOn_frame _ _ _ _ _
  rw [hstruck] at hfirst hframe
  obtain ⟨hkeys, -, -⟩ := hframe.kept
  have hdown : (((s0.struck k level rep tc).transportKeyOn k level).key k).state = .down := by
    rw [State.key, hkeys]
    exact congrArg Tracker.state (State.setKeyState_key _ _ _)
  have hsecond := State.transition_down (c := c) (t := t) (t0 := t0) hdown (by omega : (v : Int) < x) false
  obtain ⟨hreading, hkey⟩ := State.keyReading_once (s := s.stamp t) (st := .down) hrun hlearn hfaulty haway rfl hlast hyoung
    hplausible hordered htest hfirst hframe hsecond
  have hlevel := strikeLevel_mem s.cal k stroke ta tc (s.liveChannel unaCordaIx).switch
  have hnote : s0.noteOn .live k level = (note.1.withKeys s0.keys, note.2) := (s.stamp t).noteOn_withKeys s0.keys .live k level
  have hvoiced : (s0.liveRoute && (s0.noteOn .live k level).2.isSome) = voiced := by rw [State.noteOn_voiced]; rfl
  have hroute : s0.liveRoute = s.liveRoute := rfl
  have hvoices : (s0.struck k level rep tc).voices = if s.liveRoute then note.1.voices else s.voices := by
    rw [State.struck, hnote, hroute]
    cases s.liveRoute <;> rfl
  have hsounded : VoiceFrame s0 (if s0.liveRoute then (s0.noteOn .live k level).1 else s0) := by
    split
    · exact s0.noteOn_frame _ _ _
    · rfl
  unfold VoiceFrame at hsounded
  refine ⟨s0.struck k level rep tc, _, congrArg Host.Outcome.next hreading, rfl, ?_, fun j hj => ?_, hlevel.1, hlevel.2, ?_, hvoices,
    fun w win hopen hwindow => ?_, ?_, fun hcount hrec hwait => ?_⟩
  · rw [State.stored, State.key_setKey, if_pos rfl, hkey]
    rfl
  · rw [State.stored, State.key_setKey, if_neg hj, State.key, hkeys]
    refine (State.key_setKey _ _ _ _).trans ((if_neg hj).trans ?_)
    exact (State.key_setKey _ _ _ _).trans (if_neg hj)
  · rw [State.struck, State.append_ring, hsounded, hvoiced]
    rfl
  · obtain ⟨i, hi, hstarted, -⟩ := State.noteOn_served (s := s.stamp t) (src := .live) hwindow
    refine ⟨i, hi, ?_⟩
    rw [State.voice, hvoices, if_pos hopen]
    exact hstarted
  · rw [State.struck, hsounded]
    rfl
  · unfold State.transportKeyOn
    have hst' : (s0.struck k level rep tc).transport.state = s.transport.state := by
      rw [State.struck, hsounded]
      rfl
    rw [hst']
    split
    · exact absurd ‹_› hcount
    · exact absurd ‹_› hrec
    · exact absurd ‹_› hwait
    · rfl

end Sys2Proof.Machine
end

section
/-! The end of a note: the release (R14, R18), the faulty key (R20) and its recovery (R21). -/

namespace Sys2Proof.Machine

-- One declaration after another: side by side they open more threads than the check's memory limit holds.
set_option Elab.async false

section Release

variable {s : State} {k : KeyIx}

/-- The release of a REARMED key (R14). -/
theorem State.transition_releases {c : KeyCal} {t t0 tu : Time} {x v : Int} (state : (s.key k).state = .rearmed tu)
    (hx : x < c.upPoint s.cal.touch s.cal.touch.fRel) (hv : c.upPoint s.cal.touch s.cal.touch.fRel ≤ v) :
    s.transition k c { time := t, value := x, last := some (v, t0) } false =
      some ((s.setKeyState k .returning).keyOff k (releaseLevel s.cal k tu
        (later t0 (floorDiv (elapsed t0 t * (v - c.upPoint s.cal.touch s.cal.touch.fRel)) (v - x)))) .played
        (later t0 (floorDiv (elapsed t0 t * (v - c.upPoint s.cal.touch s.cal.touch.fRel)) (v - x))), false) := by
  unfold State.transition
  rw [state]
  simp only []
  rw [Reading.crossDown_none (by omega)]
  simp only []
  rw [Reading.crossUp_of_last t t0 hx hv]
  rfl

/-- A key in RETURN that a reading takes up, and not past the onset level, stays there. -/
theorem State.transition_returning {c : KeyCal} {t t0 : Time} {x v : Int} (state : (s.key k).state = .returning) (h : x < v)
    (above : c.upPoint s.cal.touch s.cal.touch.fOn ≤ x) (from' : Bool) :
    s.transition k c { time := t, value := x, last := some (v, t0) } from' = none := by
  have hdown (level : Int) : (if s.running = true then
      Reading.crossDown { time := t, value := x, last := some (v, t0) } level else none) = none := by
    rw [Reading.crossDown_none (by omega), ite_self]
  unfold State.transition
  rw [state]
  simp only [hdown]
  rw [Reading.crossUp_none (.inl above), Option.map_none]

/-- A note-off, voice by voice (R100). -/
theorem State.noteOff_voice (s : State) (src : Source) (k : KeyIx) (level : Nat) (i : VoiceIx) :
    (s.noteOff src k level).voice i = (s.voice i).map (fun v => if v.reachedBy src k then
      { v with
        held := false, release := level
        state := if decide (100 ≤ s.damper src.group) || KeySet.has (s.capture src.group) k then v.state else .releasing }
      else v) := State.voice_mapVoices _ _ _

/-- What a KEY_OFF leaves before the transport is told: the voices, and the record. -/
theorem State.released_leaves (s : State) (k : KeyIx) (level : Nat) (cause : OffCause) (time : Time) :
    (s.released k level cause time).journal = (if s.journal.length < 512 then s.journal else s.journal.tail) ++
      [{ body := .keyOff k level cause, time := time }] ∧
    (∀ (i : VoiceIx) (w : Voice), (s.released k level cause time).voice i = some w → w.source = .live → w.key = k → w.held = false) ∧
    s.released k level cause time = { s with
      voices := (s.released k level cause time).voices, journal := (s.released k level cause time).journal
      links := (s.released k level cause time).links } := by
  refine ⟨?_, fun i w hw hs hk => State.noteOff_held s .live k level i w hw hs hk, ?_⟩
  · have hring := (s.noteOff .live k level).append_ring (.keyOff k level cause) time
    have hframe := s.noteOff_frame .live k level
    unfold VoiceFrame at hframe
    rw [hframe] at hring
    exact hring
  · have hframe := s.noteOff_frame .live k level
    unfold VoiceFrame at hframe
    unfold State.released
    rw [hframe]
    rfl

theorem State.transportKeyOff_of_idle (h : s.transport.state ≠ .recording) (k : KeyIx) (level : Nat) :
    s.transportKeyOff k level = s := by
  unfold State.transportKeyOff
  split
  · exact absurd ‹_› h
  · rfl

end Release

/-- R14, R18: the release of a REARMED key. -/
theorem keyReleased (t t0 tu : Time) (k : KeyIx) (r : Depth) (v : Nat) (s : State) (running : s.running = true)
    (state : (s.key k).state = .rearmed tu) (last : (s.key k).last = some (v, t0)) (young : (t - t0).toNat < 2147483648)
    (plausible : (s.keyCal k).plausible r.val = true) (ordered : (s.keyCal k).r ≤ (s.keyCal k).b)
    (hx : ((s.keyCal k).clamped r.val : Int) < (s.keyCal k).upPoint s.cal.touch s.cal.touch.fRel)
    (hv : (s.keyCal k).upPoint s.cal.touch s.cal.touch.fRel ≤ v)
    (above : (s.keyCal k).upPoint s.cal.touch s.cal.touch.fOn ≤ (s.keyCal k).clamped r.val) (test : s.test = none) :
    let tc := t0 + BitVec.ofInt 32 (Int.fdiv (((t - t0).toNat : Int) *
      (v - (s.keyCal k).upPoint s.cal.touch s.cal.touch.fRel)) (v - (s.keyCal k).clamped r.val))
    let level := releaseLevel s.cal k tu tc
    let s0 := ((s.stamp t).runEnded k).setKeyState k .returning
    (s.stamp t).keyReading k r.val =
      ((s0.released k level .played tc).transportKeyOff k level).stored k ((s.keyCal k).clamped r.val) t ∧
    ((s0.released k level .played tc).transportKeyOff k level).key k =
      { s.key k with state := .returning, implausible := 0 } ∧
    ∀ j : KeyIx, j ≠ k → ((s0.released k level .played tc).transportKeyOff k level).key j = s.key j := by
  intro tc level s0
  have hfirst : ((s.stamp t).runEnded k).transition k (s.keyCal k)
      { time := t, value := (s.keyCal k).clamped r.val, last := some ((v : Int), t0) } false =
        some (s0.keyOff k level .played tc, false) :=
    State.transition_releases (s := (s.stamp t).runEnded k) (by rw [State.runEnded_key]; exact state) hx hv
  have hframe : TakeFrame s0 (s0.keyOff k level .played tc) := s0.keyOff_frame _ _ _ _
  rw [State.keyOff_eq] at hfirst hframe
  obtain ⟨hkeys, -, hcal⟩ := hframe.kept
  have hreturns : (((s0.released k level .played tc).transportKeyOff k level).key k).state = .returning := by
    rw [State.key, hkeys]
    exact congrArg Tracker.state (State.setKeyState_key _ _ _)
  have hsecond := State.transition_returning (c := s.keyCal k) (t := t) (t0 := t0) (x := (s.keyCal k).clamped r.val) (v := v)
    hreturns (by omega) (by rw [hcal]; exact above) false
  obtain ⟨hreading, hkey⟩ := State.keyReading_once (s := s.stamp t) (st := .returning) running
    (fun m h => by cases state.symm.trans h) (fun c h => by cases state.symm.trans h) (by change (s.key k).state.atRest = false; rw [state]; rfl)
    rfl last young plausible ordered test hfirst hframe hsecond
  refine ⟨hreading, hkey, fun j hj => ?_⟩
  rw [State.key, hkeys]
  refine (State.key_setKey _ _ _ _).trans ((if_neg hj).trans ?_)
  exact (State.key_setKey _ _ _ _).trans (if_neg hj)

/-! ### The faulty key (R20) -/

section Faults

variable {s : State} {k : KeyIx}

/-- The state in which a key enters FAULTY: its note ended where it is on, before the transport is told of that. -/
def State.noteFaulted (s : State) (k : KeyIx) : State :=
  if (s.key k).state.noteOn then s.released k 1 .fault s.now else s

/-- The note of a faulted key as the transport has been told of its end. -/
def State.noteFaultTold (s : State) (k : KeyIx) : State :=
  if (s.key k).state.noteOn then (s.noteFaulted k).transportKeyOff k 1 else s.noteFaulted k

theorem State.enterFaulty_eq (s : State) (k : KeyIx) (stored : Nat) : s.enterFaulty k stored =
    ((s.noteFaultTold k).setKey k { (s.noteFaultTold k).key k with
      state := .faulty .readings, last := some (stored, s.now), implausible := 16, recovery := 0 }).report
        (.keyFault k false .readings) .keyFault := by
  unfold State.enterFaulty State.noteFaultTold State.noteFaulted
  rw [State.keyOff_eq]
  split <;> rfl

theorem State.noteFaultTold_frame (s : State) (k : KeyIx) : TakeFrame s (s.noteFaultTold k) := by
  unfold State.noteFaultTold State.noteFaulted
  split
  · exact s.keyOff_frame k 1 .fault s.now
  · exact .refl s

theorem State.playedReading_faults {raw : Nat} (run : (s.key k).implausible = 15) (implausible : (s.keyCal k).plausible raw = false) :
    s.playedReading k raw = s.enterFaulty k ((s.keyCal k).clamped raw) := by
  unfold State.playedReading
  simp only [implausible, Bool.false_eq_true, if_false, run]
  rfl

/-- The sixteenth implausible reading in a row, handled whole (R19, R20). -/
theorem State.keyReading_faults {raw : Nat} (running : s.running = true) (run : (s.key k).implausible = 15)
    (implausible : (s.keyCal k).plausible raw = false) (learn : ∀ m, (s.key k).state ≠ .learn m)
    (faulty : ∀ c, (s.key k).state ≠ .faulty c) (test : s.test = none) :
    s.keyReading k raw = (s.enterFaulty k ((s.keyCal k).clamped raw)).restReport (s.key k).state.atRest true ∧
    (s.enterFaulty k ((s.keyCal k).clamped raw)).key k = { s.key k with
      state := .faulty .readings, last := some ((s.keyCal k).clamped raw, s.now), implausible := 16, recovery := 0 } := by
  have hframe := s.noteFaultTold_frame k
  obtain ⟨hkeys, htest, -⟩ := hframe.kept
  have hkey : (s.enterFaulty k ((s.keyCal k).clamped raw)).key k = { s.key k with
      state := .faulty .readings, last := some ((s.keyCal k).clamped raw, s.now), implausible := 16, recovery := 0 } := by
    rw [State.enterFaulty_eq]
    refine (State.key_setKey _ _ _ _).trans ((if_pos rfl).trans ?_)
    rw [State.key, hkeys]
    rfl
  refine ⟨?_, hkey⟩
  rw [State.keyReading_running running, State.trackerReading_played learn faulty, State.playedReading_faults run implausible,
    State.restTold, hkey, State.scanReading_of_idle]
  · rfl
  · have hrest := State.restReport_frame (s.enterFaulty k ((s.keyCal k).clamped raw)) (s.key k).state.atRest true
    unfold RailFrame at hrest
    have htested : (s.enterFaulty k ((s.keyCal k).clamped raw)).test = none := by
      rw [State.enterFaulty_eq]
      exact htest.trans test
    exact (congrArg State.test hrest).trans htested

/-- A key that has come to rest is told so; one that stood at rest tells nothing. -/
theorem State.restReport_to_rest (s : State) (before : Bool) : s.restReport before true =
    { s with rail := (s.restReport before true).rail } ∧
    (before = true → s.restReport before true = s) ∧
    (before = false → (s.restReport before true).rail.quiet.notAtRest = s.rail.quiet.notAtRest - 1) := by
  cases before
  · exact ⟨rfl, nofun, fun _ => rfl⟩
  · exact ⟨rfl, fun _ => rfl, nofun⟩

end Faults

/-- The note of a key that faults ends in the ring and latches nothing, where there is room. -/
theorem State.noteFaulted_tells {s : State} {k : KeyIx} (room : s.journal.length < 512) :
    (s.noteFaulted k).journal = s.journal ++
      (if (s.key k).state.noteOn then [{ body := .keyOff k 1 .fault, time := s.now }] else []) ∧
    (∀ l : Link, ((s.noteFaulted k).link l).latched = (s.link l).latched) ∧
    (s.noteFaulted k).now = s.now ∧ (s.noteFaulted k).transport = s.transport := by
  unfold State.noteFaulted
  split
  · obtain ⟨hring, -, hframe⟩ := s.released_leaves k 1 .fault s.now
    refine ⟨hring.trans (by rw [if_pos room]), fun l => ?_, by rw [hframe], by rw [hframe]⟩
    have hoff := s.noteOff_frame .live k 1
    unfold VoiceFrame at hoff
    have hlink : (s.noteOff .live k 1).link l = s.link l := by rw [hoff]; rfl
    rw [State.released, State.append_latched_of_room _ _ _ (by rw [hoff]; exact room), hlink]
  · exact ⟨(List.append_nil _).symm, fun _ => rfl, rfl, rfl⟩

/-- R20: the sixteenth implausible reading in a row. -/
theorem keyFaults (t : Time) (k : KeyIx) (r : Depth) (s : State) (running : s.running = true) (run : (s.key k).implausible = 15)
    (implausible : (s.keyCal k).plausible r.val = false) (learn : ∀ m, (s.key k).state ≠ .learn m)
    (faulty : ∀ c, (s.key k).state ≠ .faulty c) (test : s.test = none) :
    ∃ s1 s' : State, exec (.keyDepthReading t k r) s = .next s' ∧
      s' = { (if (s.key k).state.noteOn then s1.transportKeyOff k 1 else s1).report (.keyFault k false .readings)
        .keyFault with keys := s'.keys, rail := s'.rail } ∧
      s'.key k = { s.key k with
        state := .faulty .readings, last := some ((s.keyCal k).clamped r.val, t), implausible := 16, recovery := 0 } ∧
      (∀ j : KeyIx, j ≠ k → s'.key j = s.key j) ∧
      ((s.key k).state.noteOn = false → s1 = { s with now := t, keys := s1.keys }) ∧
      ((s.key k).state.noteOn = true →
        s1.journal = (if s.journal.length < 512 then s.journal else s.journal.tail) ++
          [{ body := .keyOff k 1 .fault, time := t }] ∧
        (∀ (i : VoiceIx) (w : Voice), s1.voice i = some w → w.source = .live → w.key = k → w.held = false) ∧
        s1 = { s with now := t, keys := s1.keys, voices := s1.voices, journal := s1.journal, links := s1.links }) ∧
      (s.transport.state ≠ .recording → s.journal.length ≤ 510 →
        s'.journal = s.journal ++
          (if (s.key k).state.noteOn then [{ body := .keyOff k 1 .fault, time := t }] else []) ++
          [{ body := .keyFault k false .readings, time := t }] ∧
        (∀ l : Link, (s'.link l).latched = (s.link l).latched ||| Condition.mask .keyFault) ∧
        s'.transport = s.transport) ∧
      ((s.key k).state ≠ .rest → s'.rail.quiet.notAtRest = s.rail.quiet.notAtRest - 1) ∧
      ((s.key k).state = .rest → s'.rail = s.rail) := by
  obtain ⟨hreading, hkey⟩ := State.keyReading_faults (s := s.stamp t) running run implausible learn faulty test
  have hframe := (s.stamp t).noteFaultTold_frame k
  obtain ⟨hkeys, -, -⟩ := hframe.kept
  have hfaulted := (s.stamp t).enterFaulty_eq k ((s.keyCal k).clamped r.val)
  have hothers := (s.stamp t).enterFaulty_others (k := k) ((s.keyCal k).clamped r.val)
  have hrail : ((s.stamp t).enterFaulty k ((s.keyCal k).clamped r.val)).rail = s.rail := by
    have hf := (s.stamp t).enterFaulty_frame k ((s.keyCal k).clamped r.val)
    unfold StrokeFrame at hf
    rw [hf]
    rfl
  have hrest : (s.key k).state.atRest = decide ((s.key k).state = .rest) := by
    cases hst : (s.key k).state with
    | faulty c => exact absurd hst (faulty c)
    | _ => rfl
  have hexec : exec (.keyDepthReading t k r) s =
      .next (((s.stamp t).enterFaulty k ((s.keyCal k).clamped r.val)).restReport (s.key k).state.atRest true) :=
    congrArg Host.Outcome.next hreading
  replace hkey : ((s.stamp t).enterFaulty k ((s.keyCal k).clamped r.val)).key k = { s.key k with
      state := .faulty .readings, last := some ((s.keyCal k).clamped r.val, t), implausible := 16, recovery := 0 } := hkey
  generalize (s.stamp t).enterFaulty k ((s.keyCal k).clamped r.val) = e at hkey hfaulted hothers hrail hexec
  obtain ⟨htold, hsame, hreturned⟩ := e.restReport_to_rest (s.key k).state.atRest
  generalize e.restReport (s.key k).state.atRest true = s' at htold hsame hreturned hexec
  have hkept : s'.keys = e.keys ∧ s'.journal = e.journal ∧ s'.links = e.links ∧ s'.transport = e.transport := by
    rw [htold]
    exact ⟨rfl, rfl, rfl, rfl⟩
  obtain ⟨hkeys', hjournal', hlinks', htransport'⟩ := hkept
  refine ⟨(s.stamp t).noteFaulted k, s', hexec, ?_, ?_, fun j hj => ?_, fun hoff => ?_, fun hon => ?_,
    fun hrec hroom => ?_, fun hst => ?_, fun hst => ?_⟩
  · rw [hkeys']
    refine htold.trans ?_
    rw [hfaulted]
    rfl
  · rw [State.key, hkeys']
    exact hkey
  · rw [State.key, hkeys']
    exact (hothers j hj).1
  · rw [State.noteFaulted, if_neg (by exact fun h => Bool.false_ne_true (hoff.symm.trans h))]
    rfl
  · obtain ⟨hring, hheld, hleft⟩ := (s.stamp t).released_leaves k 1 .fault t
    rw [State.noteFaulted, if_pos (by exact hon)]
    exact ⟨hring, hheld, hleft⟩
  · obtain ⟨hring, hlatched, hnow, htransport⟩ := State.noteFaulted_tells (s := s.stamp t) (k := k)
      (by exact Nat.lt_of_le_of_lt hroom (by decide))
    have hstill : (s.stamp t).noteFaultTold k = (s.stamp t).noteFaulted k := by
      unfold State.noteFaultTold
      rw [State.transportKeyOff_of_idle (by rw [htransport]; exact hrec), ite_self]
    rw [hstill] at hfaulted
    have hfew : ((s.stamp t).noteFaulted k).journal.length < 512 := by
      have hlength : ((s.stamp t).noteFaulted k).journal.length ≤ s.journal.length + 1 := by
        rw [hring, List.length_append]
        refine Nat.add_le_add_left ?_ _
        split <;> simp
      omega
    generalize (s.stamp t).noteFaulted k = d at hring hlatched hnow htransport hfaulted hfew
    obtain ⟨hring', hlatched'⟩ := State.report_of_room (s := d.setKey k { d.key k with
      state := .faulty .readings, last := some ((s.keyCal k).clamped r.val, t), implausible := 16, recovery := 0 }) hfew
      (.keyFault k false .readings) .keyFault
    refine ⟨?_, fun l => ?_, ?_⟩
    · rw [hjournal', hfaulted]
      refine hring'.trans ?_
      rw [show State.journal (d.setKey k _) = d.journal from rfl, hring, show State.now (d.setKey k _) = t from hnow]
      rfl
    · rw [State.link, hlinks', hfaulted]
      exact (hlatched' l).trans (congrArg (· ||| Condition.mask .keyFault) (hlatched l))
    · rw [htransport', hfaulted]
      exact htransport
  · exact (hreturned (by rw [hrest]; exact decide_eq_false hst)).trans (by rw [hrail])
  · exact (congrArg State.rail (hsame (by rw [hrest]; exact decide_eq_true hst))).trans hrail

end Sys2Proof.Machine
end

section
/-! The recovery of a FAULTY key (R21), and O13 assembled. -/

namespace Sys2Proof.Machine

-- One declaration after another: side by side they open more threads than the check's memory limit holds.
set_option Elab.async false

/-- What only appends records and raises conditions clears no latched condition. -/
theorem Logs.latched {s s' : State} (h : Logs s s') {l : Link} {i : Nat} (hs : (s.link l).latched.getLsbD i = true) :
    (s'.link l).latched.getLsbD i = true := by
  refine h.keeps (P := fun x => (x.link l).latched.getLsbD i = true) (fun a b _ hl ha => ?_) (fun a b t ha => ?_)
    (fun a c _ ha => ?_) hs
  · rwa [State.link, hl]
  · rw [State.append_link]
    exact LinkRec.onAppend_latched_of_latched _ ha
  · rw [State.raise_link]
    exact LinkRec.raise_latched_of_latched c ha

section Recovery

variable {s : State} {k : KeyIx}

theorem State.applyPending_of_none (h : (s.key k).pendingCal = none) : s.applyPending k = s := by
  unfold State.applyPending
  rw [h]

/-- A pending record that is applied becomes the key's calibration, WRITTEN (R25). -/
theorem State.applyPending_of_some {c : KeyCal} (h : (s.key k).pendingCal = some c) :
    (s.applyPending k).keyCal k = c ∧ (s.applyPending k).cal.origins[k] = .written ∧ (s.applyPending k).saved = false := by
  unfold State.applyPending
  rw [h]
  refine ⟨?_, ?_, rfl⟩
  · show (tablePut s.cal.keys k c)[k] = c
    rw [tablePut_get, if_pos rfl]
  · show (tablePut s.cal.origins k Origin.written)[k] = .written
    rw [tablePut_get, if_pos rfl]

theorem State.applyPending_key (s : State) (k : KeyIx) :
    ∃ last, (s.applyPending k).key k = { s.key k with pendingCal := none, last := last } := by
  cases hp : (s.key k).pendingCal with
  | none => exact ⟨(s.key k).last, by rw [State.applyPending_of_none hp, ← hp]⟩
  | some c =>
    have hcleared : (s.setKey k { s.key k with pendingCal := none }).key k = { s.key k with pendingCal := none } := by
      rw [State.key_setKey, if_pos rfl]
    unfold State.applyPending State.applyCal
    rw [hp]
    simp only []
    rw [State.key_setKey, if_pos rfl]
    refine ⟨(s.key k).last.map (fun p => (c.clamped p.1, p.2)), ?_⟩
    change ({ (s.setKey k { s.key k with pendingCal := none }).key k with
      last := ((s.setKey k { s.key k with pendingCal := none }).key k).last.map (fun p => (c.clamped p.1, p.2)) } : Tracker) = _
    rw [hcleared]

/-- What a recovery makes of the key and of its calibration, and what it tells (R21, R25, R26). -/
theorem State.recoverKey_leaves (s : State) (k : KeyIx) (cause : FaultCause) :
    (s.recoverKey k cause).key k = { s.key k with
      state := if (s.key k).learnWaiting then .learn none else .rest
      last := none, implausible := 0, recovery := 0, pendingCal := none, learnWaiting := false } ∧
    (s.recoverKey k cause).cal = (s.applyPending k).cal ∧ (s.recoverKey k cause).saved = (s.applyPending k).saved ∧
    (s.recoverKey k cause).journal = (if s.journal.length < 512 then s.journal else s.journal.tail) ++
      [{ body := .keyFault k true cause, time := s.now }] ∧
    (∀ l : Link, ((s.recoverKey k cause).link l).latched.getLsbD 9 = true) := by
  obtain ⟨last, hkey⟩ := s.applyPending_key k
  have hkept : (s.applyPending k).journal = s.journal ∧ (s.applyPending k).now = s.now := by
    unfold State.applyPending
    split <;> exact ⟨rfl, rfl⟩
  obtain ⟨hjournal, hnow⟩ := hkept
  unfold State.recoverKey
  simp only []
  generalize s.applyPending k = p at hkey hjournal hnow
  have htold : ((p.setKey k { p.key k with state := .rest, last := none, implausible := 0, recovery := 0 }).keyFaultRecord k
      true cause).key k = { s.key k with
        state := .rest, last := none, implausible := 0, recovery := 0, pendingCal := none } := by
    refine (State.key_setKey _ _ _ _).trans ((if_pos rfl).trans ?_)
    rw [hkey]
  have hring := (p.setKey k { p.key k with
    state := .rest, last := none, implausible := 0, recovery := 0 }).report_ring (.keyFault k true cause) .keyFault
  have hlatched := (p.setKey k { p.key k with
    state := .rest, last := none, implausible := 0, recovery := 0 }).report_latched (.keyFault k true cause) .keyFault
  rw [show State.now (p.setKey k _) = s.now from hnow, show State.journal (p.setKey k _) = s.journal from hjournal] at hring
  have hcal : ((p.setKey k { p.key k with state := .rest, last := none, implausible := 0, recovery := 0 }).keyFaultRecord k
      true cause).cal = p.cal ∧ ((p.setKey k { p.key k with
        state := .rest, last := none, implausible := 0, recovery := 0 }).keyFaultRecord k true cause).saved = p.saved := ⟨rfl, rfl⟩
  unfold State.keyFaultRecord at htold hcal ⊢
  generalize (p.setKey k { p.key k with state := .rest, last := none, implausible := 0, recovery := 0 }).report
    (.keyFault k true cause) .keyFault = e at htold hring hlatched hcal
  have hwaits : (e.key k).learnWaiting = (s.key k).learnWaiting := by rw [htold]
  unfold State.passToLearn
  rw [hwaits]
  refine ⟨?_, ?_, ?_, ?_, ?_⟩
  · cases hl : (s.key k).learnWaiting
    · exact htold.trans (by simp [hl])
    · refine (State.key_setKey _ _ _ _).trans ((if_pos rfl).trans ?_)
      rw [htold]
      rfl
  · split <;> exact hcal.1
  · split <;> exact hcal.2
  · split <;> exact hring
  · split <;> exact hlatched

/-- A recovery sounds and moves nothing. -/
theorem State.recoverKey_still (s : State) (k : KeyIx) (cause : FaultCause) :
    (s.recoverKey k cause).voices = s.voices ∧ (s.recoverKey k cause).transport = s.transport ∧
      (s.recoverKey k cause).rail = s.rail ∧ (s.recoverKey k cause).test = s.test := by
  unfold State.recoverKey State.passToLearn State.applyPending
  simp only []
  split <;> exact ⟨by split <;> rfl, by split <;> rfl, by split <;> rfl, by split <;> rfl⟩

theorem State.faultyReading_of_none {cause : FaultCause} {raw : Nat} (h : s.usableCal k = none) : s.faultyReading k cause raw =
    s.setKey k { s.key k with last := some ((s.keyCal k).clamped raw, s.now), recovery := 0 } := by
  unfold State.faultyReading
  rw [h]

/-- A reading of a FAULTY key against a usable calibration: the run it leaves, and the recovery it brings at 256. -/
theorem State.faultyReading_of_some {cause : FaultCause} {raw run : Nat} {u : KeyCal} (h : s.usableCal k = some u)
    (hrun : (if u.plausible raw && decide ((u.clamped raw : Int) < u.level s.cal.touch.fOn) then (s.key k).recovery + 1 else 0) =
      run) :
    s.faultyReading k cause raw =
      (if 256 ≤ run then
        (s.setKey k { s.key k with last := some (u.clamped raw, s.now), recovery := run }).recoverKey k cause
      else s.setKey k { s.key k with last := some (u.clamped raw, s.now), recovery := run }) := by
  unfold State.faultyReading
  rw [h]
  simp only []
  rw [hrun]
  rfl

theorem State.usableCal_eq {u : KeyCal}
    (h : 200 ≤ (s.keyCal k).span ∧ u = s.keyCal k ∨ (s.keyCal k).span < 200 ∧ (s.key k).pendingCal = some u) :
    s.usableCal k = some u := by
  unfold State.usableCal
  rcases h with ⟨hspan, rfl⟩ | ⟨hspan, hp⟩
  · exact if_pos hspan
  · exact (if_neg (not_le_of_gt hspan)).trans hp

/-- A key that a reading leaves FAULTY: the reading is all that is stored. -/
theorem State.keyReading_stays_faulty {cause : FaultCause} {raw : Nat} {x : Tracker} (running : s.running = true)
    (state : (s.key k).state = .faulty cause) (test : s.test = none) (still : x.state = .faulty cause)
    (h : s.faultyReading k cause raw = s.setKey k x) : s.keyReading k raw = { s with keys := tablePut s.keys k x } := by
  have htracker : s.trackerReading k raw = s.setKey k x := by
    unfold State.trackerReading
    rw [state]
    exact h
  rw [State.keyReading_running running, htracker, State.restTold, State.key_setKey, if_pos rfl, state, still,
    State.scanReading_of_idle]
  · rfl
  · exact test

/-- The key's calibration once its pending record, if it holds one, is applied. -/
theorem State.applyPending_calibration (s : State) (k : KeyIx) :
    (s.applyPending k).cal.keys[k] = (s.key k).pendingCal.getD (s.keyCal k) ∧
    ((s.key k).pendingCal = none → (s.applyPending k).cal = s.cal ∧ (s.applyPending k).saved = s.saved) ∧
    ((s.key k).pendingCal.isSome = true → (s.applyPending k).cal.origins[k] = .written ∧ (s.applyPending k).saved = false) := by
  cases hp : (s.key k).pendingCal with
  | none =>
    rw [State.applyPending_of_none hp]
    exact ⟨rfl, fun _ => ⟨rfl, rfl⟩, nofun⟩
  | some c =>
    obtain ⟨hcopy, hwritten, hsaved⟩ := State.applyPending_of_some hp
    exact ⟨hcopy, nofun, fun _ => ⟨hwritten, hsaved⟩⟩

/-- The reading that recovers a key, handled whole: a key that passes to LEARN has left rest. -/
theorem State.keyReading_recovers {cause : FaultCause} {raw : Nat} {x : Tracker} (running : s.running = true)
    (state : (s.key k).state = .faulty cause) (test : s.test = none)
    (h : s.faultyReading k cause raw = (s.setKey k x).recoverKey k cause) : s.keyReading k raw =
      if x.learnWaiting then ((s.setKey k x).recoverKey k cause).keyLeft else (s.setKey k x).recoverKey k cause := by
  obtain ⟨hkey, -⟩ := (s.setKey k x).recoverKey_leaves k cause
  obtain ⟨-, -, -, htest⟩ := (s.setKey k x).recoverKey_still k cause
  have htracker : s.trackerReading k raw = (s.setKey k x).recoverKey k cause := by
    unfold State.trackerReading
    rw [state]
    exact h
  rw [State.key_setKey, if_pos rfl] at hkey
  rw [State.keyReading_running running, htracker, State.restTold, hkey, state]
  generalize (s.setKey k x).recoverKey k cause = e at htest
  replace htest : e.test = none := htest.trans test
  cases x.learnWaiting
  · exact State.scanReading_of_idle htest _ _ _
  · have hleft := e.keyLeft_frame
    unfold RailFrame at hleft
    exact State.scanReading_of_idle ((congrArg State.test hleft).trans htest) _ _ _

end Recovery

/-- R21: a reading of a FAULTY key. -/
theorem keyRecovers (t : Time) (k : KeyIx) (r : Depth) (cause : FaultCause) (s : State) :
    let x := s.key k
    let c := s.keyCal k
    let usable (u : KeyCal) : Prop := 200 ≤ c.span ∧ u = c ∨ c.span < 200 ∧ x.pendingCal = some u
    let good (u : KeyCal) : Prop := u.plausible r.val = true ∧ (u.clamped r.val : Int) < u.level s.cal.touch.fOn
    s.running = true → x.state = .faulty cause → s.test = none →
    (c.span < 200 → x.pendingCal = none → exec (.keyDepthReading t k r) s = .next { s with
      now := t, keys := tablePut s.keys k { x with last := some (c.clamped r.val, t), recovery := 0 } }) ∧
    (∀ u : KeyCal, usable u →
      (¬good u → exec (.keyDepthReading t k r) s = .next { s with
        now := t, keys := tablePut s.keys k { x with last := some (u.clamped r.val, t), recovery := 0 } }) ∧
      (good u → x.recovery < 255 → exec (.keyDepthReading t k r) s = .next { s with
        now := t
        keys := tablePut s.keys k { x with last := some (u.clamped r.val, t), recovery := x.recovery + 1 } }) ∧
      (good u → 255 ≤ x.recovery → ∃ s' : State, exec (.keyDepthReading t k r) s = .next s' ∧
        s'.key k = { x with
          state := if x.learnWaiting then .learn none else .rest
          last := none, implausible := 0, recovery := 0, pendingCal := none, learnWaiting := false } ∧
        (∀ j : KeyIx, j ≠ k → s'.key j = s.key j) ∧
        s'.keyCal k = x.pendingCal.getD c ∧ (x.pendingCal = none → s'.cal = s.cal ∧ s'.saved = s.saved) ∧
        (x.pendingCal.isSome = true → s'.cal.origins[k] = .written ∧ s'.saved = false) ∧
        (x.learnWaiting = true → s'.rail.quiet =
          { notAtRest := s.rail.quiet.notAtRest + 1, start := none, quiet := false }) ∧
        (x.learnWaiting = false → s'.rail = s.rail ∧
          s'.journal = (if s.journal.length < 512 then s.journal else s.journal.tail) ++
            [{ body := .keyFault k true cause, time := t }]) ∧
        (∀ l : Link, (s'.link l).latched.getLsbD 9 = true) ∧
        s'.voices = s.voices ∧ s'.transport = s.transport)) := by
  intro x c usable good running state test
  have stays (y : Tracker) (hy : y.state = .faulty cause)
      (h : (s.stamp t).faultyReading k cause r.val = (s.stamp t).setKey k y) :
      exec (.keyDepthReading t k r) s = .next { s with now := t, keys := tablePut s.keys k y } :=
    congrArg Host.Outcome.next (State.keyReading_stays_faulty (s := s.stamp t) running state test hy h)
  refine ⟨fun hspan hp => stays _ state (State.faultyReading_of_none (s := s.stamp t) ?_), fun u hu => ?_⟩
  · exact (if_neg (not_le_of_gt hspan)).trans hp
  have hcal : (s.stamp t).usableCal k = some u := State.usableCal_eq (s := s.stamp t) hu
  refine ⟨fun hbad => stays _ state ?_, fun hgood hrun => stays _ state ?_, fun hgood hrun => ?_⟩
  · refine (State.faultyReading_of_some (run := 0) hcal (if_neg ?_)).trans (if_neg (by decide))
    rw [Bool.and_eq_true, decide_eq_true_eq]
    exact hbad
  · refine (State.faultyReading_of_some (run := x.recovery + 1) hcal (if_pos ?_)).trans (if_neg (by omega))
    rw [Bool.and_eq_true, decide_eq_true_eq]
    exact hgood
  · have hread : (s.stamp t).faultyReading k cause r.val = ((s.stamp t).setKey k
        { x with last := some (u.clamped r.val, t), recovery := x.recovery + 1 }).recoverKey k cause := by
      refine (State.faultyReading_of_some (run := x.recovery + 1) hcal (if_pos ?_)).trans (if_pos (by omega))
      rw [Bool.and_eq_true, decide_eq_true_eq]
      exact hgood
    have hreading := State.keyReading_recovers (s := s.stamp t) running state test hread
    obtain ⟨hkey, hcal', hsaved, hring, hlatched⟩ := ((s.stamp t).setKey k
      { x with last := some (u.clamped r.val, t), recovery := x.recovery + 1 }).recoverKey_leaves k cause
    obtain ⟨hvoices, htransport, hrail, -⟩ := ((s.stamp t).setKey k
      { x with last := some (u.clamped r.val, t), recovery := x.recovery + 1 }).recoverKey_still k cause
    have hothers : OthersKept k (s.stamp t) (((s.stamp t).setKey k
        { x with last := some (u.clamped r.val, t), recovery := x.recovery + 1 }).recoverKey k cause) :=
      ((s.stamp t).setKey_others _).trans (State.recoverKey_others _ cause)
    have hcalibration := ((s.stamp t).setKey k
      { x with last := some (u.clamped r.val, t), recovery := x.recovery + 1 }).applyPending_calibration k
    rw [State.key_setKey, if_pos rfl] at hkey hcalibration
    rw [← hcal', ← hsaved] at hcalibration
    obtain ⟨hcopy, hsame, hwritten⟩ := hcalibration
    generalize ((s.stamp t).setKey k { x with last := some (u.clamped r.val, t), recovery := x.recovery + 1 }).recoverKey k cause = e
      at hreading hkey hcopy hsame hwritten hring hlatched hvoices htransport hrail hothers
    clear hcal' hsaved
    refine ⟨_, congrArg Host.Outcome.next hreading, ?_⟩
    change (if x.learnWaiting = true then e.keyLeft else e).key k = _ ∧ _
    cases hl : x.learnWaiting
    · rw [hl] at hkey
      exact ⟨hkey, fun j hj => (hothers j hj).1, hcopy, hsame, hwritten, nofun, fun _ => ⟨hrail, hring⟩, hlatched, hvoices,
        htransport⟩
    · rw [hl] at hkey
      have hquiet := e.endQuiet_quiet (e.rail.quiet.notAtRest + 1)
      have hleft := e.keyLeft_frame
      have htold : ∀ l : Link, (e.keyLeft.link l).latched.getLsbD 9 = true := fun l => (e.keyLeft_acts).logs.latched (hlatched l)
      rw [hrail] at hquiet
      replace hquiet : e.keyLeft.rail.quiet = { notAtRest := s.rail.quiet.notAtRest + 1, start := none, quiet := false } := by
        rw [State.keyLeft, hrail]
        exact hquiet
      unfold RailFrame at hleft
      rw [if_pos rfl]
      generalize e.keyLeft = g at hleft htold hquiet
      have hkept : g.keys = e.keys ∧ g.cal = e.cal ∧ g.saved = e.saved ∧ g.voices = e.voices ∧ g.transport = e.transport := by
        rw [hleft]
        exact ⟨rfl, rfl, rfl, rfl, rfl⟩
      obtain ⟨hgkeys, hgcal, hgsaved, hgvoices, hgtransport⟩ := hkept
      rw [State.key, State.keyCal, hgkeys, hgcal, hgsaved, hgvoices, hgtransport]
      refine ⟨hkey, fun j hj => ?_, hcopy, hsame, hwritten, fun _ => hquiet, nofun, htold, hvoices, htransport⟩
      rw [State.key, hgkeys]
      exact (hothers j hj).1

/-- Settles O13: the release, the fault and the recovery, each its own lemma above. -/
theorem notesEnd : Obligations.NotesEnd := by
  refine ⟨?_, keyFaults, keyRecovers⟩
  intro t t0 tu k r v s c at' x tc level running state last young plausible ordered hx hv above test
  obtain ⟨hreading, hkey, hothers⟩ := keyReleased t t0 tu k r v s running state last young plausible ordered hx hv above test
  obtain ⟨hring, hheld, hframe⟩ := (((s.stamp t).runEnded k).setKeyState k .returning).released_leaves k level .played tc
  obtain ⟨hlow, hhigh⟩ := releaseLevel_mem s.cal k tu tc
  have hvoice (i : VoiceIx) : ((((s.stamp t).runEnded k).setKeyState k .returning).released k level .played tc).voice i =
      (s.voice i).map (fun v => if v.reachedBy .live k then
        { v with
          held := false, release := level
          state := if decide (100 ≤ (s.liveChannel damperIx).level) || KeySet.has s.liveCapture k then v.state else .releasing }
        else v) := State.noteOff_voice _ .live k level i
  have hexec : exec (.keyDepthReading t k r) s = .next _ := congrArg Host.Outcome.next hreading
  generalize ((((s.stamp t).runEnded k).setKeyState k .returning).released k level .played tc) = s1
    at hreading hkey hothers hring hheld hframe hvoice hexec
  refine ⟨s1, _, hexec, rfl, ?_, fun j hj => ?_, hlow, hhigh, hring, hheld, fun i w hw => ?_, ?_, fun hrec => ?_⟩
  · rw [State.stored, State.key_setKey, if_pos rfl, hkey]
  · rw [State.stored, State.key_setKey, if_neg hj]
    exact hothers j hj
  · rw [hvoice, hw]
    simp only [Option.map_some, Bool.or_eq_true, decide_eq_true_eq]
  · rw [congrArg State.keys hframe]
    exact hframe
  · refine State.transportKeyOff_of_idle ?_ k level
    rw [hframe]
    exact hrec

end Sys2Proof.Machine
end

section
/-! WRITE_KEY_CAL (R24): O14. -/

namespace Sys2Proof.Machine

-- One declaration after another: side by side they open more threads than the check's memory limit holds.
set_option Elab.async false

variable {s : State} {k : KeyIx}

/-- A record applied at once (R24): the calibration, its origin, and the stored last reading clamped anew. -/
theorem State.writeCal_rest {c : KeyCal} (state : (s.key k).state = .rest) (commit : s.commit = none) : s.writeCal k c =
    { s with
      saved := false
      cal := { s.cal with keys := tablePut s.cal.keys k c, origins := tablePut s.cal.origins k .written }
      keys := tablePut s.keys k { s.key k with last := (s.key k).last.map (fun y => (c.clamped y.1, y.2)) } } := by
  unfold State.writeCal State.applyCal
  rw [state]
  have h : (s.setKeyCal k c .written).calChanged = { s.setKeyCal k c .written with saved := false } :=
    State.calChanged_of_no_commit commit
  simp only [h]
  rfl

/-- A record held as pending (R24). -/
theorem State.writeCal_pending {c : KeyCal} (state : (s.key k).state ≠ .rest) (commit : s.commit = none) : s.writeCal k c =
    { s with saved := false, keys := tablePut s.keys k { s.key k with pendingCal := some c } } := by
  unfold State.writeCal
  split
  · exact absurd ‹_› state
  · exact State.calChanged_of_no_commit (s := s.setKey k { s.key k with pendingCal := some c }) commit

theorem KeyState.disposition_of_ne {st : KeyState} (h : st ≠ .rest) : st.disposition = 1 := by
  cases st with
  | rest => exact absurd rfl h
  | _ => rfl

/-- The clamps keep the written depths 200 or more apart. -/
theorem writtenCal_span (p : List Byte) : 200 ≤ (writtenCal p).span := by
  have hr : (writtenCal p).r ≤ 400 := (clampNat_mem (lo := 0) (hi := 400) (be2At p 1) (by decide)).2
  have hb : 600 ≤ (writtenCal p).b := (clampNat_mem (lo := 600) (hi := 1023) (be2At p 3) (by decide)).1
  unfold KeyCal.span
  omega

/-- A key index beyond 87 refuses, whatever is written. -/
theorem ruleWriteKeyCal_noKey {p : List Byte} (l : Link) (s : State) (h : 87 < byteAt p 0) : ruleWriteKeyCal l p s =
    s.checked (s.seatedChecks l ++ [lengthNot p 8, (true, .badValue), s.commitBusy]) (s, .ok []) := by
  rw [ruleWriteKeyCal, decide_eq_true h]
  exact s.checked_of_fails (firstFailing_ne_none (st := .badValue) (by simp)) _ _

theorem ruleWriteKeyCal_key {p : List Byte} (l : Link) (s : State) (h : byteAt p 0 = k.val) : ruleWriteKeyCal l p s =
    s.checked (s.seatedChecks l ++ [lengthNot p 8, (false, .badValue), s.commitBusy])
      (s.writeCal k (writtenCal p), .ok (calField (writtenCal p) ++ u1 (s.key k).state.disposition ++
        yesNo (s.key k).pendingCal.isSome)) := by
  rw [ruleWriteKeyCal, h, keyOfNat_val, decide_eq_false (by omega)]
  rfl

/-- Settles O14: a rule of checks and one effect, read where the checks pass, so with no commit in progress. -/
theorem keyCalibrationWrite : Obligations.KeyCalibrationWrite := by
  intro t l p s h hp checks
  refine ⟨fun hk => State.request_outcome h hp (ruleWriteKeyCal_noKey l (s.stamp t) hk), fun k hk => ?_⟩
  refine ⟨writtenCal_span p, fun state => ?_, fun state => ?_⟩
  · refine (State.request_outcome h hp (ruleWriteKeyCal_key l (s.stamp t) hk)).trans
      (congrArg _ (State.outcome_congr rfl fun hpass => ⟨?_, ?_⟩))
    · exact State.writeCal_rest (s := s.stamp t) state (State.no_commit_of_passed (s := s) hpass (by simp [checks]))
    · rw [show ((s.stamp t).key k).state = .rest from state]
      rfl
  · refine (State.request_outcome h hp (ruleWriteKeyCal_key l (s.stamp t) hk)).trans
      (congrArg _ (State.outcome_congr rfl fun hpass => ⟨?_, ?_⟩))
    · exact State.writeCal_pending (s := s.stamp t) state (State.no_commit_of_passed (s := s) hpass (by simp [checks]))
    · rw [KeyState.disposition_of_ne (st := ((s.stamp t).key k).state) state]
      rfl

end Sys2Proof.Machine
end

section
/-! LEARN_BEGIN and LEARN_END (R26, R28): O15. -/

namespace Sys2Proof.Machine

-- One declaration after another: side by side they open more threads than the check's memory limit holds.
set_option Elab.async false

/-! ### LEARN_BEGIN, key by key -/

section Begin

variable {s : State}

/-- A key of the range at LEARN_BEGIN (R26). -/
def Tracker.learnBegun (x : Tracker) : Tracker :=
  if x.state = .rest then { x with state := .learn none, implausible := 0, recovery := 0 } else { x with learnWaiting := true }

/-- What LEARN_BEGIN reaches beside the learn record. -/
def BeginFrame (s s' : State) : Prop :=
  s' = { s with
    keys := s'.keys, rail := s'.rail, journal := s'.journal, links := s'.links, led := s'.led, ledSince := s'.ledSince }

theorem BeginFrame.trans {a b c : State} (h : BeginFrame a b) (g : BeginFrame b c) : BeginFrame a c := by
  unfold BeginFrame at *
  rw [g, h]

theorem RailFrame.begun {a b : State} (h : RailFrame a b) : BeginFrame a b := by
  unfold RailFrame at h
  rw [h]
  rfl

/-- A key of the range: its tracker, what the rail is told, and what stays. -/
theorem State.beginLearnKey_tells (s : State) (k : KeyIx) :
    (∀ j : KeyIx, (s.beginLearnKey k).key j = if j = k then (s.key k).learnBegun else s.key j) ∧
    ((s.key k).state = .rest → (s.beginLearnKey k).rail.quiet =
      { notAtRest := s.rail.quiet.notAtRest + 1, start := none, quiet := false }) ∧
    ((s.key k).state ≠ .rest → (s.beginLearnKey k).rail.quiet = s.rail.quiet) ∧ BeginFrame s (s.beginLearnKey k) := by
  unfold State.beginLearnKey Tracker.learnBegun
  split
  next hst =>
    have hleft := (s.setKey k (s.key k).intoLearn).keyLeft_frame
    refine ⟨fun j => ?_, fun _ => State.endQuiet_quiet _ _, fun hne => absurd hst hne,
      BeginFrame.trans (b := s.setKey k (s.key k).intoLearn) rfl hleft.begun⟩
    unfold RailFrame at hleft
    rw [hleft, if_pos hst]
    exact State.key_setKey _ _ _ _
  next hne =>
    refine ⟨fun j => ?_, fun hst => absurd hst hne, fun _ => rfl, rfl⟩
    rw [if_neg (c := (s.key k).state = .rest) (by exact hne)]
    exact State.key_setKey _ _ _ _

/-- The keys of a range, one after another. -/
theorem State.beginLearnKeys_tell (ks : List KeyIx) : ∀ s : State, ks.Nodup →
    (∀ j : KeyIx, (ks.foldl (fun x k => x.beginLearnKey k) s).key j = if j ∈ ks then (s.key j).learnBegun else s.key j) ∧
    (∀ n : Nat, s.rail.quiet = { notAtRest := n, start := none, quiet := false } →
      (ks.foldl (fun x k => x.beginLearnKey k) s).rail.quiet =
        { notAtRest := n + (ks.filter (fun k => (s.key k).state == .rest)).length, start := none, quiet := false }) ∧
    BeginFrame s (ks.foldl (fun x k => x.beginLearnKey k) s) := by
  induction ks with
  | nil => exact fun s _ => ⟨fun j => (if_neg List.not_mem_nil).symm, fun n h => h, rfl⟩
  | cons k ks ih =>
    intro s hnodup
    obtain ⟨hk, hks⟩ := List.nodup_cons.mp hnodup
    obtain ⟨hkey, hrest, hother, hframe⟩ := s.beginLearnKey_tells k
    obtain ⟨ihkey, ihquiet, ihframe⟩ := ih (s.beginLearnKey k) hks
    have hsame (j : KeyIx) (hj : j ∈ ks) : (s.beginLearnKey k).key j = s.key j :=
      (hkey j).trans (if_neg fun h : j = k => hk (h ▸ hj))
    refine ⟨fun j => ?_, fun n hn => ?_, hframe.trans ihframe⟩
    · refine (ihkey j).trans ?_
      by_cases hj : j ∈ ks
      · rw [if_pos hj, hsame j hj, if_pos (List.mem_cons_of_mem k hj)]
      · rw [if_neg hj, hkey]
        by_cases hjk : j = k
        · rw [if_pos hjk, hjk, if_pos List.mem_cons_self]
        · rw [if_neg hjk, if_neg (by rw [List.mem_cons]; exact not_or.mpr ⟨hjk, hj⟩)]
    · have hfilter : ks.filter (fun k' => ((s.beginLearnKey k).key k').state == .rest) =
          ks.filter (fun k' => (s.key k').state == .rest) := List.filter_congr fun j hj => by rw [hsame j hj]
      by_cases hst : (s.key k).state = .rest
      · have hquiet := ihquiet (n + 1) ((hrest hst).trans (by rw [hn]))
        rw [hfilter] at hquiet
        rw [List.filter_cons_of_pos (by rw [hst]; rfl), List.length_cons]
        refine hquiet.trans ?_
        rw [Nat.add_assoc, Nat.add_comm 1]
      · have hquiet := ihquiet n ((hother hst).trans hn)
        rw [hfilter] at hquiet
        rw [List.filter_cons_of_neg (by rw [beq_iff_eq]; exact hst)]
        exact hquiet

theorem mem_keysFrom {lo hi : Nat} {k : KeyIx} : k ∈ keysFrom lo hi ↔ lo ≤ k.val ∧ k.val ≤ hi := by
  simp [keysFrom]

theorem keysFrom_nodup (lo hi : Nat) : (keysFrom lo hi).Nodup := (List.nodup_finRange 88).filter _

theorem keysFrom_length (lo hi : KeyIx) : (keysFrom lo.val hi.val).length = hi.val + 1 - lo.val := by
  have hset : (keysFrom lo.val hi.val).toFinset = Finset.Icc lo hi := by
    ext k
    rw [List.mem_toFinset, mem_keysFrom, Finset.mem_Icc]
    rfl
  rw [← List.toFinset_card_of_nodup (keysFrom_nodup _ _), hset, Fin.card_Icc]

/-- LEARN_BEGIN's effect (R26). -/
theorem State.beginLearn_begins (s : State) (lo hi : Nat) (l : Link) :
    (s.beginLearn lo hi l).learn = some { lo := lo, hi := hi, link := l } ∧
    (∀ k : KeyIx, (s.beginLearn lo hi l).key k = if k ∈ keysFrom lo hi then (s.key k).learnBegun else s.key k) ∧
    (s.beginLearn lo hi l).rail.quiet =
      { notAtRest := s.rail.quiet.notAtRest + s.restIn lo hi, start := none, quiet := false } ∧
    BeginFrame { s with learn := some { lo := lo, hi := hi, link := l } } (s.beginLearn lo hi l) := by
  have hwithheld := State.endQuiet_frame { s with learn := some { lo := lo, hi := hi, link := l } } s.rail.quiet.notAtRest
  have hquiet := State.endQuiet_quiet { s with learn := some { lo := lo, hi := hi, link := l } } s.rail.quiet.notAtRest
  obtain ⟨hkey, hcount, hframe⟩ := State.beginLearnKeys_tell (keysFrom lo hi)
    (State.withholdQuiet { s with learn := some { lo := lo, hi := hi, link := l } }) (keysFrom_nodup lo hi)
  have hkeys (k : KeyIx) :
      (State.withholdQuiet { s with learn := some { lo := lo, hi := hi, link := l } }).key k = s.key k := by
    unfold State.key State.withholdQuiet
    rw [hwithheld]
  have hwhole : BeginFrame { s with learn := some { lo := lo, hi := hi, link := l } } (s.beginLearn lo hi l) :=
    hwithheld.begun.trans hframe
  refine ⟨?_, fun k => (hkey k).trans (by rw [hkeys]), (hcount _ hquiet).trans ?_, hwhole⟩
  · unfold BeginFrame at hwhole
    rw [hwhole]
  · unfold State.restIn
    simp only [hkeys]

end Begin

/-! ### LEARN_END, key by key -/

section Ends

variable {s : State} {k : KeyIx}

/-- Two states agree about one key. -/
def KeySame (k : KeyIx) (a b : State) : Prop :=
  a.key k = b.key k ∧ a.keyCal k = b.keyCal k ∧ a.cal.origins[k] = b.cal.origins[k]

theorem KeySame.trans {a b c : State} (h : KeySame k a b) (g : KeySame k b c) : KeySame k a c :=
  ⟨h.1.trans g.1, h.2.1.trans g.2.1, h.2.2.trans g.2.2⟩

/-- The depths a key has learned, judged (R28): what they leave of its calibration. -/
theorem State.learnTaken_calibration (s : State) (k : KeyIx) (m : Option (Nat × Nat)) :
    (s.learnTaken k m).keys = s.keys ∧
    (∀ lo hi : Nat, m = some (lo, hi) → lo + 200 ≤ hi →
      (s.learnTaken k m).keyCal k = { s.keyCal k with r := lo, b := hi } ∧ (s.learnTaken k m).cal.origins[k] = .learned) ∧
    (learnAccepted m = false →
      (s.learnTaken k m).keyCal k = s.keyCal k ∧ (s.learnTaken k m).cal.origins[k] = s.cal.origins[k]) := by
  cases m with
  | none => exact ⟨rfl, nofun, fun _ => ⟨rfl, rfl⟩⟩
  | some seen =>
    obtain ⟨a, b⟩ := seen
    by_cases h : a + 200 ≤ b
    · have htaken : s.learnTaken k (some (a, b)) =
          (s.setKeyCal k { s.keyCal k with r := a, b := b } .learned).calChanged := if_pos h
      rw [htaken]
      refine ⟨rfl, fun lo hi heq _ => ?_, fun hno => absurd h (of_decide_eq_false hno)⟩
      cases heq
      refine ⟨?_, ?_⟩
      · show (tablePut s.cal.keys k _)[k] = _
        rw [tablePut_get, if_pos rfl]
      · show (tablePut s.cal.origins k Origin.learned)[k] = _
        rw [tablePut_get, if_pos rfl]
    · have htaken : s.learnTaken k (some (a, b)) = s := if_neg h
      rw [htaken]
      refine ⟨rfl, fun lo hi heq hwide => ?_, fun _ => ⟨rfl, rfl⟩⟩
      cases heq
      exact absurd hwide h

/-- A key out of LEARN at its end: it keeps its place and its calibration, and waits no longer. -/
theorem State.endLearnKey_other (h : ∀ m, (s.key k).state ≠ .learn m) :
    (s.endLearnKey k).key k = { s.key k with learnWaiting := false } ∧ (s.endLearnKey k).keyCal k = s.keyCal k := by
  rcases s.endLearnKey_cases k with ⟨m, hst, -⟩ | ⟨-, heq⟩
  · exact absurd hst (h m)
  · rw [heq, State.key_setKey, if_pos rfl]
    exact ⟨rfl, rfl⟩

/-- A key in LEARN at its end (R25, R28). -/
theorem State.endLearnKey_learn {m : Option (Nat × Nat)} (h : (s.key k).state = .learn m) :
    ((s.key k).pendingCal = none →
      (s.endLearnKey k).key k = { s.key k with state := .rest, last := none, learnWaiting := false } ∧
      (s.endLearnKey k).keyCal k = (s.learnTaken k m).keyCal k ∧
      (s.endLearnKey k).cal.origins[k] = (s.learnTaken k m).cal.origins[k]) ∧
    (∀ c : KeyCal, (s.key k).pendingCal = some c → (s.endLearnKey k).keyCal k = c ∧
      ((s.endLearnKey k).key k).state = .rest ∧ ((s.endLearnKey k).key k).pendingCal = none) := by
  rcases s.endLearnKey_cases k with ⟨m', hst, heq⟩ | ⟨hno, -⟩
  · cases h.symm.trans hst
    obtain ⟨hkeys, -, -⟩ := s.learnTaken_calibration k m
    rw [heq]
    unfold State.leaveLearn
    have hkey : ((s.learnTaken k m).setKey k { (s.learnTaken k m).key k with
        state := .rest, last := none, learnWaiting := false }).key k =
        { s.key k with state := .rest, last := none, learnWaiting := false } := by
      rw [State.key_setKey, if_pos rfl, State.key, hkeys]
      rfl
    have hcal : ((s.learnTaken k m).setKey k { (s.learnTaken k m).key k with
        state := .rest, last := none, learnWaiting := false }).cal = (s.learnTaken k m).cal := rfl
    generalize (s.learnTaken k m).setKey k { (s.learnTaken k m).key k with
      state := .rest, last := none, learnWaiting := false } = a at hkey hcal
    refine ⟨fun hp => ?_, fun c hp => ?_⟩
    · rw [State.applyPending_of_none (by rw [hkey]; exact hp)]
      refine ⟨hkey, ?_, ?_⟩
      · exact congrArg (fun w : WorkingCopy => w.keys[k]) hcal
      · exact congrArg (fun w : WorkingCopy => w.origins[k]) hcal
    · obtain ⟨hcopy, -⟩ := State.applyPending_of_some (s := a) (by rw [hkey]; exact hp)
      obtain ⟨last, happlied⟩ := a.applyPending_key k
      rw [hkey] at happlied
      exact ⟨hcopy, congrArg Tracker.state happlied, congrArg Tracker.pendingCal happlied⟩
  · exact absurd h (hno m)

theorem State.endLearnKey_others (s : State) (k : KeyIx) : OthersKept k s (s.endLearnKey k) := by
  rcases s.endLearnKey_cases k with ⟨m, -, heq⟩ | ⟨-, heq⟩ <;> rw [heq]
  · have htaken : OthersKept k s (s.learnTaken k m) := by
      unfold State.learnTaken
      split
      · split
        · exact (s.setKeyCal_others _ _).trans (.of_eq rfl rfl)
        · exact .refl s
      · exact .refl s
    exact ((htaken.trans (State.setKey_others _ _)).trans (State.applyPending_others _)).trans (.of_eq rfl rfl)
  · exact s.setKey_others _

/-- At the end of a learn each key is judged once, as it stood. -/
theorem State.endLearnKeys_judge (ks : List KeyIx) (k : KeyIx) : ∀ s : State, ks.Nodup →
    (k ∉ ks → KeySame k (ks.foldl (fun x j => x.endLearnKey j) s) s) ∧
    (k ∈ ks → ∃ a : State, KeySame k a s ∧ KeySame k (ks.foldl (fun x j => x.endLearnKey j) s) (a.endLearnKey k)) := by
  induction ks with
  | nil => exact fun s _ => ⟨fun _ => ⟨rfl, rfl, rfl⟩, fun h => absurd h List.not_mem_nil⟩
  | cons j ks ih =>
    intro s hnodup
    obtain ⟨hj, hks⟩ := List.nodup_cons.mp hnodup
    obtain ⟨hout, hin⟩ := ih (s.endLearnKey j) hks
    have hkept (h : k ≠ j) : KeySame k (s.endLearnKey j) s := s.endLearnKey_others j k h
    refine ⟨fun hnot => ?_, fun hmem => ?_⟩
    · obtain ⟨hne, hk⟩ := not_or.mp (mt List.mem_cons.mpr hnot)
      exact (hout hk).trans (hkept hne)
    · rcases List.mem_cons.mp hmem with rfl | hk
      · exact ⟨s, ⟨rfl, rfl, rfl⟩, hout hj⟩
      · obtain ⟨a, ha, hend⟩ := hin hk
        exact ⟨a, ha.trans (hkept fun h => hj (h ▸ hk)), hend⟩

end Ends

/-! ### The two requests -/

theorem ruleLearnBegin_begins {s : State} {l : Link} {lo hi : KeyIx} (phase : s.heldOrRunning = true) (seat : s.seat = some l)
    (commit : s.commit = none) (learn : s.learn = none) (h : lo.val ≤ hi.val) :
    ruleLearnBegin l [byteOf lo.val, byteOf hi.val] s = (s.beginLearn lo.val hi.val l,
      .ok (u1 (s.restIn lo.val hi.val) ++ u1 (hi.val + 1 - lo.val - s.restIn lo.val hi.val))) := by
  have hlo : byteAt [byteOf lo.val, byteOf hi.val] 0 = lo.val := byteAt_byteOf _ (by omega) _
  have hhi : byteAt [byteOf lo.val, byteOf hi.val] 1 = hi.val := byteAt_byteOf hi.val (by omega) []
  have hpass : firstFailing [s.beforeHeld, s.noSeat l, lengthNot [byteOf lo.val, byteOf hi.val] 2,
      (decide (87 < hi.val) || decide (hi.val < lo.val), .badValue), (s.learn.isSome || s.commit.isSome, .busy)] = none := by
    have hrange : (decide (87 < hi.val) || decide (hi.val < lo.val)) = false := by
      rw [Bool.or_eq_false_iff, decide_eq_false_iff_not, decide_eq_false_iff_not]
      omega
    rw [firstFailing_eq_none]
    simp [State.beforeHeld, State.noSeat, State.holds, lengthNot, phase, seat, commit, learn]
    omega
  unfold ruleLearnBegin
  simp only [hlo, hhi]
  rw [State.checked_passed _ hpass, keysFrom_length]

theorem ruleLearnEnd_checks (s : State) (l : Link) (phase : s.heldOrRunning = true) (seat : s.seat = some l)
    (commit : s.commit = none) :
    ruleLearnEnd l [] s = if s.learn.isNone then (s, .no .wrongState)
      else (s.endLearn, .ok (u1 s.learnAcceptedCount ++ u1 s.learnRejectedCount)) := by
  unfold ruleLearnEnd State.beforeHeld State.noSeat State.holds State.commitBusy lengthNot
  rw [phase, seat, commit]
  cases hl : s.learn.isNone
  · exact State.checked_passed _ (by simp [firstFailing_cons])
  · exact State.checked_refused _ (by simp [firstFailing_cons])

/-- LEARN_END's effect on a key, of the state before it: each is judged once. -/
theorem State.endLearn_judges (s : State) (k : KeyIx) :
    ∃ a : State, KeySame k a s ∧ KeySame k s.endLearn (a.endLearnKey k) := by
  obtain ⟨a, ha, hend⟩ := (State.endLearnKeys_judge (List.finRange 88) k { s with learn := none } (List.nodup_finRange 88)).2
    (List.mem_finRange k)
  refine ⟨a, ha, KeySame.trans ?_ hend⟩
  unfold State.endLearn State.quietAfterLearn
  generalize (List.finRange 88).foldl (fun x k => x.endLearnKey k) { s with learn := none } = b
  simp only []
  split <;> exact ⟨rfl, rfl, rfl⟩

/-- Settles O15: LEARN_BEGIN and LEARN_END, each key of the range taken once. -/
theorem learnBeginsAndEnds : Obligations.LearnBeginsAndEnds := by
  intro t l s h
  refine ⟨fun phase seat commit => ⟨fun lo hi hle learn => ?begin, fun x learn => ?ends, fun learn => ?idle⟩,
    fun p hp => ⟨_, _, State.request_outcome h hp (rule := ruleLearnBegin l p) rfl⟩,
    fun p hp => ⟨_, _, State.request_outcome h hp (rule := ruleLearnEnd l p) rfl⟩⟩
  case begin =>
    obtain ⟨hlearn, hkey, hquiet, hframe⟩ := (s.stamp t).beginLearn_begins lo.val hi.val l
    have hexec : exec (.learnBegin t l [byteOf lo.val, byteOf hi.val]) s = _ :=
      State.request_replied (p := [byteOf lo.val, byteOf hi.val]) h (by simp)
        (ruleLearnBegin_begins (s := s.stamp t) phase seat commit learn hle)
    refine ⟨_, hexec, hlearn, fun k => ?_, hquiet, ?_⟩
    · rw [hkey]
      by_cases hk : k.val < lo.val ∨ hi.val < k.val
      · rw [if_pos hk, if_neg (by rw [mem_keysFrom]; omega)]
        rfl
      · rw [if_neg hk, if_pos (by rw [mem_keysFrom]; omega)]
        rfl
    · unfold BeginFrame at hframe
      rw [hlearn]
      exact hframe
  case ends =>
    have hrule := ruleLearnEnd_checks (s.stamp t) l phase seat commit
    rw [show (s.stamp t).learn = some x from learn, if_neg (by simp)] at hrule
    have hexec : exec (.learnEnd t l []) s = _ := State.request_replied (p := []) h (by simp) hrule
    obtain ⟨s1, ⟨hframe, -⟩, hend⟩ := (s.stamp t).endLearn_eq
    have hkept : s1.journal = s.journal ∧ s1.now = t ∧ ∀ j : Link, s1.link j = s.link j := by
      rw [hframe]
      exact ⟨rfl, rfl, fun _ => rfl⟩
    obtain ⟨hjournal, hnow, hlinks⟩ := hkept
    refine ⟨_, hexec, State.endLearn_learn _, fun k m hm hp => ?_, fun k m c hm hp => ?_, fun k hk => ?_, ?_, fun j => ?_⟩
    · obtain ⟨a, ⟨hakey, hacal, haorigin⟩, hkey, hcal, horigin⟩ := (s.stamp t).endLearn_judges k
      obtain ⟨hrest, -⟩ := State.endLearnKey_learn (s := a) (k := k) (m := m) (by rw [hakey]; exact hm)
      obtain ⟨hrkey, hrcal, hrorigin⟩ := hrest (by rw [hakey]; exact hp)
      obtain ⟨-, htaken, hrejected⟩ := a.learnTaken_calibration k m
      rw [hkey, hcal, horigin, hrkey, hrcal, hrorigin, hakey]
      rw [hacal] at htaken
      rw [hacal, haorigin] at hrejected
      exact ⟨rfl, htaken, hrejected⟩
    · obtain ⟨a, ⟨hakey, -, -⟩, hkey, hcal, -⟩ := (s.stamp t).endLearn_judges k
      obtain ⟨-, hpending⟩ := State.endLearnKey_learn (s := a) (k := k) (m := m) (by rw [hakey]; exact hm)
      rw [hkey, hcal]
      exact hpending c (by rw [hakey]; exact hp)
    · obtain ⟨a, ⟨hakey, hacal, -⟩, hkey, hcal, -⟩ := (s.stamp t).endLearn_judges k
      obtain ⟨hokey, hocal⟩ := State.endLearnKey_other (s := a) (k := k) (by rw [hakey]; exact hk)
      rw [hkey, hcal, hokey, hocal, hakey, hacal]
      exact ⟨rfl, rfl⟩
    · rw [hend, State.report_ring, hnow]
      exact List.getLast?_concat
    · refine Classical.or_iff_not_imp_right.mpr fun hroom => ?_
      rw [hend, State.report_latched_of_room (by rw [hjournal]; exact Nat.lt_of_not_le hroom), hlinks]
  case idle =>
    have hrule := ruleLearnEnd_checks (s.stamp t) l phase seat commit
    rw [show (s.stamp t).learn = none from learn] at hrule
    exact State.request_denied (p := []) h (by simp) hrule

end Sys2Proof.Machine
end

section
/-! The choice of a voice and the envelope step (R93 to R98, R104, R105): O27. -/

namespace Sys2Proof.Machine

-- One declaration after another: side by side they open more threads than the check's memory limit holds.
set_option Elab.async false

/-! ### The steal order in its classes (R95) -/

/-- The class of a voice in the steal order (R95). -/
def stealClass (v : Voice) : Nat :=
  match v.state, v.held with
  | .damping, _ => 1
  | .releasing, _ => 2
  | .sounding, false => 3
  | .sounding, true => 4

/-- Of two voices, the one stolen first by its class and, within it, by its envelope or its age (R95). -/
def stolenFirst (now : Time) (i : VoiceIx) (v : Voice) (j : VoiceIx) (u : Voice) : Prop :=
  stealClass v < stealClass u ∨ stealClass v = stealClass u ∧
    (if stealClass v = 4 then (now - u.start).toNat < (now - v.start).toNat ∨
      (now - u.start).toNat = (now - v.start).toNat ∧ i.val < j.val
    else v.env < u.env ∨ v.env = u.env ∧ i.val < j.val)

theorem stealRank_eq (now : Time) (v : Voice) : stealClass v ≤ 4 ∧ stealRank now v = stealClass v * 8589934592 +
    (if stealClass v = 4 then 4294967296 - (now - v.start).toNat else v.env) := by
  unfold stealRank stealClass
  cases v.state with
  | damping => exact ⟨Nat.le_of_ble_eq_true rfl, rfl⟩
  | releasing => exact ⟨Nat.le_of_ble_eq_true rfl, rfl⟩
  | sounding => cases v.held <;> exact ⟨by decide, rfl⟩

/-- The order of the ranks is the order of the classes, while the envelopes keep their bound. -/
theorem stolenBefore_iff {now : Time} {i j : VoiceIx} {v u : Voice} (hv : v.env ≤ 32767) (hu : u.env ≤ 32767) :
    stolenBefore now i v j u ↔ stolenFirst now i v j u := by
  obtain ⟨hv1, hrankv⟩ := stealRank_eq now v
  obtain ⟨hu1, hranku⟩ := stealRank_eq now u
  have hagev := (now - v.start).isLt
  have hageu := (now - u.start).isLt
  unfold stolenBefore stolenFirst
  rw [hrankv, hranku]
  clear hrankv hranku
  generalize stealClass v = a at hv1 ⊢
  generalize stealClass u = b at hu1 ⊢
  generalize (now - v.start).toNat = p at hagev ⊢
  generalize (now - u.start).toNat = q at hageu ⊢
  by_cases ha : a = 4 <;> by_cases hb : b = 4 <;> simp only [ha, hb, if_true, if_false, true_and, false_and] <;> omega

/-! ### The voice a note-on takes (R95) -/

section Choice
variable {s : State}

theorem State.freeVoice_some {i : VoiceIx} (h : s.freeVoice = some i) :
    s.voice i = none ∧ ∀ j : VoiceIx, s.voice j = none → i.val ≤ j.val := by
  unfold State.freeVoice at h
  obtain ⟨hfree, n, hn, heq, hbefore⟩ := List.find?_eq_some_iff_getElem.mp h
  have hi : i.val = n := by rw [← heq, List.getElem_finRange]; rfl
  refine ⟨Option.isNone_iff_eq_none.mp hfree, fun j hj => ?_⟩
  by_contra hlt
  have hno := hbefore j.val (by omega)
  rw [List.getElem_finRange] at hno
  change (!(s.voice j).isNone) = true at hno
  rw [hj] at hno
  cases hno

/-- The FREE voice of lowest index, or else the first of the steal order. -/
theorem State.chooseVoice_first (s : State) :
    ((∃ j : VoiceIx, s.voice j = none) →
      s.voice s.chooseVoice = none ∧ ∀ j : VoiceIx, s.voice j = none → s.chooseVoice.val ≤ j.val) ∧
    (∀ v : Voice, s.voice s.chooseVoice = some v → ∀ (j : VoiceIx) (u : Voice), j ≠ s.chooseVoice → s.voice j = some u →
      stolenBefore s.now s.chooseVoice v j u) := by
  cases hfree : s.freeVoice with
  | some i =>
    have hchoice : s.chooseVoice = i := by
      unfold State.chooseVoice
      rw [hfree]
    obtain ⟨hnone, hlow⟩ := State.freeVoice_some hfree
    rw [hchoice]
    exact ⟨fun _ => ⟨hnone, hlow⟩, fun v hv => by cases hnone.symm.trans hv⟩
  | none =>
    have hchoice : s.chooseVoice = (s.stealVictim none).getD 0 := by
      unfold State.chooseVoice
      rw [hfree]
    have hused (j : VoiceIx) : s.voice j ≠ none := fun hj => by
      have hno := List.find?_eq_none.mp hfree j (List.mem_finRange j)
      rw [hj] at hno
      exact hno rfl
    refine ⟨fun ⟨j, hj⟩ => absurd hj (hused j), ?_⟩
    rcases s.stealVictim_first none with ⟨-, hall⟩ | ⟨i, v, hsome, hother, hfirst⟩
    · obtain ⟨v, hv⟩ := Option.ne_none_iff_exists'.mp (hused 0)
      exact absurd ⟨hv, nofun⟩ (hall 0 v)
    · rw [hchoice, hsome, Option.getD_some]
      intro w hw j u hj hu
      cases hother.1.symm.trans hw
      exact hfirst j u ⟨hu, nofun⟩ hj

end Choice

/-! ### The envelope step (R104, R105) -/

theorem stepEnvelope_eq (e r : Nat) :
    (max 0 ((e : Int) - Int.fdiv ((e : Int) * r) 65536 - 1)).toNat = stepEnvelope e r := by
  have hdiv : Int.fdiv ((e : Int) * r) 65536 = ((e * r / 65536 : Nat) : Int) := by
    rw [Int.fdiv_eq_ediv_of_nonneg _ (by decide)]
    norm_cast
  rw [hdiv]
  unfold stepEnvelope
  omega

theorem stringRate_mem (k : KeyIx) : 2 ≤ stringRate k ∧ stringRate k ≤ 32 := by
  unfold stringRate
  omega

/-- Voice by voice an envelope step keeps FREE free, and so the counts and the costs only fall. -/
theorem State.voicesUsed_le {s s' : State} (h : ∀ i : VoiceIx, s.voice i = none → s'.voice i = none) :
    s'.voicesUsed ≤ s.voicesUsed := by
  rw [State.voicesUsed_eq, State.voicesUsed_eq]
  refine List.Sublist.length_le (List.monotone_filter_right _ fun i hi => ?_)
  rw [Option.isSome_iff_ne_none] at hi ⊢
  exact fun hnone => hi (h i hnone)

/-- Settles O27: the note-on by the order of stealing and what shedding leaves, the envelope step voice by voice. -/
theorem voicesAreChosenAndDecay : Obligations.VoicesAreChosenAndDecay := by
  refine ⟨fun s src k level law => ?_, fun t s => ?_⟩
  · intro d s' age cls before
    have hbefore {i j : VoiceIx} {v u : Voice} (hv : d.voice i = some v) (hu : d.voice j = some u) :
        stolenBefore s.now i v j u ↔ before i v j u := by
      have hlaw : VoiceLaw d := law.eased (s.dampKey_eased _ _)
      exact stolenBefore_iff (hlaw.2.1 i v hv).2.2.2 (hlaw.2.1 j u hu).2.2.2
    refine ⟨fun i => ?_, fun hno => State.noteOn_unserved hno, fun w win hfind => ?_⟩
    · refine (s.dampKey_voice src.group k i).trans ?_
      cases hv : s.voice i with
      | none => rfl
      | some v =>
        obtain ⟨-, hheld, -⟩ := law.2.1 i v hv
        refine congrArg some ?_
        simp only []
        by_cases hk : v.source.group = src.group ∧ v.key = k
        · rw [if_pos hk]
          by_cases hst : v.state = .damping
          · have hnot : v.held = false := by
              cases hh : v.held
              · rfl
              · cases hst.symm.trans (hheld hh)
            rw [if_neg (fun h => h.2.2 hst), ← hst, ← hnot]
          · rw [if_pos ⟨hk.1, hk.2, hst⟩]
            rfl
        · rw [if_neg hk, if_neg (fun h => hk ⟨h.1, h.2.1⟩)]
    · have hcost : win.cost ≤ Config.budget := by
        have hlawful := law.1 win (List.mem_of_getElem? (findWindow_some hfind).1)
        exact hlawful.2.2.2.2.1.trans (by decide)
      obtain ⟨s1, hshed, hframe, heq⟩ := State.noteOn_shed (src := src) hcost hfind
      obtain ⟨hfree, hsteal⟩ := d.chooseVoice_first
      change d.ShedTo d.chooseVoice win.cost s1 at hshed
      change s.noteOn src k level = (s1.setVoice d.chooseVoice (some (startedVoice src k level w win.cost s.now)),
        some d.chooseVoice) at heq
      have hs' : s' = s1.setVoice d.chooseVoice (some (startedVoice src k level w win.cost s.now)) := congrArg Prod.fst heq
      have hchosen : (s.noteOn src k level).2 = some d.chooseVoice := congrArg Prod.snd heq
      have hother (j : VoiceIx) (hj : j ≠ d.chooseVoice) : s'.voice j = s1.voice j := by
        rw [hs', State.voice_setVoice, if_neg hj]
      have hsum : s'.costSum = s1.costBut d.chooseVoice + win.cost := by rw [hs', State.costSum_setVoice]; rfl
      clear_value s'
      generalize d.chooseVoice = i at *
      refine ⟨i, hchosen, ?_, ?_, hfree, fun v hv j u hj hu => (hbefore hv hu).mp (hsteal v hv j u hj hu), fun j hj => ?_,
        fun a b v u ha hb hva hub hfa hfb => ?_, ?_, fun b u hb hub hfb hall => ?_⟩
      · rw [hs', State.voice_setVoice, if_pos rfl]
        rfl
      · unfold VoiceFrame at hframe
        rw [hs', hframe]
        rfl
      · rw [hother j hj]
        exact (hshed.kept j).imp id And.right
      · rw [hother a ha] at hfa
        rw [hother b hb] at hfb
        exact (hbefore hva hub).mp (hshed.order a b v u ha hb hva hub hfa hfb)
      · rw [hsum]
        exact hshed.budget
      · rw [hother b hb] at hfb
        rw [hsum]
        refine hshed.least b u hb hub hfb fun a v ha hab hva hfa => ?_
        exact (hbefore hva hub).mpr (hall a v ha hab hva ((hother a ha).trans hfa))
  · have hvoice (i : VoiceIx) : State.voice { s with now := t, voices := tableMap (stepVoice s.damper) s.voices } i =
        stepVoice s.damper (s.voice i) := tableMap_get _ _ _
    have hfree (i : VoiceIx) (hi : s.voice i = none) :
        State.voice { s with now := t, voices := tableMap (stepVoice s.damper) s.voices } i = none := by rw [hvoice, hi]; rfl
    refine ⟨{ s with now := t, voices := tableMap (stepVoice s.damper) s.voices }, rfl, rfl, hfree, fun i v hv => ?_,
      State.voicesUsed_le hfree, State.costSum_le fun i => ?_⟩
    · rw [hvoice, hv]
      intro string b d rate e
      have hrate : rate = envelopeRate v d := by
        unfold envelopeRate
        cases hst : v.state with
        | sounding => simp only [rate, hst]; rfl
        | damping => simp only [rate, hst]
        | releasing =>
          simp only [rate, hst]
          by_cases hd : d ≤ 99
          · rw [if_pos hd, if_pos (show d < Config.damperHolds from Nat.lt_succ_of_le hd)]
            rfl
          · rw [if_neg hd, if_neg (show ¬ d < Config.damperHolds from fun h => hd (Nat.le_of_lt_succ h))]
            rfl
      have he : e = stepEnvelope v.env (envelopeRate v d) := by
        rw [← hrate]
        exact stepEnvelope_eq _ _
      have hle : e ≤ v.env - 1 := he ▸ stepEnvelope_le _ _
      have hstep : stepVoice s.damper (some v) = if e = 0 then none else some { v with env := e } := by rw [he]; rfl
      rw [hstep]
      exact ⟨fun h0 => if_pos h0, fun h0 => if_neg h0, fun h1 => by omega, stringRate_mem v.key⟩
    · rw [hvoice]
      cases s.voice i with
      | none => exact le_rfl
      | some v =>
        rcases stepVoice_some s.damper v with hnone | ⟨e, -, -, hsome⟩
        · rw [hnone]
          exact Nat.zero_le _
        · rw [hsome]
          exact le_rfl

end Sys2Proof.Machine
end

section
/-! An output frame (R114, R116 to R118): O30. -/

namespace Sys2Proof.Machine

-- One declaration after another: side by side they open more threads than the check's memory limit holds.
set_option Elab.async false

section Frame
variable {s : State}

/-! ### The sum of the voices (R117) -/

/-- What a voice adds to a channel (R114, R116). -/
def State.voicePart (s : State) (channel : Nat) (v : Option Voice) : Int :=
  match v with
  | none => 0
  | some v =>
    match s.windows[v.window]? with
    | none => 0
    | some w => Int.fdiv
      ((Memory.read s.sampleMem (w.base + (v.key.val - w.keyLo) * w.stride + v.position + channel)).toInt *
        (v.level * v.level * 32767 / 16129 * v.env / 32768 : Nat)) 32768

/-- Where a voice has the address of its word pair, the pair's contributions are what it adds. -/
theorem State.voicePart_of_words {v : Voice} {x : Int × Int} (h : s.voiceWords v = some x) :
    contribution x.1 v.gain = s.voicePart 0 (some v) ∧ contribution x.2 v.gain = s.voicePart 1 (some v) := by
  unfold State.voiceWords at h
  unfold State.voicePart
  cases hw : s.windows[v.window]? with
  | none => rw [hw] at h; cases h
  | some w =>
    rw [hw] at h
    simp only [] at h
    split at h
    · cases h
      simp only [hw]
      exact ⟨rfl, rfl⟩
    · cases h

/-- The sum of lawful voices is the sum of what each adds. -/
theorem VoiceLaw.voiceSum_eq (h : VoiceLaw s) : s.voiceSum = some
    (((List.finRange 48).map (fun i => s.voicePart 0 (s.voice i))).sum,
      ((List.finRange 48).map (fun i => s.voicePart 1 (s.voice i))).sum) := by
  obtain ⟨hwindows, hvoices, -⟩ := h
  have hfold (l : List VoiceIx) : ∀ a b : Int, (l.map fun i => s.voice i).foldl
      (fun acc v =>
        match acc, v with
        | some (l, r), some x =>
          (s.voiceWords x).map (fun w => (l + contribution w.1 x.gain, r + contribution w.2 x.gain))
        | acc, _ => acc)
      (some (a, b)) =
      some (a + (l.map fun i => s.voicePart 0 (s.voice i)).sum, b + (l.map fun i => s.voicePart 1 (s.voice i)).sum) := by
    induction l with
    | nil => exact fun a b => by simp
    | cons i l ih =>
      intro a b
      rw [List.map_cons, List.foldl_cons]
      cases hv : s.voice i with
      | none =>
        refine (ih a b).trans ?_
        simp [hv, State.voicePart]
      | some v =>
        obtain ⟨x, hx⟩ := (hvoices i v hv).words hwindows
        obtain ⟨hleft, hright⟩ := State.voicePart_of_words hx
        simp only [hx, Option.map_some]
        refine (ih _ _).trans ?_
        rw [hleft, hright]
        simp only [List.map_cons, List.sum_cons, hv]
        rw [add_assoc, add_assoc]
  have hall := hfold (List.finRange 48) 0 0
  rw [Int.zero_add, Int.zero_add] at hall
  refine Eq.trans ?_ hall
  unfold State.voiceSum
  rw [toList_eq_map]
  rfl

/-! ### The mix and the jacks (R117, R118) -/

/-- What a jack with gain 0 plays. -/
theorem Jack.plays_of_silent {j : Jack} (h : j.gain = 0) (m : Stereo) : j.plays m = ({ left := 0, right := 0 }, false) := by
  have hscaled (x : Int) : scaled x 0 = 0 := by simp [scaled, floorDiv]
  unfold Jack.plays
  rw [h, hscaled, hscaled]
  rfl

/-- What a frame leaves of a jack: its samples and its clip latch. -/
theorem State.frame_jack (s : State) (sum : Int × Int) (j : JackIx) :
    (s.frame sum).output.get j = ((s.jack j).plays (s.mix sum)).1 ∧
    (s.frame sum).jack j = { s.jack j with clip := (s.jack j).clip || ((s.jack j).plays (s.mix sum)).2 } := by
  cases j <;> exact ⟨rfl, rfl⟩

/-- A voice's position after a frame, where it stands in its window's sample (R106, R114). -/
theorem advanceVoice_some {ws : List Window} {v : Voice} {w : Window} (hw : ws[v.window]? = some w) (even : v.position % 2 = 0)
    (within : v.position < w.length) (length : w.length % 2 = 0) : advanceVoice ws (some v) =
      if v.position + 2 < w.length then some { v with position := v.position + 2 }
      else w.loop.map (fun o => { v with position := o }) := by
  unfold advanceVoice
  simp only [hw]
  by_cases hend : v.position + 2 = w.length
  · rw [if_pos hend, if_neg (by omega)]
  · rw [if_neg hend, if_pos (by omega)]

end Frame

/-- Settles O30: the sum is what each lawful voice adds; each jack plays the mix at its gain. -/
theorem outputFrames : Obligations.OutputFrames := by
  intro t s law part click mix raw out
  have hsum := VoiceLaw.voiceSum_eq (s := s.stamp t) law
  have hclick : (s.stamp t).clickValue = click := by
    change (match s.click with
      | some c => c.value
      | none => 0) = click
    simp only [click]
    cases s.click <;> rfl
  have hpart (i : VoiceIx) (channel : Nat) : (s.stamp t).voicePart channel ((s.stamp t).voice i) = part i channel := by
    change (s.stamp t).voicePart channel (s.voice i) = part i channel
    simp only [part]
    cases hv : s.voice i with
    | none => rfl
    | some v =>
      simp only []
      cases hw : s.windows[v.window]? with
      | none => simp only [State.voicePart, show (s.stamp t).windows[v.window]? = none from hw]
      | some w =>
        simp only [State.voicePart, show (s.stamp t).windows[v.window]? = some w from hw]
        rfl
  simp only [hpart] at hsum
  have hmix : (s.stamp t).mix (((List.finRange 48).map (fun i => part i 0)).sum, ((List.finRange 48).map (fun i => part i 1)).sum) =
      { left := mix 0, right := mix 1 } := by
    unfold State.mix
    rw [hclick, show (s.stamp t).toneValue = s.toneValue from rfl]
    unfold State.toneValue
    simp only [mix]
    cases s.tone with
    | none => rfl
    | some n =>
      by_cases hn : n < 96000
      · simp only [Option.filter_some, hn, decide_true, if_true, if_pos (show n < Config.toneFrames from hn)]
        rfl
      · simp only [Option.filter_some, hn, decide_false, Bool.false_eq_true, if_false,
          if_neg (show ¬ n < Config.toneFrames from hn)]
  generalize (((List.finRange 48).map (fun i => part i 0)).sum, ((List.finRange 48).map (fun i => part i 1)).sum) = sum at hsum hmix
  have hexec : exec (.outputFrame t) s = .next ((s.stamp t).frame sum) := by
    simp only [exec, execOutputFrame, hsum]
  refine ⟨_, hexec, fun j => ?_, rfl, rfl, fun i hi => ?_, fun i v w hv hw => ?_, rfl⟩
  · obtain ⟨houtput, hjack⟩ := (s.stamp t).frame_jack sum j
    rw [hmix] at houtput hjack
    have hclamp (x : Int) : clamp24 x = max (-8388608) (min 8388607 x) := clamp_eq_max_min x (by decide)
    have hplays : (s.jack j).plays { left := mix 0, right := mix 1 } =
        ({ left := out j 0, right := out j 1 }, decide (out j 0 ≠ raw j 0) || decide (out j 1 ≠ raw j 1)) := by
      unfold Jack.plays
      simp only [hclamp, bne, beq_eq_decide, ← decide_not]
      rfl
    rw [show (s.stamp t).jack j = s.jack j from rfl] at houtput hjack
    have hsilent (h : (s.jack j).gain = 0) := (Jack.plays_of_silent h { left := mix 0, right := mix 1 }).symm.trans hplays
    rw [hplays] at houtput hjack
    refine ⟨houtput, by rw [hjack, Bool.or_assoc], fun hgain => ?_⟩
    obtain ⟨hout, hclip⟩ := Prod.mk.inj (hsilent hgain)
    obtain ⟨hleft, hright⟩ := Stereo.mk.inj hout
    refine ⟨hleft.symm, hright.symm, ?_⟩
    rw [hjack, ← hclip, Bool.or_false]
  · change (tableMap (advanceVoice s.windows) s.voices)[i] = none
    rw [tableMap_get, show s.voices[i] = none from hi]
    rfl
  · obtain ⟨hwindows, hvoices, -⟩ := law
    obtain ⟨⟨u, hu, -, -, -, heven, hwithin⟩, -⟩ := hvoices i v hv
    obtain ⟨-, -, hlength, -⟩ := hwindows w (List.mem_of_getElem? hw)
    cases hu.symm.trans hw
    change (tableMap (advanceVoice s.windows) s.voices)[i] = _
    rw [tableMap_get, show s.voices[i] = some v from hv]
    exact advanceVoice_some hw heven hwithin hlength

end Sys2Proof.Machine
end

section
/-! The reading requests (R196, R197 and each chapter's own): O47. -/

namespace Sys2Proof.Machine

-- One declaration after another: side by side they open more threads than the check's memory limit holds.
set_option Elab.async false

/-! ### What a reading request answers -/

/-- A request that only reads, its checks passed: its payload, and the state as it was. -/
theorem State.request_reads {s e : State} {t : Time} {l : Link} {code : Nat} {p payload payload' : List Byte}
    {checks : List (Bool × Status)} {rule : State → State × Reply} (h : s.receiving l = true) (hp : p.length ≤ 60)
    (hr : rule (s.stamp t) = (s.stamp t).checked checks (e, .ok payload)) (hpass : firstFailing checks = none)
    (hpayload : payload = payload') : s.request t l code p rule = .next (e.replied l code p payload') :=
  hpayload ▸ State.request_replied h hp (hr.trans (State.checked_passed _ hpass))

/-! ### Widths (R219) -/

theorem optional_length {w : Nat} {f : Option (List Byte)} (h : ∀ x ∈ f, x.length = w) : (optional w f).length = w + 1 := by
  cases f with
  | none => simp [optional]
  | some x => simp [optional, h x rfl]

theorem optional_map_length {α : Type} {w : Nat} {f : α → List Byte} (h : ∀ a, (f a).length = w) (x : Option α) :
    (optional w (x.map f)).length = w + 1 :=
  optional_length fun y hy => by
    obtain ⟨a, -, rfl⟩ := Option.map_eq_some_iff.mp hy
    exact h a

theorem flatMap_length_of {α : Type} {w : Nat} {f : α → List Byte} {l : List α} (h : ∀ a ∈ l, (f a).length = w) :
    (l.flatMap f).length = w * l.length := by
  induction l with
  | nil => rfl
  | cons a l ih =>
    rw [List.flatMap_cons, List.length_append, h a List.mem_cons_self, ih fun b hb => h b (List.mem_cons_of_mem a hb),
      List.length_cons, Nat.mul_add, Nat.mul_one, Nat.add_comm]

theorem optional_u1_length {α : Type} (f : α → Nat) (x : Option α) : (optional 1 (x.map fun a => u1 (f a))).length = 2 :=
  optional_map_length (fun a => u1_length (f a)) x

theorem optional_u4_length {α : Type} (f : α → Nat) (x : Option α) : (optional 4 (x.map fun a => u4 (f a))).length = 5 :=
  optional_map_length (fun a => u4_length (f a)) x

/-! ### POLL (R196) -/

/-- The bits of POLL's byte: six fields that do not overlap. -/
theorem pollByte_bits : ∀ (attn seat unread running : Bool) (rail transport : Fin 4),
    let b := byteOf ((if attn then 1 else 0) + (if seat then 2 else 0) + 4 * rail.val + 16 * transport.val +
      (if unread then 64 else 0) + (if running then 128 else 0))
    b.getLsbD 0 = attn ∧ b.getLsbD 1 = seat ∧ b.toNat / 4 % 4 = rail.val ∧ b.toNat / 16 % 4 = transport.val ∧
      b.getLsbD 6 = unread ∧ b.getLsbD 7 = running := by decide

theorem railSummary_eq (st : RailState) : railSummary st = (match st.name with
    | .parked => 0
    | .engaged => 1
    | .fault => 3
    | _ => 2) ∧ railSummary st < 4 := by
  cases st <;> exact ⟨rfl, Nat.le_of_ble_eq_true rfl⟩

theorem transportSummary_eq (st : TransportState) : transportSummary st = (match st.name with
    | .idle => 0
    | .waiting => 2
    | .paused => 3
    | _ => 1) ∧ transportSummary st < 4 := by
  cases st <;> exact ⟨rfl, Nat.le_of_ble_eq_true rfl⟩

theorem State.poll_bits (s : State) (l : Link) :
    (byteOf (s.statusByte l)).getLsbD 0 = s.attn l ∧ (byteOf (s.statusByte l)).getLsbD 1 = s.holds l ∧
    (byteOf (s.statusByte l)).toNat / 4 % 4 = railSummary s.rail.state ∧
    (byteOf (s.statusByte l)).toNat / 16 % 4 = transportSummary s.transport.state ∧
    (byteOf (s.statusByte l)).getLsbD 6 = decide (0 < s.unread l) ∧ (byteOf (s.statusByte l)).getLsbD 7 = s.running := by
  have hbits := pollByte_bits (s.attn l) (s.holds l) (decide (0 < s.unread l)) s.running
    ⟨railSummary s.rail.state, (railSummary_eq _).2⟩ ⟨transportSummary s.transport.state, (transportSummary_eq _).2⟩
  have hunread : (if s.unread l = 0 then 0 else 64) = if decide (0 < s.unread l) = true then 64 else 0 := by
    simp only [decide_eq_true_eq, Nat.pos_iff_ne_zero, ite_not]
  unfold State.statusByte
  rw [hunread]
  exact hbits

theorem yesNo_not (b : Bool) : yesNo (!b) = [if b then 0#8 else 1#8] := by cases b <;> rfl

theorem holderCode_eq (x : Option Link) : holderCode x = (match x with
    | none => 0
    | some .a => 1
    | some .b => 2) := by
  cases x with
  | none => rfl
  | some l => cases l <;> rfl

/-! ### The payloads' widths -/

theorem State.keyPayload_length (s : State) (k : KeyIx) : (s.keyPayload k).length = 54 := by
  unfold State.keyPayload calField
  simp only [List.length_append, u1_length, u2_length, s2_length, yesNo_length, optional_u1_length,
    optional_map_length (w := 6) (f := fun r : Nat × Time => u2 r.1 ++ timeField r.2) fun _ => rfl,
    optional_map_length (w := 4) (f := timeField) fun _ => rfl,
    optional_map_length (w := 7) (f := fun c : KeyCal => u2 c.r ++ u2 c.b ++ u2 c.d ++ u1 c.g) fun _ => rfl,
    optional_map_length (w := 4) (f := fun m : Nat × Nat => u2 m.1 ++ u2 m.2) fun _ => rfl]

/-- Every entry of a table in a field of its own. -/
theorem toList_flatMap {α : Type} {n : Nat} (v : Vector α n) (f : α → List Byte) :
    v.toList.flatMap f = (List.finRange n).flatMap (fun i => f v[i]) := by
  rw [toList_eq_map, List.flatMap_map]

theorem State.pedalsPayload_length (s : State) : s.pedalsPayload.length = 52 := by
  unfold State.pedalsPayload
  simp only [List.length_append, keySetField_length,
    flatMap_length_of (w := 4) (f := fun c : PedalCal => u2 c.rest ++ u2 c.full) fun _ _ => rfl,
    flatMap_length_of (w := 4) (f := liveField) fun _ _ => rfl, flatMap_length_of (w := 2) (f := playField) fun _ _ => rfl,
    Vector.length_toList]

theorem State.railPayload_length (s : State) : s.railPayload.length = 32 := by
  have hpending : ∀ f ∈ s.rail.state.pendingAge s.now, f.length = 5 := by
    intro f hf
    unfold RailState.pendingAge at hf
    split at hf
    · cases hf
      rfl
    · cases hf
      rfl
    · cases hf
  unfold State.railPayload Rail.segmentAge
  simp only [List.length_append, u1_length, u2_length, s2_length, yesNo_length, optional_u1_length, optional_u4_length,
    optional_map_length (w := 2) (f := u2) fun _ => rfl, optional_length hpending]

theorem windowField_length (w : Window) : (windowField w).length = 22 := by
  unfold windowField
  simp only [List.length_append, u1_length, u4_length, optional_map_length (w := 4) (f := u4) fun _ => rfl]

theorem State.transportPayload_length (s : State) : s.transportPayload.length = 49 := by
  unfold State.transportPayload loopField metronomeField
  simp only [List.length_append, u1_length, u2_length, s4_length, yesNo_length, keySetField_length, optional_u1_length,
    optional_map_length (w := 4) (f := s4) fun _ => rfl,
    optional_map_length (w := 2) (f := fun r : Recording => u1 r.track.val ++ u1 (linkCode r.owner)) fun _ => rfl,
    optional_map_length (w := 2) (f := fun y : Load => u1 y.track.val ++ u1 (linkCode y.link)) fun _ => rfl]

theorem voiceField_length (i : Nat) (v : Option Voice) (now : Time) : (voiceField i v now).length = 19 := by
  cases v with
  | none => rfl
  | some x =>
    unfold voiceField
    simp only [List.length_append, u1_length, u2_length, u4_length, yesNo_length, optional_u1_length]

/-! ### The voices of a range (R108) -/

theorem zipIdx_toList {α : Type} {n : Nat} (v : Vector α n) : v.toList.zipIdx = (List.finRange n).map (fun i => (v[i], i.val)) := by
  apply List.ext_getElem <;> simp

theorem finRange_range : ∀ (i : VoiceIx) (n : Fin 3), ((List.finRange 48).drop i.val).take n.val =
    (List.finRange 48).filter (fun j => decide (i.val ≤ j.val ∧ j.val < i.val + n.val)) := by decide

/-- The fields of a range of the table, voice by voice. -/
theorem voices_range (v : Vector (Option Voice) 48) (i : VoiceIx) {n : Nat} (hn : n ≤ 2) (g : Nat → Option Voice → List Byte) :
    ((v.toList.zipIdx.drop i.val).take n).flatMap (fun x => g x.2 x.1) =
      ((List.finRange 48).filter (fun j => decide (i.val ≤ j.val ∧ j.val < i.val + n))).flatMap (fun j => g j.val v[j]) := by
  rw [zipIdx_toList, ← List.map_drop, ← List.map_take, finRange_range i ⟨n, Nat.lt_succ_of_le hn⟩, List.flatMap_map]

theorem State.voicesPayload_length (s : State) {i n : Nat} (h : i + n ≤ 48) : (s.voicesPayload i n).length = 4 + 19 * n := by
  unfold State.voicesPayload
  rw [List.length_append, flatMap_length_of (w := 19) fun x _ => voiceField_length _ _ _]
  simp only [List.length_append, u1_length, yesNo_length, List.length_take, List.length_drop, List.length_zipIdx,
    Vector.length_toList]
  omega

/-! ### Start-up (R211) -/

theorem flatMap_u1 (l : List KeyIx) : l.flatMap (fun k => u1 k.val) = l.map (fun k => byteOf k.val) := by
  induction l with
  | nil => rfl
  | cons k l ih => rw [List.flatMap_cons, List.map_cons, ih]; rfl

theorem keys_getD (x : Option KeySet) :
    KeySet.keys (x.getD 0#88) = (List.finRange 88).filter (fun k => x.any (fun m => KeySet.has m k)) := by
  cases x with
  | none => simp [KeySet.keys]
  | some m => rfl

theorem toList_filter_length {α : Type} {n : Nat} (v : Vector α n) (f : α → Bool) :
    (v.toList.filter f).length = ((List.finRange n).filter (fun i => f v[i])).length := by
  rw [toList_eq_map, List.filter_map, List.length_map]
  rfl

theorem resetKindField_eq (x : ResetKind) : optional 1 (some (resetKindField x)) = [1#8, if x = .powerOn then 0#8 else 1#8] := by
  cases x <;> rfl

theorem takeStoreField_eq (x : TakeStoreOutcome) :
    optional 1 (some (takeStoreField x)) = [1#8, if x = .preserved then 0#8 else 1#8] := by cases x <;> rfl

theorem railOutcomeField_eq (o : RailName × RailCause) :
    railOutcomeField o = u1 o.1.code ++ if o.1 = .fault then [1#8, byteOf o.2.code] else [0#8, 0#8] := by
  unfold railOutcomeField
  split <;> rfl

theorem calSourceField_length (c : CalSource) : (calSourceField c).length = 3 := by cases c <;> rfl
theorem samplesField_length (o : SamplesOutcome) : (samplesField o).length = 3 := by cases o <;> rfl
theorem railOutcomeField_length (o : RailName × RailCause) : (railOutcomeField o).length = 3 := by
  unfold railOutcomeField
  split <;> rfl

theorem resultField_length (r : TestResult) : (resultField r).length = 11 := by
  unfold resultField measureField
  cases r.measure with
  | scan n first => simp [optional_u1_length]
  | _ => rfl

theorem State.startUpPayload_length (s : State) (n : Nat) : (s.startUpPayload n).length ≤ 60 := by
  have hkeys (l : List KeyIx) : ((l.take 8).flatMap fun k => u1 k.val).length ≤ 8 := by
    rw [flatMap_length_of (w := 1) fun _ _ => rfl, List.length_take]
    omega
  have hfaulty := hkeys ((KeySet.keys (s.startUp.faultyKeys.getD 0#88)).drop n)
  unfold State.startUpPayload
  simp only [List.length_append, u1_length, u2_length, yesNo_length, resetKindField_eq, takeStoreField_eq, List.length_cons,
    List.length_nil, optional_u1_length, optional_map_length calSourceField_length,
    optional_map_length (w := 1) (f := pedalSetField) fun _ => rfl, optional_map_length railOutcomeField_length,
    optional_map_length samplesField_length, optional_map_length (w := 2) (f := testField) fun _ => rfl,
    optional_map_length resultField_length]
  omega

/-- Settles O47: each reading's payload, field by field. -/
theorem readsChangeNothing : Obligations.ReadsChangeNothing := by
  intro t l s h s0 r x since cal jack phase gives
  have hrunning (running : s.running = true) : s0.beforeRunning = (false, .notReady) := State.beforeRunning_of_running running
  refine ⟨?poll, ?status, fun running => ⟨fun k => ?key, fun n => ?touch, ?pedals, ?rail, fun i n hn hn' hin => ?voices,
    fun first n hf hn hfn => ?windows, fun i first n hf hn hfn => ?take, ?transport, fun i => ?track⟩, fun n hn => ?startUp⟩
  case poll =>
    obtain ⟨hattn, hseat, hrail, htransport, hunread, hrunning⟩ := State.poll_bits s0 l
    refine ⟨_, State.request_reads (p := []) h (by simp) (rule := rulePoll l []) rfl rfl rfl, hattn, ?_, ?_, ?_, hunread, hrunning⟩
    · exact hseat.trans (beq_eq_decide s.seat (some l))
    · exact hrail.trans (railSummary_eq _).1
    · exact htransport.trans (transportSummary_eq _).1
  case status =>
    intro payload
    refine ⟨?_, State.request_reads (p := []) h (by simp) (rule := ruleReadStatus []) rfl rfl ?_⟩
    · simp [payload, phase, jack, optional_u1_length]
    · simp only [payload, phase, jack, ← yesNo_not]
      unfold State.statusPayload
      rw [holderCode_eq]
      rfl
  case key =>
    intro y c f payload
    have hk : byteAt [byteOf k.val] 0 = k.val := byteAt_index k (by decide) rfl []
    have hpayload : s0.keyPayload k = payload := by
      unfold State.keyPayload
      change u1 y.state.code ++ optional 6 (y.last.map (fun r => u2 r.1 ++ timeField r.2)) ++
        optional 1 (y.state.strokeOf.map (fun st => u1 st.code)) ++
        optional 4 (y.state.startOf.map timeField) ++ optional 4 (y.state.upOf.map timeField) ++
        u1 y.implausible ++ u2 y.recovery ++ optional 1 (y.state.causeOf.map (fun e => u1 e.code)) ++ cal c ++
        s2 (c.level f.fOn) ++ s2 (c.level f.fRel) ++ s2 (c.level f.fRa) ++ s2 (c.level f.fSt) ++
        optional 7 (y.pendingCal.map cal) ++ yesNo y.learnWaiting ++
        optional 4 (y.state.seenOf.map (fun m => u2 m.1 ++ u2 m.2)) = payload
      simp only [payload]
      cases y.state with
      | onset st ts => cases st <;> rfl
      | faulty e => cases e <;> rfl
      | learn m => cases m <;> rfl
      | _ => rfl
    refine ⟨hpayload ▸ s0.keyPayload_length k, State.request_reads (p := [byteOf k.val])
      (checks := [s0.beforeRunning, lengthNot [byteOf k.val] 1]) h (by simp) (rule := ruleReadKey [byteOf k.val]) ?_ ?_ hpayload⟩
    · unfold ruleReadKey
      rw [hk, keyOfNat_val]
    · rw [hrunning running]
      rfl
  case touch =>
    have hn : curveOfNat (byteAt [byteOf n.val] 0) = some n := by
      rw [byteAt_index n (by decide) rfl []]
      exact dif_pos n.isLt
    refine State.request_reads (p := [byteOf n.val]) (checks := [s0.beforeRunning, lengthNot [byteOf n.val] 1]) h (by simp)
      (rule := ruleReadTouch [byteOf n.val]) (e := s0) (payload := s0.touchPayload n) ?_ ?_ ?_
    · unfold ruleReadTouch
      rw [hn]
    · rw [hrunning running]
      rfl
    · unfold State.touchPayload curveBytes
      rw [toList_flatMap]
      rfl
  case pedals =>
    intro payload
    have hpayload : s0.pedalsPayload = payload := by
      unfold State.pedalsPayload
      simp only [toList_flatMap, payload, liveField, playField, switchField, yesNo_not]
      rfl
    refine ⟨hpayload ▸ s0.pedalsPayload_length, State.request_reads (p := []) (checks := [s0.beforeRunning, lengthNot [] 0]) h
      (by simp) (rule := ruleReadPedals []) rfl ?_ hpayload⟩
    rw [hrunning running]
    rfl
  case rail =>
    intro payload
    have hpayload : s0.railPayload = payload := by
      unfold State.railPayload Rail.segmentAge
      simp only [payload, phase, r, since]
      change u1 s.rail.state.name.code ++ optional 1 (s.rail.state.testPhase.map fun p => u1 (travelCode p)) ++
        u1 (motorCode (s.rail.drive.map fun g => g.dir)) ++ u1 s.rail.state.cause.code ++
        s2 s.rail.count ++ optional 1 (s.rail.target.map (fun x => u1 (travelCode x))) ++ optional 2 (s.rail.segCount.map u2) ++
        u2 s.cal.cEng ++ yesNo s.rail.park ++ yesNo s.rail.stop ++
        optional 4 (s.rail.drive.map fun g => u4 (elapsed g.start t)) ++ optional 5 (s.rail.state.pendingAge t) ++
        u1 s.rail.votes.code ++ yesNo s.silentEffective ++
        u1 s.rail.quiet.notAtRest ++ yesNo s.rail.quiet.start.isSome ++ yesNo s.rail.quiet.quiet = _
      have hmotor : motorCode (s.rail.drive.map fun g => g.dir) = (match s.rail.drive with
          | none => 0
          | some g => match g.dir with
            | .inward => 1
            | .outward => 2) := by
        cases s.rail.drive with
        | none => rfl
        | some g => cases hg : g.dir <;> simp only [Option.map_some, hg, motorCode]
      rw [hmotor]
      cases s.rail.state <;> rfl
    refine ⟨hpayload ▸ s0.railPayload_length, State.request_reads (p := []) (checks := [s0.beforeRunning, lengthNot [] 0]) h
      (by simp) (rule := ruleReadRail []) rfl ?_ hpayload⟩
    rw [hrunning running]
    rfl
  case voices =>
    intro field payload
    have hi : byteAt [byteOf i.val, byteOf n] 0 = i.val := byteAt_index i (by decide) rfl _
    have hn2 : byteAt [byteOf i.val, byteOf n] 1 = n := byteAt_byteOf n (by omega) []
    have hfield (j : VoiceIx) : voiceField j.val s0.voices[j] s0.now = field j := by
      change voiceField j.val (s.voice j) t = field j
      simp only [field]
      cases hv : s.voice j with
      | none => rfl
      | some v =>
        obtain ⟨state, source, key, level, release, held, window, position, env, start, cost⟩ := v
        cases state <;> cases source <;> rfl
    have hpayload : s0.voicesPayload i.val n = payload := by
      unfold State.voicesPayload
      rw [voices_range s0.voices i hn' fun j v => voiceField j v s0.now]
      simp only [hfield]
      rfl
    refine ⟨hpayload ▸ s0.voicesPayload_length hin, State.request_reads (p := [byteOf i.val, byteOf n])
      (checks := [s0.beforeRunning, lengthNot [byteOf i.val, byteOf n] 2,
        (decide (47 < i.val) || n == 0 || decide (2 < n) || decide (48 < i.val + n), .badValue)]) h (by simp)
      (rule := ruleReadVoices [byteOf i.val, byteOf n]) ?_ ?_ hpayload⟩
    · unfold ruleReadVoices
      rw [hi, hn2]
    · rw [hrunning running, firstFailing_eq_none]
      simp [lengthNot]
      omega
  case windows =>
    intro payload
    have hi : byteAt [byteOf first, byteOf n] 0 = first := byteAt_byteOf first hf _
    have hn2 : byteAt [byteOf first, byteOf n] 1 = n := byteAt_byteOf n (by omega) []
    have hcode : u1 (samplesCode s.startUp.samples) = (match s.startUp.samples with
        | some (.present _) => [0#8]
        | _ => [1#8]) := by
      cases s.startUp.samples with
      | none => rfl
      | some o => cases o <;> rfl
    have hpayload : u1 (samplesCode s.startUp.samples) ++ u1 s.windows.length ++
        ((s.windows.drop first).take n).flatMap windowField = payload := by
      rw [hcode]
      rfl
    refine ⟨?_, State.request_reads (p := [byteOf first, byteOf n])
      (checks := [s0.beforeRunning, lengthNot [byteOf first, byteOf n] 2,
        (decide (2 < n) || decide (s0.windows.length < first + n), .badValue)]) h (by simp)
      (rule := ruleReadWindows [byteOf first, byteOf n]) ?_ ?_ hpayload⟩
    · rw [← hpayload, List.length_append, flatMap_length_of (w := 22) fun x _ => windowField_length x]
      simp only [List.length_append, u1_length, List.length_take, List.length_drop]
      omega
    · unfold ruleReadWindows
      rw [hi, hn2]
      rfl
    · rw [hrunning running, firstFailing_eq_none]
      have hlength : s0.windows.length = s.windows.length := rfl
      simp [lengthNot, hlength]
      omega
  case take =>
    have hi : byteAt (u1 i.val ++ u2 first ++ u1 n) 0 = i.val := byteAt_index i (by decide) rfl _
    have hfirst : be2At (u1 i.val ++ u2 first ++ u1 n) 1 = first := be2At_u2 (n := first) (by omega) (u1 n)
    have hn2 : byteAt (u1 i.val ++ u2 first ++ u1 n) 3 = n := byteAt_byteOf n (by omega) []
    refine State.request_reads (p := u1 i.val ++ u2 first ++ u1 n)
      (checks := [s0.beforeRunning, lengthNot (u1 i.val ++ u2 first ++ u1 n) 4]) h (by simp)
      (rule := ruleReadTake (u1 i.val ++ u2 first ++ u1 n)) (e := s0)
      (payload := u2 (s0.track i).recs.length ++ (((s0.track i).recs.drop first).take n).flatMap takeField) ?_ ?_ rfl
    · unfold ruleReadTake
      rw [hi, hfirst, hn2, trackOfNat_val]
      simp only []
      rw [if_neg (by rw [not_or]; exact ⟨Nat.not_lt.mpr hn, Nat.not_lt.mpr hfn⟩)]
    · rw [hrunning running]
      rfl
  case transport =>
    intro payload
    have hpayload : s0.transportPayload = payload := by
      unfold State.transportPayload
      simp only [payload, x, loopField, metronomeField, List.append_assoc]
      rw [show s0.transport = s.transport from rfl]
      cases s.transport.state <;> rfl
    refine ⟨hpayload ▸ s0.transportPayload_length, State.request_reads (p := [0#8])
      (checks := [s0.beforeRunning, lengthNot [0#8] 1, (decide (4 < byteAt [0#8] 0), .badValue)]) h (by simp)
      (rule := ruleReadTransport [0#8]) rfl ?_ hpayload⟩
    rw [hrunning running]
    rfl
  case track =>
    have hi : byteAt [byteOf (i.val + 1)] 0 = i.val + 1 := byteAt_byteOf _ (by omega) []
    refine State.request_reads (p := [byteOf (i.val + 1)])
      (checks := [s0.beforeRunning, lengthNot [byteOf (i.val + 1)] 1, (decide (4 < i.val + 1), .badValue)]) h (by simp)
      (rule := ruleReadTransport [byteOf (i.val + 1)]) (e := s0) (payload := trackField (s0.track i)) ?_ ?_ rfl
    · unfold ruleReadTransport
      rw [hi, Nat.add_sub_cancel, trackOfNat_val]
      simp only [Nat.succ_ne_zero, if_false]
      rfl
    · rw [hrunning running, decide_eq_false (by omega)]
      rfl
  case startUp =>
    intro y faulty origins payload
    have hn2 : byteAt [byteOf n] 0 = n := byteAt_byteOf n (by omega) []
    have hcal : calSourceField = fun c => (match c with
        | .stored => [0#8, 0#8, 0#8]
        | .defaults g => [1#8, 1#8, byteOf g.code]) := funext fun c => by cases c <;> rfl
    have hsamples : samplesField = fun o => (match o with
        | .present k => [0#8, 1#8, byteOf k]
        | .absent => [1#8, 0#8, 0#8]) := funext fun o => by cases o <;> rfl
    have horigin (o : Origin) : s0.originCount o = origins o := by
      unfold State.originCount
      rw [toList_filter_length]
      simp only [origins, beq_eq_decide]
      rfl
    have hpayload : s0.startUpPayload n = payload := by
      unfold State.startUpPayload
      simp only [horigin, toList_filter_length, flatMap_u1, keys_getD, resetKindField_eq, takeStoreField_eq, yesNo_not, hcal,
        hsamples, funext railOutcomeField_eq]
      rfl
    refine ⟨hpayload ▸ s0.startUpPayload_length n, State.request_reads (p := [byteOf n])
      (checks := [lengthNot [byteOf n] 1, (decide (88 < n), .badValue)]) h (by simp)
      (rule := ruleReadStartup [byteOf n]) ?_ ?_ hpayload⟩
    · unfold ruleReadStartup
      rw [hn2]
    · rw [decide_eq_false (by omega)]
      rfl

end Sys2Proof.Machine
end

section
/-! The transport's open notes released (R141), and what the transport appends. -/

namespace Sys2Proof.Machine

-- One declaration after another: side by side they open more threads than the check's memory limit holds.
set_option Elab.async false

/-! ### Records appended, where there is room -/

/-- Where the ring has room for them, these records are appended, and no other. -/
def State.Appends (s : State) (records : List JournalRec) (s' : State) : Prop :=
  s.journal.length + records.length ≤ 512 → s'.journal = s.journal ++ records

section Appends
variable {a b c : State} {first rest : List JournalRec}

theorem State.Appends.of_unchanged (h : b.journal = a.journal) : a.Appends [] b := fun _ => by rw [h, List.append_nil]

theorem State.Appends.refl (s : State) : s.Appends [] s := .of_unchanged rfl

theorem State.Appends.trans (h : a.Appends first b) (g : b.Appends rest c) : a.Appends (first ++ rest) c := by
  intro hroom
  rw [List.length_append] at hroom
  have hb := h (by omega)
  rw [g (by rw [hb, List.length_append]; omega), hb, List.append_assoc]

theorem State.append_appends (s : State) (b : JournalBody) (t : Time) : s.Appends [{ body := b, time := t }] (s.append b t) := by
  intro hroom
  have hlt : s.journal.length < 512 := hroom
  rw [State.append_ring, if_pos hlt]

theorem State.report_appends (s : State) (b : JournalBody) (c : Condition) :
    s.Appends [{ body := b, time := s.now }] (s.report b c) := s.append_appends b s.now

/-- Records appended by steps over a list. -/
theorem State.Appends.foldl {α : Type} {f : State → α → State} {records : α → List JournalRec} {P : State → Prop}
    (h : ∀ (s : State) (x : α), P s → s.Appends (records x) (f s x) ∧ P (f s x)) :
    ∀ (l : List α) (s : State), P s → s.Appends (l.flatMap records) (l.foldl f s) ∧ P (l.foldl f s)
  | [], s, hs => ⟨.refl s, hs⟩
  | x :: l, s, hs => by
    obtain ⟨happends, hx⟩ := h s x hs
    obtain ⟨hrest, hend⟩ := State.Appends.foldl h l (f s x) hx
    exact ⟨happends.trans hrest, hend⟩

end Appends

/-! ### Key sets -/

theorem KeySet.has_foldl_drop (ks : List KeyIx) : ∀ (m : KeySet) (j : KeyIx),
    KeySet.has (ks.foldl KeySet.drop m) j = (KeySet.has m j && !decide (j ∈ ks)) := by
  induction ks with
  | nil => intro m j; simp
  | cons k ks ih =>
    intro m j
    rw [List.foldl_cons, ih, KeySet.has_drop]
    by_cases hj : k = j
    · simp [hj]
    · simp [hj, Ne.symm hj]

theorem KeySet.foldl_drop_keys (m : KeySet) : (KeySet.keys m).foldl KeySet.drop m = 0#88 :=
  KeySet.ext fun k => by
    rw [KeySet.has_foldl_drop, KeySet.has_zero]
    by_cases h : KeySet.has m k = true
    · simp [KeySet.mem_keys, h]
    · simp [Bool.eq_false_iff.mpr h]

theorem KeySet.keys_zero : KeySet.keys 0#88 = [] := by simp [KeySet.keys]

/-! ### Notes off on one track (R141) -/

/-- What the release of open notes reaches: the voices, the journal and the open-note sets. -/
def NoteFrame (s s' : State) : Prop :=
  s' = { s with
    voices := s'.voices, journal := s'.journal, links := s'.links
    transport := { s.transport with tracks := s'.transport.tracks } }

theorem NoteFrame.refl (s : State) : NoteFrame s s := rfl

theorem NoteFrame.trans {a b c : State} (h : NoteFrame a b) (g : NoteFrame b c) : NoteFrame a c := by
  unfold NoteFrame at *
  rw [g, h]

/-- A voice that a note-off of the PLAYBACK group reaches (R100). -/
def State.offVoice (s : State) (level : Nat) (v : Voice) : Voice :=
  { v with
    held := false, release := level
    state := if 100 ≤ (s.playChannel damperIx).level ∨ KeySet.has s.playCapture v.key = true then v.state else .releasing }

/-- Open notes of a track are ended: the track's set, the voices and the records (R141). -/
structure State.EndsNotes (s : State) (i : TrackIx) (ks : List KeyIx) (level : Nat) (s' : State) : Prop where
  frame : NoteFrame s s'
  track : ∀ j : TrackIx, s'.track j =
    if j = i then { s.track i with opened := ks.foldl KeySet.drop (s.track i).opened } else s.track j
  voice : ∀ j : VoiceIx, s'.voice j = (s.voice j).map (fun v =>
    if v.source = .playback i ∧ v.held = true ∧ v.key ∈ ks then s.offVoice level v else v)
  appends : s.Appends (ks.map fun k => { body := .trackOff i k level, time := s.now }) s'
  latched : s.journal.length + ks.length ≤ 512 → ∀ l : Link, (s'.link l).latched = (s.link l).latched

theorem State.endNote_ends (s : State) (i : TrackIx) (k : KeyIx) (level : Nat) : s.EndsNotes i [k] level (s.endNote i k level) where
  frame := rfl
  track j := s.track_setTrack i j _
  voice j := by
    refine (State.noteOff_voice _ (.playback i) k level j).trans ?_
    change (s.voice j).map _ = _
    congr 1
    funext v
    simp only [Voice.reachedBy, Bool.and_eq_true, beq_iff_eq, List.mem_singleton]
    by_cases h : v.source = .playback i ∧ v.held = true ∧ v.key = k
    · obtain ⟨hs, hh, hk⟩ := h
      rw [if_pos (And.intro (And.intro hh hs) hk), if_pos (And.intro hs (And.intro hh hk)), State.offVoice]
      simp only [hk, Bool.or_eq_true, decide_eq_true_eq]
      rfl
    · rw [if_neg h, if_neg (fun g => h ⟨g.1.2, g.1.1, g.2⟩)]
  appends := State.append_appends ((s.setTrack i { s.track i with opened := KeySet.drop (s.track i).opened k }).noteOff
    (.playback i) k level) (.trackOff i k level) s.now
  latched hroom l := State.append_latched_of_room
    (s := (s.setTrack i { s.track i with opened := KeySet.drop (s.track i).opened k }).noteOff (.playback i) k level) l _ _ hroom

theorem State.EndsNotes.nil (s : State) (i : TrackIx) (level : Nat) : s.EndsNotes i [] level s where
  frame := rfl
  track j := by
    split
    · subst_vars
      rfl
    · rfl
  voice j := by
    have hsame : (fun v : Voice => if v.source = .playback i ∧ v.held = true ∧ v.key ∈ ([] : List KeyIx) then s.offVoice level v
        else v) = id := funext fun v => if_neg fun h => absurd h.2.2 List.not_mem_nil
    rw [hsame, Option.map_id_fun, id]
  appends := .refl s
  latched _ _ := rfl

theorem State.EndsNotes.cons {a b c : State} {i : TrackIx} {k : KeyIx} {ks : List KeyIx} {level : Nat}
    (h : a.EndsNotes i [k] level b) (g : b.EndsNotes i ks level c) : a.EndsNotes i (k :: ks) level c where
  frame := h.frame.trans g.frame
  track j := by
    rw [g.track, h.track, h.track]
    by_cases hj : j = i
    · rw [if_pos hj, if_pos rfl, if_pos hj]
      rfl
    · rw [if_neg hj, if_neg hj, if_neg hj]
  voice j := by
    have hoff : b.offVoice level = a.offVoice level := by
      have hframe := h.frame
      unfold NoteFrame at hframe
      unfold State.offVoice State.playChannel
      rw [hframe]
    rw [g.voice, h.voice, Option.map_map, hoff]
    congr 1
    funext v
    simp only [Function.comp, List.mem_cons, List.not_mem_nil, or_false]
    by_cases hv : v.source = .playback i ∧ v.held = true ∧ v.key = k
    · rw [if_pos hv, if_pos (And.intro hv.1 (And.intro hv.2.1 (Or.inl hv.2.2))), if_neg]
      exact fun hoff => Bool.false_ne_true hoff.2.1
    · rw [if_neg hv]
      refine if_congr ⟨fun hin => ⟨hin.1, hin.2.1, .inr hin.2.2⟩, fun hin => ⟨hin.1, hin.2.1, ?_⟩⟩ rfl rfl
      exact hin.2.2.resolve_left fun hk => hv ⟨hin.1, hin.2.1, hk⟩
  appends := by
    have hnow : b.now = a.now := by
      have hframe := h.frame
      unfold NoteFrame at hframe
      rw [hframe]
    have happends := h.appends.trans g.appends
    rw [hnow] at happends
    exact happends
  latched hroom l := by
    rw [List.length_cons] at hroom
    have hone := h.appends (by simp only [List.map_cons, List.map_nil, List.length_cons, List.length_nil]; omega)
    rw [g.latched (by rw [hone, List.length_append]; simp only [List.map_cons, List.map_nil, List.length_cons, List.length_nil]; omega),
      h.latched (by simp only [List.length_cons, List.length_nil]; omega)]

theorem State.endNotes_end (i : TrackIx) (level : Nat) (ks : List KeyIx) : ∀ s : State,
    s.EndsNotes i ks level (ks.foldl (fun x k => x.endNote i k level) s) := by
  induction ks with
  | nil => exact fun s => .nil s i level
  | cons k ks ih => exact fun s => (s.endNote_ends i k level).cons (ih _)

/-- A track's open notes, released (R141). -/
theorem State.releaseTrack_ends (s : State) (i : TrackIx) :
    s.EndsNotes i (KeySet.keys (s.track i).opened) 64 (s.releaseTrack i) ∧
    ∀ j : TrackIx, (s.releaseTrack i).track j = if j = i then { s.track i with opened := 0#88 } else s.track j := by
  have h := State.endNotes_end i 64 (KeySet.keys (s.track i).opened) s
  refine ⟨h, fun j => ?_⟩
  have htrack := h.track j
  rw [KeySet.foldl_drop_keys] at htrack
  exact htrack

theorem State.releaseTrack_of_closed {s : State} {i : TrackIx} (h : (s.track i).opened = 0#88) : s.releaseTrack i = s := by
  unfold State.releaseTrack
  rw [h, KeySet.keys_zero]
  rfl

/-! ### The open notes of all tracks released (R141) -/

/-- The open notes of every track of a list are released: the sets, the voices and the records. -/
theorem State.releaseTracks_end (l : List TrackIx) : ∀ s : State, l.Nodup →
    let s' := l.foldl (fun x i => x.releaseTrack i) s
    NoteFrame s s' ∧
    (∀ j : TrackIx, s'.track j = if j ∈ l then { s.track j with opened := 0#88 } else s.track j) ∧
    (∀ j : VoiceIx, s'.voice j = (s.voice j).map (fun v =>
      if v.held = true ∧ ∃ i ∈ l, v.source = .playback i ∧ KeySet.has (s.track i).opened v.key = true then s.offVoice 64 v
      else v)) ∧
    s.Appends (l.flatMap fun i => (KeySet.keys (s.track i).opened).map fun k =>
      { body := .trackOff i k 64, time := s.now }) s' := by
  induction l with
  | nil =>
    intro s _
    refine ⟨rfl, fun j => (if_neg List.not_mem_nil).symm, fun j => ?_, .refl s⟩
    have hsame : (fun v : Voice => if v.held = true ∧ ∃ i ∈ ([] : List TrackIx), v.source = .playback i ∧
        KeySet.has (s.track i).opened v.key = true then s.offVoice 64 v else v) = id :=
      funext fun v => if_neg fun ⟨_, _, hi, _⟩ => absurd hi List.not_mem_nil
    rw [hsame, Option.map_id_fun, id]
    rfl
  | cons i l ih =>
    intro s hnodup
    obtain ⟨hi, hl⟩ := List.nodup_cons.mp hnodup
    obtain ⟨hends, htrack⟩ := s.releaseTrack_ends i
    obtain ⟨ihframe, ihtrack, ihvoice, ihappends⟩ := ih (s.releaseTrack i) hl
    have hother (j : TrackIx) (hj : j ∈ l) : (s.releaseTrack i).track j = s.track j := by
      rw [htrack, if_neg fun h : j = i => hi (h ▸ hj)]
    have hkept : (s.releaseTrack i).now = s.now ∧ (s.releaseTrack i).offVoice 64 = s.offVoice 64 := by
      have hframe := hends.frame
      unfold NoteFrame at hframe
      unfold State.offVoice State.playChannel
      rw [hframe]
      exact ⟨rfl, rfl⟩
    obtain ⟨hnow, hoff⟩ := hkept
    refine ⟨hends.frame.trans ihframe, fun j => (ihtrack j).trans ?_, fun j => (ihvoice j).trans ?_, ?_⟩
    · by_cases hj : j ∈ l
      · rw [if_pos hj, if_pos (List.mem_cons_of_mem i hj), hother j hj]
      · rw [if_neg hj, htrack]
        by_cases hji : j = i
        · rw [if_pos hji, if_pos (by rw [hji]; exact List.mem_cons_self), hji]
        · rw [if_neg hji, if_neg (by rw [List.mem_cons]; exact not_or.mpr ⟨hji, hj⟩)]
    · rw [hends.voice, Option.map_map, hoff]
      congr 1
      funext v
      simp only [Function.comp]
      by_cases hv : v.source = .playback i ∧ v.held = true ∧ v.key ∈ KeySet.keys (s.track i).opened
      · rw [if_pos hv, if_neg (fun h => Bool.false_ne_true h.1)]
        exact (if_pos ⟨hv.2.1, i, List.mem_cons_self, hv.1, (KeySet.mem_keys _ _).mp hv.2.2⟩).symm
      · rw [if_neg hv]
        refine if_congr ⟨fun ⟨hh, j, hj, hs, hk⟩ => ⟨hh, j, List.mem_cons_of_mem i hj, hs, hother j hj ▸ hk⟩,
          fun ⟨hh, j, hj, hs, hk⟩ => ⟨hh, ?_⟩⟩ rfl rfl
        rcases List.mem_cons.mp hj with rfl | hj
        · exact absurd ⟨hs, hh, (KeySet.mem_keys _ _).mpr hk⟩ hv
        · exact ⟨j, hj, hs, (hother j hj).symm ▸ hk⟩
    · have happends := hends.appends.trans ihappends
      rw [hnow, List.flatMap_congr fun j hj => by rw [hother j hj]] at happends
      exact happends

theorem State.releaseAll_ends (s : State) :
    NoteFrame s s.releaseAll ∧ (∀ j : TrackIx, s.releaseAll.track j = { s.track j with opened := 0#88 }) ∧
    (∀ j : VoiceIx, s.releaseAll.voice j = (s.voice j).map (fun v =>
      if v.held = true ∧ ∃ i : TrackIx, v.source = .playback i ∧ KeySet.has (s.track i).opened v.key = true then s.offVoice 64 v
      else v)) ∧
    s.Appends ((List.finRange 4).flatMap fun i => (KeySet.keys (s.track i).opened).map fun k =>
      { body := .trackOff i k 64, time := s.now }) s.releaseAll := by
  obtain ⟨hframe, htrack, hvoice, happends⟩ := State.releaseTracks_end (List.finRange 4) s (List.nodup_finRange 4)
  refine ⟨hframe, fun j => (htrack j).trans (if_pos (List.mem_finRange j)), fun j => (hvoice j).trans ?_, happends⟩
  simp only [List.mem_finRange, true_and]

/-- With no open note the release changes nothing. -/
theorem State.releaseAll_of_closed {s : State} (h : ∀ i : TrackIx, (s.track i).opened = 0#88) : s.releaseAll = s := by
  have hfold (l : List TrackIx) : l.foldl (fun x i => x.releaseTrack i) s = s := by
    induction l with
    | nil => rfl
    | cons i l ih => rw [List.foldl_cons, State.releaseTrack_of_closed (h i), ih]
  exact hfold _

/-- After the release of all tracks no voice of the PLAYBACK group is held (R90, R141). -/
theorem HeldLaw.releaseAll {s : State} (h : HeldLaw s) (i : VoiceIx) (v : Voice) (hv : s.releaseAll.voice i = some v)
    (held : v.held = true) : v.source = .live := by
  obtain ⟨-, -, hvoice, -⟩ := s.releaseAll_ends
  rw [hvoice] at hv
  obtain ⟨u, hu, heq⟩ := Option.map_eq_some_iff.mp hv
  split at heq
  · rw [← heq] at held
    cases held
  · rename_i hnot
    subst heq
    have hon := h i u hu held
    cases hs : u.source with
    | live => rfl
    | playback j =>
      rw [State.noteIsOn, hs] at hon
      exact absurd ⟨held, j, hs, hon⟩ hnot

end Sys2Proof.Machine
end

section
/-! The transport's settings (R151, R158, R160): O39. -/

namespace Sys2Proof.Machine

-- One declaration after another: side by side they open more threads than the check's memory limit holds.
set_option Elab.async false

section Modes

variable {s : State} {i : TrackIx} {m : TrackMode}

theorem modeOfCode_code (m : TrackMode) : modeOfCode m.code = some m := by cases m <;> rfl

theorem State.setMode_stays (h : (s.track i).mode ≠ .play ∨ m = .play) : s.setMode i m = s.setTrack i { s.track i with mode := m } := by
  unfold State.setMode
  have hleaves : (decide ((s.track i).mode = .play) && decide (m ≠ .play)) = false := by
    rcases h with h | h
    · rw [decide_eq_false h, Bool.false_and]
    · rw [decide_eq_false (p := m ≠ .play) (not_not_intro h), Bool.and_false]
  simp only [hleaves, Bool.false_eq_true, if_false]

theorem State.setMode_leaves (h : (s.track i).mode = .play) (hm : m ≠ .play) :
    s.setMode i m = (s.setTrack i { s.track i with mode := m }).releaseTrack i := by
  unfold State.setMode
  simp only [h, hm, ne_eq, not_false_eq_true, decide_true, Bool.and_self, if_true]

/-- A track that leaves PLAY: its mode, its open notes, its voices and its records (R151, R141). -/
theorem State.setMode_releases (h : (s.track i).mode = .play) (hm : m ≠ .play) :
    (s.setMode i m) = { s with
      voices := (s.setMode i m).voices, journal := (s.setMode i m).journal, links := (s.setMode i m).links
      transport := { s.transport with
        tracks := tablePut s.transport.tracks i { s.track i with mode := m, opened := 0#88 } } } ∧
    (∀ j : VoiceIx, (s.setMode i m).voice j = (s.voice j).map (fun v =>
      if v.source = .playback i ∧ v.held = true ∧ KeySet.has (s.track i).opened v.key = true then s.offVoice 64 v else v)) ∧
    (s.journal.length + (KeySet.keys (s.track i).opened).length ≤ 512 →
      (s.setMode i m).journal = s.journal ++
        (KeySet.keys (s.track i).opened).map (fun k => { body := .trackOff i k 64, time := s.now }) ∧
      ∀ l : Link, ((s.setMode i m).link l).latched = (s.link l).latched) := by
  rw [State.setMode_leaves h hm]
  have htrack : (s.setTrack i { s.track i with mode := m }).track i = { s.track i with mode := m } := by
    rw [State.track_setTrack, if_pos rfl]
  obtain ⟨hends, htracks⟩ := (s.setTrack i { s.track i with mode := m }).releaseTrack_ends i
  rw [htrack] at hends htracks
  obtain ⟨hframe, -, hvoice, happends, hlatched⟩ := hends
  generalize (s.setTrack i { s.track i with mode := m }).releaseTrack i = s' at *
  refine ⟨?_, fun j => (hvoice j).trans ?_, fun hroom => ⟨?_, hlatched hroom⟩⟩
  · have htable : s'.transport.tracks = tablePut s.transport.tracks i { s.track i with mode := m, opened := 0#88 } := by
      refine table_ext fun j => (htracks j).trans ?_
      rw [State.track_setTrack, tablePut_get]
      by_cases hj : j = i
      · rw [if_pos hj, if_pos hj.symm]
      · rw [if_neg hj, if_neg hj, if_neg (Ne.symm hj)]
        rfl
    unfold NoteFrame at hframe
    rw [htable] at hframe
    exact hframe
  · simp only [KeySet.mem_keys]
    rfl
  · refine happends ?_
    rw [List.length_map]
    exact hroom

theorem State.modeBusy_iff : s.modeBusy i.val = true ↔ s.transport.state.name = .locating ∨ s.transport.state.name = .waiting ∨
    ∃ x : Load, s.transport.load = some x ∧ x.track = i := by
  unfold State.modeBusy
  rw [Bool.or_eq_true, Bool.or_eq_true, beq_iff_eq, beq_iff_eq, or_assoc]
  cases s.transport.load with
  | none => simp
  | some x => simp [Fin.ext_iff]

/-- SET_TRACK_MODE of a track and a mode that there are (R151). -/
theorem ruleSetTrackMode_eq (hrun : s.running = true) : ruleSetTrackMode [byteOf i.val, byteOf m.code] s =
    if s.modeBusy i.val then (s, .no .busy) else (s.setMode i m, .ok [byteOf i.val, byteOf m.code]) := by
  have hi : byteAt [byteOf i.val, byteOf m.code] 0 = i.val := byteAt_index i (by decide) rfl _
  have hm : byteAt [byteOf i.val, byteOf m.code] 1 = m.code := by cases m <;> rfl
  unfold ruleSetTrackMode
  rw [hi, hm, modeOfCode_code, trackOfNat_val, State.beforeRunning_of_running hrun, decide_eq_false (by omega)]
  cases hbusy : s.modeBusy i.val
  · exact State.checked_passed _ (by simp [firstFailing_cons, lengthNot])
  · exact State.checked_refused _ (by simp [firstFailing_cons, lengthNot])

end Modes

section Settings

variable {s : State} {p : List Byte}

/-- SET_LOOP of the right length (R158). -/
theorem ruleSetLoop_eq (hrun : s.running = true) (hp : p.length = 10) {on : Bool} (hon : byteAt p 0 = if on then 1 else 0) :
    ruleSetLoop p s = if on = true ∧ pointAt p 5 ≤ pointAt p 1 then (s, .no .badValue) else
      (s.setTransport { s.transport with
          loop := { active := on, a := pointAt p 1, b := pointAt p 5, n := min 99 (byteAt p 9), passes := 0 } },
        .ok (yesNo on ++ s4 (pointAt p 1) ++ s4 (pointAt p 5) ++ u1 (min 99 (byteAt p 9)))) := by
  have hflag : flagOfCode (byteAt p 0) = some on := by rw [hon]; cases on <;> rfl
  unfold ruleSetLoop
  rw [hflag, State.beforeRunning_of_running hrun]
  refine (State.checked_passed _ (by simp [firstFailing_cons, lengthNot, hp])).trans ?_
  simp only []

theorem ruleSetLoop_flag (hrun : s.running = true) (hp : p.length = 10) (h : 1 < byteAt p 0) : ruleSetLoop p s = (s, .no .badValue) := by
  unfold ruleSetLoop
  rw [flagOfCode_of_gt h, State.beforeRunning_of_running hrun]
  exact State.checked_passed _ (by simp [firstFailing_cons, lengthNot, hp])

/-- SET_METRONOME, its flag among the checks (R160). -/
theorem ruleSetMetronome_eq (hrun : s.running = true) : ruleSetMetronome p s =
    s.checked [(p.length != 3, .badLength), (decide (1 < byteAt p 0), .badValue)]
      (s.setTransport { s.transport with
          metronome := { on := decide (byteAt p 0 = 1), beats := max 1 (min 12 (byteAt p 1)), level := min 127 (byteAt p 2) } },
        .ok (yesNo (decide (byteAt p 0 = 1)) ++ u1 (max 1 (min 12 (byteAt p 1))) ++ u1 (min 127 (byteAt p 2)))) := by
  have hbeats : clampNat 1 12 (byteAt p 1) = max 1 (min 12 (byteAt p 1)) := clampNat_eq_max_min _ (by decide)
  have hlevel : clampNat 0 127 (byteAt p 2) = min 127 (byteAt p 2) := by
    rw [clampNat_eq_max_min _ (Nat.zero_le 127), Nat.zero_max]
  unfold ruleSetMetronome
  rw [hbeats, hlevel, State.beforeRunning_of_running hrun]
  by_cases hlength : p.length = 3
  · rw [State.checked_passed _ (by simp [firstFailing_cons, lengthNot, hlength])]
    by_cases hflag : 1 < byteAt p 0
    · rw [flagOfCode_of_gt hflag, decide_eq_true hflag, State.checked_refused _ (status := .badValue) (by simp [firstFailing_cons, hlength])]
    · rw [flagOfCode_of_le (Nat.le_of_not_lt hflag), decide_eq_false hflag, State.checked_passed _ (by simp [firstFailing_cons, hlength])]
  · rw [State.checked_refused _ (status := .badLength) (by simp [firstFailing_cons, lengthNot, hlength]),
      State.checked_refused _ (status := .badLength) (by simp [firstFailing_cons, hlength])]

end Settings

/-- Settles O39: each rule by its checks and its effect; a track that leaves PLAY by `State.setMode_releases`. -/
theorem transportSettings : Obligations.TransportSettings := by
  intro t l p s h hp running
  refine ⟨fun i m hpm => ?_, fun on hon hlength => ?_, fun hflag hlength => ?_, ?_⟩
  · subst hpm
    have hrule := ruleSetTrackMode_eq (s := s.stamp t) (i := i) (m := m) running
    have hbusy := State.modeBusy_iff (s := s.stamp t) (i := i)
    refine ⟨fun hb => ?_, fun hlocating hwaiting hload => ?_⟩
    · rw [if_pos (hbusy.mpr hb)] at hrule
      exact State.request_denied (p := [byteOf i.val, byteOf m.code]) h hp hrule
    · rw [if_neg fun hb => (hbusy.mp hb).elim hlocating fun hb => hb.elim hwaiting fun ⟨x, hx, hi⟩ => hload x hx hi] at hrule
      have hexec : exec (.setTrackMode t l [byteOf i.val, byteOf m.code]) s = _ :=
        State.request_replied (p := [byteOf i.val, byteOf m.code]) h hp hrule
      refine ⟨fun hstays => ?_, fun hplay hm => ?_⟩
      · rw [State.setMode_stays (s := s.stamp t) hstays] at hexec
        exact hexec
      · obtain ⟨hframe, hvoice, hroom⟩ := State.setMode_releases (s := s.stamp t) hplay hm
        refine ⟨_, hexec, hframe, fun j v hv => ?_, fun j hj => ?_, fun room => hroom room⟩
        · rw [hvoice, show (s.stamp t).voice j = some v from hv]
          rfl
        · rw [hvoice, show (s.stamp t).voice j = none from hj]
          rfl
  · have hrule := ruleSetLoop_eq (s := s.stamp t) (p := p) running hlength hon
    refine ⟨fun honce hba => ?_, fun hab => ?_⟩
    · rw [if_pos ⟨honce, hba⟩] at hrule
      exact State.request_denied h hp hrule
    · rw [if_neg fun hbad => hab.elim (fun hoff => Bool.false_ne_true (hoff.symm.trans hbad.1)) fun hlt => absurd hbad.2 (not_le_of_gt hlt)]
        at hrule
      exact State.request_replied h hp hrule
  · exact State.request_denied h hp (ruleSetLoop_flag (s := s.stamp t) running hlength hflag)
  · exact State.request_outcome h hp (ruleSetMetronome_eq (s := s.stamp t) running)

end Sys2Proof.Machine
end

section
/-! What a pedal channel's movement does to its group: the capture set and the voices (R56 to R58, R101 to R103). -/

namespace Sys2Proof.Machine

-- One declaration after another: side by side they open more threads than the check's memory limit holds.
set_option Elab.async false

/-- A pedal channel's movement: its switch and its level before and after. -/
structure Move where
  channel : PedalIx
  wasOn : Bool
  isOn : Bool
  was : Nat
  is : Nat

/-- The state a voice of the group is in after a movement, with the capture set and the damper level it stood under (R101 to
R103). -/
def Move.moves (m : Move) (capture : KeySet) (damper : Nat) (v : Voice) : VoiceState :=
  if m.channel = damperIx ∧ m.was < 100 ∧ 100 ≤ m.is ∧ v.state = .releasing then .sounding
  else if m.channel = damperIx ∧ 100 ≤ m.was ∧ m.is < 100 ∧ v.state = .sounding ∧ v.held = false ∧
    KeySet.has capture v.key = false then .releasing
  else if m.channel = sostenutoIx ∧ m.wasOn = true ∧ m.isOn = false ∧ damper < 100 ∧ v.state = .sounding ∧
    v.held = false ∧ KeySet.has capture v.key = true then .releasing
  else v.state

/-- The capture set after a movement (R56, R57). -/
def Move.captures (m : Move) (on capture : KeySet) : KeySet :=
  if m.channel = sostenutoIx ∧ m.wasOn = false ∧ m.isOn = true then on
  else if m.channel = sostenutoIx ∧ m.wasOn = true ∧ m.isOn = false then 0#88
  else capture

/-- What a movement's effects reach: the voices, voice by voice, and the capture set of the group. -/
structure State.Moves (s : State) (g : Group) (m : Move) (s' : State) : Prop where
  frame : s' = { s with voices := s'.voices, liveCapture := s'.liveCapture, playCapture := s'.playCapture }
  capture : s'.capture g = m.captures (s.keysOn g) (s.capture g)
  other : ∀ g' : Group, g' ≠ g → s'.capture g' = s.capture g'
  voice : ∀ j : VoiceIx, s'.voice j = (s.voice j).map (fun v =>
    if v.source.group = g then { v with state := m.moves (s.capture g) (s.damper g) v } else v)

section Effects
variable {s : State} {g : Group} {m : Move}

theorem State.Moves.of_still (h : ∀ v : Voice, m.moves (s.capture g) (s.damper g) v = v.state)
    (hcapture : m.captures (s.keysOn g) (s.capture g) = s.capture g) : s.Moves g m s where
  frame := rfl
  capture := hcapture.symm
  other _ _ := rfl
  voice j := by
    have hsame : (fun v : Voice => if v.source.group = g then { v with state := m.moves (s.capture g) (s.damper g) v } else v) =
        id := funext fun v => by
      rw [h]
      exact ite_self v
    rw [hsame, Option.map_id_fun, id]

theorem State.setCapture_capture (s : State) (g g' : Group) (x : KeySet) :
    (s.setCapture g x).capture g' = if g' = g then x else s.capture g' := by
  cases g <;> cases g' <;> rfl

theorem State.setCapture_voice (s : State) (g : Group) (x : KeySet) (j : VoiceIx) : (s.setCapture g x).voice j = s.voice j := by
  cases g <;> rfl

/-- A capture set let go, voice by voice (R103). -/
theorem State.sostenutoRelease_voice (s : State) (g : Group) (keys : KeySet) (j : VoiceIx) :
    (s.sostenutoRelease g keys).voice j = (s.voice j).map (fun v =>
      if v.source.group = g ∧ s.damper g < 100 ∧ v.state = .sounding ∧ v.held = false ∧ KeySet.has keys v.key = true then
        { v with state := .releasing }
      else v) := by
  unfold State.sostenutoRelease
  split
  next hholds =>
    have hsame : (fun v : Voice => if v.source.group = g ∧ s.damper g < 100 ∧ v.state = .sounding ∧ v.held = false ∧
        KeySet.has keys v.key = true then { v with state := .releasing } else v) = id :=
      funext fun v => if_neg fun h => absurd h.2.1 (Nat.not_lt.mpr hholds)
    rw [hsame, Option.map_id_fun, id]
  next hholds =>
    rw [State.voice_mapVoices]
    congr 1
    funext v
    refine if_congr ⟨fun h => ⟨h.1, Nat.lt_of_not_le hholds, h.2⟩, fun h => ⟨h.1, h.2.2⟩⟩ rfl rfl

/-- The damper notice of a movement, voice by voice (R101, R102). -/
theorem State.damperNotice_voice (s : State) (g : Group) (lv lv' : Nat) (j : VoiceIx) :
    (s.damperNotice g lv lv').voice j = (s.voice j).map (fun v =>
      if lv < 100 ∧ 100 ≤ lv' ∧ v.source.group = g ∧ v.state = .releasing then { v with state := .sounding }
      else if 100 ≤ lv ∧ lv' < 100 ∧ v.source.group = g ∧ v.state = .sounding ∧ v.held = false ∧
        KeySet.has (s.capture g) v.key = false then { v with state := .releasing }
      else v) := by
  unfold State.damperNotice
  split
  next hup =>
    refine (State.voice_mapVoices _ _ _).trans ?_
    congr 1
    funext v
    obtain ⟨hlow, hhigh⟩ := hup
    change lv < 100 at hlow
    change 100 ≤ lv' at hhigh
    simp only [hlow, hhigh, true_and, Nat.not_le.mpr hlow, false_and, if_false]
  next hup =>
    split
    next hdown =>
      refine (State.voice_mapVoices _ _ _).trans ?_
      congr 1
      funext v
      obtain ⟨hhigh, hlow⟩ := hdown
      change 100 ≤ lv at hhigh
      change lv' < 100 at hlow
      simp only [hlow, hhigh, true_and, Nat.not_lt.mpr hhigh, false_and, if_false]
    next hdown =>
      have hsame : (fun v : Voice => if lv < 100 ∧ 100 ≤ lv' ∧ v.source.group = g ∧ v.state = .releasing then
          { v with state := .sounding }
        else if 100 ≤ lv ∧ lv' < 100 ∧ v.source.group = g ∧ v.state = .sounding ∧ v.held = false ∧
          KeySet.has (s.capture g) v.key = false then { v with state := .releasing }
        else v) = id := funext fun v => by
          rw [if_neg fun h => hup ⟨h.1, h.2.1⟩, if_neg fun h => hdown ⟨h.1, h.2.1⟩]
          rfl
      rw [hsame, Option.map_id_fun, id]

/-- A sostenuto switch that changes (R56, R57, R103). -/
theorem State.sostenutoChange_moves (s : State) (g : Group) (sw sw' : Bool) (lv lv' : Nat) :
    s.Moves g { channel := sostenutoIx, wasOn := sw, isOn := sw', was := lv, is := lv' } (s.sostenutoChange g sw sw') := by
  have hnot : sostenutoIx ≠ damperIx := by decide
  cases sw <;> cases sw'
  case false.false => exact .of_still (fun v => by simp [Move.moves, hnot]) (by simp [Move.captures])
  case true.true => exact .of_still (fun v => by simp [Move.moves, hnot]) (by simp [Move.captures])
  case false.true =>
    change s.Moves g _ (s.setCapture g (s.keysOn g))
    refine ⟨by cases g <;> rfl, ?_, fun g' hg => ?_, fun j => ?_⟩
    · rw [State.setCapture_capture, if_pos rfl]
      simp [Move.captures]
    · rw [State.setCapture_capture, if_neg hg]
    · rw [State.setCapture_voice]
      exact (State.Moves.of_still (s := s) (g := g)
        (m := { channel := damperIx, wasOn := false, isOn := true, was := 0, is := 0 })
        (fun v => by simp [Move.moves]) (by simp [Move.captures, hnot.symm])).voice j |>.trans (by simp [Move.moves, hnot])
  case true.false =>
    change s.Moves g _ ((s.sostenutoRelease g (s.capture g)).setCapture g 0#88)
    have hframe := s.sostenutoRelease_frame g (s.capture g)
    unfold VoiceFrame at hframe
    refine ⟨?_, ?_, fun g' hg => ?_, fun j => ?_⟩
    · rw [hframe]
      cases g <;> rfl
    · rw [State.setCapture_capture, if_pos rfl]
      simp [Move.captures]
    · rw [State.setCapture_capture, if_neg hg, hframe]
      cases g' <;> rfl
    · rw [State.setCapture_voice, State.sostenutoRelease_voice]
      congr 1
      funext v
      simp only [Move.moves, hnot, false_and, if_false, true_and]
      split
      · rename_i h
        rw [if_pos h.1, if_pos h.2]
      · rename_i h
        by_cases hg : v.source.group = g
        · rw [if_pos hg, if_neg fun h' => h ⟨hg, h'⟩]
        · rw [if_neg hg]

theorem State.damperNotice_moves (s : State) (g : Group) (sw sw' : Bool) (lv lv' : Nat) :
    s.Moves g { channel := damperIx, wasOn := sw, isOn := sw', was := lv, is := lv' } (s.damperNotice g lv lv') := by
  have hnot : damperIx ≠ sostenutoIx := by decide
  have hframe := s.damperNotice_frame g lv lv'
  unfold VoiceFrame at hframe
  refine ⟨?_, ?_, fun g' _ => ?_, fun j => ?_⟩
  · rw [hframe]
  · rw [hframe]
    simp only [Move.captures, hnot, false_and, if_false]
    cases g <;> rfl
  · rw [hframe]
    cases g' <;> rfl
  · rw [State.damperNotice_voice]
    congr 1
    funext v
    simp only [Move.moves, hnot, false_and, if_false, true_and]
    by_cases hg : v.source.group = g
    · simp only [hg, true_and, if_true]
      split_ifs <;> rfl
    · simp only [hg, false_and, and_false, if_false]

theorem State.pedalEffects_moves (s : State) (g : Group) (i : PedalIx) (sw sw' : Bool) (lv lv' : Nat) :
    s.Moves g { channel := i, wasOn := sw, isOn := sw', was := lv, is := lv' } (s.pedalEffects g i sw sw' lv lv') := by
  unfold State.pedalEffects
  by_cases hs : i = sostenutoIx
  · rw [if_pos hs, hs]
    exact s.sostenutoChange_moves g sw sw' lv lv'
  · rw [if_neg hs]
    by_cases hd : i = damperIx
    · rw [if_pos hd, hd]
      exact s.damperNotice_moves g sw sw' lv lv'
    · rw [if_neg hd]
      exact .of_still (fun v => by simp [Move.moves, hs, hd]) (by simp [Move.captures, hs])

end Effects

end Sys2Proof.Machine
end

section
/-! What the transport dispatches (R139, R140) and the guide wait met or missed (R150): O37. -/

namespace Sys2Proof.Machine

-- One declaration after another: side by side they open more threads than the check's memory limit holds.
set_option Elab.async false

section Playback

variable {s : State}

/-! ### A PEDAL record of the PLAYBACK group (R54) -/

theorem State.playChannel_setPlay (s : State) (c d : PedalIx) (x : PlayChannel) :
    (s.setPlay c x).playChannel d = if d = c then x else s.playChannel d := by
  unfold State.playChannel State.setPlay
  simp only [tablePut_get, eq_comm]

/-- The keys whose note is on in the PLAYBACK group: open on some track (R56). -/
theorem State.keysOn_playback (s : State) (k : KeyIx) :
    KeySet.has (s.keysOn .playback) k = decide (∃ j : TrackIx, KeySet.has (s.track j).opened k = true) := by
  have hfold (l : List Track) : ∀ m : KeySet, KeySet.has (l.foldl (fun m x => m ||| x.opened) m) k =
      (KeySet.has m k || l.any fun x => KeySet.has x.opened k) := by
    induction l with
    | nil => intro m; simp
    | cons x l ih =>
      intro m
      rw [List.foldl_cons, ih, List.any_cons, ← Bool.or_assoc]
      congr 1
      exact BitVec.getLsbD_or
  change KeySet.has (s.transport.tracks.toList.foldl (fun m x => m ||| x.opened) 0#88) k = _
  rw [hfold, KeySet.has_zero, Bool.false_or, toList_eq_map, Bool.eq_iff_iff, decide_eq_true_iff, List.any_map]
  simp [State.track]

theorem Source.group_playback_iff {src : Source} : src.group = .playback ↔ src ≠ .live := by
  cases src with
  | live => exact ⟨nofun, fun h => absurd rfl h⟩
  | playback i => exact ⟨nofun, fun _ => rfl⟩

theorem Move.has_captures (m : Move) (on capture : KeySet) (k : KeyIx) : KeySet.has (m.captures on capture) k =
    if m.channel = sostenutoIx ∧ m.wasOn = false ∧ m.isOn = true then KeySet.has on k
    else if m.channel = sostenutoIx ∧ m.wasOn = true ∧ m.isOn = false then false
    else KeySet.has capture k := by
  unfold Move.captures
  split_ifs
  · rfl
  · exact KeySet.has_zero k
  · rfl

/-- What a dispatched PEDAL record does to the PLAYBACK group (R54, R56 to R58). -/
theorem State.playbackPedal_acts (s : State) (c : PedalIx) (level : Nat) :
    let old := s.playChannel c
    let on := judgeSwitch old.switch level
    let m : Move := { channel := c, wasOn := old.switch, isOn := on, was := old.level, is := level }
    let s' := s.playbackPedal c level
    s'.transport = s.transport ∧
    (∀ d : PedalIx, s'.playChannel d = if d = c then { level := level, switch := on } else s.playChannel d) ∧
    s'.playCapture = m.captures (s.keysOn .playback) s.playCapture ∧
    (∀ j : VoiceIx, s'.voice j = (s.voice j).map (fun v =>
      if v.source.group = .playback then { v with state := m.moves s.playCapture (s.playChannel damperIx).level v } else v)) ∧
    s'.journal = (if old.level = level then s.journal
      else (if s.journal.length < 512 then s.journal else s.journal.tail) ++
        [{ body := .pedal .playback c level on true, time := s.now }]) := by
  intro old on m s'
  let s1 := s.setPlay c { level := level, switch := on }
  let s2 := if old.level = level then s1 else s1.playRecord c
  have hs2 : s2.play = s1.play ∧ s2.playCapture = s.playCapture ∧ s2.keysOn .playback = s.keysOn .playback ∧
      s2.voices = s.voices ∧ s2.transport = s.transport := by
    simp only [s2]
    split <;> exact ⟨rfl, rfl, rfl, rfl, rfl⟩
  obtain ⟨hplay, hcapture, hkeys, hvoices, htransport⟩ := hs2
  have hmoves : s2.Moves .playback m s' := s2.pedalEffects_moves .playback c old.switch on old.level level
  obtain ⟨hframe, hcaptures, -, hvoice⟩ := hmoves
  have hjournal : s2.journal = if old.level = level then s.journal
      else (if s.journal.length < 512 then s.journal else s.journal.tail) ++
        [{ body := .pedal .playback c level on true, time := s.now }] := by
    have hrecord : (s1.playRecord c).journal = (if s.journal.length < 512 then s.journal else s.journal.tail) ++
        [{ body := .pedal .playback c level on true, time := s.now }] := by
      unfold State.playRecord
      rw [show s1.playChannel c = { level := level, switch := on } from
        (State.playChannel_setPlay s c c _).trans (if_pos rfl)]
      exact State.append_ring _ _ _
    simp only [s2]
    split
    · rfl
    · exact hrecord
  have hkept : s'.transport = s2.transport ∧ s'.play = s2.play ∧ s'.journal = s2.journal := by
    rw [hframe]
    exact ⟨rfl, rfl, rfl⟩
  obtain ⟨htransport', hplay', hjournal'⟩ := hkept
  clear_value s2 s'
  refine ⟨htransport'.trans htransport, fun d => ?_, ?_, fun j => ?_, hjournal'.trans hjournal⟩
  · rw [State.playChannel, hplay', hplay]
    exact State.playChannel_setPlay s c d _
  · rw [hkeys] at hcaptures
    exact hcaptures.trans (congrArg _ hcapture)
  · have hv : s2.voice j = s.voice j := by rw [State.voice, hvoices]; rfl
    rw [hvoice, hv]
    congr 1
    funext v
    have hmoved : m.moves (s2.capture .playback) (s2.damper .playback) v =
        m.moves s.playCapture (s.playChannel damperIx).level v := by
      rw [show s2.capture .playback = s.playCapture from hcapture]
      by_cases hc : c = sostenutoIx
      · have hdamper : s2.damper .playback = (s.playChannel damperIx).level := by
          change (s2.playChannel damperIx).level = _
          rw [State.playChannel, hplay]
          refine congrArg PlayChannel.level ((State.playChannel_setPlay s c damperIx _).trans (if_neg ?_))
          rw [hc]
          decide
        rw [hdamper]
      · simp only [Move.moves, m, hc, false_and, if_false]
    rw [hmoved]

end Playback

/-! ### One record (R140) -/

section Dispatch

variable {s : State} {i : TrackIx} {r : TakeRec} {pos : Int}

/-- A track whose cursor has passed a record at a position. -/
def Track.passed (x : Track) (pos : Int) : Track := { x with cursor := x.cursor + 1, cursorPos := pos }

theorem State.dispatch_play (h : (s.track i).mode = .play) :
    s.dispatch i r pos = (s.setTrack i ((s.track i).passed pos)).playTake i r := by
  unfold State.dispatch
  rw [h]
  rfl

theorem State.dispatch_still (h : (s.track i).mode ≠ .play) : s.dispatch i r pos = s.setTrack i ((s.track i).passed pos) := by
  unfold State.dispatch
  cases hm : (s.track i).mode with
  | play => exact absurd hm h
  | mute => rfl
  | guide => rfl

/-! A note-on sees nothing of the transport. -/

theorem State.shed_setTransport (x : Transport) (i : VoiceIx) (cost : Nat) : ∀ (n : Nat) (s : State),
    State.shed (s.setTransport x) i cost n = (State.shed s i cost n).setTransport x
  | 0, _ => rfl
  | n + 1, s => by
    have hcost : (s.setTransport x).costBut i = s.costBut i := rfl
    have hvictim : (s.setTransport x).stealVictim (some i) = s.stealVictim (some i) := rfl
    unfold State.shed
    rw [hcost, hvictim]
    split
    · rfl
    · split
      · exact State.shed_setTransport x i cost n (s.setVoice _ none)
      · rfl

theorem State.noteOn_setTransport (s : State) (x : Transport) (src : Source) (k : KeyIx) (level : Nat) :
    (s.setTransport x).noteOn src k level = ((s.noteOn src k level).1.setTransport x, (s.noteOn src k level).2) := by
  have hdamp : (s.setTransport x).dampKey src.group k = (s.dampKey src.group k).setTransport x := rfl
  unfold State.noteOn
  rw [hdamp]
  generalize s.dampKey src.group k = d
  have hwindows : (d.setTransport x).windows = d.windows := rfl
  have hchoose : (d.setTransport x).chooseVoice = d.chooseVoice := rfl
  simp only [hwindows, hchoose, State.shed_setTransport]
  split <;> rfl

/-- A NOTE_ON of a track in PLAY opens its key, starts its voice and is told (R140). -/
theorem State.playTake_noteOn {k : KeyIx} {level : Nat} (h : r.body = .noteOn k level) :
    (∀ j : TrackIx, (s.playTake i r).track j =
      if j = i then { s.track i with opened := KeySet.add (s.track i).opened k } else s.track j) ∧
    (s.playTake i r).journal = (if s.journal.length < 512 then s.journal else s.journal.tail) ++
      [{ body := .trackOn i k level (findWindow s.windows k level).isSome, time := s.now }] ∧
    (s.playTake i r).voices = (s.noteOn (.playback i) k level).1.voices := by
  have hnote := s.noteOn_setTransport { s.transport with
    tracks := tablePut s.transport.tracks i { s.track i with opened := KeySet.add (s.track i).opened k } } (.playback i) k level
  have hframe := s.noteOn_frame (.playback i) k level
  unfold VoiceFrame at hframe
  have heq : s.playTake i r = ((s.noteOn (.playback i) k level).1.setTransport { s.transport with
      tracks := tablePut s.transport.tracks i { s.track i with opened := KeySet.add (s.track i).opened k } }).append
        (.trackOn i k level (s.noteOn (.playback i) k level).2.isSome) s.now := by
    unfold State.playTake State.setTrack
    rw [h]
    simp only [hnote]
  rw [heq, State.noteOn_voiced]
  generalize (s.noteOn (.playback i) k level).1 = n at hframe
  refine ⟨fun j => s.track_setTrack i j _, ?_, rfl⟩
  have hjournal : n.journal = s.journal := by rw [hframe]
  rw [← hjournal]
  exact State.append_ring _ _ _

theorem State.playTake_noteOff {k : KeyIx} {level : Nat} (h : r.body = .noteOff k level) :
    s.playTake i r = if KeySet.has (s.track i).opened k then s.endNote i k level else s := by
  unfold State.playTake
  rw [h]

theorem State.playTake_pedal {c : PedalIx} {level : Nat} (h : r.body = .pedal c level) :
    s.playTake i r = s.playbackPedal c level := by
  unfold State.playTake
  rw [h]

theorem State.playTake_wait (h : r.body = .wait) : s.playTake i r = s := by
  unfold State.playTake
  rw [h]

theorem State.playTake_end (h : r.body = .endMark) : s.playTake i r = s.releaseTrack i := by
  unfold State.playTake
  rw [h]

/-- What a record of a track in PLAY does to the tracks: it may open and close keys of its own. -/
theorem State.playTake_track (s : State) (i : TrackIx) (r : TakeRec) : ∃ opened : KeySet, ∀ j : TrackIx,
    (s.playTake i r).track j = if j = i then { s.track i with opened := opened } else s.track j := by
  have hself (j : TrackIx) : s.track j = if j = i then { s.track i with opened := (s.track i).opened } else s.track j := by
    split
    · subst_vars
      rfl
    · rfl
  cases h : r.body with
  | noteOn k level => exact ⟨_, (State.playTake_noteOn h).1⟩
  | noteOff k level =>
    rw [State.playTake_noteOff h]
    split
    · exact ⟨_, (s.endNote_ends i _ _).track⟩
    · exact ⟨_, hself⟩
  | pedal c level =>
    obtain ⟨htransport, -⟩ := s.playbackPedal_acts c level
    refine ⟨(s.track i).opened, fun j => ?_⟩
    rw [State.playTake_pedal h, State.track, htransport]
    exact hself j
  | wait =>
    rw [State.playTake_wait h]
    exact ⟨_, hself⟩
  | endMark =>
    rw [State.playTake_end h]
    exact ⟨_, (s.releaseTrack_ends i).2⟩

/-- What a dispatched record does to the tracks: its own track's cursor passes it. -/
theorem State.dispatch_track (s : State) (i : TrackIx) (r : TakeRec) (pos : Int) : ∃ opened : KeySet, ∀ j : TrackIx,
    (s.dispatch i r pos).track j = if j = i then { (s.track i).passed pos with opened := opened } else s.track j := by
  have hset (j : TrackIx) := s.track_setTrack i j ((s.track i).passed pos)
  by_cases h : (s.track i).mode = .play
  · obtain ⟨opened, htrack⟩ := (s.setTrack i ((s.track i).passed pos)).playTake_track i r
    rw [State.dispatch_play h]
    refine ⟨opened, fun j => (htrack j).trans ?_⟩
    by_cases hj : j = i
    · rw [if_pos hj, if_pos hj, hset, if_pos rfl]
    · rw [if_neg hj, if_neg hj, hset, if_neg hj]
  · rw [State.dispatch_still h]
    exact ⟨((s.track i).passed pos).opened, hset⟩

/-! ### Every record due (R139) -/

/-- Dispatch of a track's records at a position leaves none of them due, and reaches no other track. -/
theorem State.dispatchTrack_track (i : TrackIx) (pos : Int) : ∀ (n : Nat) (s : State),
    (s.track i).recs.length ≤ (s.track i).cursor + n →
    (∀ j : TrackIx, j ≠ i → (s.dispatchTrack i pos n).track j = s.track j) ∧
    (∀ r : TakeRec, ((s.dispatchTrack i pos n).track i).recs[((s.dispatchTrack i pos n).track i).cursor]? = some r →
      pos < ((s.dispatchTrack i pos n).track i).cursorPos + r.delta)
  | 0, s, hn => by
    refine ⟨fun _ _ => rfl, fun r hr => ?_⟩
    rw [show s.dispatchTrack i pos 0 = s from rfl, List.getElem?_eq_none (by omega)] at hr
    cases hr
  | n + 1, s, hn => by
    unfold State.dispatchTrack
    cases hr : (s.track i).recs[(s.track i).cursor]? with
    | none =>
      simp only [hr]
      exact ⟨fun _ _ => trivial, nofun⟩
    | some r =>
      simp only []
      by_cases hdue : (s.track i).cursorPos + r.delta ≤ pos
      · rw [if_pos hdue]
        obtain ⟨opened, htrack⟩ := s.dispatch_track i r ((s.track i).cursorPos + r.delta)
        have hi := (htrack i).trans (if_pos rfl)
        obtain ⟨hothers, hnone⟩ := State.dispatchTrack_track i pos n (s.dispatch i r ((s.track i).cursorPos + r.delta)) (by
          rw [hi]
          simp only [Track.passed]
          omega)
        exact ⟨fun j hj => (hothers j hj).trans ((htrack j).trans (if_neg hj)), hnone⟩
      · rw [if_neg hdue]
        refine ⟨fun _ _ => rfl, fun r' hr' => ?_⟩
        cases hr.symm.trans hr'
        exact Int.lt_of_not_ge hdue

theorem State.dispatchAll_tracks (s : State) (i : TrackIx) :
    (s.recordedTrack i = true → s.dispatchAll.track i = s.track i) ∧
    (s.recordedTrack i = false → ∀ r : TakeRec, (s.dispatchAll.track i).recs[(s.dispatchAll.track i).cursor]? = some r →
      s.transport.position < (s.dispatchAll.track i).cursorPos + r.delta) := by
  have hfold (l : List TrackIx) : ∀ x : State, x.transport.recording = s.transport.recording → l.Nodup →
      let y := l.foldl (fun x i => if x.recordedTrack i then x else
        x.dispatchTrack i s.transport.position (x.track i).recs.length) x
      (i ∉ l ∨ s.recordedTrack i = true → y.track i = x.track i) ∧
      (i ∈ l → s.recordedTrack i = false → ∀ r : TakeRec, (y.track i).recs[(y.track i).cursor]? = some r →
        s.transport.position < (y.track i).cursorPos + r.delta) := by
    induction l with
    | nil => exact fun x _ _ => ⟨fun _ => rfl, fun h => absurd h List.not_mem_nil⟩
    | cons j l ih =>
      intro x hrec hnodup
      obtain ⟨hj, hl⟩ := List.nodup_cons.mp hnodup
      have hrecorded (k : TrackIx) : x.recordedTrack k = s.recordedTrack k := by
        unfold State.recordedTrack
        rw [hrec]
      rw [List.foldl_cons]
      by_cases hjrec : s.recordedTrack j = true
      · rw [hrecorded, if_pos hjrec]
        obtain ⟨ihsame, ihnone⟩ := ih x hrec hl
        refine ⟨fun h => ihsame (h.imp (fun h hi => h (List.mem_cons_of_mem j hi)) id), fun hi hirec => ihnone ?_ hirec⟩
        refine (List.mem_cons.mp hi).resolve_left fun h : i = j => ?_
        rw [h, hjrec] at hirec
        cases hirec
      · rw [hrecorded, if_neg hjrec]
        obtain ⟨hothers, hnone⟩ := State.dispatchTrack_track j s.transport.position (x.track j).recs.length x (Nat.le_add_left _ _)
        have hkept : (x.dispatchTrack j s.transport.position (x.track j).recs.length).transport.recording =
            s.transport.recording := (x.dispatchTrack_record j _ _).fields.2.2.1.trans hrec
        obtain ⟨ihsame, ihnone⟩ := ih _ hkept hl
        generalize x.dispatchTrack j s.transport.position (x.track j).recs.length = y at hothers hnone ihsame ihnone
        refine ⟨fun h => ?_, fun hi hirec => ?_⟩
        · have hij : i ≠ j := fun hij => h.elim (fun h => h (hij ▸ List.mem_cons_self)) fun h => hjrec (hij ▸ h)
          exact (ihsame (h.imp (fun h hi => h (List.mem_cons_of_mem j hi)) id)).trans (hothers i hij)
        · rcases List.mem_cons.mp hi with rfl | hi
          · rw [ihsame (.inl hj)]
            exact hnone
          · exact ihnone hi hirec
  obtain ⟨hsame, hnone⟩ := hfold (List.finRange 4) s rfl (List.nodup_finRange 4)
  exact ⟨fun h => hsame (.inr h), hnone (List.mem_finRange i)⟩

/-- With nothing due a dispatch changes nothing. -/
theorem State.dispatchAll_of_none (h : ∀ (i : TrackIx) (r : TakeRec), s.recordedTrack i = false →
    (s.track i).recs[(s.track i).cursor]? = some r → s.transport.position < (s.track i).cursorPos + r.delta) :
    s.dispatchAll = s := by
  have hone (i : TrackIx) : (if s.recordedTrack i then s else
      s.dispatchTrack i s.transport.position (s.track i).recs.length) = s := by
    cases hrec : s.recordedTrack i
    · cases hn : (s.track i).recs.length with
      | zero => rfl
      | succ n =>
        simp only [Bool.false_eq_true, if_false]
        unfold State.dispatchTrack
        cases hr : (s.track i).recs[(s.track i).cursor]? with
        | none => rfl
        | some r => exact if_neg (not_le_of_gt (h i r hrec hr))
    · rfl
  have hfold (l : List TrackIx) : l.foldl (fun x i => if x.recordedTrack i then x else
      x.dispatchTrack i s.transport.position (x.track i).recs.length) s = s := by
    induction l with
    | nil => rfl
    | cons i l ih => rw [List.foldl_cons, hone, ih]
  exact hfold _

/-- The natural end is not reached while an unmuted track has records left (R142). -/
theorem State.naturalEnd_of_left (h : ∃ i : TrackIx, (s.track i).mode ≠ .mute ∧ (s.track i).cursor < (s.track i).recs.length) :
    s.naturalEnd = s := by
  obtain ⟨i, hmode, hcursor⟩ := h
  unfold State.naturalEnd
  refine if_neg fun hend => ?_
  have hi := List.all_eq_true.mp hend.2 (s.track i) (by
    rw [toList_eq_map]
    exact List.mem_map.mpr ⟨i, List.mem_finRange i, rfl⟩)
  rw [Bool.or_eq_true, beq_iff_eq, Track.ended, decide_eq_true_iff] at hi
  exact hi.elim hmode fun hle => absurd hcursor (Nat.not_lt.mpr hle)

/-- A change of the state's name is told by a TRANSPORT record and raises TRANSPORT (R166). -/
theorem State.setTransportState_tells {st : TransportState} (h : st.name ≠ s.transport.state.name) :
    let beats := max (-1048576) (min 1048575 (Int.fdiv s.transport.position 480))
    let s' := s.setTransportState st
    s' = { s with transport := { s.transport with state := st }, journal := s'.journal, links := s'.links } ∧
    s'.journal = (if s.journal.length < 512 then s.journal else s.journal.tail) ++
      [{ body := .transport st.name beats, time := s.now }] ∧
    (s.journal.length < 512 → ∀ l : Link, (s'.link l).latched = (s.link l).latched ||| Condition.mask .transport) := by
  intro beats s'
  have hbeats : beatsOf s.transport.position = beats := clamp_eq_max_min _ (by decide)
  let x := s.setTransport { s.transport with state := st }
  have hs' : s' = x.report (.transport st.name beats) .transport := by
    change s.setTransportState st = _
    unfold State.setTransportState
    rw [if_neg h, ← hbeats]
    rfl
  have hlatched (hroom : x.journal.length < 512) := (State.report_of_room hroom (.transport st.name beats) .transport).2
  have hring := x.report_ring (.transport st.name beats) .transport
  rw [← hs'] at hlatched hring
  refine ⟨?_, hring, hlatched⟩
  rw [hs']
  rfl

end Dispatch

/-- Settles O37: a record by its body, a dispatch track by track, a live strike by the guide wait set. -/
theorem dispatchedRecords : Obligations.DispatchedRecords := by
  refine ⟨fun s i r pos => ?_, fun s => ?_, fun s k level hwaiting => ?_⟩
  · intro s' passed appended
    obtain ⟨opened, htrack⟩ := s.dispatch_track i r pos
    refine ⟨fun j hj => (htrack j).trans (if_neg hj), fun hmode => ?_, fun hmode => ?_⟩
    · have hs' : s' = s.setTrack i passed := State.dispatch_still hmode
      rw [hs']
      exact ⟨(s.track_setTrack i i passed).trans (if_pos rfl), rfl, rfl, rfl⟩
    · have hs' : s' = (s.setTrack i passed).playTake i r := State.dispatch_play hmode
      have hpassed : (s.setTrack i passed).track i = passed := (s.track_setTrack i i passed).trans (if_pos rfl)
      clear_value s'
      refine ⟨fun k level hr => ?on, fun k level hr hopen => ?off, fun k level hr hclosed => ?closed, fun c level hr => ?pedal,
        fun hr => ?wait, fun hr => ?endMark⟩
      case on =>
        obtain ⟨htracks, hjournal, hvoices⟩ := State.playTake_noteOn (s := s.setTrack i passed) (i := i) hr
        have hnote : ((s.setTrack i passed).noteOn (.playback i) k level).1.voices = (s.noteOn (.playback i) k level).1.voices := by
          rw [State.setTrack, State.noteOn_setTransport]
          rfl
        rw [← hs'] at htracks hjournal hvoices
        rw [hnote] at hvoices
        rw [hpassed] at htracks
        refine ⟨(htracks i).trans (if_pos rfl), hjournal, hvoices, fun w win hfind => ?_⟩
        obtain ⟨v, -, hv, -⟩ := State.noteOn_served (src := .playback i) hfind
        refine ⟨v, ?_⟩
        rw [State.voice, hvoices]
        exact hv
      case off =>
        rw [State.playTake_noteOff hr, hpassed, if_pos hopen] at hs'
        have hends := (s.setTrack i passed).endNote_ends i k level
        have htracks := hends.track i
        rw [if_pos rfl, hpassed] at htracks
        rw [hs']
        refine ⟨htracks, State.append_ring _ _ _, fun v x hx hsource hkey => ?_⟩
        exact State.noteOff_held ((s.setTrack i passed).setTrack i _) (.playback i) k level v x hx hsource hkey
      case closed =>
        rw [State.playTake_noteOff hr, hpassed, if_neg (by rw [show passed.opened = (s.track i).opened from rfl, hclosed]; exact Bool.false_ne_true)] at hs'
        rw [hs']
        exact ⟨hpassed, rfl, rfl⟩
      case pedal =>
        intro old on moved
        obtain ⟨htransport, hchannel, hcapture, hvoice, hjournal⟩ := (s.setTrack i passed).playbackPedal_acts c level
        rw [State.playTake_pedal hr] at hs'
        rw [← hs'] at htransport hchannel hcapture hvoice hjournal
        have hopened (j : TrackIx) : ((s.setTrack i passed).track j).opened = (s.track j).opened := by
          rw [State.track_setTrack]
          split
          · subst_vars
            rfl
          · rfl
        refine ⟨?_, (hchannel c).trans (if_pos rfl), fun d hd => (hchannel d).trans (if_neg hd), fun k => ?_, fun j v hv => ?_, hjournal⟩
        · rw [State.track, htransport]
          exact hpassed
        · have hkeys := (s.setTrack i passed).keysOn_playback k
          simp only [hopened] at hkeys
          rw [hcapture, Move.has_captures, hkeys]
          rfl
        · rw [hvoice, show (s.setTrack i passed).voice j = some v from hv]
          refine congrArg some ?_
          simp only []
          by_cases hlive : v.source = .live
          · rw [if_pos hlive, if_neg (mt Source.group_playback_iff.mp (not_not.mpr hlive))]
          · rw [if_neg hlive, if_pos (Source.group_playback_iff.mpr hlive)]
            rfl
      case wait =>
        rw [State.playTake_wait hr] at hs'
        rw [hs']
        exact ⟨hpassed, rfl, rfl⟩
      case endMark =>
        rw [State.playTake_end hr] at hs'
        rw [hs', ((s.setTrack i passed).releaseTrack_ends i).2, if_pos rfl, hpassed]
  · obtain ⟨-, htakes⟩ := s.dispatchAll_frame
    have hrecord := s.dispatchAll_record
    intro s'
    refine ⟨?_, hrecord.fields.1, fun i => ?_⟩
    · unfold RecordKept at hrecord
      rw [hrecord]
    · obtain ⟨hsame, hnone⟩ := s.dispatchAll_tracks i
      exact ⟨(htakes i).1, (htakes i).2.2, hsame, hnone⟩
  · have hs : s.transportKeyOn k level = s.guideStrike k level := by
      unfold State.transportKeyOn
      rw [hwaiting]
    intro left s' told
    have hs' : s' = s.guideStrike k level := hs
    clear_value s'
    refine ⟨fun hmiss => ?_, fun hmet hleft => ?_, fun hmet hleft => ?_⟩
    · have hmissed : s.guideStrike k level = s.append (.guideMiss k level) s.now := by
        unfold State.guideStrike
        rw [hmiss]
        rfl
      rw [hs', hmissed]
      exact ⟨rfl, State.append_ring _ _ _⟩
    · rw [hs']
      unfold State.guideStrike
      rw [if_pos hmet]
      exact if_neg hleft
    · have hreleased : s' = told.releaseWait := by
        rw [hs']
        unfold State.guideStrike
        rw [if_pos hmet]
        simp only []
        rw [if_pos (show (s.setTransport { s.transport with guideSet := KeySet.drop s.transport.guideSet k }).transport.guideSet = 0#88
          from hleft), show KeySet.drop s.transport.guideSet k = 0#88 from hleft]
        rfl
      refine ⟨hreleased, fun hdue hleft' hroom => ?_⟩
      have hdispatch : (told.report .guideMet .guide).dispatchAll = told.report .guideMet .guide := State.dispatchAll_of_none hdue
      have hend : ((told.report .guideMet .guide).setTransportState .playing).naturalEnd =
          (told.report .guideMet .guide).setTransportState .playing := by
        refine State.naturalEnd_of_left ?_
        obtain ⟨i, hmode, hcursor⟩ := hleft'
        refine ⟨i, ?_⟩
        rw [State.track, State.setTransportState_transport]
        exact ⟨hmode, hcursor⟩
      have hplays : s' = (told.report .guideMet .guide).setTransportState .playing := by
        rw [hreleased, State.releaseWait, hdispatch, hend]
      have hname : (told.report .guideMet .guide).transport.state.name = .waiting := by
        change s.transport.state.name = _
        rw [hwaiting]
        rfl
      obtain ⟨hframe, happends, hlatched⟩ := State.setTransportState_tells (s := told.report .guideMet .guide) (st := .playing)
        (by rw [hname]; nofun)
      obtain ⟨hmet', hguide⟩ := State.report_of_room (s := told) (Nat.lt_of_le_of_lt hroom (by decide)) .guideMet .guide
      rw [← hplays] at hframe happends hlatched
      have hjournal : (told.report .guideMet .guide).journal.length = s.journal.length + 1 := by
        rw [hmet', List.length_append]
        rfl
      refine ⟨hframe, ?_, fun l => ?_⟩
      · rw [happends, if_pos (by rw [hjournal]; omega), hmet', List.append_assoc]
        rfl
      · rw [hlatched (by rw [hjournal]; omega), hguide]
        rfl

end Sys2Proof.Machine
end

section
/-! A reading of a LIVE pedal channel (R47 to R52, R56 to R58, R101 to R103): O21. -/

namespace Sys2Proof.Machine

-- One declaration after another: side by side they open more threads than the check's memory limit holds.
set_option Elab.async false

/-! ### The live voices under the transport -/

/-- The voices of the live route are as they were, and no voice has begun. -/
def LiveVoicesKept (a b : State) : Prop := ∀ j : VoiceIx, (a.voice j = none → b.voice j = none) ∧
  ∀ v : Voice, a.voice j = some v → v.source = .live → b.voice j = some v

section LiveVoices
variable {a b c : State}

theorem LiveVoicesKept.of_voices (h : b.voices = a.voices) : LiveVoicesKept a b := by
  intro j
  have hj : b.voice j = a.voice j := by rw [State.voice, State.voice, h]
  rw [hj]
  exact ⟨id, fun _ hv _ => hv⟩

theorem LiveVoicesKept.trans (h : LiveVoicesKept a b) (g : LiveVoicesKept b c) : LiveVoicesKept a c := fun j =>
  ⟨fun hv => (g j).1 ((h j).1 hv), fun v hv hlive => (g j).2 v ((h j).2 v hv hlive) hlive⟩

/-- A change voice by voice that leaves the live ones. -/
theorem LiveVoicesKept.of_map {f : Voice → Voice} (h : ∀ j : VoiceIx, b.voice j = (a.voice j).map f)
    (hlive : ∀ v : Voice, v.source = .live → f v = v) : LiveVoicesKept a b := by
  intro j
  rw [h]
  refine ⟨fun hv => by rw [hv]; rfl, fun v hv hsource => ?_⟩
  rw [hv]
  exact congrArg some (hlive v hsource)

theorem State.Moves.liveVoices {m : Move} (h : a.Moves .playback m b) : LiveVoicesKept a b :=
  .of_map h.voice fun _ hlive => if_neg fun hg => Source.group_playback_iff.mp hg hlive

theorem State.playRecords_reach (s before : State) : s.playRecords before = { s with
    journal := (s.playRecords before).journal, links := (s.playRecords before).links } := by
  have hfold (l : List PedalIx) : ∀ x : State, let y := l.foldl (fun x i =>
      if (x.playChannel i).level = (before.playChannel i).level then x else x.playRecord i) x
      y = { x with journal := y.journal, links := y.links } := by
    induction l with
    | nil => exact fun _ => rfl
    | cons i l ih =>
      intro x
      rw [List.foldl_cons]
      simp only []
      split
      · exact ih x
      · rw [ih (x.playRecord i)]
        rfl
  exact hfold _ s

theorem State.playbackReset_reach (s : State) : s.playbackReset = { s.playbackLevels (fun _ => 0) with
    journal := s.playbackReset.journal, links := s.playbackReset.links } := State.playRecords_reach _ _

theorem State.playbackLevels_liveVoices (s : State) (levels : PedalIx → Nat) : LiveVoicesKept s (s.playbackLevels levels) := by
  let x : State := { s with play := tableOf fun i =>
    { level := levels i, switch := judgeSwitch (s.playChannel i).switch (levels i) } }
  have hset : LiveVoicesKept s x := .of_voices rfl
  have hchange (before after : Bool) := (x.sostenutoChange_moves .playback before after 0 0).liveVoices
  have hnotice (y : State) (lv lv' : Nat) := (y.damperNotice_moves .playback false false lv lv').liveVoices
  exact (hset.trans (hchange _ _)).trans (hnotice _ _ _)

theorem State.stopTail_liveVoices (s : State) : LiveVoicesKept s s.stopTail := by
  have habandon : LiveVoicesKept s s.abandonWalk := by
    unfold State.abandonWalk
    split <;> exact .of_voices rfl
  obtain ⟨-, -, hvoice, -⟩ := s.abandonWalk.releaseAll_ends
  have hrelease : LiveVoicesKept s.abandonWalk s.abandonWalk.releaseAll := .of_map hvoice fun v hlive =>
    if_neg fun ⟨_, i, hi, _⟩ => by
      rw [hlive] at hi
      cases hi
  have hreset : LiveVoicesKept s.abandonWalk.releaseAll s.abandonWalk.releaseAll.playbackReset :=
    (State.playbackLevels_liveVoices _ _).trans (.of_voices (by rw [State.playbackReset_reach]))
  have hstate (x : State) (st : TransportState) : LiveVoicesKept x (x.setTransportState st) := by
    unfold State.setTransportState
    simp only []
    split <;> exact .of_voices rfl
  have hrest := habandon.trans (hrelease.trans hreset)
  unfold State.stopTail
  simp only []
  generalize s.abandonWalk.releaseAll.playbackReset = x at hrest ⊢
  exact (hrest.trans (.of_voices (b := x.setTransport { x.transport with guideSet := 0#88, acc := 0 }) rfl)).trans (hstate _ _)

theorem State.recordEvent_liveVoices (s : State) (body : TakeBody) : LiveVoicesKept s (s.recordEvent body) := by
  have hclose : LiveVoicesKept s s.closeRecording := by
    unfold State.closeRecording
    split <;> exact .of_voices rfl
  unfold State.recordEvent
  split
  · exact .of_voices rfl
  · simp only []
    generalize (if s.transport.state = .countIn then (0 : Int) else s.transport.position) = pos
    split
    · exact .of_voices rfl
    · exact (hclose.trans (LiveVoicesKept.of_voices (b := s.closeRecording.report _ _) rfl)).trans (State.stopTail_liveVoices _)

theorem State.transportPedal_liveVoices (s : State) (c : PedalIx) (level : Nat) : LiveVoicesKept s (s.transportPedal c level) := by
  unfold State.transportPedal
  split
  · exact s.recordEvent_liveVoices _
  · exact s.recordEvent_liveVoices _
  · exact .of_voices rfl

end LiveVoices

/-- The transport hears of LIVE pedals in COUNT_IN and RECORDING alone (R153, R154). -/
theorem State.transportPedal_still {s : State} {c : PedalIx} {level : Nat}
    (h : ¬(s.transport.state = .countIn ∨ s.transport.state = .recording)) : s.transportPedal c level = s := by
  unfold State.transportPedal
  split
  · exact absurd (.inl (by assumption)) h
  · exact absurd (.inr (by assumption)) h
  · rfl

/-! ### What a reading makes of a channel -/

theorem pedalLevel_eq (c : PedalCal) (raw : Nat) : pedalLevel c raw =
    (max 0 (min 127 (Int.fdiv (((raw : Int) - c.rest) * 127) ((c.full : Int) - c.rest)))).toNat :=
  congrArg Int.toNat (clamp_eq_max_min _ (by decide))

/-- A level worth a record (R50). -/
theorem LiveChannel.publishes_iff (y : LiveChannel) : y.publishes = true ↔ y.level ≠ y.published ∧
    (y.published + 2 ≤ y.level ∨ y.level + 2 ≤ y.published ∨ y.level = 0 ∨ y.level = 127) := by
  simp only [LiveChannel.publishes, Bool.and_eq_true, Bool.or_eq_true, bne_iff_ne, beq_iff_eq, decide_eq_true_eq, or_assoc]

section Read
variable {x : LiveChannel} {c : PedalCal} {raw : Nat} {t : Time}

theorem LiveChannel.pulled_iff : x.pulled raw t = true ↔
    ∃ t0 : Time, x.fullRun raw t = some t0 ∧ 500000 ≤ (t - t0).toNat := by
  unfold LiveChannel.pulled
  cases hrun : x.fullRun raw t with
  | none => simp
  | some t0 =>
    simp only [Option.some.injEq, exists_eq_left']
    exact reached_iff t0 500000 t

/-- A reading of a connected channel that is not taken off (R48, R49). -/
theorem LiveChannel.read_level (hconnected : x.connected = true)
    (hrun : ∀ t0 : Time, x.fullRun raw t = some t0 → (t - t0).toNat < 500000) : ∃ publishes : Bool,
    x.read c raw t = some ({ x with atFull := x.fullRun raw t }.atLevel (pedalLevel c raw), publishes) ∧
    (publishes = true ↔ pedalLevel c raw ≠ x.published ∧ (x.published + 2 ≤ pedalLevel c raw ∨
      pedalLevel c raw + 2 ≤ x.published ∨ pedalLevel c raw = 0 ∨ pedalLevel c raw = 127)) := by
  refine ⟨({ x with atFull := x.fullRun raw t }.atLevel (pedalLevel c raw)).publishes, ?_, ?_⟩
  · unfold LiveChannel.read
    rw [if_pos hconnected, if_neg fun h => ?_]
    obtain ⟨t0, ht0, hlong⟩ := LiveChannel.pulled_iff.mp h
    exact absurd (hrun t0 ht0) (Nat.not_lt.mpr hlong)
  · exact LiveChannel.publishes_iff _

/-- A run of full readings of 500 ms takes a channel off (R51). -/
theorem LiveChannel.read_pulled (hconnected : x.connected = true)
    (hrun : ∃ t0 : Time, x.fullRun raw t = some t0 ∧ 500000 ≤ (t - t0).toNat) :
    x.read c raw t = some ({ x with atFull := none, connected := false }.atLevel 0, true) := by
  unfold LiveChannel.read
  rw [if_pos hconnected, if_pos (LiveChannel.pulled_iff.mpr hrun)]

theorem LiveChannel.read_discarded (hconnected : x.connected = false) (h : 1000 ≤ raw) : x.read c raw t = none := by
  unfold LiveChannel.read
  rw [if_neg (by rw [hconnected]; exact Bool.false_ne_true), if_pos h]

theorem LiveChannel.read_returns (hconnected : x.connected = false) (h : raw < 1000) :
    x.read c raw t = some ({ x with connected := true }.atLevel (pedalLevel c raw), true) := by
  unfold LiveChannel.read
  rw [if_neg (by rw [hconnected]; exact Bool.false_ne_true), if_neg (Nat.not_le.mpr h)]

end Read

/-! ### A reading after the evaluation (R58) -/

/-- What a reading does that makes of its channel `y` and publishes or not: the channel, the others, the capture set and the
live voices, and what else it reaches. -/
structure State.PedalReads (s : State) (i : PedalIx) (y : LiveChannel) (m : Move) (s' : State) : Prop where
  channel : s'.liveChannel i = y
  others : ∀ j : PedalIx, j ≠ i → s'.liveChannel j = s.liveChannel j
  capture : s'.liveCapture = m.captures (s.keysOn .live) s.liveCapture
  silent : ∀ j : VoiceIx, s.voice j = none → s'.voice j = none
  live : ∀ (j : VoiceIx) (v : Voice), s.voice j = some v → v.source = .live →
    s'.voice j = some { v with state := m.moves s.liveCapture (s.liveChannel damperIx).level v }

section Reads
variable {s a : State} {i : PedalIx} {y z : LiveChannel}

/-- The effects on the group, after the channel's change and its publication. -/
theorem State.pedalEffects_reads {sw : Bool} {lv : Nat} (hvoices : LiveVoicesKept s a)
    (hchannel : ∀ j : PedalIx, a.liveChannel j = if j = i then z else s.liveChannel j) (hset : a.liveCapture = s.liveCapture)
    (hkeys : a.keysOn .live = s.keysOn .live) :
    let m : Move := { channel := i, wasOn := sw, isOn := z.switch, was := lv, is := z.level }
    let s' := a.pedalEffects .live i sw z.switch lv z.level
    s.PedalReads i z m s' ∧
    s' = { a with live := s'.live, liveCapture := s'.liveCapture, voices := s'.voices } ∧
    ∀ (j : VoiceIx) (v : Voice), a.voice j = some v → v.source ≠ .live → s'.voice j = some v := by
  intro m s'
  obtain ⟨heffects, hcapture, hother, hvoice⟩ : a.Moves .live m s' := a.pedalEffects_moves .live i sw z.switch lv z.level
  clear_value s'
  have hkept : s'.live = a.live := by rw [heffects]
  have hmoves (v : Voice) : m.moves (a.capture .live) (a.damper .live) v =
      m.moves s.liveCapture (s.liveChannel damperIx).level v := by
    rw [show a.capture .live = s.liveCapture from hset]
    by_cases hi : i = sostenutoIx
    · have hdamper : a.damper .live = (s.liveChannel damperIx).level :=
        congrArg LiveChannel.level ((hchannel damperIx).trans (if_neg (by rw [hi]; decide)))
      rw [hdamper]
    · simp only [Move.moves, m, hi, false_and, if_false]
  have hlived {v : Voice} : v.source.group = .live ↔ v.source = .live := by
    cases hsource : v.source with
    | live => exact ⟨fun _ => rfl, fun _ => rfl⟩
    | playback n => exact ⟨nofun, nofun⟩
  refine ⟨⟨?_, fun j hj => ?_, ?_, fun j hv => ?_, fun j v hv hsource => ?_⟩, ?_, fun j v hv hsource => ?_⟩
  · exact (State.liveChannel_of_live hkept i).trans ((hchannel i).trans (if_pos rfl))
  · exact (State.liveChannel_of_live hkept j).trans ((hchannel j).trans (if_neg hj))
  · rw [← hkeys, ← hset]
    exact hcapture
  · rw [hvoice, (hvoices j).1 hv]
    rfl
  · rw [hvoice, (hvoices j).2 v hv hsource, Option.map_some, if_pos (hlived.mpr hsource), hmoves]
  · have hplay : s'.playCapture = a.playCapture := hother .playback nofun
    rw [heffects, hplay]
  · rw [hvoice, hv, Option.map_some, if_neg (mt hlived.mp hsource)]

/-- A reading that does not publish (R48, R49). -/
theorem State.pedalReadingAfter_quiet {raw : Nat} (hread : (s.liveChannel i).read s.cal.pedals[i] raw s.now = some (y, false)) :
    let x := s.liveChannel i
    let m : Move := { channel := i, wasOn := x.switch, isOn := y.switch, was := x.level, is := y.level }
    let s' := s.pedalReadingAfter i raw
    s.PedalReads i y m s' ∧ s' = { s with live := s'.live, liveCapture := s'.liveCapture, voices := s'.voices } ∧
    ∀ (j : VoiceIx) (v : Voice), s.voice j = some v → v.source ≠ .live → s'.voice j = some v := by
  intro x m s'
  have hs' : s' = (s.setLive i y).pedalEffects .live i x.switch y.switch x.level y.level := by
    change s.pedalReadingAfter i raw = _
    unfold State.pedalReadingAfter
    simp only [hread]
    rfl
  obtain ⟨hreads, hframe, hvoices⟩ := State.pedalEffects_reads (s := s) (a := s.setLive i y) (i := i) (z := y) (sw := x.switch) (lv := x.level)
    (LiveVoicesKept.of_voices rfl) (fun j => State.setLive_liveChannel s i j y) rfl rfl
  rw [← hs'] at hreads hframe hvoices
  exact ⟨hreads, hframe, hvoices⟩

/-- A reading that publishes: the record, then the transport, then the effects on the group (R50, R58). -/
theorem State.pedalReadingAfter_publishes {raw : Nat}
    (hread : (s.liveChannel i).read s.cal.pedals[i] raw s.now = some (y, true)) :
    let x := s.liveChannel i
    let m : Move := { channel := i, wasOn := x.switch, isOn := y.switch, was := x.level, is := y.level }
    let s1 := ((s.setLive i y).append (.pedal .live i y.level y.switch y.connected) s.now).setLive i
      { y with published := y.level }
    let s' := s.pedalReadingAfter i raw
    s.PedalReads i { y with published := y.level } m s' ∧
    s' = { s1.transportPedal i y.level with live := s'.live, liveCapture := s'.liveCapture, voices := s'.voices } ∧
    ∀ (j : VoiceIx) (v : Voice), (s1.transportPedal i y.level).voice j = some v → v.source ≠ .live → s'.voice j = some v := by
  intro x m s1 s'
  have hy : (s.setLive i y).liveChannel i = y := (State.setLive_liveChannel s i i y).trans (if_pos rfl)
  have hs' : s' = (s1.transportPedal i y.level).pedalEffects .live i x.switch y.switch x.level y.level := by
    change s.pedalReadingAfter i raw = _
    unfold State.pedalReadingAfter
    simp only [hread, State.publish, hy, if_true]
    rfl
  have hframe : TakeFrame s1 (s1.transportPedal i y.level) := (State.transportPedal_plays _ _ _).take
  unfold TakeFrame at hframe
  have hchannel (j : PedalIx) : (s1.transportPedal i y.level).liveChannel j =
      if j = i then { y with published := y.level } else s.liveChannel j := by
    rw [State.liveChannel_of_live (a := s1.transportPedal i y.level) (b := s1) (by rw [hframe]), State.setLive_liveChannel]
    split
    · rfl
    · exact (State.setLive_liveChannel s i j y).trans (if_neg (by assumption))
  have hvoices : LiveVoicesKept s (s1.transportPedal i y.level) :=
    (LiveVoicesKept.of_voices (b := s1) rfl).trans (State.transportPedal_liveVoices _ _ _)
  obtain ⟨hreads, hframe', hvoices'⟩ := State.pedalEffects_reads (sw := x.switch) (lv := x.level) hvoices hchannel
    (by rw [hframe]; rfl) (by rw [hframe]; rfl)
  rw [← hs'] at hreads hframe' hvoices'
  exact ⟨hreads, hframe', hvoices'⟩

end Reads

/-! ### The evaluation (R47) -/

theorem State.allPedalsEvaluated_iff (s : State) :
    s.allPedalsEvaluated = true ↔ ∀ j : PedalIx, (s.liveChannel j).evaluated = true := by
  unfold State.allPedalsEvaluated
  rw [List.all_eq_true, toList_eq_map]
  simp [State.liveChannel]

/-- The last channel evaluated reports the disconnected ones and may end CHECKING (R47, R208). -/
theorem State.reportPedals_startUp {s : State} (h : s.startUp.phase = .checking) : s.reportPedals.startUp = { s.startUp with
    disconnected := if s.allPedalsEvaluated then some ((List.finRange 3).filter fun j => !(s.liveChannel j).connected)
      else s.startUp.disconnected
    phase := if s.allPedalsEvaluated && s.allKeysEvaluated && s.rail.decided then .samples else .checking
    phaseSince := if s.allPedalsEvaluated && s.allKeysEvaluated && s.rail.decided then s.now else s.startUp.phaseSince } := by
  unfold State.reportPedals
  cases hall : s.allPedalsEvaluated with
  | false =>
    simp only [Bool.false_and, Bool.false_eq_true, if_false]
    rw [← h]
  | true =>
    rw [if_pos rfl, State.judgeChecking_startUp _ (by exact h)]
    have hkeys (u : StartUp) : State.allKeysEvaluated { s with startUp := u } = s.allKeysEvaluated := rfl
    have hpedals (u : StartUp) : State.allPedalsEvaluated { s with startUp := u } = s.allPedalsEvaluated := rfl
    simp only [hkeys, hpedals, hall, true_and, Bool.true_and, Bool.and_eq_true, if_true]
    split
    · rfl
    · rw [← h]

/-- Settles O21: what the reading makes of the channel, then the effects on its group. -/
theorem pedalReadings : Obligations.PedalReadings := by
  intro t i r s x cal level on run records captures moved sounds published frame worth
  have hlevel : pedalLevel cal r.val = level := pedalLevel_eq cal r.val
  have hexec : exec (.pedalDepthReading t i r) s = .next ((s.stamp t).pedalReading i r.val) := rfl
  refine ⟨fun hphase hevaluated => ?_, fun hloading => ?_, fun hchecking hnot => ?_⟩
  · have hafter : (s.stamp t).pedalReading i r.val = (s.stamp t).pedalReadingAfter i r.val :=
      (if_neg hphase).trans (if_neg fun h => by
        have hdone := hevaluated h.1
        exact absurd (hdone.symm.trans h.2) nofun)
    rw [hafter] at hexec
    have hpublished {y : LiveChannel} (hread : x.read cal r.val t = some (y, true)) : ∃ s' : State,
        exec (.pedalDepthReading t i r) s = .next s' ∧ frame s' ∧ captures s' y.switch ∧ sounds s' y.level y.switch ∧
        published s' ∧ s'.liveChannel i = { y with published := y.level } := by
      obtain ⟨⟨hchannel, hothers, hcapture, hsilent, hlive⟩, hframe, hvoices⟩ :=
        State.pedalReadingAfter_publishes (s := s.stamp t) (i := i) hread
      refine ⟨_, hexec, ⟨hothers, fun hstill => ?_⟩, hcapture, ⟨hlive, fun j v hv hsource hstill => ?_, hsilent⟩, ?_, hchannel⟩
      · rw [State.transportPedal_still (by exact hstill)] at hframe
        rw [hframe]
        rfl
      · rw [State.transportPedal_still (by exact hstill)] at hvoices
        exact hvoices j v hv hsource
      · simp only [published, hchannel]
        exact ⟨(((s.stamp t).setLive i y).append (.pedal .live i y.level y.switch y.connected) t).setLive i
          { y with published := y.level }, State.append_ring _ _ _, rfl, hframe, fun hstill => State.transportPedal_still hstill⟩
    refine ⟨fun hconnected hrun => ?_, fun t0 hconnected hrun hlong => ?_, fun hconnected hfull => ?_, fun hconnected hlow => ?_⟩
    · obtain ⟨publishes, hread, hworth⟩ := LiveChannel.read_level (x := x) (c := cal) hconnected hrun
      rw [hlevel] at hread hworth
      cases publishes with
      | true =>
        obtain ⟨s', hexec', hframe, hcapture, hsounds, hpub, hchannel⟩ := hpublished hread
        exact ⟨s', hexec', hframe, hcapture, hsounds, fun _ => ⟨hchannel, hpub⟩, fun h => absurd (hworth.mp rfl) h⟩
      | false =>
        obtain ⟨⟨hchannel, hothers, hcapture, hsilent, hlive⟩, hframe, hvoices⟩ :=
          State.pedalReadingAfter_quiet (s := s.stamp t) (i := i) hread
        refine ⟨_, hexec, ⟨hothers, fun _ => ?_⟩, hcapture, ⟨hlive, fun j v hv hsource _ => hvoices j v hv hsource, hsilent⟩,
          fun h => absurd (hworth.mpr h) nofun, fun _ => ⟨hchannel, hframe⟩⟩
        rw [hframe]
        rfl
    · have hread := LiveChannel.read_pulled (x := x) (c := cal) hconnected ⟨t0, hrun, hlong⟩
      have hoff : judgeSwitch x.switch 0 = false := by cases x.switch <;> rfl
      simp only [LiveChannel.atLevel, hoff] at hread
      exact hpublished hread
    · rw [hexec]
      unfold State.pedalReadingAfter
      have hread : ((s.stamp t).liveChannel i).read (s.stamp t).cal.pedals[i] r.val (s.stamp t).now = none :=
        LiveChannel.read_discarded hconnected hfull
      simp only [hread]
      rfl
    · have hread := LiveChannel.read_returns (x := x) (c := cal) (t := t) hconnected hlow
      rw [hlevel] at hread
      exact hpublished hread
  · rw [hexec]
    exact congrArg Host.Outcome.next (if_pos hloading)
  · intro found last ends
    let y := evaluatedChannel cal r.val
    let s1 := (s.stamp t).setLive i y
    have hreading : (s.stamp t).pedalReading i r.val = s1.reportPedals :=
      (if_neg (by rw [show (s.stamp t).startUp.phase = .checking from hchecking]; nofun)).trans (if_pos ⟨hchecking, hnot⟩)
    have hchannel (j : PedalIx) : s1.liveChannel j = if j = i then y else s.liveChannel j :=
      State.setLive_liveChannel (s.stamp t) i j y
    have hlast : s1.allPedalsEvaluated = last := by
      rw [Bool.eq_iff_iff, State.allPedalsEvaluated_iff, decide_eq_true_iff]
      refine forall_congr' fun j => ?_
      rw [hchannel]
      by_cases hj : j = i <;> simp [hj, y, evaluatedChannel]
    have hframe := s1.reportPedals_frame
    have hstart := State.reportPedals_startUp (s := s1) hchecking
    have hkept : s1.reportPedals.live = s1.live := by rw [hframe]
    refine ⟨_, hexec.trans (congrArg _ hreading), ?_, fun j hj => ?_, ?_, ?_⟩
    · rw [State.liveChannel_of_live hkept, hchannel, if_pos rfl]
      simp only [y, evaluatedChannel, hlevel]
      rfl
    · rw [State.liveChannel_of_live hkept, hchannel, if_neg hj]
    · simp only [State.liveChannel_of_live hkept]
      rw [hstart, hlast]
      rfl
    · rw [hframe]
      rfl

end Sys2Proof.Machine
end

section
/-! What STOP, a release and a position taken leave (R139, R141, R142, R146, R149, R155). -/

namespace Sys2Proof.Machine

-- One declaration after another: side by side they open more threads than the check's memory limit holds.
set_option Elab.async false

section Transport
variable {s : State}

/-- A state change touches the transport's state and what a record reaches, whether it is told or not. -/
theorem State.setTransportState_reach (s : State) (st : TransportState) : s.setTransportState st = { s with
    transport := { s.transport with state := st }
    journal := (s.setTransportState st).journal, links := (s.setTransportState st).links } := by
  unfold State.setTransportState
  simp only []
  split <;> rfl

/-! ### The PLAYBACK group at 0 (R55) -/

/-- Without a level that differs nothing is told. -/
theorem State.playRecords_of_same {before : State} (h : ∀ c : PedalIx, (s.playChannel c).level = (before.playChannel c).level) :
    s.playRecords before = s := by
  have hfold (l : List PedalIx) : l.foldl (fun x i =>
      if (x.playChannel i).level = (before.playChannel i).level then x else x.playRecord i) s = s := by
    induction l with
    | nil => rfl
    | cons i l ih => rw [List.foldl_cons, if_pos (h i), ih]
  exact hfold _

/-- All three PLAYBACK levels set together: the channels, and nothing of the journal. -/
theorem State.playbackLevels_sets (s : State) (levels : PedalIx → Nat) :
    (∀ c : PedalIx, (s.playbackLevels levels).playChannel c =
      { level := levels c, switch := judgeSwitch (s.playChannel c).switch (levels c) }) ∧
    (s.playbackLevels levels).journal = s.journal := by
  let x : State := { s with play := tableOf fun i =>
    { level := levels i, switch := judgeSwitch (s.playChannel i).switch (levels i) } }
  have hchange := (x.sostenutoChange_moves .playback (s.playChannel sostenutoIx).switch (x.playChannel sostenutoIx).switch 0 0).frame
  have hnotice (y : State) := (y.damperNotice_moves .playback false false (s.playChannel damperIx).level (levels damperIx)).frame
  have hs' : s.playbackLevels levels = (x.sostenutoChange .playback (s.playChannel sostenutoIx).switch
      (x.playChannel sostenutoIx).switch).damperNotice .playback (s.playChannel damperIx).level (levels damperIx) := rfl
  have hkept : (s.playbackLevels levels).play = x.play ∧ (s.playbackLevels levels).journal = x.journal := by
    rw [hs', hnotice, hchange]
    exact ⟨rfl, rfl⟩
  refine ⟨fun c => ?_, hkept.2⟩
  rw [State.playChannel, hkept.1]
  exact tableOf_get _ c

theorem judgeSwitch_zero (on : Bool) : judgeSwitch on 0 = false := by cases on <;> rfl

theorem State.playbackReset_transport (s : State) : s.playbackReset.transport = s.transport := by
  rw [s.playbackReset_reach]
  exact (s.playbackLevels_frame _).2

theorem State.playbackReset_channels (s : State) (c : PedalIx) : s.playbackReset.playChannel c = { level := 0, switch := false } := by
  rw [State.playChannel, s.playbackReset_reach]
  refine ((s.playbackLevels_sets _).1 c).trans ?_
  rw [judgeSwitch_zero]

/-- Levels already at 0 are reset without a record. -/
theorem State.playbackReset_journal (h : ∀ c : PedalIx, (s.playChannel c).level = 0) : s.playbackReset.journal = s.journal := by
  unfold State.playbackReset
  obtain ⟨hchannel, hjournal⟩ := s.playbackLevels_sets fun _ => 0
  rw [State.playRecords_of_same fun c => by rw [hchannel, h], hjournal]

/-- Channels already at 0 and off are reset without an effect. -/
theorem State.playbackReset_of_clear (h : ∀ c : PedalIx, s.playChannel c = { level := 0, switch := false }) : s.playbackReset = s := by
  have hset : ({ s with play := tableOf fun i => { level := 0, switch := judgeSwitch (s.playChannel i).switch 0 } } : State) = s := by
    have hplay : (tableOf fun i => { level := 0, switch := judgeSwitch (s.playChannel i).switch 0 } : Vector PlayChannel 3) =
        s.play := by
      refine table_ext fun i => ?_
      rw [tableOf_get, judgeSwitch_zero]
      exact (h i).symm
    rw [hplay]
  have hlevels : s.playbackLevels (fun _ => 0) = s := by
    unfold State.playbackLevels
    simp only []
    rw [hset, h sostenutoIx, h damperIx]
    rfl
  unfold State.playbackReset
  rw [hlevels, State.playRecords_of_same fun _ => rfl]

/-! ### What stays latched -/

/-- No act of the transport clears a latched condition. -/
theorem Plays.latched {ticking : Prop} {a b : State} (h : Plays ticking a b) {l : Link} {i : Nat}
    (ha : (a.link l).latched.getLsbD i = true) : (b.link l).latched.getLsbD i = true := by
  have hlinks {x y : State} (hxy : y.links = x.links) (hx : (x.link l).latched.getLsbD i = true) :
      (y.link l).latched.getLsbD i = true := by
    rw [State.link, hxy]
    exact hx
  refine h.keeps (P := fun x => (x.link l).latched.getLsbD i = true) (fun x y hstep hx => ?_) ha
  cases hstep with
  | move => exact hx
  | log => exact (Logs.append _ _).latched hx
  | raise hc => exact (Logs.raise _ hc).latched hx
  | opens => exact hlinks (by rw [State.noteOn_frame]; rfl) hx
  | closes => exact hlinks (by rw [State.noteOff_frame]; rfl) hx
  | @pedal c level =>
    have heffects (z : State) (sw sw' : Bool) (lv lv' : Nat) : (z.pedalEffects .playback c sw sw' lv lv').links = z.links := by
      rw [(z.pedalEffects_moves .playback c sw sw' lv lv').frame]
    unfold State.playbackPedal
    refine hlinks (heffects _ _ _ _ _) ?_
    split
    · exact hx
    · exact (Logs.append _ _).latched (s := x.setPlay c _) hx
  | levels =>
    refine hlinks ?_ hx
    unfold State.playbackLevels
    simp only []
    rw [(State.damperNotice_moves _ .playback false false _ _).frame, (State.sostenutoChange_moves _ .playback _ _ 0 0).frame]
  | sound => exact hx

/-! ### STOP (R146) -/

/-- The record that tells of IDLE, at the position an abandoned walk leaves (R146, R166). -/
def State.idleRecord (s : State) : JournalRec :=
  { body := .transport .idle (max (-1048576) (min 1048575 (Int.fdiv s.abandonWalk.transport.position 480))), time := s.now }

/-- What STOP leaves from its step 2 on. -/
structure State.Stops (s s' : State) : Prop where
  transport : s'.transport = { s.abandonWalk.transport with
    state := .idle, guideSet := 0#88, acc := 0, tracks := s'.transport.tracks }
  track : ∀ i : TrackIx, s'.track i = { s.track i with opened := 0#88 }
  channel : ∀ c : PedalIx, s'.playChannel c = { level := 0, switch := false }
  click : s'.click = s.click
  record : s.transport.state ≠ .idle → s'.journal.getLast? = some s.idleRecord
  records : s.transport.state ≠ .idle → (∀ i : TrackIx, (s.track i).opened = 0#88) → (∀ c : PedalIx, (s.playChannel c).level = 0) →
    s'.journal = (if s.journal.length < 512 then s.journal else s.journal.tail) ++ [s.idleRecord]

theorem State.abandonWalk_track (s : State) (i : TrackIx) : s.abandonWalk.track i = s.track i := by
  unfold State.abandonWalk
  split <;> rfl

theorem State.abandonWalk_state (s : State) : s.abandonWalk.transport.state = s.transport.state := by
  unfold State.abandonWalk
  split
  · rename_i h
    exact h.symm ▸ rfl
  · rfl

theorem State.abandonWalk_of_locating {target : Int} {ret : WalkReturn} (h : s.transport.state = .locating target ret) :
    s.abandonWalk = s.setTransport { s.transport with position := target, placed := false } := by
  unfold State.abandonWalk
  rw [h]

theorem State.abandonWalk_of_still (h : s.transport.state.name ≠ .locating) : s.abandonWalk = s := by
  unfold State.abandonWalk
  split
  · rename_i hlocating
    exact absurd (congrArg TransportState.name hlocating) h
  · rfl

theorem State.abandonWalk_reach (s : State) : s.abandonWalk.transport = { s.transport with
    position := s.abandonWalk.transport.position, placed := s.abandonWalk.transport.placed } := by
  unfold State.abandonWalk
  split <;> rfl

theorem State.abandonWalk_position (s : State) : s.abandonWalk.transport.position =
    (match s.transport.state with | .locating target _ => target | _ => s.transport.position) := by
  have hstill (h : s.transport.state.name ≠ .locating) := congrArg (fun x => x.transport.position) (State.abandonWalk_of_still h)
  cases h : s.transport.state with
  | locating target ret => exact congrArg (fun x => x.transport.position) (State.abandonWalk_of_locating h)
  | _ => exact hstill (by rw [h]; nofun)

theorem TransportState.name_idle {st : TransportState} : st.name = .idle ↔ st = .idle := by
  cases st <;> simp [TransportState.name]

theorem State.stopTail_stops (s : State) : s.Stops s.stopTail := by
  obtain ⟨hnotes, htrack, -, -⟩ := s.abandonWalk.releaseAll_ends
  have hrecord : RecordKept s.abandonWalk s.abandonWalk.releaseAll.playbackReset :=
    s.abandonWalk.releaseAll_record.trans (State.playbackReset_record _)
  have htracks (i : TrackIx) : s.abandonWalk.releaseAll.playbackReset.track i = { s.track i with opened := 0#88 } := by
    rw [State.track, State.playbackReset_transport]
    exact (htrack i).trans (by rw [s.abandonWalk_track])
  have hchannel := s.abandonWalk.releaseAll.playbackReset_channels
  have hclick : s.stopTail.click = s.click := by
    have htake := (s.stopTail_plays (ticking := False)).take
    unfold TakeFrame at htake
    rw [htake]
  have hnow : s.abandonWalk.releaseAll.playbackReset.now = s.now := by
    have htake := (((s.abandonWalk_plays (ticking := False)).trans (State.releaseAll_plays _)).trans (State.playbackReset_plays _)).take
    unfold TakeFrame at htake
    rw [htake]
  have hs' : s.stopTail = (s.abandonWalk.releaseAll.playbackReset.setTransport
      { s.abandonWalk.releaseAll.playbackReset.transport with guideSet := 0#88, acc := 0 }).setTransportState .idle := rfl
  have hquiet (hopen : ∀ i : TrackIx, (s.track i).opened = 0#88) (hlevel : ∀ c : PedalIx, (s.playChannel c).level = 0) :
      s.abandonWalk.releaseAll.playbackReset.journal = s.journal := by
    have habandon : s.abandonWalk.play = s.play ∧ s.abandonWalk.journal = s.journal := by
      unfold State.abandonWalk
      split <;> exact ⟨rfl, rfl⟩
    rw [State.releaseAll_of_closed fun i => by rw [s.abandonWalk_track]; exact hopen i]
    refine (State.playbackReset_journal fun c => ?_).trans habandon.2
    rw [State.playChannel, habandon.1]
    exact hlevel c
  generalize s.abandonWalk.releaseAll.playbackReset = x at *
  generalize s.stopTail = s' at *
  let y := x.setTransport { x.transport with guideSet := 0#88, acc := 0 }
  change s' = y.setTransportState .idle at hs'
  have hreach := y.setTransportState_reach .idle
  rw [← hs'] at hreach
  unfold RecordKept at hrecord
  have htold (hstate : s.transport.state ≠ .idle) : s'.journal =
      (if x.journal.length < 512 then x.journal else x.journal.tail) ++ [s.idleRecord] := by
    have hname : TransportState.name .idle ≠ y.transport.state.name := fun h => by
      have hidle : x.transport.state = .idle := TransportState.name_idle.mp h.symm
      rw [hrecord] at hidle
      exact hstate ((s.abandonWalk_state).symm.trans hidle)
    obtain ⟨-, hring, -⟩ := State.setTransportState_tells hname
    rw [← hs'] at hring
    have hlast : s.idleRecord =
        { body := .transport .idle (max (-1048576) (min 1048575 (Int.fdiv y.transport.position 480))), time := y.now } := by
      have hposition : y.transport.position = s.abandonWalk.transport.position := by
        change x.transport.position = _
        rw [hrecord]
      rw [hposition, show y.now = s.now from hnow]
      rfl
    rw [hring, hlast]
    rfl
  refine ⟨?_, fun i => ?_, fun c => ?_, hclick, fun hstate => ?_, fun hstate hopen hlevel => ?_⟩
  · have htransport : s'.transport = { x.transport with state := .idle, guideSet := 0#88, acc := 0 } := by
      rw [hreach]
      rfl
    rw [htransport, hrecord]
  · rw [State.track, hreach]
    exact htracks i
  · rw [State.playChannel, hreach]
    exact hchannel c
  · rw [htold hstate, List.getLast?_concat]
  · rw [htold hstate, hquiet hopen hlevel]

theorem State.Stops.fields {s' : State} (h : s.Stops s') :
    s'.transport.state = .idle ∧ s'.transport.acc = 0 ∧ s'.transport.guideSet = 0#88 ∧
    s'.transport.recording = s.transport.recording ∧ s'.transport.load = s.transport.load ∧
    s'.transport.position = (match s.transport.state with | .locating target _ => target | _ => s.transport.position) := by
  have hposition := s.abandonWalk_position
  rw [h.transport, s.abandonWalk_reach]
  exact ⟨rfl, rfl, rfl, rfl, rfl, hposition⟩

/-- Outside a walk STOP keeps the position. -/
theorem State.Stops.position {s' : State} (h : s.Stops s') (hname : s.transport.state.name ≠ .locating) :
    s'.transport.position = s.transport.position := by
  rw [h.transport, State.abandonWalk_of_still hname]

/-- STOP of a part that already stands still does nothing (R146). -/
theorem State.stopTail_of_still (hstate : s.transport.state = .idle) (hacc : s.transport.acc = 0)
    (hguide : s.transport.guideSet = 0#88) (hopen : ∀ i : TrackIx, (s.track i).opened = 0#88)
    (hchannel : ∀ c : PedalIx, s.playChannel c = { level := 0, switch := false }) : s.stopTail = s := by
  have habandon : s.abandonWalk = s := by
    unfold State.abandonWalk
    rw [hstate]
  unfold State.stopTail
  rw [habandon, State.releaseAll_of_closed hopen, State.playbackReset_of_clear hchannel]
  have hset : s.setTransport { s.transport with guideSet := 0#88, acc := 0 } = s := by
    have hsame : ({ s.transport with guideSet := 0#88, acc := 0 } : Transport) = s.transport := by rw [← hguide, ← hacc]
    rw [hsame]
    rfl
  simp only []
  rw [hset]
  unfold State.setTransportState
  rw [hstate, if_pos rfl, ← hstate]
  rfl

/-! ### A recording closed (R155) -/

theorem State.closeRecording_of_none (h : s.transport.recording = none) : s.closeRecording = s := by
  unfold State.closeRecording
  rw [h]

/-- The track recorded ends with its END, after the WAITs that its gap and the free slots give it. -/
theorem State.closeRecording_closes {r : Recording} (h : s.transport.recording = some r) :
    let gap := (max s.transport.position 0 - r.lastPos).toNat
    let waits := min (gapWaits gap) s.freeSlots
    let closed : Track := { s.track r.track with
      recs := (s.track r.track).recs ++ waitRecs waits ++ endOnly (min Config.maxDelta (gap - waits * Config.maxDelta))
      reserved := false }
    s.closeRecording = { s with transport := { s.transport with
      recording := none, placed := false, tracks := tablePut s.transport.tracks r.track closed } } := by
  intro gap waits closed
  unfold State.closeRecording
  rw [h]
  rfl

theorem State.closeRecording_track {r : Recording} (h : s.transport.recording = some r) (i : TrackIx) :
    let gap := (max s.transport.position 0 - r.lastPos).toNat
    let waits := min (gapWaits gap) s.freeSlots
    s.closeRecording.track i = if i = r.track then { s.track r.track with
      recs := (s.track r.track).recs ++ waitRecs waits ++ endOnly (min Config.maxDelta (gap - waits * Config.maxDelta))
      reserved := false } else s.track i := by
  intro gap waits
  rw [State.closeRecording_closes h]
  exact s.track_setTrack r.track i _

/-- What closing a recording keeps of the transport's record. -/
theorem State.closeRecording_reach (s : State) : s.closeRecording = { s with transport := { s.transport with
    recording := none, placed := s.closeRecording.transport.placed, tracks := s.closeRecording.transport.tracks } } := by
  cases h : s.transport.recording with
  | none =>
    rw [State.closeRecording_of_none h, ← h]
  | some r =>
    rw [State.closeRecording_closes h]

/-! ### A position taken (R139, R149) -/

theorem mem_notesAt_cons {pos before : Int} {r : TakeRec} {rest : List TakeRec} {k : KeyIx} :
    k ∈ notesAt pos before (r :: rest) ↔
      (∃ level : Nat, r.body = .noteOn k level ∧ before + r.delta = pos) ∨ k ∈ notesAt pos (before + r.delta) rest := by
  have hcons : notesAt pos before (r :: rest) = match r.body with
      | .noteOn k _ => if before + r.delta = pos then k :: notesAt pos (before + r.delta) rest else notesAt pos (before + r.delta) rest
      | _ => notesAt pos (before + r.delta) rest := by
    cases hbody : r.body <;> simp only [notesAt, hbody]
  rw [hcons]
  generalize notesAt pos (before + r.delta) rest = later
  cases r.body with
  | noteOn k' level =>
    simp only [TakeBody.noteOn.injEq]
    split
    · rename_i hhere
      rw [List.mem_cons]
      refine or_congr_left ⟨fun hk => ⟨level, ⟨hk.symm, rfl⟩, hhere⟩, ?_⟩
      rintro ⟨_, ⟨hk, -⟩, -⟩
      exact hk.symm
    · rename_i hhere
      exact ⟨.inr, fun h => h.resolve_left fun ⟨_, _, hpos⟩ => hhere hpos⟩
  | noteOff _ _ => exact ⟨.inr, fun h => h.resolve_left fun ⟨_, hk, _⟩ => by cases hk⟩
  | pedal _ _ => exact ⟨.inr, fun h => h.resolve_left fun ⟨_, hk, _⟩ => by cases hk⟩
  | wait => exact ⟨.inr, fun h => h.resolve_left fun ⟨_, hk, _⟩ => by cases hk⟩
  | endMark => exact ⟨.inr, fun h => h.resolve_left fun ⟨_, hk, _⟩ => by cases hk⟩

/-- The keys of the notes at a position, record by record. -/
theorem mem_notesAt {pos : Int} {k : KeyIx} : ∀ {recs : List TakeRec} {before : Int}, k ∈ notesAt pos before recs ↔
    ∃ (m level : Nat) (r : TakeRec), recs[m]? = some r ∧ r.body = .noteOn k level ∧
      before + ((recs.take (m + 1)).map (fun y => (y.delta : Int))).sum = pos
  | [], before => by simp [notesAt]
  | r :: rest, before => by
    have hrest : k ∈ notesAt pos (before + r.delta) rest ↔ ∃ (m level : Nat) (x : TakeRec), (r :: rest)[m + 1]? = some x ∧
        x.body = .noteOn k level ∧ before + (((r :: rest).take (m + 1 + 1)).map (fun y => (y.delta : Int))).sum = pos := by
      rw [mem_notesAt]
      simp only [List.getElem?_cons_succ, List.take_succ_cons, List.map_cons, List.sum_cons, Int.add_assoc]
    have hhead : (∃ (m level : Nat) (x : TakeRec), (r :: rest)[m]? = some x ∧ x.body = .noteOn k level ∧
          before + (((r :: rest).take (m + 1)).map (fun y => (y.delta : Int))).sum = pos) ↔
        (∃ level : Nat, r.body = .noteOn k level ∧ before + r.delta = pos) ∨ k ∈ notesAt pos (before + r.delta) rest := by
      rw [hrest]
      constructor
      · rintro ⟨m, level, x, hx, hbody, hpos⟩
        cases m with
        | zero =>
          cases hx
          exact .inl ⟨level, hbody, by simpa using hpos⟩
        | succ m => exact .inr ⟨m, level, x, hx, hbody, hpos⟩
      · rintro (⟨level, hbody, hpos⟩ | ⟨m, level, x, hx, hbody, hpos⟩)
        · exact ⟨0, level, r, rfl, hbody, by simpa using hpos⟩
        · exact ⟨m + 1, level, x, hx, hbody, hpos⟩
    exact mem_notesAt_cons.trans hhead.symm

theorem State.mem_guideKeys {k : KeyIx} : k ∈ s.guideKeys ↔ ∃ (i : TrackIx) (m level : Nat) (r : TakeRec),
    (s.track i).mode = .guide ∧ ((s.track i).recs.drop (s.track i).cursor)[m]? = some r ∧ r.body = .noteOn k level ∧
    (s.track i).cursorPos + ((((s.track i).recs.drop (s.track i).cursor).take (m + 1)).map (fun y => (y.delta : Int))).sum =
      s.transport.position := by
  unfold State.guideKeys
  rw [List.mem_flatMap, toList_eq_map]
  simp only [List.mem_map, List.mem_finRange, true_and, exists_exists_eq_and]
  refine exists_congr fun i => ?_
  change k ∈ (if (s.track i).mode = .guide then _ else _) ↔ _
  by_cases hmode : (s.track i).mode = .guide
  · rw [if_pos hmode, mem_notesAt]
    simp only [hmode, true_and]
    exact Iff.rfl
  · rw [if_neg hmode]
    simp only [hmode, false_and, exists_false, List.not_mem_nil]

theorem sum_deltas_nonneg (l : List TakeRec) : 0 ≤ (l.map (fun y => (y.delta : Int))).sum :=
  List.sum_nonneg fun x hx => by
    obtain ⟨y, -, rfl⟩ := List.mem_map.mp hx
    exact Int.natCast_nonneg _

/-- Where no record is due, no note asks for a wait. -/
theorem State.guideKeys_of_none (h : ∀ (i : TrackIx) (r : TakeRec), (s.track i).recs[(s.track i).cursor]? = some r →
    s.transport.position < (s.track i).cursorPos + r.delta) : s.guideKeys = [] := by
  refine List.eq_nil_iff_forall_not_mem.mpr fun k hk => ?_
  obtain ⟨i, m, level, r, -, hr, -, hpos⟩ := State.mem_guideKeys.mp hk
  cases hl : (s.track i).recs.drop (s.track i).cursor with
  | nil =>
    rw [hl] at hr
    cases hr
  | cons x rest =>
    have hx : (s.track i).recs[(s.track i).cursor]? = some x := by
      rw [← Nat.add_zero (s.track i).cursor, ← List.getElem?_drop, hl]
      rfl
    have hdue := h i x hx
    rw [hl, List.take_succ_cons, List.map_cons, List.sum_cons] at hpos
    have hsum := sum_deltas_nonneg (rest.take m)
    omega

theorem State.naturalEnd_of_state (h : s.transport.state ≠ .playing) : s.naturalEnd = s := by
  unfold State.naturalEnd
  exact if_neg fun h' => h h'.1

/-- A position where nothing is due and a track has records left changes nothing (R139). -/
theorem State.takePosition_of_none
    (hdue : ∀ (i : TrackIx) (r : TakeRec), s.recordedTrack i = false → (s.track i).recs[(s.track i).cursor]? = some r →
      s.transport.position < (s.track i).cursorPos + r.delta)
    (hguide : s.transport.state = .playing → s.guideKeys = [])
    (hleft : s.transport.state = .playing →
      ∃ i : TrackIx, (s.track i).mode ≠ .mute ∧ (s.track i).cursor < (s.track i).recs.length) : s.takePosition = s := by
  unfold State.takePosition
  rw [if_neg fun h => h.2 (hguide h.1), State.dispatchAll_of_none hdue]
  by_cases hplaying : s.transport.state = .playing
  · exact State.naturalEnd_of_left (hleft hplaying)
  · exact State.naturalEnd_of_state hplaying

/-- A walk that has records to read begins and waits for its end (R147). -/
theorem State.beginWalk_of_reads {target : Int} {ret : WalkReturn} (h : 0 < s.walkReads target) :
    s.beginWalk target ret = s.setTransportState (.locating target ret) := by
  unfold State.beginWalk
  exact if_neg (Nat.pos_iff_ne_zero.mp h)

end Transport

end Sys2Proof.Machine
end

section
/-! PLAY, PAUSE and STOP (R143, R144, R146): O35. -/

namespace Sys2Proof.Machine

-- One declaration after another: side by side they open more threads than the check's memory limit holds.
set_option Elab.async false

section PlayControls
variable {s : State} {t : Time} {l : Link}

/-! ### PLAY (R143) -/

/-- A state entered where nothing is due: its record, and no record of a take. -/
theorem State.enters_of_none {st : TransportState} (hname : st.name ≠ s.transport.state.name)
    (hdue : ∀ (i : TrackIx) (r : TakeRec), s.recordedTrack i = false → (s.track i).recs[(s.track i).cursor]? = some r →
      s.transport.position < (s.track i).cursorPos + r.delta)
    (hleft : ∃ i : TrackIx, (s.track i).mode ≠ .mute ∧ (s.track i).cursor < (s.track i).recs.length)
    (hrecorded : st = .playing → s.transport.recording = none) :
    (s.setTransportState st).takePosition = s.setTransportState st := by
  obtain ⟨hframe, -, -⟩ := State.setTransportState_tells hname
  generalize s.setTransportState st = x at hframe
  have htransport : x.transport = { s.transport with state := st } := by rw [hframe]
  have htrack (i : TrackIx) : x.track i = s.track i := by rw [State.track, htransport]; rfl
  have hrecording (i : TrackIx) : x.recordedTrack i = s.recordedTrack i := by
    unfold State.recordedTrack
    rw [htransport]
  have hposition : x.transport.position = s.transport.position := by rw [htransport]
  refine State.takePosition_of_none (fun i r hrec hr => ?_) (fun hplaying => State.guideKeys_of_none fun i r hr => ?_)
    (fun _ => ?_)
  · rw [hrecording] at hrec
    rw [htrack] at hr ⊢
    rw [hposition]
    exact hdue i r hrec hr
  · rw [htransport] at hplaying
    rw [htrack] at hr ⊢
    rw [hposition]
    refine hdue i r ?_ hr
    unfold State.recordedTrack
    rw [hrecorded hplaying]
  · simpa only [htrack] using hleft

theorem rulePlay_busy (hrun : s.running = true) (hbusy : s.transport.load.isSome = true ∨ s.transport.state.playBusy = true) :
    rulePlay [] s = (s, .no .busy) := by
  refine State.checked_refused _ ?_
  rw [State.beforeRunning_of_running hrun]
  rcases hbusy with h | h <;> simp [firstFailing_cons, lengthNot, State.loadOpen, h]

theorem rulePlay_plays (hrun : s.running = true) (hload : s.transport.load = none) (hbusy : s.transport.state.playBusy = false) :
    rulePlay [] s =
      (s.startPlay, .ok (u1 s.startPlay.transport.state.name.code ++ s4 s.startPlay.transport.position)) := by
  refine State.checked_passed _ ?_
  rw [State.beforeRunning_of_running hrun]
  simp [firstFailing_cons, lengthNot, State.loadOpen, hload, hbusy]

/-- A state entered by PLAY, with nothing due. -/
theorem State.startPlay_enters {st : TransportState}
    (hstart : s.startPlay = (s.setTransportState st).takePosition) (hname : st.name ≠ s.transport.state.name)
    (hdue : ∀ (i : TrackIx) (r : TakeRec), s.recordedTrack i = false → (s.track i).recs[(s.track i).cursor]? = some r →
      s.transport.position < (s.track i).cursorPos + r.delta)
    (hleft : ∃ i : TrackIx, (s.track i).mode ≠ .mute ∧ (s.track i).cursor < (s.track i).recs.length)
    (hrecorded : st = .playing → s.transport.recording = none) : s.startPlay = s.setTransportState st := by
  rw [hstart, State.enters_of_none hname hdue hleft hrecorded]

/-! ### PAUSE (R144) -/

theorem rulePause_pauses (hrun : s.running = true) {f : PausedFrom} (h : s.transport.state.pausesAs = some f) :
    rulePause [] s = (s.pauseAs f, .ok []) := by
  unfold rulePause
  rw [State.checked_passed _ (by rw [State.beforeRunning_of_running hrun]; rfl), h]

theorem rulePause_denied (hrun : s.running = true) (h : s.transport.state.pausesAs = none) :
    rulePause [] s = (s, .no .wrongState) := by
  unfold rulePause
  rw [State.checked_passed _ (by rw [State.beforeRunning_of_running hrun]; rfl), h]

/-- PAUSE holds the transport, and lets every open note go. -/
theorem State.pauseAs_holds (s : State) (f : PausedFrom) :
    let s' := s.pauseAs f
    s'.transport = { s.transport with state := .paused f, acc := 0, guideSet := 0#88, tracks := s'.transport.tracks } ∧
    s'.play = s.play ∧ (∀ i : TrackIx, s'.track i = { s.track i with opened := 0#88 }) ∧
    (HeldLaw s → ∀ (i : VoiceIx) (v : Voice), s'.voice i = some v → v.held = true → v.source = .live) := by
  intro s'
  let x := (s.setTransport { s.transport with acc := 0 }).setTransportState (.paused f)
  have hx : x = { s with transport := { s.transport with state := .paused f, acc := 0 }, journal := x.journal, links := x.links } :=
    State.setTransportState_reach _ _
  have hs' : s' = x.releaseAll.setTransport { x.releaseAll.transport with guideSet := 0#88 } := rfl
  obtain ⟨hnotes, htrack, -, -⟩ := x.releaseAll_ends
  have hheld (h : HeldLaw x) := h.releaseAll
  clear_value x s'
  have htracks (i : TrackIx) : x.track i = s.track i := by rw [hx]; rfl
  have hreleased (i : TrackIx) : x.releaseAll.track i = { s.track i with opened := 0#88 } := by rw [htrack, htracks]
  unfold NoteFrame at hnotes
  have htransport : x.releaseAll.transport = { s.transport with
      state := .paused f, acc := 0, tracks := x.releaseAll.transport.tracks } := by
    rw [hnotes, hx]
  have hplay : x.releaseAll.play = s.play := by
    rw [hnotes, hx]
  have hlaw (h : HeldLaw s) := hheld (by rw [hx]; exact h)
  generalize x.releaseAll = y at *
  rw [hs']
  refine ⟨?_, hplay, hreleased, hlaw⟩
  change { y.transport with guideSet := 0#88 } = _
  rw [htransport]
  rfl

/-! ### STOP (R146) -/

theorem ruleStop_stops (hrun : s.running = true) :
    ruleStop [] s = (s.stopTransport, .ok (s4 s.stopTransport.transport.position)) := by
  refine State.checked_passed _ ?_
  rw [State.beforeRunning_of_running hrun]
  rfl

/-- What STOP leaves (R146, R155). -/
theorem State.stopTransport_stops (s : State) :
    let x := s.transport
    let s' := s.stopTransport
    s'.transport.state = .idle ∧ s'.transport.acc = 0 ∧ s'.transport.guideSet = 0#88 ∧ s'.transport.recording = none ∧
    s'.transport.load = x.load ∧
    s'.transport.position = (match x.state with | .locating target _ => target | _ => x.position) ∧
    (∀ i : TrackIx, (s'.track i).opened = 0#88 ∧ (s'.track i).mode = (s.track i).mode) ∧
    (∀ i : TrackIx, s.recordedTrack i = false → (s'.track i).recs = (s.track i).recs) ∧
    (∀ r : Recording, x.recording = some r → (s'.track r.track).reserved = false ∧
      ((s'.track r.track).recs.getLast?.map TakeRec.isEnd) = some true) ∧
    (∀ c : PedalIx, s'.playChannel c = { level := 0, switch := false }) ∧
    (CaptureLaw s → s'.playCapture = 0#88) := by
  intro x s'
  have hstops : s.closeRecording.Stops s' := s.closeRecording.stopTail_stops
  have hcapture (h : CaptureLaw s) : PlayCaptureLaw s' :=
    ((captureLaw_iff s).mp h).2.plays (s.stopTransport_plays (ticking := False))
  have hmode (i : TrackIx) : (s.closeRecording.track i).mode = (s.track i).mode := by
    cases hr : s.transport.recording with
    | none => rw [State.closeRecording_of_none hr]
    | some r =>
      rw [State.closeRecording_track hr]
      split
      · subst_vars
        rfl
      · rfl
  have hclosed := s.closeRecording_reach
  have htrack := hstops.track
  have hchannel := hstops.channel
  obtain ⟨hidle, hacc, hguide, hrec, hload, hposition⟩ := hstops.fields
  clear_value s'
  have hload' : s.closeRecording.transport.load = x.load := by rw [hclosed]
  have hstate : s.closeRecording.transport.state = x.state := by rw [hclosed]
  have hposition' : s.closeRecording.transport.position = x.position := by rw [hclosed]
  rw [hstate, hposition'] at hposition
  rw [hload'] at hload
  rw [s.closeRecording_recording] at hrec
  refine ⟨hidle, hacc, hguide, hrec, hload, hposition, fun i => ?_, fun i hi => ?_, fun r hr => ?_, hchannel, fun h => ?_⟩
  · rw [htrack]
    exact ⟨rfl, hmode i⟩
  · rw [htrack]
    cases hr : s.transport.recording with
    | none => rw [State.closeRecording_of_none hr]
    | some r =>
      rw [State.closeRecording_track hr, if_neg fun h => ?_]
      unfold State.recordedTrack at hi
      rw [hr, h] at hi
      simp at hi
  · rw [htrack, State.closeRecording_track hr, if_pos rfl]
    simp [endOnly, TakeRec.isEnd]
  · refine hcapture h ?_
    rw [hchannel]

end PlayControls

/-- Settles O35: PLAY by the state it enters, PAUSE by what it lets go, STOP by its closing and its tail. -/
theorem playPauseStop : Obligations.PlayPauseStop := by
  intro t l s hready hrunning x nothingDue enters playing
  have hplay (hload : x.load = none) (hbusy : x.state.playBusy = false) : exec (.play t l []) s = .next
      ((s.stamp t).startPlay.replied l 0x30 []
        (u1 (s.stamp t).startPlay.transport.state.name.code ++ s4 (s.stamp t).startPlay.transport.position)) :=
    State.request_replied (p := []) hready (Nat.zero_le 60) (rulePlay_plays (s := s.stamp t) hrunning hload hbusy)
  have hdenied (hbusy : x.load.isSome = true ∨ x.state.playBusy = true) :
      exec (.play t l []) s = .next ((s.stamp t).denied l 0x30 [] .busy) :=
    State.request_denied (p := []) hready (Nat.zero_le 60) (rulePlay_busy (s := s.stamp t) hrunning hbusy)
  have henters {st : TransportState} {code : Nat} (hload : x.load = none) (hbusy : x.state.playBusy = false)
      (hstart : (s.stamp t).startPlay = (s.stamp t).setTransportState st) (hname : st.name ≠ x.state.name)
      (hcode : st.name.code = code) : ∃ s' : State, enters s' st ∧ playing s' code := by
    have hexec := hplay hload hbusy
    obtain ⟨hframe, hring, -⟩ := State.setTransportState_tells (s := s.stamp t) (st := st) hname
    rw [hstart] at hexec
    have htransport := (s.stamp t).setTransportState_transport st
    generalize (s.stamp t).setTransportState st = s' at hframe hring hexec htransport
    refine ⟨s', ⟨hframe, hring⟩, ?_⟩
    rw [htransport, hcode] at hexec
    exact hexec
  refine ⟨fun hload => hdenied (.inl hload), fun hbusy => hdenied (.inr hbusy), fun hload => ⟨fun hstate => ?_, fun hstate => ?_⟩,
    fun hload hrec hnone hstate => ?_, fun hload hnone hstate => ?_, fun hload hstate hplaced hreads => ?_, fun f hf => ?_,
    fun hf => ?_, ?_, fun hstate hacc hguide hrec hopen hchannel => ?_⟩
  · have hstart : (s.stamp t).startPlay = s.stamp t := by
      unfold State.startPlay
      rw [show (s.stamp t).transport.state = .playing from hstate]
    have hexec := hplay hload (by rw [hstate]; rfl)
    rw [hstart, show (s.stamp t).transport.state = .playing from hstate] at hexec
    exact hexec
  · have hstart : (s.stamp t).startPlay = s.stamp t := by
      unfold State.startPlay
      rw [show (s.stamp t).transport.state = .waiting from hstate]
    have hexec := hplay hload (by rw [hstate]; rfl)
    rw [hstart, show (s.stamp t).transport.state = .waiting from hstate] at hexec
    exact hexec
  · obtain ⟨hdue, hleft⟩ := hnone
    have hfacts : (s.stamp t).startPlay = ((s.stamp t).setTransportState .playing).takePosition ∧
        x.state.playBusy = false ∧ TransportName.playing ≠ x.state.name := by
      unfold State.startPlay
      rcases hstate with ⟨hidle, hplaced⟩ | hpaused | hpaused
      · rw [show (s.stamp t).transport.state = .idle from hidle, hidle]
        exact ⟨if_pos hplaced, rfl, nofun⟩
      · rw [show (s.stamp t).transport.state = .paused .playing from hpaused, hpaused]
        exact ⟨rfl, rfl, nofun⟩
      · rw [show (s.stamp t).transport.state = .paused .waiting from hpaused, hpaused]
        exact ⟨rfl, rfl, nofun⟩
    obtain ⟨hstart, hbusy, hname⟩ := hfacts
    exact henters hload hbusy (State.startPlay_enters hstart hname hdue hleft fun _ => hrec) hname rfl
  · obtain ⟨hdue, hleft⟩ := hnone
    have hstart : (s.stamp t).startPlay = ((s.stamp t).setTransportState .recording).takePosition := by
      unfold State.startPlay
      rw [show (s.stamp t).transport.state = .paused .recording from hstate]
    have hname : TransportName.recording ≠ x.state.name := by
      rw [hstate]
      nofun
    exact henters hload (by rw [hstate]; rfl) (State.startPlay_enters hstart hname hdue hleft nofun) hname rfl
  · refine henters hload (by rw [hstate]; rfl) ?_ (by rw [hstate]; nofun) rfl
    unfold State.startPlay
    rw [show (s.stamp t).transport.state = .idle from hstate]
    exact (if_neg (by rw [show (s.stamp t).transport.placed = false from hplaced]; nofun)).trans
      (State.beginWalk_of_reads (s := s.stamp t) hreads)
  · obtain ⟨htransport, hplay', htrack, hheld⟩ := (s.stamp t).pauseAs_holds f
    have hexec : exec (.pause t l []) s = _ :=
      State.request_replied (p := []) hready (Nat.zero_le 60) (rulePause_pauses (s := s.stamp t) hrunning hf)
    exact ⟨_, hexec, congrArg Transport.state htransport, by rw [htransport]; rfl,
      congrArg Transport.acc htransport, congrArg Transport.guideSet htransport, by rw [htransport]; rfl,
      hplay', htrack, hheld⟩
  · exact State.request_denied (p := []) hready (Nat.zero_le 60) (rulePause_denied (s := s.stamp t) hrunning hf)
  · exact ⟨_, State.request_replied (p := []) hready (Nat.zero_le 60) (ruleStop_stops (s := s.stamp t) hrunning),
      (s.stamp t).stopTransport_stops⟩
  · have hexec : exec (.stop t l []) s = _ :=
      State.request_replied (p := []) hready (Nat.zero_le 60) (ruleStop_stops (s := s.stamp t) hrunning)
    have hstop : (s.stamp t).stopTransport = s.stamp t := by
      unfold State.stopTransport
      rw [State.closeRecording_of_none (by exact hrec)]
      exact State.stopTail_of_still (s := s.stamp t) hstate hacc hguide hopen hchannel
    rw [hstop] at hexec
    exact hexec

end Sys2Proof.Machine
end

section
/-! RECORD, LOCATE, the end of a walk and the live events a take receives (R147, R148, R152 to R156): O36. -/

namespace Sys2Proof.Machine

-- One declaration after another: side by side they open more threads than the check's memory limit holds.
set_option Elab.async false

/-! ### Walks (R147, R148) -/

/-- A walk along a track stops before the first record at the target or after it. -/
theorem walkTo_stops (target : Int) : ∀ (recs : List TakeRec) (i : Nat) (pos : Int), ∃ n : Nat,
    walkTo target i pos recs = (i + n, pos + ((recs.take n).map (fun r => (r.delta : Int))).sum) ∧ n ≤ recs.length ∧
    (n = 0 ∨ pos + ((recs.take n).map (fun r => (r.delta : Int))).sum < target) ∧
    ∀ r : TakeRec, recs[n]? = some r → target ≤ pos + ((recs.take n).map (fun r => (r.delta : Int))).sum + r.delta
  | [], i, pos => ⟨0, by simp [walkTo], Nat.le_refl 0, .inl rfl, nofun⟩
  | r :: rest, i, pos => by
    unfold walkTo
    by_cases hstop : target ≤ pos + r.delta
    · refine ⟨0, by rw [if_pos hstop]; simp, Nat.zero_le _, .inl rfl, fun x hx => ?_⟩
      cases hx
      simpa using hstop
    · obtain ⟨n, hwalk, hlen, hbelow, hnext⟩ := walkTo_stops target rest (i + 1) (pos + r.delta)
      have hsum : pos + (((r :: rest).take (n + 1)).map (fun r => (r.delta : Int))).sum =
          pos + r.delta + ((rest.take n).map (fun r => (r.delta : Int))).sum := by
        rw [List.take_succ_cons, List.map_cons, List.sum_cons, Int.add_assoc]
      refine ⟨n + 1, ?_, Nat.succ_le_succ hlen, .inr ?_, fun x hx => ?_⟩
      · rw [if_neg hstop, hwalk, hsum, Nat.add_assoc, Nat.add_comm 1 n]
      · rw [hsum]
        rcases hbelow with hzero | hlt
        · rw [hzero]
          simpa using Int.not_le.mp hstop
        · exact hlt
      · rw [hsum]
        exact hnext x hx

section Locate
variable {s : State}

/-- The end of a walk to IDLE (R148). -/
theorem State.completeWalk_idle (s : State) (target : Int) :
    let s' := s.completeWalk target .idle
    s'.transport = { s.transport with
      state := .idle, position := target, placed := true, tracks := tableMap (Track.walked target) s.transport.tracks } ∧
    ∀ c : PedalIx, (s'.playChannel c).level = s.walkLevel target c := by
  intro s'
  let x := s.setTransport { s.transport with
    tracks := tableMap (Track.walked target) s.transport.tracks, placed := true, position := target }
  let y := x.playbackLocate fun c => s.walkLevel target c
  have hs' : s' = y.setTransportState .idle := rfl
  have hreach := y.setTransportState_reach .idle
  have htransport := y.setTransportState_transport .idle
  rw [← hs'] at hreach htransport
  have hlocate : y = { (x.playbackLevels fun _ => 0).playbackLevels fun c => s.walkLevel target c with
      journal := y.journal, links := y.links } := State.playRecords_reach _ _
  have hlevels := ((x.playbackLevels fun _ => 0).playbackLevels_sets fun c => s.walkLevel target c).1
  have hkept : ((x.playbackLevels fun _ => 0).playbackLevels fun c => s.walkLevel target c).transport = x.transport :=
    ((x.playbackLevels fun _ => 0).playbackLevels_frame _).2.trans (x.playbackLevels_frame _).2
  generalize (x.playbackLevels fun _ => 0).playbackLevels (fun c => s.walkLevel target c) = z at hlocate hlevels hkept
  refine ⟨?_, fun c => ?_⟩
  · have hy : y.transport = x.transport := by
      rw [hlocate]
      exact hkept
    rw [htransport, hy]
    rfl
  · rw [State.playChannel, hreach, hlocate]
    exact congrArg PlayChannel.level (hlevels c)

/-- A walk reads the same records of a track whatever its open notes (R148). -/
theorem State.walkReads_of_recs {x : State} (h : ∀ i : TrackIx, (x.track i).recs = (s.track i).recs) (target : Int) :
    x.walkReads target = s.walkReads target := by
  unfold State.walkReads
  rw [toList_eq_map, toList_eq_map, List.map_map, List.map_map]
  refine congrArg sumNat (List.map_congr_left fun i _ => ?_)
  exact congrArg (fun r => (walkTo target 0 0 r).1) (h i)

/-- A LOCATE outside a walk lets every open note go and begins its walk (R147). -/
theorem State.locateTo_walks {target : Int} {ret : WalkReturn} (h : 0 < s.walkReads target) :
    let s' := s.locateTo target ret
    s'.transport = { s.transport with
      state := .locating target ret, acc := 0, guideSet := 0#88, tracks := s'.transport.tracks } ∧
    s'.play = s.play ∧ s'.click = s.click ∧ ∀ i : TrackIx, s'.track i = { s.track i with opened := 0#88 } := by
  intro s'
  let x := s.setTransport { s.transport with guideSet := 0#88 }
  obtain ⟨hnotes, htrack, -, -⟩ := x.releaseAll_ends
  let y := x.releaseAll.setTransport { x.releaseAll.transport with acc := 0 }
  have hreads : 0 < y.walkReads target := by
    rw [State.walkReads_of_recs (s := s) fun i => ?_]
    · exact h
    · change (x.releaseAll.track i).recs = _
      rw [htrack]
      rfl
  have hs' : s' = y.setTransportState (.locating target ret) := State.beginWalk_of_reads hreads
  have hreach := y.setTransportState_reach (.locating target ret)
  have htransport := y.setTransportState_transport (.locating target ret)
  rw [← hs'] at hreach htransport
  clear_value s'
  unfold NoteFrame at hnotes
  have hkept : x.releaseAll.transport = { x.transport with tracks := x.releaseAll.transport.tracks } ∧
      x.releaseAll.play = s.play ∧ x.releaseAll.click = s.click := by
    rw [hnotes]
    exact ⟨rfl, rfl, rfl⟩
  obtain ⟨hrecord, hplay, hclick⟩ := hkept
  refine ⟨?_, ?_, ?_, fun i => ?_⟩
  · have hy : y.transport = { s.transport with acc := 0, guideSet := 0#88, tracks := y.transport.tracks } := by
      change ({ x.releaseAll.transport with acc := 0 } : Transport) = _
      rw [hrecord]
      rfl
    rw [htransport, hy]
  · rw [hreach]
    exact hplay
  · rw [hreach]
    exact hclick
  · rw [State.track, hreach]
    exact htrack i

theorem ruleLocate_taken {p : List Byte} {ret : WalkReturn} (hrun : s.running = true) (hp : p.length = 4)
    (hload : s.transport.load = none) (hret : s.transport.state.locatesAs = some ret) :
    ruleLocate p s = (s.locate (max 0 (min 2147483647 (signed4At p 0))) ret, .ok (s4 (max 0 (min 2147483647 (signed4At p 0))))) := by
  have htarget : clamp 0 Config.maxPosition (signed4At p 0) = max 0 (min 2147483647 (signed4At p 0)) :=
    clamp_eq_max_min _ (by decide)
  unfold ruleLocate
  simp only [htarget, hret]
  refine State.checked_passed _ ?_
  rw [State.beforeRunning_of_running hrun]
  simp [firstFailing_cons, lengthNot, hp, State.loadOpen, hload]

theorem ruleLocate_refused {p : List Byte} (hrun : s.running = true) (hp : p.length = 4) (hload : s.transport.load = none)
    (hret : s.transport.state.locatesAs = none) : ruleLocate p s = (s, .no .wrongState) := by
  unfold ruleLocate
  simp only [hret]
  refine State.checked_passed _ ?_
  rw [State.beforeRunning_of_running hrun]
  simp [firstFailing_cons, lengthNot, hp, State.loadOpen, hload]

theorem ruleLocate_busy {p : List Byte} (hrun : s.running = true) (hp : p.length = 4) (hload : s.transport.load.isSome = true) :
    ruleLocate p s = (s, .no .busy) := by
  refine State.checked_refused _ ?_
  rw [State.beforeRunning_of_running hrun]
  simp [firstFailing_cons, lengthNot, hp, State.loadOpen, hload]

end Locate

/-! ### RECORD (R152) -/

section Record
variable {s : State} {i : TrackIx} {l : Link}

/-- A track of the store has a slot at least: its END, or the slot reserved for it (R133). -/
theorem PoolLaw.one_le_slots (h : PoolLaw s) (i : TrackIx) : 1 ≤ (s.track i).slots := by
  obtain ⟨hreserved, hlawful⟩ := h.2 i
  cases hopen : s.trackOpen i with
  | true =>
    rw [Track.slots, hreserved, hopen]
    exact Nat.le_add_left 1 _
  | false =>
    rw [hopen] at hlawful
    exact (recsLawful_closed_length hlawful).trans (Nat.le_add_right _ _)

/-- What RECORD's first steps leave of the transport (R152). -/
theorem State.recordSet_transport (s : State) (i : TrackIx) (l : Link) : (s.recordSet i l).transport = { s.transport with
    recording := some { track := i, owner := l, lastPos := 0 }, placed := true, acc := 0
    tracks := tableMap Track.rewound (tablePut s.transport.tracks i (s.track i).erased) } :=
  State.playbackReset_transport _

theorem State.recordSet_track (s : State) (i : TrackIx) (l : Link) (j : TrackIx) : (s.recordSet i l).track j =
    if j = i then (s.track i).erased.rewound else (s.track j).rewound := by
  rw [State.track, State.recordSet_transport]
  change (tableMap Track.rewound (tablePut s.transport.tracks i (s.track i).erased))[j] = _
  rw [tableMap_get]
  rw [show (tablePut s.transport.tracks i (s.track i).erased)[j] = _ from s.track_setTrack i j (s.track i).erased]
  split <;> rfl

/-- An erased track's slots are free (R152). -/
theorem State.recordSet_freeSlots (h : PoolLaw s) : s.freeSlots ≤ (s.recordSet i l).freeSlots := by
  refine Nat.sub_le_sub_left (Transport.used_le fun j => ?_) _
  change ((s.recordSet i l).track j).slots ≤ (s.track j).slots
  rw [State.recordSet_track]
  split
  · subst_vars
    exact h.one_le_slots j
  · exact Nat.le_refl _

theorem State.playbackReset_live (s : State) : s.playbackReset.live = s.live := by
  have hframe := (s.playbackReset_plays (ticking := False)).take
  unfold TakeFrame at hframe
  rw [hframe]

theorem State.recordSet_live (s : State) (i : TrackIx) (l : Link) : (s.recordSet i l).live = s.live :=
  State.playbackReset_live _

/-- A position taken outside PLAYING dispatches what is due, and neither waits nor ends (R139). -/
theorem State.takePosition_of_state (h : s.transport.state ≠ .playing) : s.takePosition = s.dispatchAll := by
  unfold State.takePosition
  rw [if_neg fun hplaying => h hplaying.1, State.naturalEnd_of_state]
  rw [s.dispatchAll_record.fields.1]
  exact h

/-- A recording's state before its start: the track open with its PEDAL records, every cursor rewound (R152). -/
theorem State.beginRecord_ready (hpool : PoolLaw s) (hfree : 3 ≤ s.freeSlots) (bars : Nat) : ∃ y : State,
    s.beginRecord i bars l = y.recordStart bars ∧
    y.transport = { s.transport with
      recording := some { track := i, owner := l, lastPos := 0 }, placed := true, acc := 0, tracks := y.transport.tracks } ∧
    ∀ j : TrackIx, y.track j =
      if j = i then { (s.track i).erased.rewound with recs := s.firstPedals } else (s.track j).rewound := by
  have hlive (c : PedalIx) : (s.recordSet i l).liveChannel c = s.liveChannel c := State.liveChannel_of_live (s.recordSet_live i l) c
  have hfirst : (s.recordSet i l).firstPedals = s.firstPedals := by
    unfold State.firstPedals
    simp only [hlive]
  have hroom : s.firstPedals.length ≤ (s.recordSet i l).freeSlots := by
    refine le_trans ?_ (hfree.trans (State.recordSet_freeSlots hpool))
    rw [State.firstPedals, List.length_map]
    exact (List.length_filter_le _ _).trans (Nat.le_of_eq List.length_finRange)
  have htrack := s.recordSet_track i l
  have htransport := s.recordSet_transport i l
  have hbegin : s.beginRecord i bars l = if (s.recordSet i l).firstPedals.length ≤ (s.recordSet i l).freeSlots then
      ((s.recordSet i l).setTrack i { (s.recordSet i l).track i with
        recs := ((s.recordSet i l).track i).recs ++ (s.recordSet i l).firstPedals }).recordStart bars
      else (s.recordSet i l).poolFull i := rfl
  rw [hfirst] at hbegin
  generalize s.recordSet i l = x at *
  refine ⟨_, hbegin.trans (if_pos hroom), ?_, fun j => ?_⟩
  · generalize ({ x.track i with recs := (x.track i).recs ++ s.firstPedals } : Track) = opened
    change ({ x.transport with tracks := (x.setTrack i opened).transport.tracks } : Transport) = _
    rw [htransport]
  · refine (x.track_setTrack i j _).trans ?_
    rw [htrack, htrack, if_pos rfl]
    split <;> rfl

/-- A recording without a count-in stands at 0 and dispatches what lies there (R152). -/
theorem State.recordStart_zero (y : State) :
    let s' := y.recordStart 0
    s'.transport = { y.transport with state := .recording, position := 0, tracks := s'.transport.tracks } ∧ TakesKept y s' := by
  intro s'
  let z := (y.setTransport { y.transport with position := 0 }).setTransportState .recording
  have hz : z.transport = { y.transport with position := 0, state := .recording } := State.setTransportState_transport _ _
  have hdone : s' = z.dispatchAll := by
    refine (if_pos rfl).trans (State.takePosition_of_state ?_)
    change z.transport.state ≠ _
    rw [hz]
    nofun
  have hrecord := z.dispatchAll_record
  have htakes := z.dispatchAll_frame.2
  rw [← hdone] at hrecord htakes
  clear_value s' z
  unfold RecordKept at hrecord
  refine ⟨by rw [hrecord, hz], fun j => ?_⟩
  have htrack : z.track j = y.track j := by rw [State.track, hz]; rfl
  rw [← htrack]
  exact htakes j

/-- A count-in stands before 0 and begins with an accented click (R152, R160). -/
theorem State.recordStart_bars (y : State) {bars : Nat} (hbars : bars ≠ 0) :
    let s' := y.recordStart bars
    s'.transport = { y.transport with
      state := .countIn, position := -((bars * y.transport.metronome.beats * 480 : Nat) : Int) } ∧
    s'.click = some { done := 0, period := 32, amplitude := squareGain y.transport.metronome.level / 4 } := by
  intro s'
  let z := (y.setTransport { y.transport with
    position := -((bars * y.transport.metronome.beats * 480 : Nat) : Int) }).setTransportState .countIn
  have hz : z.transport = { y.transport with
      state := .countIn, position := -((bars * y.transport.metronome.beats * 480 : Nat) : Int) } :=
    State.setTransportState_transport _ _
  have hdone : s' = z.clickRequest true := if_neg hbars
  clear_value s' z
  rw [hdone]
  refine ⟨hz, ?_⟩
  change some ({ done := 0, period := 32, amplitude := squareGain z.transport.metronome.level / 4 } : Click) = _
  rw [hz]

/-- What RECORD leaves, its pool having room for the PEDAL records (R152). -/
theorem State.beginRecord_begins (hpool : PoolLaw s) (hfree : 3 ≤ s.freeSlots) (bars : Fin 3) :
    let s' := s.beginRecord i bars.val l
    s'.transport.state = (if bars.val = 0 then .recording else .countIn) ∧
    s'.transport.position = -((bars.val * s.transport.metronome.beats * 480 : Nat) : Int) ∧
    s'.transport.recording = some { track := i, owner := l, lastPos := 0 } ∧ s'.transport.placed = true ∧
    s'.transport.acc = 0 ∧ (s'.track i).reserved = true ∧ (s'.track i).mode = (s.track i).mode ∧
    (s'.track i).recs = s.firstPedals ∧
    (0 < bars.val → s'.click = some
      { done := 0, period := 32, amplitude := squareGain s.transport.metronome.level / 4 } ∧
      (∀ j : TrackIx, (s'.track j).cursor = 0 ∧ (s'.track j).cursorPos = 0)) ∧
    (∀ j : TrackIx, j ≠ i → (s'.track j).recs = (s.track j).recs) := by
  intro s'
  obtain ⟨y, hstart, hytransport, hytrack⟩ := State.beginRecord_ready (i := i) (l := l) hpool hfree bars.val
  have hs' : s' = y.recordStart bars.val := hstart
  have hmetronome : y.transport.metronome = s.transport.metronome := by rw [hytransport]
  have hi := (hytrack i).trans (if_pos rfl)
  clear_value s'
  by_cases hbars : bars.val = 0
  · rw [hbars] at hs'
    obtain ⟨htransport, htakes⟩ := y.recordStart_zero
    rw [← hs'] at htransport htakes
    rw [hytransport] at htransport
    obtain ⟨hrecs, hreserved, hmode⟩ := htakes i
    rw [hi] at hrecs hreserved hmode
    rw [if_pos hbars, hbars, Nat.zero_mul, Nat.zero_mul]
    refine ⟨congrArg Transport.state htransport, congrArg Transport.position htransport,
      congrArg Transport.recording htransport, congrArg Transport.placed htransport, congrArg Transport.acc htransport,
      hreserved, hmode, hrecs, fun h => absurd h (Nat.lt_irrefl 0), fun j hj => ?_⟩
    rw [(htakes j).1, hytrack, if_neg hj]
    rfl
  · obtain ⟨htransport, hclick⟩ := y.recordStart_bars hbars
    rw [← hs'] at htransport hclick
    rw [hmetronome] at htransport hclick
    have htrack (j : TrackIx) : s'.track j = y.track j := by
      rw [State.track, htransport]
      rfl
    rw [hytransport] at htransport
    rw [if_neg hbars, htrack, hi]
    refine ⟨congrArg Transport.state htransport, congrArg Transport.position htransport,
      congrArg Transport.recording htransport, congrArg Transport.placed htransport, congrArg Transport.acc htransport,
      rfl, rfl, rfl, fun _ => ⟨hclick, fun j => ?_⟩, fun j hj => ?_⟩
    · rw [htrack, hytrack]
      split <;> exact ⟨rfl, rfl⟩
    · rw [htrack, hytrack, if_neg hj]
      rfl

theorem ruleRecord_taken (hrun : s.running = true) (hidle : s.transport.state = .idle) (hload : s.transport.load = none)
    (hpresent : s.linkPresent l = true) (bars : Fin 3) :
    let s1 := s.beginRecord i bars.val l
    ruleRecord l [byteOf i.val, byteOf bars.val] s =
      (s1, .ok (u1 i.val ++ u1 s1.transport.state.name.code ++ s4 s1.transport.position ++ u2 s1.freeSlots)) := by
  have hbyte : byteAt [byteOf i.val, byteOf bars.val] 1 = bars.val := byteAt_index bars (by decide) rfl []
  have hpass : firstFailing [s.beforeRunning, lengthNot [byteOf i.val, byteOf bars.val] 2,
      (decide (3 < i.val) || decide (2 < bars.val), .badValue), (s.loadOpen, .busy),
      (s.transport.state.name != .idle, .wrongState), (!s.linkPresent l, .wrongState)] = none := by
    rw [State.beforeRunning_of_running hrun, State.loadOpen, hload, hidle, hpresent,
      decide_eq_false (show ¬ 3 < i.val by omega), decide_eq_false (show ¬ 2 < bars.val by omega)]
    rfl
  unfold ruleRecord
  rw [byteAt_index i (by decide) rfl, hbyte, State.checked_passed _ hpass, trackOfNat_val]
  rfl

end Record

/-! ### Live events (R153 to R156) -/

section Events
variable {s : State} {r : Recording}

/-- A recording closed by a full pool (R156). -/
theorem State.poolFull_closes (hr : s.transport.recording = some r)
    (hstate : s.transport.state = .countIn ∨ s.transport.state = .recording) :
    let rest := (max s.transport.position 0 - r.lastPos).toNat
    let placed := min (gapWaits rest) s.freeSlots
    let s' := s.poolFull r.track
    s'.transport.state = .idle ∧ s'.transport.recording = none ∧ s'.transport.placed = false ∧
    s'.transport.position = s.transport.position ∧ s'.transport.acc = 0 ∧ s'.transport.guideSet = 0#88 ∧
    s'.track r.track = { s.track r.track with
      recs := (s.track r.track).recs ++ waitRecs placed ++ endOnly (min Config.maxDelta (rest - placed * Config.maxDelta))
      reserved := false, opened := 0#88 } ∧
    (∀ i : TrackIx, i ≠ r.track → s'.track i = { s.track i with opened := 0#88 }) ∧
    (∀ c : PedalIx, s'.playChannel c = { level := 0, switch := false }) ∧
    (∀ l : Link, (s'.link l).latched.getLsbD 7 = true) ∧
    ((∀ i : TrackIx, (s.track i).opened = 0#88) → (∀ c : PedalIx, (s.playChannel c).level = 0) →
      s.journal.length ≤ 510 → s'.journal = s.journal ++ [{ body := .takeFull r.track, time := s.now },
        { body := .transport .idle (max (-1048576) (min 1048575 (Int.fdiv s.transport.position 480))), time := s.now }]) := by
  intro rest placed s'
  have hclosed := State.closeRecording_closes hr
  have htracks := State.closeRecording_track hr
  let x := s.closeRecording.report (.takeFull r.track) .take
  have hstops : x.Stops s' := x.stopTail_stops
  have hlatched (l : Link) : (s'.link l).latched.getLsbD 7 = true :=
    (x.stopTail_plays (ticking := False)).latched (State.report_latched _ _ .take l)
  have hx : x.transport = s.closeRecording.transport ∧ x.play = s.play ∧ x.now = s.now := by
    change s.closeRecording.transport = _ ∧ s.closeRecording.play = _ ∧ s.closeRecording.now = _
    rw [hclosed]
    exact ⟨rfl, rfl, rfl⟩
  have hjournal (hroom : s.journal.length < 512) : x.journal = s.journal ++ [{ body := .takeFull r.track, time := s.now }] := by
    have hsame : s.closeRecording.journal = s.journal ∧ s.closeRecording.now = s.now := by
      rw [hclosed]
      exact ⟨rfl, rfl⟩
    have happend := (State.report_of_room (s := s.closeRecording) (by rw [hsame.1]; exact hroom) (.takeFull r.track) .take).1
    rw [hsame.1, hsame.2] at happend
    exact happend
  obtain ⟨hxtransport, hxplay, hxnow⟩ := hx
  clear_value x s'
  have hxstate : x.transport.state = s.transport.state := by rw [hxtransport, hclosed]
  have hstill : x.abandonWalk = x := State.abandonWalk_of_still (by
    rw [hxstate]
    rcases hstate with h | h <;> rw [h] <;> nofun)
  have hxtrack (i : TrackIx) : x.track i = s.closeRecording.track i := by rw [State.track, hxtransport]; rfl
  have htransport := hstops.transport
  have hkept : s.closeRecording.transport = { s.transport with
      recording := none, placed := false, tracks := s.closeRecording.transport.tracks } := by rw [hclosed]
  rw [hstill, hxtransport, hkept] at htransport
  refine ⟨congrArg Transport.state htransport, congrArg Transport.recording htransport, congrArg Transport.placed htransport,
    (congrArg Transport.position htransport :), congrArg Transport.acc htransport, congrArg Transport.guideSet htransport, ?_,
    fun i hi => ?_, hstops.channel, hlatched, fun hopen hlevel hroom => ?_⟩
  · rw [hstops.track, hxtrack, htracks, if_pos rfl]
  · rw [hstops.track, hxtrack, htracks, if_neg hi]
  · have hnotIdle : x.transport.state ≠ .idle := by
      rw [hxstate]
      rcases hstate with h | h <;> rw [h] <;> nofun
    have hxopen (i : TrackIx) : (x.track i).opened = 0#88 := by
      rw [hxtrack, htracks]
      split
      · exact hopen r.track
      · exact hopen i
    have hlen : x.journal.length < 512 := by
      rw [hjournal (by omega), List.length_append, List.length_singleton]
      omega
    have hposition : x.transport.position = s.transport.position := by rw [hxtransport, hclosed]
    rw [hstops.records hnotIdle hxopen fun c => by rw [State.playChannel, hxplay]; exact hlevel c, if_pos hlen,
      hjournal (by omega), State.idleRecord, hstill, hposition, hxnow, List.append_assoc]
    rfl

/-- A live event that the pool takes whole (R153, R154). -/
theorem State.recordEvent_takes (hr : s.transport.recording = some r) (event : TakeBody) :
    let pos : Int := if s.transport.state = .countIn then 0 else s.transport.position
    let gap := (pos - r.lastPos).toNat
    s.recordEvent event = if gapWaits gap + 1 ≤ s.freeSlots then { s with transport := { s.transport with
        recording := some { r with lastPos := pos }
        tracks := tablePut s.transport.tracks r.track { s.track r.track with
          recs := (s.track r.track).recs ++ waitRecs (gapWaits gap) ++
            [{ body := event, delta := gap - gapWaits gap * Config.maxDelta }] } } }
      else s.poolFull r.track := by
  intro pos gap
  unfold State.recordEvent
  simp only [hr]
  have hgap : ((if s.transport.state = .countIn then 0 else s.transport.position) - r.lastPos).toNat = gap := rfl
  have hpos : (if s.transport.state = .countIn then 0 else s.transport.position) = pos := rfl
  rw [hgap, hpos]
  clear_value gap pos
  split <;> rfl

end Events

/-- Settles O36: RECORD by its start, LOCATE by its walk, the walk by where it stops, a live event by the room it finds. -/
theorem recordAndLocate : Obligations.RecordAndLocate := by
  refine ⟨fun t l s hready hrunning => ⟨fun i bars hidle hload hpresent hpool hfree => ?_, fun p hp hload => ?_,
    fun p hp hload => ?_, fun hname => ?_, fun target htarget hstate => ?_⟩, fun s r hr => ?_, fun s k c level => ?_⟩
  · intro p start
    have hrule := ruleRecord_taken (s := s.stamp t) (i := i) (l := l) hrunning hidle hload hpresent bars
    simp only [] at hrule
    obtain ⟨hstate, hposition, hrest⟩ := State.beginRecord_begins (s := s.stamp t) (i := i) (l := l) hpool hfree bars
    generalize (s.stamp t).beginRecord i bars.val l = s' at hrule hstate hposition hrest
    have hexec := State.request_replied (p := p) (code := 0x31) (rule := ruleRecord l p) hready (Nat.le_of_ble_eq_true rfl) hrule
    have hcode : s'.transport.state.name.code = if bars.val = 0 then 3 else 2 := by
      rw [hstate]
      split <;> rfl
    rw [hcode, hposition] at hexec
    exact ⟨s', hexec, hstate, hposition, hrest⟩
  · intro target
    have hroom : p.length ≤ 60 := hp.le.trans (by decide)
    refine ⟨fun hnone => ?_, fun ret hret hreads => ?_⟩
    · exact State.request_denied hready hroom (ruleLocate_refused (s := s.stamp t) hrunning hp hload hnone)
    · refine ⟨_, State.request_replied hready hroom (ruleLocate_taken (s := s.stamp t) hrunning hp hload hret), ?_⟩
      by_cases hlocating : s.transport.state.name = .locating
      · obtain ⟨target', ret', hst⟩ : ∃ (target' : Int) (ret' : WalkReturn), s.transport.state = .locating target' ret' := by
          cases hst : s.transport.state with
          | locating target' ret' => exact ⟨target', ret', rfl⟩
          | _ =>
            rw [hst] at hlocating
            cases hlocating
        have hwalk : (s.stamp t).locate target ret = (s.stamp t).setTransportState (.locating target ret) := by
          unfold State.locate
          rw [show (s.stamp t).transport.state = .locating target' ret' from hst]
          exact State.beginWalk_of_reads (s := s.stamp t) hreads
        have htransport := (s.stamp t).setTransportState_transport (.locating target ret)
        have hreach := (s.stamp t).setTransportState_reach (.locating target ret)
        rw [hwalk]
        refine ⟨congrArg Transport.state htransport, ?_, (congrArg Transport.position htransport :), fun h => absurd hlocating h⟩
        rw [hreach]
        rfl
      · have hwalk : (s.stamp t).locate target ret = (s.stamp t).locateTo target ret := by
          unfold State.locate
          split
          · rename_i h
            exact absurd (congrArg TransportState.name h) hlocating
          · rfl
        obtain ⟨htransport, hplay, -, htrack⟩ := State.locateTo_walks (s := s.stamp t) (ret := ret) hreads
        rw [hwalk]
        exact ⟨congrArg Transport.state htransport, hplay, (congrArg Transport.position htransport :),
          fun _ => ⟨congrArg Transport.guideSet htransport, congrArg Transport.acc htransport, htrack⟩⟩
  · exact State.request_denied hready (hp.le.trans (by decide)) (ruleLocate_busy (s := s.stamp t) hrunning hp hload)
  · refine congrArg Host.Outcome.next ?_
    unfold State.walkEnds
    split
    · rename_i h
      exact absurd (congrArg TransportState.name h) hname
    · rfl
  · have hends : (s.stamp t).walkEnds = (s.stamp t).completeWalk target .idle := by
      unfold State.walkEnds
      rw [show (s.stamp t).transport.state = .locating target .idle from hstate]
    obtain ⟨htransport, hlevel⟩ := (s.stamp t).completeWalk_idle target
    have htrack (i : TrackIx) : ((s.stamp t).completeWalk target .idle).track i = (s.track i).walked target := by
      rw [State.track, htransport]
      exact tableMap_get _ _ _
    refine ⟨_, congrArg Host.Outcome.next hends, congrArg Transport.state htransport, (congrArg Transport.position htransport :),
      congrArg Transport.placed htransport, fun i => ?_, hlevel⟩
    obtain ⟨n, hwalk, hlen, hbelow, hnext⟩ := walkTo_stops target (s.track i).recs 0 0
    rw [htrack, Track.walked, hwalk]
    simp only [Int.zero_add] at hbelow hnext
    rw [Nat.zero_add, Int.zero_add]
    exact ⟨rfl, rfl, hbelow, hlen, hnext⟩
  · intro pos track waits waitRecs takes
    have htakes {event : TakeBody} (hstate : s.transport.state = .countIn ∨ s.transport.state = .recording) :
        takes (s.recordEvent event) event := by
      have hevent := State.recordEvent_takes hr event
      refine ⟨fun hroom => hevent.trans (if_pos hroom), fun hfull => ?_⟩
      rw [hevent.trans (if_neg (Nat.not_le.mpr hfull))]
      exact State.poolFull_closes hr hstate
    refine ⟨fun hstate => ?_, fun hstate k level => ?_⟩
    · have hhears (k : KeyIx) (c : PedalIx) (level : Nat) : s.transportKeyOn k level = s.recordEvent (.noteOn k level) ∧
          s.transportPedal c level = s.recordEvent (.pedal c level) := by
        unfold State.transportKeyOn State.transportPedal
        rcases hstate with h | h <;> rw [h] <;> exact ⟨rfl, rfl⟩
      refine ⟨fun k level => ?_, fun c level => ?_⟩
      · rw [(hhears k 0 level).1]
        exact htakes hstate
      · rw [(hhears 0 c level).2]
        exact htakes hstate
    · have hhears : s.transportKeyOff k level = s.recordEvent (.noteOff k level) := by
        unfold State.transportKeyOff
        rw [hstate]
      rw [hhears]
      exact htakes (.inr hstate)
  · refine ⟨fun hrecording => ?_, fun hrecording hcount => ⟨?_, fun hwaiting => ?_⟩⟩
    · unfold State.transportKeyOff
      split
      · exact absurd (by assumption) hrecording
      · rfl
    · exact State.transportPedal_still fun h => h.elim hcount hrecording
    · unfold State.transportKeyOn
      split
      · exact absurd (by assumption) hcount
      · exact absurd (by assumption) hrecording
      · exact absurd (by assumption) hwaiting
      · rfl

end Sys2Proof.Machine
end

section
/-! The clock step and what a tick brings (R137, R139, R142, R149, R153, R159, R160): O33. -/

namespace Sys2Proof.Machine

-- One declaration after another: side by side they open more threads than the check's memory limit holds.
set_option Elab.async false

/-! ### The keys of a guide wait (R149) -/

theorem KeySet.count_eq_zero {m : KeySet} (h : KeySet.count m = 0) : m = 0#88 := by
  refine KeySet.ext fun k => ?_
  rw [KeySet.has_zero, Bool.eq_false_iff]
  intro hk
  have hmem := (KeySet.mem_keys m k).mpr hk
  unfold KeySet.count at h
  rw [List.eq_nil_of_length_eq_zero h] at hmem
  exact absurd hmem List.not_mem_nil

/-- What the gathering of keys leaves: each gathered key is one of them, each of them is gathered or dropped, and a key is
dropped only where ten are gathered. -/
theorem gather_keys : ∀ (keys : List KeyIx) (acc : KeySet × KeySet), KeySet.count acc.1 ≤ 10 →
    (acc.2 ≠ 0#88 → KeySet.count acc.1 = 10) →
    (∀ k : KeyIx, KeySet.has (keys.foldl gatherKey acc).1 k = true → k ∈ keys ∨ KeySet.has acc.1 k = true) ∧
    (∀ k : KeyIx, (k ∈ keys ∨ KeySet.has acc.1 k = true ∨ KeySet.has acc.2 k = true) →
      KeySet.has (keys.foldl gatherKey acc).1 k = true ∨ KeySet.has (keys.foldl gatherKey acc).2 k = true) ∧
    ((keys.foldl gatherKey acc).2 ≠ 0#88 → KeySet.count (keys.foldl gatherKey acc).1 = 10)
  | [], acc, _, hdropped => ⟨fun _ h => .inr h, fun _ h => h.resolve_left List.not_mem_nil, hdropped⟩
  | k :: keys, acc, hcount, hdropped => by
    have hstep : KeySet.count (gatherKey acc k).1 ≤ 10 ∧ ((gatherKey acc k).2 ≠ 0#88 → KeySet.count (gatherKey acc k).1 = 10) ∧
        (∀ j : KeyIx, KeySet.has (gatherKey acc k).1 j = true → j = k ∨ KeySet.has acc.1 j = true) ∧
        (∀ j : KeyIx, j = k ∨ KeySet.has acc.1 j = true ∨ KeySet.has acc.2 j = true →
          KeySet.has (gatherKey acc k).1 j = true ∨ KeySet.has (gatherKey acc k).2 j = true) := by
      unfold gatherKey Config.maxWait
      split
      · rename_i hhas
        refine ⟨hcount, hdropped, fun _ h => .inr h, fun j hj => ?_⟩
        rcases hj with rfl | hj
        · exact .inl hhas
        · exact hj
      · split
        · rename_i hroom
          refine ⟨le_trans (KeySet.count_add_le _ _) (by omega), fun h => absurd (hdropped h) (by omega), fun j hj => ?_, fun j hj => ?_⟩
          · rw [KeySet.has_add, Bool.or_eq_true, decide_eq_true_iff] at hj
            exact hj.symm.imp_left Eq.symm
          · rcases hj with rfl | hj | hj
            · simp
            · simp [hj]
            · exact .inr hj
        · rename_i hfull
          refine ⟨hcount, fun _ => Nat.le_antisymm hcount (Nat.le_of_not_lt hfull), fun _ h => .inr h, fun j hj => ?_⟩
          rcases hj with rfl | hj | hj
          · simp
          · exact .inl hj
          · simp [hj]
    obtain ⟨hcount', hdropped', hfrom, hkept⟩ := hstep
    obtain ⟨ihfrom, ihkept, ihdropped⟩ := gather_keys keys (gatherKey acc k) hcount' hdropped'
    refine ⟨fun j hj => ?_, fun j hj => ihkept j ?_, ihdropped⟩
    · rcases ihfrom j hj with hin | hacc
      · exact .inl (List.mem_cons_of_mem k hin)
      · exact (hfrom j hacc).imp_left fun (h : j = k) => h ▸ List.mem_cons_self
    · rcases hj with hin | hacc
      · rcases List.mem_cons.mp hin with rfl | hin
        · exact .inr (hkept j (.inl rfl))
        · exact .inl hin
      · exact .inr (hkept j (.inr hacc))

section Clock
variable {s : State}

/-- The entry to a guide wait (R149). -/
theorem State.enterWaiting_waits {keys : List KeyIx} (hkeys : keys ≠ []) (hstate : s.transport.state = .playing)
    (hroom : s.journal.length ≤ 510) :
    let s' := s.enterWaiting keys
    ∃ dropped : Nat,
      s' = { s with
        transport := { s.transport with state := .waiting, acc := 0, guideSet := s'.transport.guideSet }
        journal := s'.journal, links := s'.links } ∧
      (∀ k : KeyIx, KeySet.has s'.transport.guideSet k = true → k ∈ keys) ∧
      1 ≤ KeySet.count s'.transport.guideSet ∧ KeySet.count s'.transport.guideSet ≤ 10 ∧
      (dropped = 0 → ∀ k ∈ keys, KeySet.has s'.transport.guideSet k = true) ∧
      (dropped ≠ 0 → KeySet.count s'.transport.guideSet = 10) ∧
      s'.journal = s.journal ++
        [{ body := .transport .waiting (max (-1048576) (min 1048575 (Int.fdiv s.transport.position 480))), time := s.now },
          { body := .guideWait (KeySet.count s'.transport.guideSet) dropped, time := s.now }] ∧
      (∀ l : Link, (s'.link l).latched = (s.link l).latched ||| Condition.mask .transport ||| Condition.mask .guide) := by
  intro s'
  obtain ⟨hcount, hne⟩ := gather_bounds keys (0#88, 0#88) (by decide)
  obtain ⟨hfrom, hkept, hfull⟩ := gather_keys keys (0#88, 0#88) (by decide) (fun h => absurd rfl h)
  have hs' : s' = ((s.setTransport { s.transport with
      guideSet := (keys.foldl gatherKey (0#88, 0#88)).1, acc := 0 }).setTransportState .waiting).report
        (.guideWait (KeySet.count (keys.foldl gatherKey (0#88, 0#88)).1)
          (min 255 (KeySet.count (keys.foldl gatherKey (0#88, 0#88)).2))) .guide := rfl
  generalize keys.foldl gatherKey (0#88, 0#88) = g at *
  clear_value s'
  have hname : TransportState.name .waiting ≠ s.transport.state.name := by
    rw [hstate]
    nofun
  obtain ⟨hreach, hring, hlatched⟩ := State.setTransportState_tells
    (s := s.setTransport { s.transport with guideSet := g.1, acc := 0 }) (st := .waiting) hname
  generalize (s.setTransport { s.transport with guideSet := g.1, acc := 0 }).setTransportState .waiting = y at *
  replace hring : y.journal = s.journal ++
      [{ body := .transport .waiting (max (-1048576) (min 1048575 (Int.fdiv s.transport.position 480))), time := s.now }] :=
    hring.trans (congrArg (· ++ _) (if_pos (show s.journal.length < 512 by omega)))
  have hlen : y.journal.length < 512 := by
    rw [hring, List.length_append, List.length_singleton]
    omega
  have htold := fun b => State.report_of_room hlen b .guide
  have hset : s'.transport.guideSet = g.1 := by
    rw [hs']
    exact congrArg (fun z : State => z.transport.guideSet) hreach
  have hnow : y.now = s.now := (congrArg State.now hreach :)
  have hzero : KeySet.count g.2 = 0 → g.2 = 0#88 := KeySet.count_eq_zero
  refine ⟨min 255 (KeySet.count g.2), ?_, ?_, ?_, ?_, fun hdropped k hk => ?_, fun hdropped => ?_, ?_, fun l => ?_⟩
  · rw [hset, hs']
    change { y with journal := _, links := _ } = _
    rw [hreach]
    rfl
  · rw [hset]
    exact fun k hk => (hfrom k hk).resolve_right (by simp)
  · rw [hset]
    exact Nat.pos_of_ne_zero fun h => hne (.inl hkeys) (KeySet.count_eq_zero h)
  · rw [hset]
    exact hcount
  · rw [hset]
    refine (hkept k (.inl hk)).resolve_right ?_
    rw [hzero (by omega)]
    simp
  · rw [hset]
    refine hfull fun h => hdropped ?_
    rw [h, KeySet.count_zero]
    rfl
  · rw [hset, hs', (htold _).1, hring, List.append_assoc, hnow]
    rfl
  · rw [hs', (htold _).2, hlatched (show s.journal.length < 512 by omega)]
    rfl

/-! ### One tick (R137, R139) -/

/-- The click of a tick: at a beat, in COUNT_IN or with the metronome on, and accented at a bar (R160). -/
theorem State.clickAt_eq (s : State) (began : TransportState) : s.clickAt began = { s with
    click := if Int.emod s.transport.position 480 = 0 ∧ (began = .countIn ∨ s.transport.metronome.on = true) then
      some { done := 0,
             period := if Int.emod s.transport.position (s.transport.metronome.beats * 480 : Nat) = 0 then 32 else 48,
             amplitude := s.transport.metronome.level * s.transport.metronome.level * 32767 / 16129 / 4 }
    else s.click } := by
  by_cases hclick : Int.emod s.transport.position 480 = 0 ∧ (began = .countIn ∨ s.transport.metronome.on = true)
  · have hrequest : s.clickAt began =
        s.clickRequest (decide (Int.emod s.transport.position (s.transport.metronome.beats * 480 : Nat) = 0)) := if_pos hclick
    rw [if_pos hclick, hrequest]
    simp only [State.clickRequest, decide_eq_true_iff]
    rfl
  · have hsilent : s.clickAt began = s := if_neg hclick
    rw [if_neg hclick, hsilent]

theorem State.advancePosition_of_lt (h : s.transport.position < 2147483647) :
    s.advancePosition = s.setTransport { s.transport with position := s.transport.position + 1 } := if_pos h

/-- A step that gains one tick takes it whole. -/
theorem State.clockStep_one (hruns : s.transport.state.clockRuns = true)
    (hone : 125000000 ≤ s.transport.acc + 1000 * s.transport.tempo * s.transport.scale)
    (htwo : s.transport.acc + 1000 * s.transport.tempo * s.transport.scale < 250000000) :
    s.clockStep = ((s.setTransport { s.transport with
      acc := (s.transport.acc + 1000 * s.transport.tempo * s.transport.scale) % 125000000 }).tick s.transport.state).1 := by
  have hticks : (s.transport.acc + 1000 * s.transport.tempo * s.transport.scale) / 125000000 = 1 := by omega
  unfold State.clockStep
  rw [if_pos hruns]
  simp only [Config.tickUnit]
  rw [hticks]
  simp only [State.ticks, ite_self]

/-- A tick where nothing is due and that brings no jump, no count-in's end and no natural end (R139). -/
theorem State.tick_of_none {began : TransportState} {x : State} (hx : s.advancePosition.clickAt began = x)
    (hjump : x.loopJumps = false) (hcount : ¬(x.transport.state = .countIn ∧ x.transport.position = 0))
    (hposition : x.takePosition = x) : s.tick began = (x, x.transport.state.clockRuns) := by
  unfold State.tick
  simp only [hx, hjump, Bool.false_eq_true, if_false]
  rw [if_neg hcount, hposition]

theorem State.loopJumps_of_state (h : s.transport.state ≠ .playing) : s.loopJumps = false := by
  unfold State.loopJumps
  rw [decide_eq_false h]
  rfl

theorem State.loopJumps_iff (h : s.transport.state = .playing) : s.loopJumps = true ↔
    s.transport.loop.active = true ∧ s.transport.position = s.transport.loop.b ∧
      (s.transport.loop.n = 0 ∨ s.transport.loop.passes < s.transport.loop.n) := by
  unfold State.loopJumps
  simp [h, and_assoc]

/-- Ticks in RECORDING that meet no record and no click move the position on (R137). -/
theorem State.ticks_recording : ∀ (n : Nat) {s : State}, s.transport.state = .recording → s.transport.metronome.on = false →
    s.transport.position + n ≤ 2147483647 →
    (∀ (i : TrackIx) (r : TakeRec), s.recordedTrack i = false → (s.track i).recs[(s.track i).cursor]? = some r →
      s.transport.position + n < (s.track i).cursorPos + r.delta) →
    s.ticks .recording n = s.setTransport { s.transport with position := s.transport.position + n }
  | 0, s, _, _, _, _ => by
    have hzero : s.transport.position + (0 : Nat) = s.transport.position := Int.add_zero _
    rw [hzero]
    rfl
  | n + 1, s, hstate, hquiet, hroom, hdue => by
    let x := s.setTransport { s.transport with position := s.transport.position + 1 }
    have hx : s.advancePosition.clickAt .recording = x := by
      have hno : ¬(Int.emod x.transport.position 480 = 0 ∧ (TransportState.recording = .countIn ∨ x.transport.metronome.on = true)) :=
        fun h => h.2.elim nofun fun hon => Bool.false_ne_true (hquiet.symm.trans hon)
      rw [State.advancePosition_of_lt (by omega), State.clickAt_eq]
      change { x with click := if _ then _ else _ } = x
      rw [if_neg hno]
    have hxstate : x.transport.state = .recording := hstate
    have htick : s.tick .recording = (x, true) := by
      rw [State.tick_of_none hx (State.loopJumps_of_state (by rw [hxstate]; nofun)) (fun h => by rw [hxstate] at h; cases h.1)
        (State.takePosition_of_none (fun i r hrec hr => ?_) (fun h => by rw [hxstate] at h; cases h)
          (fun h => by rw [hxstate] at h; cases h)), hxstate]
      · rfl
      · have hbefore := hdue i r hrec hr
        change s.transport.position + 1 < _
        exact lt_of_le_of_lt (by omega) hbefore
    unfold State.ticks
    rw [htick]
    simp only [if_true]
    rw [State.ticks_recording n (s := x) hstate hquiet (by change s.transport.position + 1 + n ≤ _; omega) fun i r hrec hr => ?_]
    · have hsum : s.transport.position + 1 + (n : Int) = s.transport.position + ((n + 1 : Nat) : Int) := by omega
      change s.setTransport { s.transport with position := s.transport.position + 1 + n } = _
      rw [hsum]
    · have hbefore := hdue i r hrec hr
      change s.transport.position + 1 + n < _
      exact lt_of_eq_of_lt (by omega) hbefore

/-! ### The jump of a loop (R159) -/

/-- Without open notes a LOCATE outside a walk touches the transport's record and its journal record alone. -/
theorem State.locateTo_quiet {target : Int} {ret : WalkReturn} (hreads : 0 < s.walkReads target)
    (hopen : ∀ i : TrackIx, (s.track i).opened = 0#88) : s.locateTo target ret =
      (s.setTransport { s.transport with guideSet := 0#88, acc := 0 }).setTransportState (.locating target ret) := by
  have hreleased : (s.setTransport { s.transport with guideSet := 0#88 }).releaseAll =
      s.setTransport { s.transport with guideSet := 0#88 } := State.releaseAll_of_closed hopen
  unfold State.locateTo
  rw [hreleased]
  exact State.beginWalk_of_reads hreads

/-- The state after a loop's release and its passes, before its LOCATE. -/
def State.passCounted (s : State) : State :=
  let passes := satAdd Config.byteMax s.transport.loop.passes 1
  (s.releaseAll.setTransport { s.releaseAll.transport with loop := { s.transport.loop with passes := passes } }).append
    (.loop passes s.transport.loop.n) s.now

theorem State.loopJump_eq (s : State) : s.loopJump = s.passCounted.locateTo s.transport.loop.a .playing := by
  have hloop : s.releaseAll.transport.loop = s.transport.loop := by rw [s.releaseAll_record]
  have hnow : s.releaseAll.now = s.now := by
    have htake := (s.releaseAll_plays (ticking := False)).take
    unfold TakeFrame at htake
    rw [htake]
  unfold State.loopJump State.passCounted
  simp only [State.setTransport, hloop, hnow]

/-- A loop's passes counted: its release, and the record that tells of it. -/
theorem State.passCounted_counts (s : State) :
    let x := s.passCounted
    (x.transport = { s.transport with
      loop := { s.transport.loop with passes := min 255 (s.transport.loop.passes + 1) }, tracks := x.transport.tracks } ∧
    x.play = s.play ∧ x.click = s.click ∧ x.now = s.now) ∧
    (∀ i : TrackIx, x.track i = { s.track i with opened := 0#88 }) ∧
    ((∀ i : TrackIx, (s.track i).opened = 0#88) → s.journal.length ≤ 510 →
      x.journal = s.journal ++ [{ body := .loop (min 255 (s.transport.loop.passes + 1)) s.transport.loop.n, time := s.now }] ∧
      x.voices = s.voices) := by
  intro x
  obtain ⟨hnotes, htrack, -, -⟩ := s.releaseAll_ends
  unfold NoteFrame at hnotes
  have hrecord : s.releaseAll.transport = { s.transport with tracks := s.releaseAll.transport.tracks } := s.releaseAll_record
  have hclosed (hopen : ∀ i : TrackIx, (s.track i).opened = 0#88) : s.releaseAll = s := State.releaseAll_of_closed hopen
  have hx : x = (s.releaseAll.setTransport { s.releaseAll.transport with
      loop := { s.transport.loop with passes := min 255 (s.transport.loop.passes + 1) } }).append
        (.loop (min 255 (s.transport.loop.passes + 1)) s.transport.loop.n) s.now := rfl
  clear_value x
  generalize s.releaseAll = y at *
  refine ⟨⟨?_, ?_, ?_, ?_⟩, fun i => ?_, fun hopen hroom => ?_⟩
  · rw [hx]
    change ({ y.transport with
      loop := { s.transport.loop with passes := min 255 (s.transport.loop.passes + 1) } } : Transport) = { s.transport with
        loop := { s.transport.loop with passes := min 255 (s.transport.loop.passes + 1) }, tracks := y.transport.tracks }
    rw [hrecord]
  · rw [hx]
    exact (congrArg State.play hnotes :)
  · rw [hx]
    exact (congrArg State.click hnotes :)
  · rw [hx]
    exact (congrArg State.now hnotes :)
  · rw [hx]
    exact htrack i
  · rw [hx, hclosed hopen]
    exact ⟨(State.append_ring _ _ _).trans (congrArg (· ++ _) (if_pos (show s.journal.length < 512 by omega))), rfl⟩

theorem State.loopJump_jumps (hstate : s.transport.state = .playing) (hreads : 0 < s.walkReads s.transport.loop.a) :
    let s' := s.loopJump
    s'.transport.state = .locating s.transport.loop.a .playing ∧ s'.transport.position = s.transport.position ∧
    s'.transport.acc = 0 ∧ s'.transport.guideSet = 0#88 ∧
    s'.transport.loop = { s.transport.loop with passes := min 255 (s.transport.loop.passes + 1) } ∧ s'.click = s.click ∧
    s'.play = s.play ∧ (∀ i : TrackIx, s'.track i = { s.track i with opened := 0#88 }) ∧
    ((∀ i : TrackIx, (s.track i).opened = 0#88) → s.journal.length ≤ 510 →
      s'.journal = s.journal ++ [{ body := .loop (min 255 (s.transport.loop.passes + 1)) s.transport.loop.n, time := s.now },
        { body := .transport .locating (max (-1048576) (min 1048575 (Int.fdiv s.transport.position 480))), time := s.now }] ∧
      s'.voices = s.voices) := by
  intro s'
  obtain ⟨⟨hxtransport, hxplay, hxclick, hxnow⟩, hxtrack, hquiet⟩ := s.passCounted_counts
  have hs' : s' = s.passCounted.locateTo s.transport.loop.a .playing := s.loopJump_eq
  generalize s.passCounted = x at *
  clear_value s'
  have hxreads : 0 < x.walkReads s.transport.loop.a := by
    rw [State.walkReads_of_recs (s := s) fun i => by rw [hxtrack]]
    exact hreads
  obtain ⟨htransport, hplay, hclick, htracks⟩ := State.locateTo_walks (ret := .playing) hxreads
  rw [← hs'] at htransport hplay hclick htracks
  have hwalking := htransport
  rw [hxtransport] at hwalking
  refine ⟨congrArg Transport.state hwalking, (congrArg Transport.position hwalking :), congrArg Transport.acc hwalking,
    congrArg Transport.guideSet hwalking, congrArg Transport.loop hwalking, hclick.trans hxclick, hplay.trans hxplay, fun i => ?_,
    fun hopen hroom => ?_⟩
  · rw [htracks, hxtrack]
  · obtain ⟨hxjournal, hxvoices⟩ := hquiet hopen hroom
    have hlocated := State.locateTo_quiet (ret := .playing) hxreads fun i => by rw [hxtrack]
    rw [← hs'] at hlocated
    have hname : TransportState.name (.locating s.transport.loop.a .playing) ≠ x.transport.state.name := by
      rw [hxtransport]
      change _ ≠ s.transport.state.name
      rw [hstate]
      nofun
    obtain ⟨hreach, hring, -⟩ := State.setTransportState_tells
      (s := x.setTransport { x.transport with guideSet := 0#88, acc := 0 }) (st := .locating s.transport.loop.a .playing) hname
    rw [← hlocated] at hreach hring
    have hlen : x.journal.length < 512 := by
      rw [hxjournal, List.length_append, List.length_singleton]
      omega
    have hposition : x.transport.position = s.transport.position := by rw [hxtransport]
    refine ⟨?_, ?_⟩
    · refine hring.trans ?_
      change (if x.journal.length < 512 then x.journal else x.journal.tail) ++
        [{ body := .transport .locating (max (-1048576) (min 1048575 (Int.fdiv x.transport.position 480))), time := x.now }] = _
      rw [if_pos hlen, hxjournal, hposition, hxnow, List.append_assoc]
      rfl
    · rw [hreach]
      exact hxvoices

/-- The natural end is reached where every track is muted or at its end (R142). -/
theorem State.naturalEnd_of_ended (hstate : s.transport.state = .playing)
    (h : ∀ i : TrackIx, (s.track i).mode = .mute ∨ (s.track i).recs.length ≤ (s.track i).cursor) :
    s.naturalEnd = s.stopTransport := by
  unfold State.naturalEnd
  refine if_pos ⟨hstate, List.all_eq_true.mpr fun y hy => ?_⟩
  rw [toList_eq_map] at hy
  obtain ⟨i, -, rfl⟩ := List.mem_map.mp hy
  rw [Bool.or_eq_true, beq_iff_eq, Track.ended, decide_eq_true_iff]
  exact h i

/-! ### A step of one tick -/

/-- The state at a tick, before what the tick brings (R137, R139, R160). -/
def State.onTick (s : State) : State :=
  { s with
    click :=
      if Int.emod (s.transport.position + 1) 480 = 0 ∧ (s.transport.state = .countIn ∨ s.transport.metronome.on = true) then
        some { done := 0,
               period := if Int.emod (s.transport.position + 1) (s.transport.metronome.beats * 480 : Nat) = 0 then 32 else 48,
               amplitude := s.transport.metronome.level * s.transport.metronome.level * 32767 / 16129 / 4 }
      else s.click
    transport := { s.transport with
      acc := (s.transport.acc + 1000 * s.transport.tempo * s.transport.scale) % 125000000, position := s.transport.position + 1 } }

/-- What a tick brings. -/
theorem State.clockStep_onTick (hruns : s.transport.state.clockRuns = true)
    (hone : 125000000 ≤ s.transport.acc + 1000 * s.transport.tempo * s.transport.scale)
    (htwo : s.transport.acc + 1000 * s.transport.tempo * s.transport.scale < 250000000) (hroom : s.transport.position < 2147483647) :
    s.clockStep = if s.onTick.loopJumps then s.onTick.loopJump
      else State.takePosition (if s.transport.state = .countIn ∧ s.transport.position + 1 = 0 then
        s.onTick.setTransportState .recording else s.onTick) := by
  have hbegun : (s.setTransport { s.transport with
      acc := (s.transport.acc + 1000 * s.transport.tempo * s.transport.scale) % 125000000 }).advancePosition.clickAt
        s.transport.state = s.onTick := by
    rw [State.advancePosition_of_lt (by exact hroom), State.clickAt_eq]
    rfl
  rw [State.clockStep_one hruns hone htwo]
  unfold State.tick
  simp only [hbegun]
  cases s.onTick.loopJumps <;> rfl

end Clock

/-- Settles O33: a step by its ticks, a tick by what it brings. -/
theorem clockSteps : Obligations.ClockSteps := by
  intro t s x a n beats bar click ticked onTick oneTick nothingDue jumps waitsFor transportRecord
  have hon : (s.stamp t).onTick = onTick := rfl
  have hstep (hruns : x.state.clockRuns = true) (hone : oneTick) : (s.stamp t).clockStep =
      if onTick.loopJumps then onTick.loopJump
      else State.takePosition (if x.state = .countIn ∧ n = 0 then onTick.setTransportState .recording else onTick) :=
    State.clockStep_onTick (s := s.stamp t) hruns hone.1 hone.2.1 hone.2.2
  have hexec : exec (.clockStep t) s = .next (s.stamp t).clockStep := rfl
  have hguide (k : KeyIx) : k ∈ onTick.guideKeys ↔ waitsFor k := State.mem_guideKeys (s := onTick)
  have hjumps (hplaying : x.state = .playing) : onTick.loopJumps = true ↔ jumps := State.loopJumps_iff (s := onTick) hplaying
  have hnojump (hstate : x.state ≠ .playing) : onTick.loopJumps = false := State.loopJumps_of_state (s := onTick) hstate
  have hrest (hplaying : x.state = .playing) (hone : oneTick) (hstays : ¬jumps) :
      (s.stamp t).clockStep = onTick.takePosition := by
    rw [hstep (by rw [hplaying]; rfl) hone, if_neg fun h => hstays ((hjumps hplaying).mp h),
      if_neg fun h => by rw [hplaying] at h; cases h.1]
  have hundue (hnone : nothingDue) (st : TransportState) (hst : st ≠ .playing) :
      State.takePosition { onTick with transport := { ticked with state := st } } =
        { onTick with transport := { ticked with state := st } } :=
    State.takePosition_of_none hnone (fun h => absurd h hst) fun h => absurd h hst
  refine ⟨fun hname => ?_, fun hruns hbelow => ?_, fun hacc htempo hscale => ?_, fun hstate hacc htempo hscale hquiet hroom hdue => ?_,
    fun hone hnone hstate => ?_, fun hone hnone hstate hzero hroom => ?_, fun hone hstate hjump hreads => ?_,
    fun hone hstate hstays hwaits hroom => ?_, fun hone hstate hstays hnowait => ⟨?_, fun hnone hrec => ⟨fun hleft => ?_, fun hended => ?_⟩⟩⟩
  · have hstands : x.state.clockRuns = false := by
      cases hst : x.state <;> rw [hst] at hname <;> simp [TransportState.name] at hname <;> rfl
    rw [hexec]
    refine congrArg Host.Outcome.next (if_neg ?_)
    rw [show (s.stamp t).transport.state.clockRuns = false from hstands]
    exact Bool.false_ne_true
  · exact congrArg Host.Outcome.next (State.clockStep_below_unit (s := s.stamp t) hruns hbelow)
  · have hrate : 1000 * x.tempo * x.scale ≤ 1000 * 3000 * 200 :=
      Nat.mul_le_mul (Nat.mul_le_mul_left 1000 htempo) hscale
    change (x.acc + 1000 * x.tempo * x.scale) / 125000000 ≤ 5
    omega
  · have hrate : 1000 * x.tempo * x.scale ≤ 1000 * 3000 * 200 :=
      Nat.mul_le_mul (Nat.mul_le_mul_left 1000 htempo) hscale
    have hfive : a / 125000000 ≤ 5 := by
      change (x.acc + 1000 * x.tempo * x.scale) / 125000000 ≤ 5
      omega
    rw [hexec]
    refine congrArg Host.Outcome.next ((if_pos (by rw [show (s.stamp t).transport.state = .recording from hstate]; rfl)).trans ?_)
    change ((s.stamp t).setTransport { x with acc := a % 125000000 }).ticks x.state (a / 125000000) = _
    refine (congrArg (fun st => State.ticks _ st _) hstate).trans (State.ticks_recording _ hstate hquiet (by change x.position + _ ≤ _; omega) fun i r hi hr => ?_)
    have hlater := hdue i r hi hr
    change x.position + _ < _
    exact lt_of_le_of_lt (by omega) hlater
  · have hnot : x.state ≠ .playing := by
      rintro h
      rw [h] at hstate
      exact hstate.elim nofun fun h => nomatch h.1
    have hruns : x.state.clockRuns = true := by
      rcases hstate with h | h
      · rw [h]
        rfl
      · rw [h.1]
        rfl
    rw [hexec, hstep hruns hone, hnojump hnot, if_neg Bool.false_ne_true, if_neg fun h => ?_]
    · exact congrArg Host.Outcome.next (hundue hnone x.state hnot)
    · rcases hstate with hrecording | hcount
      · rw [hrecording] at h
        cases h.1
      · exact hcount.2 h.2
  · have hruns : x.state.clockRuns = true := by
      rw [hstate]
      rfl
    have hname : TransportState.name .recording ≠ onTick.transport.state.name := by
      change _ ≠ x.state.name
      rw [hstate]
      nofun
    obtain ⟨hframe, hring, -⟩ := State.setTransportState_tells (s := onTick) (st := .recording) hname
    have htaken : (s.stamp t).clockStep = (onTick.setTransportState .recording).takePosition := by
      rw [hstep hruns hone, hnojump (by rw [hstate]; nofun), if_neg Bool.false_ne_true, if_pos ⟨hstate, hzero⟩]
    generalize onTick.setTransportState .recording = s' at hframe hring htaken
    refine ⟨s', ?_, ?_, hframe⟩
    · rw [hexec, htaken]
      refine congrArg Host.Outcome.next ?_
      rw [hframe]
      exact State.takePosition_of_none hnone nofun nofun
    · exact hring.trans (congrArg (· ++ _) (if_pos hroom))
  · have hruns : x.state.clockRuns = true := by
      rw [hstate]
      rfl
    have hjumped : (s.stamp t).clockStep = onTick.loopJump := by
      rw [hstep hruns hone, if_pos ((hjumps hstate).mpr hjump)]
    exact ⟨_, hexec.trans (congrArg Host.Outcome.next hjumped), State.loopJump_jumps (s := onTick) hstate hreads⟩
  · obtain ⟨k, hk⟩ := hwaits
    have hkeys : onTick.guideKeys ≠ [] := List.ne_nil_of_mem ((hguide k).mpr hk)
    have hentered : (s.stamp t).clockStep = onTick.enterWaiting onTick.guideKeys := by
      rw [hrest hstate hone hstays]
      exact if_pos ⟨hstate, hkeys⟩
    obtain ⟨dropped, hframe, hfrom, hmin, hmax, hall, hfull, hjournal, hlatched⟩ :=
      State.enterWaiting_waits (s := onTick) hkeys hstate hroom
    exact ⟨_, dropped, hexec.trans (congrArg Host.Outcome.next hentered), hframe, fun k hk => (hguide k).mp (hfrom k hk), hmin, hmax,
      fun hzero k hk => hall hzero k ((hguide k).mpr hk), hfull, hjournal, hlatched⟩
  all_goals
    have hnokeys : onTick.guideKeys = [] := List.eq_nil_iff_forall_not_mem.mpr fun k hk => hnowait k ((hguide k).mp hk)
    have hends : (s.stamp t).clockStep = onTick.dispatchAll.naturalEnd := by
      rw [hrest hstate hone hstays]
      exact if_neg fun h => h.2 hnokeys
  · exact congrArg Host.Outcome.next hends
  · have hnothing : onTick.dispatchAll = onTick := State.dispatchAll_of_none hnone
    rw [hexec, hends, hnothing]
    exact congrArg Host.Outcome.next (State.naturalEnd_of_left hleft)
  · have hnothing : onTick.dispatchAll = onTick := State.dispatchAll_of_none hnone
    have hended' : onTick.naturalEnd = onTick.stopTail := by
      have hstop : onTick.stopTransport = onTick.stopTail := by
        unfold State.stopTransport
        rw [State.closeRecording_of_none (by exact hrec)]
      rw [← hstop]
      exact State.naturalEnd_of_ended hstate hended
    rw [hnothing, hended'] at hends
    have hstops := onTick.stopTail_stops
    obtain ⟨hidle, hacc, hset, -⟩ := hstops.fields
    have hname : onTick.transport.state.name ≠ .locating := by
      change x.state.name ≠ _
      rw [hstate]
      nofun
    have hstill : onTick.abandonWalk = onTick := State.abandonWalk_of_still hname
    have hrecord := hstops.record (by
      change x.state ≠ _
      rw [hstate]
      nofun)
    rw [State.idleRecord, hstill] at hrecord
    exact ⟨_, hexec.trans (congrArg Host.Outcome.next hends), hidle, hstops.position hname, hacc, hset, hstops.click,
      hstops.track, hstops.channel, hrecord⟩

end Sys2Proof.Machine
end

section
/-! What a request leaves of the other link, and from a link without the seat, of what the seat alone may change (R61, R186,
R190, R201). -/

namespace Sys2Proof.Machine

-- One declaration after another: side by side they open more threads than the check's memory limit holds.
set_option Elab.async false

section Stay
variable {s : State} {i : Instr} {l : Link} {e : State}

/-! ### The other link's record -/

/-- What reaches a link from outside: its place in the ring and further latched conditions, and nothing else of it (R190). -/
structure State.LinkStays (s s' : State) (j : Link) : Prop where
  frame : s'.link j = { s.link j with view := (s'.link j).view, latched := (s'.link j).latched }
  present : s'.linkPresent j = s.linkPresent j
  latched : ∀ n : Nat, (s.link j).latched.getLsbD n = true → (s'.link j).latched.getLsbD n = true

theorem State.LinkStays.of_eq {s' : State} {j : Link} (h : s'.link j = s.link j) : s.LinkStays s' j :=
  ⟨by rw [h], by rw [State.linkPresent, h]; rfl, fun n hn => by rwa [h]⟩

theorem State.LinkStays.trans {a b c : State} {j : Link} (h : a.LinkStays b j) (g : b.LinkStays c j) : a.LinkStays c j :=
  ⟨by rw [g.frame, h.frame], g.present.trans h.present, fun n hn => g.latched n (h.latched n hn)⟩

theorem Logs.linkStays {s' : State} (h : Logs s s') (j : Link) : s.LinkStays s' j :=
  h.keeps (P := fun x => s.LinkStays x j)
    (fun a b _ hlinks ha => ha.trans (.of_eq (by rw [State.link, hlinks]; rfl)))
    (fun a b t ha => ha.trans ⟨by rw [State.append_link, LinkRec.onAppend_frame], State.append_linkPresent _ _ _ _,
      fun n hn => (Logs.append b t).latched hn⟩)
    (fun a c hc ha => ha.trans ⟨by rw [State.raise_link]; rfl, State.raise_linkPresent _ _ _,
      fun n hn => (Logs.raise c hc).latched hn⟩)
    (.of_eq rfl)

/-- Of the links' records, a request's own reaches the place of the other in the ring alone. -/
theorem LinkEffect.linkStays (h : LinkEffect i s e) (hl : requestLink i = some l) : s.LinkStays e (otherLink l) := by
  have hset (r : LinkRec) : s.LinkStays (s.setLink l r) (otherLink l) := .of_eq (s.setLink_other l r)
  have hview {x : State} (frame : x.link (otherLink l) = { s.link (otherLink l) with view := (x.link (otherLink l)).view })
      (present : x.linkPresent (otherLink l) = s.linkPresent (otherLink l)) : s.LinkStays x (otherLink l) :=
    ⟨by rw [frame], present, fun n hn => by rw [frame]; exact hn⟩
  cases h with
  | presentRaw => cases hl
  | present => cases hl
  | select => cases hl
  | deselect => cases hl
  | shifted => cases hl
  | readConditions =>
    cases hl
    split
    · exact .of_eq rfl
    · exact hset _
  | ackConditions => cases hl; exact hset _
  | forceCondition => cases hl; exact hset _
  | setAttention => cases hl; exact hset _
  | linkReset =>
    cases hl
    exact hview (s.linkResetOn_other l) (s.linkResetOn_linkPresent l _)
  | readJournal view =>
    cases hl
    exact hview (s.readOn_link_frame l _ _ _ _) (s.readOn_linkPresent view _ _)
  | relay =>
    cases hl
    exact (Logs.append (s := s) _ _).linkStays _

theorem Effect.linkStays (h : Effect i s e) (hl : requestLink i = some l) : s.LinkStays e (otherLink l) := by
  rcases h.logs with h | h | h | ⟨t, j, rfl, -⟩
  · exact h.linkStays _
  · cases h <;> cases hl
  · exact h.linkStays hl
  · cases hl

/-! ### The vote set -/

theorem RailActs.votes (h : RailActs s e) : e.rail.votes = s.rail.votes := by
  refine h.keeps (P := fun x => x.rail.votes = s.rail.votes) (fun a b hstep ha => ?_) rfl
  cases hstep with
  | turn _ votes => exact votes.trans ha
  | enter =>
    obtain ⟨-, -, -, -, -, -, hvotes, -⟩ := (a.enterRail_railOnly _).2.kept
    exact hvotes.trans ha
  | tell => exact ha
  | test => exact ha

theorem State.seatChange_votes (s : State) (after : Option Link) (cause : SeatCause) :
    (s.seatChange after cause).rail.votes = s.rail.votes := (s.seatChange_handsOn after cause).votes

theorem State.judgeSeatDefault_votes (s : State) : s.judgeSeatDefault.rail.votes = s.rail.votes := by
  unfold State.judgeSeatDefault
  split
  · exact s.seatChange_votes _ _
  · rfl

theorem State.enterRunning_votes (s : State) : s.enterRunning.rail.votes = s.rail.votes := by
  rw [State.enterRunning_eq, State.judgeLed_frame]
  refine (State.judgeSeatDefault_votes _).trans ?_
  rw [State.calRecorded_frame, State.setPhase_frame]

theorem State.beginLearn_votes (s : State) (lo hi : Nat) (l : Link) : (s.beginLearn lo hi l).rail.votes = s.rail.votes := by
  have hkey (a : State) (k : KeyIx) : (a.beginLearnKey k).rail.votes = a.rail.votes := by
    unfold State.beginLearnKey
    split
    · exact (State.keyLeft_acts _).votes
    · rfl
  have hfold (ks : List KeyIx) (a : State) : (ks.foldl (fun x k => x.beginLearnKey k) a).rail.votes = a.rail.votes := by
    induction ks generalizing a with
    | nil => rfl
    | cons k ks ih => exact (ih _).trans (hkey a k)
  exact (hfold _ _).trans (State.endQuiet_acts _ _).votes

theorem CalibrationEffect.votes (h : CalibrationEffect i s e) : e.rail.votes = s.rail.votes := by
  cases h with
  | writeKeyCal => unfold State.writeCal; split <;> rfl
  | writePedalCal => rfl
  | writeTouch => exact (State.judgeQuiet_acts _).votes
  | writeCurve => rfl
  | selectCurve => unfold State.selectCurve; split <;> rfl
  | writeRailCal => rfl
  | learnBegin => exact s.beginLearn_votes _ _ _
  | learnEnd => exact s.endLearn_handsOn.votes

/-- A request leaves the vote set, or puts its own link's vote (R62). -/
theorem Effect.votes (h : Effect i s e) (hl : requestLink i = some l) :
    e.rail.votes = s.rail.votes ∨ ∃ on : Bool, e.rail.votes = s.rail.votes.put l on := by
  cases h with
  | unchanged => exact .inl rfl
  | reset h => cases h <;> cases hl
  | startUp h =>
    cases h with
    | release => exact .inl s.enterRunning_votes
    | _ => cases hl
  | key h => cases h; cases hl
  | pedal h => cases h; cases hl
  | rail h =>
    cases h with
    | vote =>
      cases hl
      exact .inr ⟨_, (s.setVotes_acts _).votes⟩
    | recover => exact .inl s.recoverRail_acts.votes
    | _ => cases hl
  | test h =>
    cases h with
    | @runTest _ _ _ kind continuous _ _ _ _ _ starts =>
      refine .inl ((State.startTest_cases starts).votes.trans ?_)
      cases kind <;> rfl
    | stopTest => exact .inl (s.abortTest_acts _).votes
    | _ => cases hl
  | voice h => exact .inl (by rw [h.frame])
  | output h => exact .inl (by rw [h.frame])
  | transport h => exact .inl (by rw [h.plays.frame])
  | link h => exact .inl (by rw [h.frame])
  | seat h =>
    cases h with
    | seatClaim =>
      unfold State.claimSeat
      split
      · exact .inl rfl
      · exact .inl (s.seatChange_votes _ _)
    | seatYield => exact .inl (s.seatChange_votes _ _)
    | seatPass => exact .inl (s.seatChange_votes _ _)
    | absent => cases hl
  | calibration h => exact .inl h.votes
  | commit h => exact .inl (by rw [h.frame])

/-! ### A link without the seat -/

/-- What a link without the seat leaves as it is (R201): the calibration and its commit, the keys, the learn, the layer; a
rail in FAULT, a seat that is held; no test begins, and under the seat's law the test in progress goes on. -/
structure State.SeatStays (s e : State) : Prop where
  cal : e.cal = s.cal := by rfl
  layer : e.layer = s.layer := by rfl
  commit : e.commit = s.commit := by rfl
  eeprom : e.eeprom = s.eeprom := by rfl
  commitCount : e.commitCount = s.commitCount := by rfl
  saved : e.saved = s.saved := by rfl
  keys : e.keys = s.keys := by rfl
  learn : e.learn = s.learn := by rfl
  fault : ∀ c : RailFault, s.rail.state = .fault c → e.rail.state = .fault c := by exact fun _ h => h
  idle : s.test = none → e.test = none := by exact id
  lawful : (s.test.isSome = true → s.seat.isSome = true) → e.test = s.test ∧ e.runs = s.runs ∧ e.lastResult = s.lastResult := by
    exact fun _ => ⟨rfl, rfl, rfl⟩
  seat : s.seat.isSome = true → e.seat = s.seat := by exact fun _ => rfl

theorem State.SeatStays.trans {a b c : State} (h : a.SeatStays b) (g : b.SeatStays c) : a.SeatStays c where
  cal := g.cal.trans h.cal
  layer := g.layer.trans h.layer
  commit := g.commit.trans h.commit
  eeprom := g.eeprom.trans h.eeprom
  commitCount := g.commitCount.trans h.commitCount
  saved := g.saved.trans h.saved
  keys := g.keys.trans h.keys
  learn := g.learn.trans h.learn
  fault x hx := g.fault x (h.fault x hx)
  idle hx := g.idle (h.idle hx)
  lawful hs := by
    obtain ⟨htest, hruns, hlast⟩ := h.lawful hs
    obtain ⟨htest', hruns', hlast'⟩ := g.lawful fun hb => by
      have ha := hs (htest ▸ hb)
      rwa [h.seat ha]
    exact ⟨htest'.trans htest, hruns'.trans hruns, hlast'.trans hlast⟩
  seat hs := (g.seat (by rw [h.seat hs]; exact hs)).trans (h.seat hs)

/-- An abort keeps a rail in FAULT: no cycle is under way there. -/
theorem State.abortTest_fault {c : RailFault} (h : s.rail.state = .fault c) (detail : Nat) :
    (s.abortTest detail).rail.state = .fault c := by
  by_cases htest : s.test = none
  · rw [State.abortTest_of_none htest]
    exact h
  · obtain ⟨s1, hs1, habort⟩ := State.abortTest_of_some htest detail
    have hstays : s1.rail.state = .fault c := by
      obtain rfl | rfl | rfl := hs1
      · rw [State.abortCycle, h]
        exact h
      · exact h
      · exact h
    rw [habort, (State.finishRun_rail _ _ _ _ _).1]
    exact hstays

/-- A change of a vacant seat hands no learn on, and, since no test runs without the seat, no test either. -/
theorem State.seatChange_stays (vacant : s.seat = none) (after : Option Link) (cause : SeatCause) :
    s.SeatStays (s.seatChange after cause) := by
  have hunder (x : State) : x.endLearnUnder none = x := by
    unfold State.endLearnUnder
    split
    · exact if_neg nofun
    · rfl
  have heq : s.seatChange after cause = (s.seatRecorded after cause).abortTest 2 := by
    rw [State.seatChange_eq, vacant, hunder]
  have hframe := (s.seatRecorded after cause).abortTest_frame 2
  rw [heq]
  refine ⟨by rw [hframe]; rfl, by rw [hframe]; rfl, by rw [hframe]; rfl, by rw [hframe]; rfl, by rw [hframe]; rfl,
    by rw [hframe]; rfl, by rw [hframe]; rfl, by rw [hframe]; rfl, fun c hc => State.abortTest_fault (s := s.seatRecorded _ _) hc 2,
    fun _ => State.abortTest_test _ 2, fun htest => ?_, fun hseat => ?_⟩
  · have hnone : s.test = none := by
      by_contra hsome
      have := htest (Option.isSome_iff_ne_none.mpr hsome)
      rw [vacant] at this
      cases this
    rw [State.abortTest_of_none (s := s.seatRecorded after cause) hnone]
    exact ⟨rfl, rfl, rfl⟩
  · rw [vacant] at hseat
    cases hseat

theorem State.judgeSeatDefault_stays (s : State) : s.SeatStays s.judgeSeatDefault := by
  unfold State.judgeSeatDefault
  split
  · rename_i h
    exact State.seatChange_stays h.1 _ _
  · exact {}

theorem State.enterRunning_stays (s : State) : s.SeatStays s.enterRunning := by
  have hphase : s.SeatStays (s.setPhase .running).calRecorded := by
    have hrecorded := (s.setPhase .running).calRecorded_frame
    rw [hrecorded, State.setPhase_frame]
    exact {}
  have hled (x : State) : x.SeatStays (x.raise .startup).judgeLed := by
    rw [State.judgeLed_frame]
    exact {}
  exact (hphase.trans (State.judgeSeatDefault_stays _)).trans (hled _)

theorem State.claimSeat_stays (other : s.seat ≠ some (otherLink l)) : s.SeatStays (s.claimSeat l) := by
  unfold State.claimSeat
  split
  · exact {}
  · rename_i h
    refine State.seatChange_stays ?_ _ _
    rw [State.holds_eq, beq_iff_eq] at h
    cases hs : s.seat with
    | none => rfl
    | some j =>
      rw [hs] at h other
      cases j <;> cases l <;> simp [otherLink] at h other

theorem State.setVotes_stays (v : Votes) : s.SeatStays (s.setVotes v) := by
  have hframe := s.setVotes_frame v
  refine ⟨by rw [hframe], by rw [hframe], by rw [hframe], by rw [hframe], by rw [hframe], by rw [hframe], by rw [hframe],
    by rw [hframe], fun c hc => ?_, by rw [hframe]; exact id, by rw [hframe]; exact fun _ => ⟨rfl, rfl, rfl⟩,
    by rw [hframe]; exact fun _ => rfl⟩
  unfold State.setVotes
  split
  · exact hc
  · rcases State.votesChanged_cases (s := s.setRail { s.rail with votes := v }) with ⟨-, h⟩ | ⟨-, ⟨hst, -⟩ | ⟨hst, -⟩ | ⟨hst, -⟩ |
      ⟨hst, -⟩ | ⟨hst, -⟩ | ⟨hst, -⟩ | ⟨hst, -⟩ | ⟨hst, -⟩ | ⟨-, h⟩⟩
    case inl => rw [h]; exact hc
    case inr.inr.inr.inr.inr.inr.inr.inr.inr => rw [h]; exact hc
    all_goals
      rw [show (s.setRail { s.rail with votes := v }).rail.state = s.rail.state from rfl, hc] at hst
      cases hst

/-- A request from a link without the seat makes none of the changes that the seat alone may make. -/
theorem Effect.seatStays (h : Effect i s e) (hl : requestLink i = some l) (hseat : s.seat ≠ some l) : s.SeatStays e := by
  have hfree {j : Link} (holds : s.holds j = true) (hj : some j = some l) : s.SeatStays e :=
    absurd ((State.holds_seat holds).trans hj) hseat
  cases h with
  | unchanged => exact {}
  | reset h => cases h <;> cases hl
  | startUp h =>
    cases h with
    | release => exact s.enterRunning_stays
    | _ => cases hl
  | key h => cases h; cases hl
  | pedal h => cases h; cases hl
  | rail h =>
    cases h with
    | vote => exact s.setVotes_stays _
    | recover _ holds => exact hfree holds hl
    | _ => cases hl
  | test h =>
    cases h with
    | runTest _ holds => exact hfree holds hl
    | stopTest _ holds => exact hfree holds hl
    | _ => cases hl
  | voice h =>
    cases h with
    | envelope => cases hl
    | panic => exact {}
    | setLayer holds => exact hfree holds hl
  | output h => rw [h.frame]; exact {}
  | transport h => rw [h.plays.frame]; exact {}
  | link h => rw [h.frame]; exact {}
  | seat h =>
    cases h with
    | seatClaim _ free =>
      cases hl
      exact State.claimSeat_stays fun hother => by simp [State.holds_eq, hother] at free
    | seatYield holds => exact hfree holds hl
    | seatPass holds => exact hfree holds hl
    | absent => cases hl
  | calibration h =>
    cases h with
    | writeKeyCal _ holds => exact hfree holds hl
    | writePedalCal holds => exact hfree holds hl
    | writeTouch holds => exact hfree holds hl
    | writeCurve holds => exact hfree holds hl
    | selectCurve holds => exact hfree holds hl
    | writeRailCal holds => exact hfree holds hl
    | learnBegin _ holds => exact hfree holds hl
    | learnEnd holds => exact hfree holds hl
  | commit h =>
    cases h with
    | commit holds => exact hfree holds hl
    | _ => cases hl

end Stay

/-- Settles O51: a request's effect reaches the other link through the journal alone, its response is on its own link, and
every change that the seat allows asks for it. -/
theorem requestsStayWithinTheirLink : Obligations.RequestsStayWithinTheirLink := by
  intro i l s s' hl h
  obtain ⟨e, heffect, hanswer⟩ := exec_leaves h
  have hlink := heffect.linkStays hl
  have hanswered : e.LinkStays s' (otherLink l) ∧ s'.rail.votes = e.rail.votes ∧ (∀ {x : State}, x.SeatStays e → x.SeatStays s') := by
    rcases hanswer with rfl | ⟨j, q, r, hj, rfl⟩
    · exact ⟨.of_eq rfl, rfl, id⟩
    · cases hl.symm.trans hj
      exact ⟨.of_eq (e.setLink_other l _), rfl, fun h => h.trans (c := e.answer l q r) {}⟩
  obtain ⟨hrest, hvotes, hkept⟩ := hanswered
  obtain ⟨hframe, hpresent, hlatched⟩ := hlink.trans hrest
  refine ⟨hframe, hpresent, BitVec.eq_of_getLsbD_eq fun n _ => ?_, ?_, ?_, fun hseat => ?_⟩
  · have hset := hlatched n
    rw [BitVec.getLsbD_and]
    cases hn : ((s.link (otherLink l)).latched.getLsbD n)
    · rfl
    · exact hset hn
  · rcases heffect.votes hl with hv | ⟨on, hv⟩ <;> rw [hvotes, hv]
    · rfl
    · cases l <;> rfl
  · rcases heffect.votes hl with hv | ⟨on, hv⟩ <;> rw [hvotes, hv] <;> cases l <;> rfl
  · have hstays := hkept (heffect.seatStays hl hseat)
    exact ⟨hstays.cal, hstays.layer, hstays.commit, hstays.eeprom, hstays.commitCount, hstays.saved, hstays.keys, hstays.learn,
      hstays.fault, hstays.idle, fun ⟨_, _, htest⟩ => hstays.lawful htest, hstays.seat⟩

end Sys2Proof.Machine
end

section
/-! The records that a departure appends: its seat change, its learn, its test, its recording and its load (R178, R201, R202). -/

namespace Sys2Proof.Machine

-- One declaration after another: side by side they open more threads than the check's memory limit holds.
set_option Elab.async false

/-! ### The views, while the ring does not fill -/

/-- While the ring is not full, appends leave a present link's cursor, and count for a link judged absent just now (R175, R178). -/
theorem Logs.views_of_room {s s' : State} (h : Logs s s') (room : s'.journal.length < 512) :
    s.journal.length ≤ s'.journal.length ∧
    (∀ (j : Link) (c g : Nat), (s.link j).view = .present c g → (s'.link j).view = .present c g) ∧
    ∀ j : Link, (s.link j).view = .absent 0 → (s'.link j).view = .absent (min 255 (s'.journal.length - s.journal.length)) := by
  have hkept := h.keeps (P := fun x => 512 ≤ x.journal.length ∨ s.journal.length ≤ x.journal.length ∧
      (∀ (j : Link) (c g : Nat), (s.link j).view = .present c g → (x.link j).view = .present c g) ∧
      ∀ j : Link, (s.link j).view = .absent 0 → (x.link j).view = .absent (min 255 (x.journal.length - s.journal.length)))
    (fun a b hj hl ha => by
      have hlink (j : Link) : b.link j = a.link j := by rw [State.link, hl]; rfl
      simpa only [hj, hlink] using ha)
    (fun a b t ha => by
      rcases ha with hfull | ⟨hlen, hpresent, habsent⟩
      · left
        rw [State.append_ring, if_neg (by omega), List.length_append, List.length_tail, List.length_singleton]
        omega
      · by_cases hfull : a.journal.length < 512
        · right
          have hview (j : Link) := congrArg LinkRec.view (a.append_link b t j)
          rw [State.append_ring, if_pos hfull, List.length_append, List.length_singleton]
          refine ⟨by omega, fun j c g hj => ?_, fun j hj => ?_⟩
          · rw [hview, LinkRec.onAppend_view, hpresent j c g hj, decide_eq_false (by omega)]
            rfl
          · rw [hview, LinkRec.onAppend_view, habsent j hj]
            refine congrArg View.absent ?_
            omega
        · left
          rw [State.append_ring, if_neg hfull, List.length_append, List.length_tail, List.length_singleton]
          omega)
    (fun a c _ ha => by
      have hlink (j : Link) : ((a.raise c).link j).view = (a.link j).view := by rw [State.raise_link]; rfl
      have hjournal : (a.raise c).journal = a.journal := rfl
      simpa only [hlink, hjournal] using ha)
    (.inr ⟨le_rfl, fun _ _ _ hj => hj, fun j hj => by rw [hj, Nat.sub_self]; rfl⟩)
  exact hkept.resolve_left (by omega)

section Records
variable {s : State}

/-! ### The PLAYBACK group at 0 -/

/-- The PEDAL records of the channels that a stop takes to 0, in channel order (log entry 14). -/
def State.pedalsToZero (s : State) : List JournalRec :=
  ((List.finRange 3).filter (fun c => (s.playChannel c).level != 0)).map
    (fun c => { body := .pedal .playback c 0 false true, time := s.now })

theorem State.playbackReset_appends (s : State) : s.Appends s.pedalsToZero s.playbackReset := by
  obtain ⟨hchannel, hjournal⟩ := s.playbackLevels_sets fun _ => 0
  have hnow : (s.playbackLevels fun _ => 0).now = s.now := by rw [(s.playbackLevels_sound _)]
  let told (c : PedalIx) : List JournalRec :=
    if (s.playChannel c).level = 0 then [] else [{ body := .pedal .playback c 0 false true, time := s.now }]
  have hfold := State.Appends.foldl (records := told)
    (f := fun x c => if (x.playChannel c).level = (s.playChannel c).level then x else x.playRecord c)
    (P := fun x => (∀ c : PedalIx, x.playChannel c = { level := 0, switch := false }) ∧ x.now = s.now)
    (fun x c hx => by
      obtain ⟨hzero, hx⟩ := hx
      beta_reduce
      by_cases hc : (s.playChannel c).level = 0
      · rw [show told c = [] from if_pos hc, if_pos (by rw [hzero, hc])]
        exact ⟨.refl x, hzero, hx⟩
      · have hne : (x.playChannel c).level ≠ (s.playChannel c).level := by
          rw [hzero]
          exact Ne.symm hc
        have happend := x.append_appends (.pedal .playback c (x.playChannel c).level (x.playChannel c).switch true) x.now
        rw [show told c = _ from if_neg hc, if_neg hne]
        refine ⟨?_, hzero, hx⟩
        unfold State.playRecord
        rw [hzero, hx] at happend ⊢
        exact happend)
    (List.finRange 3) (s.playbackLevels fun _ => 0)
    ⟨fun c => by rw [hchannel, judgeSwitch_zero], hnow⟩
  have hrecords : (List.finRange 3).flatMap told = s.pedalsToZero := by
    unfold State.pedalsToZero
    generalize List.finRange 3 = cs
    induction cs with
    | nil => rfl
    | cons c cs ih =>
      rw [List.flatMap_cons, ih]
      by_cases hc : (s.playChannel c).level = 0 <;> simp [told, hc]
  rw [hrecords] at hfold
  intro hroom
  rw [← hjournal] at hroom ⊢
  exact hfold.1 hroom

/-! ### STOP -/

/-- The TRACK_OFF records of the open notes that a stop releases, track by track in index order (R141). -/
def State.tracksOff (s : State) : List JournalRec :=
  (List.finRange 4).flatMap fun i => (KeySet.keys (s.track i).opened).map fun k => { body := .trackOff i k 64, time := s.now }

/-- The records of a stop, from its step 2 on, in its order. -/
def State.stopRecords (s : State) : List JournalRec :=
  s.tracksOff ++ s.pedalsToZero ++ if s.transport.state.name = .idle then [] else [s.idleRecord]

/-- A state of the name it had is told by no record (R166). -/
theorem State.setTransportState_silent {st : TransportState} (h : st.name = s.transport.state.name) :
    s.Appends [] (s.setTransportState st) := by
  refine .of_unchanged ?_
  unfold State.setTransportState
  rw [if_pos h]
  rfl

theorem State.setTransportState_appends {st : TransportState} (h : st.name ≠ s.transport.state.name) : s.Appends
    [{ body := .transport st.name (max (-1048576) (min 1048575 (Int.fdiv s.transport.position 480))), time := s.now }]
    (s.setTransportState st) := by
  intro hroom
  have hlt : s.journal.length < 512 := hroom
  obtain ⟨-, hring, -⟩ := State.setTransportState_tells h
  rw [hring, if_pos hlt]

/-- The records of a stop before the one that tells of IDLE: its walk abandoned, its notes released, its pedals at 0. -/
theorem State.releasedAndReset_appends (s : State) :
    s.Appends (s.tracksOff ++ s.pedalsToZero) s.abandonWalk.releaseAll.playbackReset ∧
    s.abandonWalk.releaseAll.playbackReset.now = s.now ∧ RecordKept s.abandonWalk s.abandonWalk.releaseAll.playbackReset := by
  obtain ⟨hnotes, -, -, hreleased⟩ := s.abandonWalk.releaseAll_ends
  have hrecord := s.abandonWalk.releaseAll_record
  have hwalk : s.abandonWalk.journal = s.journal ∧ s.abandonWalk.now = s.now ∧ s.abandonWalk.play = s.play := by
    unfold State.abandonWalk
    split <;> exact ⟨rfl, rfl, rfl⟩
  have htrack := s.abandonWalk_track
  generalize s.abandonWalk = w at *
  obtain ⟨hjournal, hnow, hplay⟩ := hwalk
  have hreset := w.releaseAll.playbackReset_appends
  have hplays := (w.releaseAll.playbackReset_plays (ticking := False)).take
  have hrecord' := hrecord.trans w.releaseAll.playbackReset_record
  unfold NoteFrame at hnotes
  unfold TakeFrame at hplays
  generalize w.releaseAll.playbackReset = z at *
  generalize w.releaseAll = x at *
  have hx : x.now = s.now := (congrArg State.now hnotes).trans hnow
  have hpedals : x.pedalsToZero = s.pedalsToZero := by
    unfold State.pedalsToZero State.playChannel
    rw [hx, (congrArg State.play hnotes).trans hplay]
  have hoff : w.tracksOff = s.tracksOff := by
    unfold State.tracksOff
    simp only [hnow, htrack]
  have htracks : w.Appends w.tracksOff x := hreleased
  rw [hpedals] at hreset
  rw [hoff] at htracks
  refine ⟨fun hroom => ?_, (congrArg State.now hplays).trans hx, hrecord'⟩
  rw [← hjournal] at hroom ⊢
  exact (htracks.trans hreset) hroom

theorem State.stopTail_appends (s : State) : s.Appends s.stopRecords s.stopTail := by
  obtain ⟨happends, hnow, hrecord⟩ := s.releasedAndReset_appends
  have hstate : s.abandonWalk.releaseAll.playbackReset.transport.state = s.transport.state := by
    rw [hrecord]
    exact s.abandonWalk_state
  have hposition : s.abandonWalk.releaseAll.playbackReset.transport.position = s.abandonWalk.transport.position := by
    rw [hrecord]
  have hs' : s.stopTail = (s.abandonWalk.releaseAll.playbackReset.setTransport
      { s.abandonWalk.releaseAll.playbackReset.transport with guideSet := 0#88, acc := 0 }).setTransportState .idle := rfl
  refine happends.trans ?_
  rw [hs']
  clear hs' hrecord happends
  generalize s.abandonWalk.releaseAll.playbackReset = z at *
  by_cases h : s.transport.state.name = .idle
  · rw [if_pos h]
    rw [← hstate] at h
    exact State.setTransportState_silent
      (s := z.setTransport { z.transport with guideSet := 0#88, acc := 0 }) (st := .idle) h.symm
  · have hrecord : s.idleRecord =
        { body := .transport .idle (max (-1048576) (min 1048575 (Int.fdiv z.transport.position 480))), time := z.now } := by
      rw [hposition, hnow]
      rfl
    rw [if_neg h, hrecord]
    rw [← hstate] at h
    exact State.setTransportState_appends
      (s := z.setTransport { z.transport with guideSet := 0#88, acc := 0 }) (st := .idle) (Ne.symm h)

/-! ### The recording and the load of a link that goes -/

theorem State.ownerAbsent_of_other {l : Link} (h : s.transport.recording.map (fun x => x.owner) ≠ some l) : s.ownerAbsent l = s := by
  unfold State.ownerAbsent
  split
  · rename_i x hx
    exact if_neg fun howner => h (by rw [hx, ← howner]; rfl)
  · rfl

theorem State.ownerAbsent_of_owner {l : Link} (h : s.transport.recording.map (fun x => x.owner) = some l) :
    s.ownerAbsent l = s.stopTransport := by
  obtain ⟨x, hx, howner⟩ := Option.map_eq_some_iff.mp h
  unfold State.ownerAbsent
  rw [hx]
  exact if_pos howner

theorem State.loaderAbsent_of_other {l : Link} (h : ∀ x : Load, s.transport.load = some x → x.link ≠ l) : s.loaderAbsent l = s := by
  unfold State.loaderAbsent
  split
  · rename_i x hx
    exact if_neg (h x hx)
  · rfl

theorem State.loaderAbsent_of_loader {x : Load} (h : s.transport.load = some x) : s.loaderAbsent x.link = s.abortLoad .linkAbsent := by
  unfold State.loaderAbsent
  rw [h]
  exact if_pos rfl

/-- The closing of a recording appends nothing, and changes nothing that the records of its stop tell. -/
theorem State.stopTransport_appends (s : State) : s.Appends s.stopRecords s.stopTransport := by
  have hreach := s.closeRecording_reach
  have hopened (i : TrackIx) : (s.closeRecording.track i).opened = (s.track i).opened := by
    cases hr : s.transport.recording with
    | none => rw [State.closeRecording_of_none hr]
    | some r =>
      rw [State.closeRecording_track hr]
      split
      · subst_vars
        rfl
      · rfl
  have happends : s.closeRecording.Appends s.closeRecording.stopRecords s.stopTransport := s.closeRecording.stopTail_appends
  generalize s.closeRecording = x at *
  have hnow : x.now = s.now := by rw [hreach]
  have hposition : x.abandonWalk.transport.position = s.abandonWalk.transport.position := by
    rw [x.abandonWalk_position, s.abandonWalk_position, hreach]
  have hrecords : x.stopRecords = s.stopRecords := by
    unfold State.stopRecords State.tracksOff State.pedalsToZero State.idleRecord State.playChannel
    rw [hposition, hnow, (congrArg State.play hreach :), (congrArg (fun y => y.transport.state.name) hreach :)]
    simp only [hopened]
  have hjournal : x.journal = s.journal := by rw [hreach]
  rw [hrecords] at happends
  intro hroom
  rw [← hjournal] at hroom ⊢
  exact happends hroom

theorem State.abortLoad_appends {x : Load} (h : s.transport.load = some x) (cause : LoadAbort) :
    s.Appends [{ body := .takeLoadAborted x.track cause, time := s.now }] (s.abortLoad cause) := by
  rw [State.abortLoad, h]
  exact State.report_appends _ (.takeLoadAborted x.track cause) .take

/-! ### The learn -/

/-- The record of a learn that ends with the seat of its link (R29, R201). -/
theorem State.endLearnUnder_appends (s : State) (l : Link) : s.Appends
    (if s.learn.map (fun x => x.link) = some l then
      [{ body := .calLearnDone s.learnAcceptedCount s.learnRejectedCount, time := s.now }] else [])
    (s.endLearnUnder (some l)) := by
  by_cases hunder : s.learn.map (fun x => x.link) = some l
  · obtain ⟨s1, ⟨hframe, -⟩, hend⟩ := s.endLearn_eq
    have hkept : s1.now = s.now ∧ s1.journal = s.journal := by
      rw [hframe]
      exact ⟨rfl, rfl⟩
    obtain ⟨x, hx, hlink⟩ := Option.map_eq_some_iff.mp hunder
    rw [if_pos hunder, State.endLearnUnder_of_holder hx (congrArg some hlink.symm), hend, ← hkept.1]
    exact State.Appends.trans (.of_unchanged hkept.2) (s1.report_appends _ .cal)
  · have hkept : s.endLearnUnder (some l) = s := by
      unfold State.endLearnUnder
      split
      · rename_i x hx
        exact if_neg fun h => hunder (by rw [hx]; exact h.symm)
      · rfl
    rw [if_neg hunder, hkept]
    exact .refl s

/-! ### The test -/

/-- A chain of entries of the rail out of a test: at most so many RAIL records, of no phase and no cause (R81, R83). -/
structure State.RailTells (n : Nat) (s s' : State) : Prop where
  now : s'.now = s.now
  votes : s'.rail.votes = s.rail.votes
  test : s'.test = s.test
  records : ∃ rails : List JournalRec, rails.length ≤ n ∧
    (∀ r ∈ rails, ∃ name : RailName, r = { body := .rail name none .none s.rail.votes, time := s.now }) ∧ s.Appends rails s'

theorem State.RailTells.of_unchanged {n : Nat} {s' : State} (now : s'.now = s.now) (votes : s'.rail.votes = s.rail.votes)
    (test : s'.test = s.test) (journal : s'.journal = s.journal) : s.RailTells n s' :=
  ⟨now, votes, test, [], Nat.zero_le n, nofun, .of_unchanged journal⟩

theorem State.RailTells.trans {m n : Nat} {a b c : State} (h : a.RailTells m b) (g : b.RailTells n c) : a.RailTells (m + n) c := by
  obtain ⟨hnow, hvotes, htest, rails, hlength, hform, happends⟩ := h
  obtain ⟨gnow, gvotes, gtest, more, glength, gform, gappends⟩ := g
  refine ⟨gnow.trans hnow, gvotes.trans hvotes, gtest.trans htest, rails ++ more, ?_, fun r hr => ?_, happends.trans gappends⟩
  · rw [List.length_append]
    omega
  · rcases List.mem_append.mp hr with hr | hr
    · exact hform r hr
    · rw [← hnow, ← hvotes]
      exact gform r hr

theorem State.RailTells.mono {m n : Nat} {s' : State} (h : s.RailTells m s') (hmn : m ≤ n) : s.RailTells n s' := by
  obtain ⟨hnow, hvotes, htest, rails, hlength, hform, happends⟩ := h
  exact ⟨hnow, hvotes, htest, rails, hlength.trans hmn, hform, happends⟩

theorem State.enterRail_railTells (s : State) {st : RailState} (phase : st.testPhase = none) (cause : st.cause = .none) :
    s.RailTells 1 (s.enterRail st) := by
  obtain ⟨hframe, hrail, hnotes⟩ := s.enterRail_goes st
  refine ⟨hnotes.now, by rw [hrail], by rw [hframe], [{ body := .rail st.name none .none s.rail.votes, time := s.now }], le_rfl,
    fun r hr => ⟨st.name, List.mem_singleton.mp hr⟩, fun hroom => ?_⟩
  rw [hnotes.journal_of_room hroom, RailState.notice, phase, cause]
  rfl

theorem State.endSegment_railTells (s : State) : s.RailTells 0 s.endSegment := by
  unfold State.endSegment
  split <;> exact .of_unchanged rfl rfl rfl rfl

theorem State.endSegment_enterRail_railTells (s : State) (r : Rail) {st : RailState} (votes : r.votes = s.endSegment.rail.votes)
    (phase : st.testPhase = none) (cause : st.cause = .none) : s.RailTells 1 ((s.endSegment.setRail r).enterRail st) := by
  have hset : s.endSegment.RailTells 0 (s.endSegment.setRail r) := .of_unchanged rfl votes rfl rfl
  exact (s.endSegment_railTells.trans hset).trans (State.enterRail_railTells _ phase cause)

theorem State.arriveParked_railTells (s : State) : s.RailTells 1 s.arriveParked :=
  s.endSegment_enterRail_railTells _ rfl rfl rfl

theorem State.arriveEngaged_railTells (s : State) : s.RailTells 1 s.arriveEngaged :=
  s.endSegment_enterRail_railTells _ rfl rfl rfl

theorem State.beginMove_railTells (s : State) (dir : Travel) : s.RailTells 1 (s.beginMove dir) := by
  have hstarts : s.RailTells 0 (s.startSegment dir) := .of_unchanged rfl rfl rfl rfl
  have hphase : (movingState dir).testPhase = none ∧ (movingState dir).cause = .none := by cases dir <;> exact ⟨rfl, rfl⟩
  have hbegins := hstarts.trans (State.enterRail_railTells _ hphase.1 hphase.2)
  cases dir <;> exact hbegins

theorem State.railRule_railTells {s' : State} (h : s.railRule = some s') : s.RailTells 1 s' := by
  rcases State.railRule_where h with ⟨-, -, rfl⟩ | ⟨-, -, rfl⟩ | ⟨dir, -, -, rfl⟩ | ⟨-, rfl⟩ | ⟨-, rfl⟩ | ⟨dir, -, -, -, rfl⟩
  · exact s.enterRail_railTells rfl rfl
  · exact s.enterRail_railTells rfl rfl
  · exact s.beginMove_railTells dir
  · exact s.arriveEngaged_railTells
  · exact s.arriveParked_railTells
  · exact .of_unchanged rfl rfl rfl rfl

theorem State.settleFor_railTells : ∀ (n : Nat) (s : State), s.RailTells n (State.settleFor n s)
  | 0, s => .of_unchanged rfl rfl rfl rfl
  | n + 1, s => by
    unfold State.settleFor
    split
    · exact ((State.railRule_railTells ‹_›).trans (State.settleFor_railTells n _)).mono (by omega)
    · exact .of_unchanged rfl rfl rfl rfl

theorem State.abortCycle_railTells (s : State) : s.RailTells 9 s.abortCycle := by
  have hsettled {x : State} (h : s.RailTells 1 x) : s.RailTells 9 x.settle := h.trans (State.settleFor_railTells 8 x)
  unfold State.abortCycle
  split
  · split
    · exact hsettled s.arriveParked_railTells
    · split
      · exact hsettled s.arriveEngaged_railTells
      · split <;> exact hsettled (s.endSegment_railTells.trans (State.enterRail_railTells _ rfl rfl))
  · exact .of_unchanged rfl rfl rfl rfl

/-- The records of an aborted test: the RAIL records of a cycle, then its TEST record (R217, log entry 27). -/
def State.AbortTells (s : State) (detail : Nat) (s' : State) : Prop :=
  ∃ rails : List JournalRec, rails.length ≤ 9 ∧
    (∀ r ∈ rails, ∃ name : RailName, r = { body := .rail name none .none s.rail.votes, time := s.now }) ∧
    (s.testKind ≠ some .railCycle → rails = []) ∧
    s.Appends (rails ++ (s.test.map fun x => { body := .test x.run.kind 255 detail, time := s.now }).toList) s'

theorem State.abortTest_abortTells (s : State) (detail : Nat) : s.AbortTells detail (s.abortTest detail) := by
  have hfinish {x : Test} {a : State} (hx : s.test = some x) (ha : a.test = s.test) (hnow : a.now = s.now) :
      a.Appends (s.test.map fun x => { body := .test x.run.kind 255 detail, time := s.now }).toList
        (a.finishRun 255 detail .none false) := by
    rw [State.finishRun_of_some (ha.trans hx), ← hnow, hx]
    exact a.report_appends _ .test
  have hplain {x : Test} {a : State} (hx : s.test = some x) (h : x.run.kind ≠ .railCycle) (test : a.test = s.test) (now : a.now = s.now)
      (journal : a.journal = s.journal) (habort : s.abortTest detail = a.finishRun 255 detail .none false) :
      s.AbortTells detail (s.abortTest detail) := by
    rw [habort]
    exact ⟨[], Nat.zero_le 9, nofun, fun _ => rfl, State.Appends.trans (.of_unchanged journal) (hfinish hx test now)⟩
  cases htest : s.test with
  | none =>
    rw [State.abortTest_of_none htest]
    exact ⟨[], Nat.zero_le 9, nofun, fun _ => rfl, by rw [htest]; exact .refl s⟩
  | some y =>
    cases hrun : y.run with
    | railCycle =>
      obtain ⟨hnow, -, hkept, rails, hlength, hform, happends⟩ := s.abortCycle_railTells
      have habort : s.abortTest detail = s.abortCycle.finishRun 255 detail .none false := by
        simp only [State.abortTest, htest, hrun]
      rw [habort]
      have hkind : s.testKind = some .railCycle := (State.testKind_eq htest).trans (by rw [hrun]; rfl)
      exact ⟨rails, hlength, hform, fun h => absurd hkind h, happends.trans (hfinish htest hkept hnow)⟩
    | tone =>
      exact hplain (a := { s with tone := none }) htest (by rw [hrun]; nofun) rfl rfl rfl (by simp only [State.abortTest, htest, hrun])
    | sensorScan =>
      exact hplain (a := s) htest (by rw [hrun]; nofun) rfl rfl rfl (by simp only [State.abortTest, htest, hrun])
    | readback =>
      exact hplain (a := s) htest (by rw [hrun]; nofun) rfl rfl rfl (by simp only [State.abortTest, htest, hrun])

end Records

end Sys2Proof.Machine
end

section
/-! A PRESENT line judged: the link that comes, and the link that goes, with what it loses (R178, R179, R189, R202). -/

namespace Sys2Proof.Machine

-- One declaration after another: side by side they open more threads than the check's memory limit holds.
set_option Elab.async false

section Presence
variable {s : State} {l : Link}

/-! ### The link that departs -/

/-- A link that departs has read nothing since, and keeps the rest of its record (R178, R202). -/
theorem State.departed_link (s : State) (l : Link) : (s.departed l).link l = { s.link l with view := .absent 0 } := by
  have hset : (s.setView l (.absent 0)).link l = { s.link l with view := .absent 0 } := s.setLink_self l _
  have hview : ((s.setView l (.absent 0)).judgeRemoval.link l).view = .absent 0 :=
    State.judgeRemoval_absent (congrArg LinkRec.view hset)
  refine ((s.setView l (.absent 0)).judgeRemoval_link l).trans ?_
  rw [hview, hset]

theorem State.departed_other (s : State) (l : Link) :
    (s.departed l).linkPresent (otherLink l) = s.linkPresent (otherLink l) ∧
    (s.departed l).unread (otherLink l) = s.unread (otherLink l) := by
  refine ⟨s.departed_linkPresent (by cases l <;> nofun), ?_⟩
  unfold State.departed State.setView
  rw [State.judgeRemoval_unread, State.unread, State.setLink_other]
  rfl

/-- With the other link absent too, no link reads the ring, and it stays. -/
theorem State.departed_journal_of_absent {n : Nat} (h : (s.link (otherLink l)).view = .absent n) :
    (s.departed l).journal = s.journal := by
  have hset : ((s.setView l (.absent 0)).link l).view = .absent 0 := congrArg LinkRec.view (s.setLink_self l _)
  have hother : ((s.setView l (.absent 0)).link (otherLink l)).view = .absent n :=
    (congrArg LinkRec.view (s.setLink_other l _)).trans h
  have hnone : (s.setView l (.absent 0)).oldestCursor = none := by
    unfold State.oldestCursor
    cases l with
    | a =>
      rw [show (s.setView .a (.absent 0)).links.a.view = .absent 0 from hset,
        show (s.setView .a (.absent 0)).links.b.view = .absent n from hother]
    | b =>
      rw [show (s.setView .b (.absent 0)).links.b.view = .absent 0 from hset,
        show (s.setView .b (.absent 0)).links.a.view = .absent n from hother]
  rw [State.departed, State.judgeRemoval, hnone]
  rfl

/-- The ring then begins at the other link's cursor. -/
theorem State.departed_journal_of_present {c g : Nat} (h : (s.link (otherLink l)).view = .present c g) :
    (s.departed l).journal = s.journal.drop c := by
  have hset : ((s.setView l (.absent 0)).link l).view = .absent 0 := congrArg LinkRec.view (s.setLink_self l _)
  have hother : ((s.setView l (.absent 0)).link (otherLink l)).view = .present c g :=
    (congrArg LinkRec.view (s.setLink_other l _)).trans h
  have hback : otherLink (otherLink l) = l := by cases l <;> rfl
  rw [State.departed, State.judgeRemoval_journal_of_present hother, hback, hset]
  rfl

/-! ### What it hands on -/

def State.seatRecords (s : State) (l : Link) : List JournalRec :=
  if s.seat = some l then [{ body := .seat none (some l) .absent, time := s.now }] else []

def State.learnRecords (s : State) (l : Link) : List JournalRec :=
  if s.seat = some l ∧ s.learn.map (fun x => x.link) = some l then
    [{ body := .calLearnDone s.learnAcceptedCount s.learnRejectedCount, time := s.now }]
  else []

def State.testRecords (s : State) (l : Link) : List JournalRec :=
  if s.seat = some l then (s.test.map fun x => { body := .test x.run.kind 255 2, time := s.now }).toList else []

/-- The records of the seat that a link gives up, in their order (R201): the SEAT record, the learn's, the test's. -/
def State.HandsRecords (s : State) (l : Link) (rails : List JournalRec) : Prop :=
  rails.length ≤ 9 ∧ (∀ r ∈ rails, ∃ name : RailName, r = { body := .rail name none .none s.rail.votes, time := s.now }) ∧
    (¬s.seat = some l ∨ s.testKind ≠ some .railCycle → rails = [])

theorem State.endLearnUnder_test (s : State) (before : Option Link) : (s.endLearnUnder before).test = s.test := by
  unfold State.endLearnUnder
  split
  · split
    · exact s.endLearn_test
    · rfl
  · rfl

theorem State.unseated_appends (s : State) (l : Link) : ∃ rails : List JournalRec, s.HandsRecords l rails ∧
    s.Appends (s.seatRecords l ++ s.learnRecords l ++ rails ++ s.testRecords l) (s.unseated l) := by
  unfold State.unseated State.seatRecords State.learnRecords State.testRecords State.HandsRecords
  by_cases h : s.seat = some l
  · rw [if_pos h, if_pos h, if_pos h, State.seatChange_eq]
    have hseat : s.Appends [{ body := .seat none (some l) .absent, time := s.now }] (s.seatRecorded none .absent) := by
      rw [← h]
      exact State.report_appends { s with seat := none } (.seat none s.seat .absent) .seat
    have hlearn := (s.seatRecorded none .absent).endLearnUnder_appends l
    have hhands := (s.seatRecorded none .absent).endLearnUnder_handsOn s.seat
    have htest := (s.seatRecorded none .absent).endLearnUnder_test s.seat
    have ha : (s.seatRecorded none .absent).learn = s.learn ∧ (s.seatRecorded none .absent).now = s.now ∧
        (s.seatRecorded none .absent).test = s.test ∧ (s.seatRecorded none .absent).rail.votes = s.rail.votes ∧
        (s.seatRecorded none .absent).learnAcceptedCount = s.learnAcceptedCount ∧
        (s.seatRecorded none .absent).learnRejectedCount = s.learnRejectedCount := ⟨rfl, rfl, rfl, rfl, rfl, rfl⟩
    generalize s.seatRecorded none .absent = a at *
    obtain ⟨hrecord, hnow, htest', hvotes, haccepted, hrejected⟩ := ha
    rw [hrecord, hnow, haccepted, hrejected] at hlearn
    rw [h] at hhands htest ⊢
    obtain ⟨rails, hlength, hform, hkind, hrails⟩ := (a.endLearnUnder (some l)).abortTest_abortTells 2
    rw [hhands.now, hnow, hhands.votes, hvotes] at hform
    rw [hhands.now, hnow, htest, htest'] at hrails
    rw [State.testKind, htest, htest'] at hkind
    refine ⟨rails, ⟨hlength, hform, fun hother => hkind (hother.resolve_left (fun hn => hn rfl))⟩, ?_⟩
    rw [List.append_assoc]
    refine (hseat.trans ?_).trans hrails
    by_cases hunder : s.learn.map (fun x => x.link) = some l
    · rw [if_pos hunder] at hlearn
      rwa [if_pos ⟨rfl, hunder⟩]
    · rw [if_neg hunder] at hlearn
      rwa [if_neg fun hboth => hunder hboth.2]
  · rw [if_neg h]
    refine ⟨[], ⟨Nat.zero_le 9, nofun, fun _ => rfl⟩, ?_⟩
    rw [if_neg h, if_neg (fun hboth => h hboth.1), if_neg h]
    exact .refl s

/-! ### The recording and the load of a link that goes -/

/-- What a stop tells is decided by the transport, the PLAYBACK channels and the time. -/
theorem State.stopRecords_congr {a b : State} (now : b.now = a.now) (transport : b.transport = a.transport) (play : b.play = a.play) :
    b.stopRecords = a.stopRecords := by
  have hposition : b.abandonWalk.transport.position = a.abandonWalk.transport.position := by
    rw [b.abandonWalk_position, a.abandonWalk_position, transport]
  unfold State.stopRecords State.tracksOff State.pedalsToZero State.idleRecord State.playChannel State.track
  rw [hposition, now, transport, play]

/-- The records of the recording that stops with its owner. -/
def State.ownerRecords (s : State) (l : Link) : List JournalRec :=
  if s.transport.recording.map (fun x => x.owner) = some l then s.stopRecords else []

/-- The record of the load that is aborted with its link. -/
def State.loaderRecords (s : State) (l : Link) : List JournalRec :=
  ((s.transport.load.filter fun x => decide (x.link = l)).map fun x =>
    { body := .takeLoadAborted x.track .linkAbsent, time := s.now }).toList

theorem State.ownerAbsent_appends (s : State) (l : Link) : s.Appends (s.ownerRecords l) (s.ownerAbsent l) := by
  unfold State.ownerRecords
  by_cases h : s.transport.recording.map (fun x => x.owner) = some l
  · rw [if_pos h, State.ownerAbsent_of_owner h]
    exact s.stopTransport_appends
  · rw [if_neg h, State.ownerAbsent_of_other h]
    exact .refl s

theorem State.loaderAbsent_appends (s : State) (l : Link) : s.Appends (s.loaderRecords l) (s.loaderAbsent l) := by
  unfold State.loaderRecords
  cases hx : s.transport.load with
  | none =>
    rw [State.loaderAbsent_of_other (by rw [hx]; nofun)]
    exact .refl s
  | some x =>
    by_cases hl : x.link = l
    · subst hl
      have hfilter : (some x).filter (fun y => decide (y.link = x.link)) = some x := by simp [Option.filter]
      rw [State.loaderAbsent_of_loader hx, hfilter]
      exact State.abortLoad_appends hx .linkAbsent
    · have hfilter : (some x).filter (fun y => decide (y.link = l)) = none := by simp [Option.filter, hl]
      rw [State.loaderAbsent_of_other fun y hy => by rw [hx] at hy; cases hy; exact hl, hfilter]
      exact .refl s

/-- The recording stops and stays no link's; the load is not its matter. -/
theorem State.ownerAbsent_ends (s : State) (l : Link) :
    (∀ x : Recording, (s.ownerAbsent l).transport.recording = some x → x.owner ≠ l) ∧
    (s.ownerAbsent l).transport.load = s.transport.load ∧ (s.ownerAbsent l).now = s.now := by
  by_cases h : s.transport.recording.map (fun x => x.owner) = some l
  · obtain ⟨-, -, -, hrecording, hload, -⟩ := s.stopTransport_stops
    have hframe := (s.stopTransport_plays (ticking := False)).take
    unfold TakeFrame at hframe
    rw [State.ownerAbsent_of_owner h]
    have hnow : s.stopTransport.now = s.now := (congrArg State.now hframe :)
    generalize s.stopTransport = e at *
    exact ⟨fun x hx => (by cases hrecording.symm.trans hx), hload, hnow⟩
  · rw [State.ownerAbsent_of_other h]
    exact ⟨fun x hx howner => h (by rw [hx, ← howner]; rfl), rfl, rfl⟩

/-- The load is aborted; the recording is not its matter. -/
theorem State.loaderAbsent_ends (s : State) (l : Link) : (∀ x : Load, (s.loaderAbsent l).transport.load = some x → x.link ≠ l) ∧
    (s.loaderAbsent l).transport.recording = s.transport.recording := by
  by_cases h : ∀ x : Load, s.transport.load = some x → x.link ≠ l
  · rw [State.loaderAbsent_of_other h]
    exact ⟨h, rfl⟩
  · push Not at h
    obtain ⟨x, hx, rfl⟩ := h
    rw [State.loaderAbsent_of_loader hx, State.abortLoad, hx]
    exact ⟨nofun, rfl⟩

/-- All that a link which departed hands on, in its order (R202). -/
theorem State.handsOn_appends (s : State) (l : Link) : ∃ rails : List JournalRec, s.HandsRecords l rails ∧ s.Appends
    (s.seatRecords l ++ s.learnRecords l ++ rails ++ s.testRecords l ++ s.ownerRecords l ++ s.loaderRecords l)
    (((s.unseated l).ownerAbsent l).loaderAbsent l) := by
  obtain ⟨rails, hhands, hseat⟩ := s.unseated_appends l
  have hframe := s.unseated_frame l
  have howner := (s.unseated l).ownerAbsent_appends l
  obtain ⟨-, hload, hnow⟩ := (s.unseated l).ownerAbsent_ends l
  have hloader := ((s.unseated l).ownerAbsent l).loaderAbsent_appends l
  generalize ((s.unseated l).ownerAbsent l).loaderAbsent l = e at *
  generalize (s.unseated l).ownerAbsent l = o at *
  generalize s.unseated l = u at *
  unfold HandFrame at hframe
  have hu : u.now = s.now ∧ u.transport = s.transport ∧ u.play = s.play := by
    rw [hframe]
    exact ⟨rfl, rfl, rfl⟩
  obtain ⟨hunow, htransport, hplay⟩ := hu
  have hownerRecords : u.ownerRecords l = s.ownerRecords l := by
    unfold State.ownerRecords
    rw [State.stopRecords_congr hunow htransport hplay, htransport]
  have hloaderRecords : o.loaderRecords l = s.loaderRecords l := by
    unfold State.loaderRecords
    rw [hload, hnow, hunow, htransport]
  rw [hownerRecords] at howner
  rw [hloaderRecords] at hloader
  exact ⟨rails, hhands, (hseat.trans howner).trans hloader⟩

end Presence

end Sys2Proof.Machine
end

section
/-! O45 assembled: a PRESENT line is judged once it has held its level. -/

namespace Sys2Proof.Machine

-- One declaration after another: side by side they open more threads than the check's memory limit holds.
set_option Elab.async false

section Judged
variable {s : State} {t : Time} {l : Link}

/-- A judgement that is not due changes nothing (log entry 2). -/
theorem linkJudgedPresent_early (h : (s.link l).presentRaw.on = false ∨ (t - (s.link l).presentRaw.since).toNat < 10000 ∨
    s.linkPresent l = true) : exec (.linkJudgedPresent t l) s = .next { s with now := t } := by
  have hdue : (((s.stamp t).link l).presentRaw.on && ((s.stamp t).link l).presentRaw.due ((s.stamp t).linkPresent l)
      Config.presentHold t) = false := by
    rw [Bool.and_eq_false_iff]
    rcases h with h | h | h
    · exact .inl h
    · exact .inr (RawInput.due_eq_false (.inr h))
    · cases hon : (s.link l).presentRaw.on with
      | false => exact .inl hon
      | true => exact .inr (RawInput.due_eq_false (.inl (hon.trans h.symm)))
  simp only [exec, execLinkJudgedPresent, State.whenDue, hdue, Bool.false_eq_true, if_false]
  rfl

theorem linkJudgedAbsent_early (h : (s.link l).presentRaw.on = true ∨ (t - (s.link l).presentRaw.since).toNat < 10000 ∨
    s.linkPresent l = false) : exec (.linkJudgedAbsent t l) s = .next { s with now := t } := by
  have hdue : (!((s.stamp t).link l).presentRaw.on && ((s.stamp t).link l).presentRaw.due ((s.stamp t).linkPresent l)
      Config.presentHold t) = false := by
    rw [Bool.and_eq_false_iff, Bool.not_eq_false']
    rcases h with h | h | h
    · exact .inl h
    · exact .inr (RawInput.due_eq_false (.inr h))
    · cases hon : (s.link l).presentRaw.on with
      | true => exact .inl hon
      | false => exact .inr (RawInput.due_eq_false (.inl (hon.trans h.symm)))
  simp only [exec, execLinkJudgedAbsent, State.whenDue, hdue, Bool.false_eq_true, if_false]
  rfl

theorem linkJudgedPresent_due (on : (s.link l).presentRaw.on = true) (due : 10000 ≤ (t - (s.link l).presentRaw.since).toNat)
    (absent : s.linkPresent l = false) : exec (.linkJudgedPresent t l) s = .next ((s.stamp t).judgePresent l) := by
  have hdue : (((s.stamp t).link l).presentRaw.on && ((s.stamp t).link l).presentRaw.due ((s.stamp t).linkPresent l)
      Config.presentHold t) = true := by
    refine Bool.and_eq_true_iff.mpr ⟨on, RawInput.due_iff.mpr ⟨fun h => ?_, due⟩⟩
    cases on.symm.trans (h.trans absent)
  simp only [exec, execLinkJudgedPresent, State.whenDue, hdue, if_true]

theorem linkJudgedAbsent_due (off : (s.link l).presentRaw.on = false) (due : 10000 ≤ (t - (s.link l).presentRaw.since).toNat)
    (present : s.linkPresent l = true) : exec (.linkJudgedAbsent t l) s = .next ((s.stamp t).judgeAbsent l) := by
  have hdue : (!((s.stamp t).link l).presentRaw.on && ((s.stamp t).link l).presentRaw.due ((s.stamp t).linkPresent l)
      Config.presentHold t) = true := by
    refine Bool.and_eq_true_iff.mpr ⟨?_, RawInput.due_iff.mpr ⟨fun h => ?_, due⟩⟩
    · rw [Bool.not_eq_true']
      exact off
    · cases off.symm.trans (h.trans present)
  simp only [exec, execLinkJudgedAbsent, State.whenDue, hdue, if_true]

/-! ### A link that comes -/

/-- A link that is judged present is told of the records it missed as a gap (R176, R179, R202). -/
def State.seen (s : State) (l : Link) (n : Nat) : State :=
  s.setLink l { s.link l with
    view := .present s.journal.length n
    latched := if n = 0 then (s.link l).latched else (s.link l).latched ||| Condition.mask .gap }

theorem State.judgePresent_of_absent {n : Nat} (h : (s.link l).view = .absent n) : s.judgePresent l = (s.seen l n).judgeRemoval := by
  unfold State.judgePresent State.seen
  rw [h]
  by_cases hn : n = 0
  · simp only [hn, if_true]
    rfl
  · simp only [hn, if_false]
    cases l <;> rfl

/-- What a link that comes finds (R179, R202). -/
theorem State.judgePresent_finds {n : Nat} (h : (s.link l).view = .absent n) (law : JournalLaw s) (attentive : AttentionLaw s) :
    let s' := s.judgePresent l
    (s'.link l).view = .present s'.journal.length n ∧ s'.unread l = 0 ∧ s'.journalCondition l = false ∧
    s'.link l = { s.link l with
      view := (s'.link l).view
      latched := if n = 0 then (s.link l).latched else (s.link l).latched ||| Condition.mask .gap } ∧
    s'.link (otherLink l) = { s.link (otherLink l) with view := (s'.link (otherLink l)).view } ∧
    s'.unread (otherLink l) = s.unread (otherLink l) ∧
    (s.linkPresent (otherLink l) = false → s'.journal = []) ∧
    (s.linkPresent (otherLink l) = true → s'.journal = s.journal) ∧
    s' = { s with journal := s'.journal, links := s'.links } := by
  intro s'
  have hs' : s' = (s.seen l n).judgeRemoval := State.judgePresent_of_absent h
  have hself : (s.seen l n).link l = { s.link l with
      view := .present s.journal.length n
      latched := if n = 0 then (s.link l).latched else (s.link l).latched ||| Condition.mask .gap } := s.setLink_self l _
  have hother : (s.seen l n).link (otherLink l) = s.link (otherLink l) := s.setLink_other l _
  have hview : ((s.seen l n).link l).view = .present s.journal.length n := congrArg LinkRec.view hself
  have hnewest := State.judgeRemoval_newest (s := s.seen l n) hview
  have hjournal := State.judgeRemoval_journal_of_present hview
  have hunread : s'.unread l = 0 := by
    rw [hs', State.unread, hnewest]
    exact Nat.sub_self _
  have hlink : s'.link l = { s.link l with
      view := (s'.link l).view
      latched := if n = 0 then (s.link l).latched else (s.link l).latched ||| Condition.mask .gap } := by
    rw [hs', State.judgeRemoval_link, hself]
  have hring : s'.journal = s.journal.drop ((s.link (otherLink l)).view.olderThan s.journal.length) := by
    rw [hs', hjournal, hother]
    rfl
  refine ⟨by rw [hs']; exact hnewest, hunread, ?_, hlink, ?_, ?_, fun habsent => ?_, fun hpresent => ?_, ?_⟩
  · have hwater : 1 ≤ (s'.link l).watermark := by
      rw [hlink]
      exact (attentive l).2.2.1
    rw [State.journalCondition, hunread, decide_eq_false (by omega), Bool.and_false]
  · rw [hs', State.judgeRemoval_link, hother]
  · rw [hs', State.judgeRemoval_unread, State.unread, hother]
    rfl
  · obtain ⟨k, hk⟩ : ∃ k, (s.link (otherLink l)).view = .absent k := by
      rw [State.linkPresent] at habsent
      cases hv : (s.link (otherLink l)).view with
      | absent k => exact ⟨k, rfl⟩
      | present c g => rw [hv] at habsent; cases habsent
    rw [hring, hk]
    exact List.drop_length
  · obtain ⟨c, g, hc⟩ : ∃ c g, (s.link (otherLink l)).view = .present c g := by
      rw [State.linkPresent] at hpresent
      cases hv : (s.link (otherLink l)).view with
      | absent k => rw [hv] at hpresent; cases hpresent
      | present c g => exact ⟨c, g, rfl⟩
    obtain ⟨m, g', hm⟩ := (journalLaw_iff.mp law).2 _ c g hc
    have hmother : m = otherLink l := by
      rcases eq_or_ne m l with rfl | hne
      · rw [h] at hm
        cases hm
      · cases m <;> cases l <;> simp [otherLink] at hne ⊢
    subst hmother
    rw [hring, hm, View.olderThan, Nat.zero_min, List.drop_zero]
  · rw [hs']
    exact LinkFrame.trans (b := s.seen l n) rfl (State.judgeRemoval_frame _)

/-! ### A link that goes -/

theorem State.judgeAbsent_of_present (h : s.linkPresent l = true) :
    s.judgeAbsent l = (((s.departed l).unseated l).ownerAbsent l).loaderAbsent l := by
  rcases s.judgeAbsent_cases l with ⟨habsent, -⟩ | ⟨-, heq⟩
  · rw [h] at habsent
    cases habsent
  · exact heq

theorem State.unseated_votes (s : State) (l : Link) : (s.unseated l).rail.votes = s.rail.votes ∧ (s.unseated l).seat ≠ some l := by
  unfold State.unseated
  split
  · exact ⟨s.seatChange_votes _ _, by rw [State.seatChange_seat]; nofun⟩
  · exact ⟨rfl, ‹_›⟩

/-- What a link that goes loses, and what it keeps (R202). -/
theorem State.judgeAbsent_loses (h : s.linkPresent l = true) :
    let s' := s.judgeAbsent l
    s'.linkPresent l = false ∧ s'.journalCondition l = false ∧ s'.seat ≠ some l ∧
    (∀ x : Recording, s'.transport.recording = some x → x.owner ≠ l) ∧
    (∀ x : Load, s'.transport.load = some x → x.link ≠ l) ∧
    s'.rail.votes = s.rail.votes ∧ s'.layer = s.layer ∧
    (s'.link l).mask = (s.link l).mask ∧ (s'.link l).onAck = (s.link l).onAck ∧
    (s'.link l).watermark = (s.link l).watermark ∧ (s'.link l).transaction = (s.link l).transaction := by
  intro s'
  have hs' : s' = (((s.departed l).unseated l).ownerAbsent l).loaderAbsent l := State.judgeAbsent_of_present h
  have hlogs : Logs (s.departed l) s' := s.judgeAbsent_logs l h
  have hdeparted := s.departed_link l
  obtain ⟨hlink, hpresent, -⟩ := hlogs.linkStays l
  have habsent : s'.linkPresent l = false := by
    rw [hpresent, State.linkPresent, hdeparted]
    rfl
  have hframe := (((State.ownerAbsent_plays ((s.departed l).unseated l) l).trans (State.loaderAbsent_plays _ l))).take
  rw [← hs'] at hframe
  obtain ⟨howner, -, -⟩ := ((s.departed l).unseated l).ownerAbsent_ends l
  obtain ⟨hloader, hrecording⟩ := (((s.departed l).unseated l).ownerAbsent l).loaderAbsent_ends l
  rw [← hs'] at hloader hrecording
  obtain ⟨hvotes, hseat⟩ := (s.departed l).unseated_votes l
  have hlayer : s'.layer = s.layer := (congrArg State.layer (s.judgeAbsent_frame l) :)
  have hdvotes : (s.departed l).rail.votes = s.rail.votes := (congrArg (fun x => x.rail.votes) (s.departed_frame l) :)
  clear_value s'
  unfold TakeFrame at hframe
  have hkept : s'.seat = ((s.departed l).unseated l).seat ∧ s'.rail = ((s.departed l).unseated l).rail :=
    ⟨(congrArg State.seat hframe :), (congrArg State.rail hframe :)⟩
  generalize (s.departed l).unseated l = u at *
  generalize u.ownerAbsent l = o at *
  generalize s.departed l = d at *
  refine ⟨habsent, by rw [State.journalCondition, habsent, Bool.false_and], ?_, ?_, hloader, ?_, hlayer, ?_, ?_, ?_, ?_⟩
  · rwa [hkept.1]
  · rwa [hrecording]
  · rw [hkept.2, hvotes, hdvotes]
  all_goals rw [hlink, hdeparted]

/-- A link that holds nothing departs, and hands nothing on. -/
theorem State.judgeAbsent_of_idle (h : s.linkPresent l = true) (seat : s.seat ≠ some l)
    (recording : ∀ x : Recording, s.transport.recording = some x → x.owner ≠ l)
    (load : ∀ x : Load, s.transport.load = some x → x.link ≠ l) : s.judgeAbsent l = s.departed l := by
  have hframe := s.departed_frame l
  unfold LinkFrame at hframe
  have hseat : (s.departed l).seat = s.seat := (congrArg State.seat hframe :)
  have htransport : (s.departed l).transport = s.transport := (congrArg State.transport hframe :)
  have hunseated : (s.departed l).unseated l = s.departed l := if_neg (by rwa [hseat])
  rw [State.judgeAbsent_of_present h, hunseated, State.ownerAbsent_of_other, State.loaderAbsent_of_other]
  · rwa [htransport]
  · rw [htransport]
    intro howner
    obtain ⟨x, hx, hxl⟩ := Option.map_eq_some_iff.mp howner
    exact recording x hx hxl

theorem State.tracksOff_length (s : State) : s.tracksOff.length ≤ 352 := by
  have hkeys (m : KeySet) : (KeySet.keys m).length ≤ 88 := (List.length_filter_le _ _).trans (List.length_finRange (n := 88)).le
  unfold State.tracksOff
  simp only [List.length_flatMap, List.length_map]
  refine (List.sum_le_card_nsmul _ 88 fun n hn => ?_).trans (by simp)
  obtain ⟨i, -, rfl⟩ := List.mem_map.mp hn
  exact hkeys _

theorem State.stopRecords_length (s : State) : s.stopRecords.length ≤ 356 := by
  have htracks := s.tracksOff_length
  have hpedals : s.pedalsToZero.length ≤ 3 := by
    unfold State.pedalsToZero
    rw [List.length_map]
    exact (List.length_filter_le _ _).trans (List.length_finRange (n := 3)).le
  have hidle : (if s.transport.state.name = .idle then [] else [s.idleRecord]).length ≤ 1 := by split <;> simp
  unfold State.stopRecords
  rw [List.length_append, List.length_append]
  omega

/-- The records of a departure but for those of the rail. -/
theorem State.departureRecords_length (s : State) (l : Link) :
    (s.seatRecords l ++ s.learnRecords l ++ s.testRecords l ++ s.ownerRecords l ++ s.loaderRecords l).length ≤ 360 := by
  have hseat : (s.seatRecords l).length ≤ 1 := by unfold State.seatRecords; split <;> simp
  have hlearn : (s.learnRecords l).length ≤ 1 := by unfold State.learnRecords; split <;> simp
  have htest : (s.testRecords l).length ≤ 1 := by
    unfold State.testRecords
    split
    · cases s.test <;> simp
    · simp
  have howner : (s.ownerRecords l).length ≤ 356 := by
    unfold State.ownerRecords
    split
    · exact s.stopRecords_length
    · simp
  have hloader : (s.loaderRecords l).length ≤ 1 := by
    unfold State.loaderRecords
    cases (s.transport.load.filter fun x => decide (x.link = l)) <;> simp
  simp only [List.length_append]
  omega

/-- The records of a departure, in their order, and who counts them (R178, R202). -/
theorem State.judgeAbsent_tells (h : s.linkPresent l = true) (law : JournalLaw s) (room : s.journal.length ≤ 140) :
    let s' := s.judgeAbsent l
    let kept := (s.departed l).journal
    ∃ rails : List JournalRec, s.HandsRecords l rails ∧
      s'.journal = kept ++ s.seatRecords l ++ s.learnRecords l ++ rails ++ s.testRecords l ++ s.ownerRecords l ++ s.loaderRecords l ∧
      (s'.link l).view = .absent (min 255 (s'.journal.length - kept.length)) ∧
      (s.linkPresent (otherLink l) = true →
        s'.unread (otherLink l) = s.unread (otherLink l) + (s'.journal.length - kept.length)) := by
  intro s' kept
  have hlogs : Logs (s.departed l) s' := s.judgeAbsent_logs l h
  have hs' : s' = (((s.departed l).unseated l).ownerAbsent l).loaderAbsent l := State.judgeAbsent_of_present h
  have hlink := s.departed_link l
  obtain ⟨hopresent, hounread⟩ := s.departed_other l
  have hdlaw := law.departed l
  have hframe := s.departed_frame l
  unfold LinkFrame at hframe
  have hkept : kept.length ≤ 140 := by
    have hlength : kept.length ≤ s.journal.length := by
      change (s.departed l).journal.length ≤ _
      cases hother : (s.link (otherLink l)).view with
      | absent n => rw [State.departed_journal_of_absent hother]
      | present c g =>
        rw [State.departed_journal_of_present hother, List.length_drop]
        exact Nat.sub_le _ _
    exact hlength.trans room
  obtain ⟨rails, hhands, happends⟩ := (s.departed l).handsOn_appends l
  rw [← hs'] at happends
  have hseat : (s.departed l).seatRecords l = s.seatRecords l := (congrArg (fun x => x.seatRecords l) hframe :)
  have hlearn : (s.departed l).learnRecords l = s.learnRecords l := (congrArg (fun x => x.learnRecords l) hframe :)
  have htest : (s.departed l).testRecords l = s.testRecords l := (congrArg (fun x => x.testRecords l) hframe :)
  have hloader : (s.departed l).loaderRecords l = s.loaderRecords l := (congrArg (fun x => x.loaderRecords l) hframe :)
  have howner : (s.departed l).ownerRecords l = s.ownerRecords l := by
    have htransport : (s.departed l).transport = s.transport := (congrArg State.transport hframe :)
    unfold State.ownerRecords
    rw [State.stopRecords_congr (a := s) (b := s.departed l) (congrArg State.now hframe :) htransport (congrArg State.play hframe :), htransport]
  have hhands' : s.HandsRecords l rails := ((congrArg (fun x => State.HandsRecords x l rails) hframe).mp hhands :)
  rw [hseat, hlearn, htest, hloader, howner] at happends
  have hlength : kept.length + (s.seatRecords l ++ s.learnRecords l ++ rails ++ s.testRecords l ++ s.ownerRecords l ++
      s.loaderRecords l).length < 512 := by
    have hrecords := s.departureRecords_length l
    obtain ⟨hrails, -, -⟩ := hhands'
    simp only [List.length_append] at hrecords ⊢
    omega
  have hjournal : s'.journal = kept ++ (s.seatRecords l ++ s.learnRecords l ++ rails ++ s.testRecords l ++ s.ownerRecords l ++
      s.loaderRecords l) := happends (Nat.le_of_lt hlength)
  obtain ⟨hgrown, hpresent, habsent⟩ := hlogs.views_of_room (by rw [hjournal, List.length_append]; exact hlength)
  refine ⟨rails, hhands', ?_, habsent l (by rw [hlink]), fun hother => ?_⟩
  · rw [hjournal]
    simp only [List.append_assoc]
  · rw [← hounread]
    rw [← hopresent, State.linkPresent] at hother
    cases hview : ((s.departed l).link (otherLink l)).view with
    | absent n => rw [hview] at hother; cases hother
    | present c g =>
      have hlawful := hdlaw.2.1 (otherLink l)
      rw [hview] at hlawful
      have hcursor : c ≤ kept.length := hlawful.1
      rw [State.unread, State.unread, hview, hpresent _ c g hview]
      change s'.journal.length - c = kept.length - c + (s'.journal.length - kept.length)
      have hgrown' : kept.length ≤ s'.journal.length := hgrown
      omega

end Judged

/-- Settles O45: a judgement that is due acts on the stamped state; a link that comes is seen at the newest end, and a link
that goes departs and hands on in the order of its records. -/
theorem presenceIsJudged : Obligations.PresenceIsJudged := by
  intro t l s law attentive
  refine ⟨linkJudgedPresent_early, linkJudgedAbsent_early, fun n on due hview => ?comes, fun cursor gap off due hview => ?goes⟩
  case comes =>
    have habsent : s.linkPresent l = false := by rw [State.linkPresent, hview]; rfl
    exact ⟨_, linkJudgedPresent_due on due habsent, State.judgePresent_finds (s := s.stamp t) hview law attentive⟩
  case goes =>
    have hpresent : (s.stamp t).linkPresent l = true := by
      change (s.link l).view.isPresent = true
      rw [hview]
      rfl
    obtain ⟨habsent, hcondition, hseat, hrecording, hload, hvotes, hlayer, hmask, honAck, hwater, htransaction⟩ :=
      State.judgeAbsent_loses hpresent
    refine ⟨_, linkJudgedAbsent_due off due hpresent, habsent, hcondition, hseat, hrecording, hload, hvotes, hlayer, hmask, honAck,
      hwater, htransaction, fun seat recording load => ?idle, fun room => ?records⟩
    case idle =>
      obtain ⟨-, hunread⟩ := (s.stamp t).departed_other l
      have hlink := (s.stamp t).departed_link l
      rw [State.judgeAbsent_of_idle hpresent seat recording load]
      exact ⟨by rw [hlink], by rw [hlink]; rfl, hunread, (s.stamp t).departed_frame l⟩
    case records =>
      obtain ⟨rails, ⟨-, hform, hkind⟩, hjournal, hcount, hother⟩ := State.judgeAbsent_tells hpresent law room
      intro at' holds stops kept position seat learn test stop load
      have hkept : ((s.stamp t).departed l).journal = kept := by
        cases hv : (s.link (otherLink l)).view with
        | absent n =>
          simp only [kept, hv]
          exact State.departed_journal_of_absent (s := s.stamp t) hv
        | present c g =>
          simp only [kept, hv]
          exact State.departed_journal_of_present (s := s.stamp t) hv
      have htest : (s.stamp t).testRecords l = test := by
        unfold State.testRecords
        rw [show (s.stamp t).test = s.test from rfl, show (s.stamp t).seat = s.seat from rfl]
        cases hx : s.test <;> simp only [test, hx]
        · exact ite_self _
        · rfl
      have hloader : (s.stamp t).loaderRecords l = load := by
        unfold State.loaderRecords
        rw [show (s.stamp t).transport = s.transport from rfl]
        cases hx : s.transport.load with
        | none =>
          simp only [load, hx]
          rfl
        | some x => by_cases hl : x.link = l <;> simp [load, hx, hl, Option.filter, at']
      have hstop : (s.stamp t).ownerRecords l = stop := by
        have hposition : (s.stamp t).abandonWalk.transport.position = position := (s.stamp t).abandonWalk_position
        unfold State.ownerRecords State.stopRecords State.idleRecord
        rw [hposition]
        rfl
      rw [hkept] at hjournal hcount hother
      rw [htest, hloader, hstop] at hjournal
      exact ⟨rails, hform, hkind, hjournal, hcount, hother⟩

end Sys2Proof.Machine
end

section
/-! The service tests but for the rail cycle: RUN_TEST and STOP_TEST, the readback, and the sensor scan (R214 to R217). -/

namespace Sys2Proof.Machine

-- One declaration after another: side by side they open more threads than the check's memory limit holds.
set_option Elab.async false

section Tests
variable {s : State} {x : Test} {l : Link} {k : TestKind} {code detail : Nat} {m : Measure}

/-! ### The end of a run -/

/-- A run has ended: its result is the last, and its TEST record was appended now with its condition (R215). -/
def State.RunEnded (s : State) (k : TestKind) (code detail : Nat) (m : Measure) (s' : State) : Prop :=
  s'.lastResult = some { kind := k, code := code, detail := detail, measure := m } ∧
  s'.journal = (if s.journal.length < 512 then s.journal else s.journal.tail) ++ [{ body := .test k code detail, time := s.now }] ∧
  ∀ j : Link, (s'.link j).latched.getLsbD 10 = true

theorem State.finishRun_ended (h : s.test = some x) (completed : Bool) :
    s.RunEnded x.run.kind code detail m (s.finishRun code detail m completed) := by
  rw [State.finishRun_of_some h]
  exact ⟨rfl, s.report_ring (.test x.run.kind code detail) .test, fun j => s.report_latched (.test x.run.kind code detail) .test j⟩

/-- A run that fails, and any run in mode SINGLE, is the last (R217). -/
theorem State.endRun_last (h : s.test = some x) (last : ¬(code = 0 ∧ x.continuous = true)) :
    s.endRun code detail m = s.finishRun code detail m true ∧ (s.finishRun code detail m true).test = none := by
  have hnone : (s.finishRun code detail m true).test = none := by
    rw [State.finishRun_of_some h]
    exact if_neg last
  refine ⟨?_, hnone⟩
  rw [State.endRun, State.nextRun, hnone]

/-- A run that passed in mode CONTINUOUS, of a test the rail takes no part in, is followed by the next (R217). -/
theorem State.endRun_repeats (h : s.test = some x) (continuous : x.continuous = true) (kind : x.run.kind ≠ .railCycle) :
    s.endRun 0 detail m = (s.finishRun 0 detail m true).beginRun x.run.kind true := by
  have hsome : (s.finishRun 0 detail m true).test = some x := by
    rw [State.finishRun_of_some h]
    exact if_pos ⟨rfl, continuous⟩
  rw [State.endRun, State.nextRun, hsome]
  obtain ⟨c, run⟩ := x
  obtain rfl : c = true := continuous
  cases run with
  | railCycle => exact absurd rfl kind
  | _ => rfl

/-! ### RUN_TEST and STOP_TEST -/

theorem testOfCode_byteAt (k : TestKind) (x : Bool) : testOfCode (byteAt (u1 k.code ++ yesNo x) 0) = some k := by
  cases k <;> rfl

theorem flagOfCode_byteAt (k : TestKind) (x : Bool) : flagOfCode (byteAt (u1 k.code ++ yesNo x) 1) = some x := by
  cases k <;> cases x <;> rfl

theorem runTestPayload_length (k : TestKind) (x : Bool) : (u1 k.code ++ yesNo x).length = 2 := by cases k <;> cases x <;> rfl

theorem State.noSeat_of_seat (h : s.seat = some l) : s.noSeat l = (false, .noSeat) := by
  rw [State.noSeat, State.holds_eq, h]
  simp

theorem runTestChecks_pass (run : s.running = true) (seat : s.seat = some l) (k : TestKind) (x : Bool) :
    firstFailing [s.beforeRunning, s.noSeat l, lengthNot (u1 k.code ++ yesNo x) 2] = none := by
  rw [State.beforeRunning_of_running run, State.noSeat_of_seat seat, lengthNot, runTestPayload_length]
  rfl

theorem ruleRunTest_busy (run : s.running = true) (seat : s.seat = some l) (x : Bool)
    (busy : s.test.isSome = true ∨ k = .readback ∧ s.commit.isSome = true) :
    ruleRunTest l (u1 k.code ++ yesNo x) s = (s, .no .busy) := by
  rw [ruleRunTest, State.checked_passed _ (runTestChecks_pass run seat k x), testOfCode_byteAt, flagOfCode_byteAt]
  exact if_pos busy

theorem ruleRunTest_starts {e : State} {x : Bool} (run : s.running = true) (seat : s.seat = some l) (idle : s.test = none)
    (free : k = .readback → s.commit = none) (starts : s.startTest k x = some e) :
    ruleRunTest l (u1 k.code ++ yesNo x) s = (e, .ok (u1 k.code ++ yesNo x)) := by
  have hfree : ¬(s.test.isSome = true ∨ k = .readback ∧ s.commit.isSome = true) := by
    rintro (h | ⟨hk, hc⟩)
    · rw [idle] at h
      cases h
    · rw [free hk] at hc
      cases hc
  rw [ruleRunTest, State.checked_passed _ (runTestChecks_pass run seat k x), testOfCode_byteAt, flagOfCode_byteAt]
  simp only []
  rw [if_neg hfree, starts]

theorem ruleRunTest_refused {x : Bool} (run : s.running = true) (seat : s.seat = some l) (idle : s.test = none)
    (kind : k ≠ .readback) (refused : s.startTest k x = none) :
    ruleRunTest l (u1 k.code ++ yesNo x) s = (s, .no .wrongState) := by
  have hfree : ¬(s.test.isSome = true ∨ k = .readback ∧ s.commit.isSome = true) := by
    rintro (h | ⟨hk, -⟩)
    · rw [idle] at h
      cases h
    · exact kind hk
  rw [ruleRunTest, State.checked_passed _ (runTestChecks_pass run seat k x), testOfCode_byteAt, flagOfCode_byteAt]
  simp only []
  rw [if_neg hfree, refused]

theorem ruleStopTest_idle (run : s.running = true) (seat : s.seat = some l) (idle : s.test = none) :
    ruleStopTest l [] s = (s, .no .wrongState) := by
  refine State.checked_refused _ ?_
  rw [State.beforeRunning_of_running run, State.noSeat_of_seat seat, idle]
  rfl

theorem ruleStopTest_stops (run : s.running = true) (seat : s.seat = some l) (h : s.test = some x) :
    ruleStopTest l [] s = (s.abortTest 1, .ok (u2 (s.abortTest 1).runs)) := by
  refine State.checked_passed _ ?_
  rw [State.beforeRunning_of_running run, State.noSeat_of_seat seat, h]
  rfl

/-- A test but a rail cycle aborted: nothing but a tone stops, and the run ends with code 255, not counted (R217). -/
theorem State.abortTest_aborts (h : s.test = some x) (kind : x.run.kind ≠ .railCycle) :
    let s' := s.abortTest detail
    s'.test = none ∧ s'.runs = s.runs ∧ s'.tone = (if x.run.kind = .tone then none else s.tone) ∧
      s.RunEnded x.run.kind 255 detail .none s' := by
  intro s'
  have hplain {a : State} (ha : a.test = some x) (hruns : a.runs = s.runs) (hjournal : a.journal = s.journal) (hnow : a.now = s.now)
      (hs' : s' = a.finishRun 255 detail .none false) (htone : a.tone = if x.run.kind = .tone then none else s.tone) :
      s'.test = none ∧ s'.runs = s.runs ∧ s'.tone = (if x.run.kind = .tone then none else s.tone) ∧
        s.RunEnded x.run.kind 255 detail .none s' := by
    have hended := State.finishRun_ended (code := 255) (detail := detail) (m := .none) ha false
    unfold State.RunEnded at hended ⊢
    rw [hjournal, hnow] at hended
    rw [hs']
    refine ⟨State.finishRun_test_of_failed a (by decide) _ _ _, ?_, ?_, hended⟩
    · rw [State.finishRun_of_some ha]
      exact hruns
    · rw [State.finishRun_of_some ha]
      exact htone
  obtain ⟨c, run⟩ := x
  cases run with
  | railCycle => exact absurd rfl kind
  | tone => exact hplain (a := { s with tone := none }) h rfl rfl rfl (by simp only [s', State.abortTest, h]) rfl
  | sensorScan => exact hplain (a := s) h rfl rfl rfl (by simp only [s', State.abortTest, h]) rfl
  | readback => exact hplain (a := s) h rfl rfl rfl (by simp only [s', State.abortTest, h]) rfl

/-! ### The readback -/

theorem State.readback_of_test {c : Bool} {image : List Byte} {since : Time}
    (h : s.test = some { continuous := c, run := .readback image since }) : s.readback = some (image, since) := by
  rw [State.readback, h]

theorem State.readback_of_other (h : ∀ (image : List Byte) (since : Time), s.test.map (fun x => x.run) ≠ some (.readback image since)) :
    s.readback = none := by
  unfold State.readback
  split
  · rename_i image since hx
    exact absurd (by rw [hx]; rfl) (h image since)
  · rfl

theorem firstDifference_none {a b : List Byte} (h : ∀ i : Nat, i < 832 → a.getD i 0#8 = b.getD i 0#8) : firstDifference a b = none := by
  rw [firstDifference, List.find?_eq_none]
  intro i hi
  simpa using h i (List.mem_range.mp hi)

theorem firstDifference_some {a b : List Byte} {n : Nat} (hn : n < 832) (same : ∀ i : Nat, i < n → a.getD i 0#8 = b.getD i 0#8)
    (differ : a.getD n 0#8 ≠ b.getD n 0#8) : firstDifference a b = some n := by
  refine List.find?_range_eq_some.mpr ⟨by simpa using differ, List.mem_range.mpr hn, fun i hi => ?_⟩
  simpa using same i hi

/-- The readback's comparison finds no difference: the run passes, and in mode CONTINUOUS the next reads a new image. -/
theorem State.readbackDone_passes {c : Bool} {image : List Byte} {since : Time}
    (h : s.test = some { continuous := c, run := .readback image since })
    (same : ∀ i : Nat, i < 832 → image.getD i 0#8 = s.eeprom.getD i 0#8) :
    let s' := s.readbackDone
    s.RunEnded .readback 0 0 .none s' ∧ s'.runs = min 65535 (s.runs + 1) ∧
      s'.test = if c then some { continuous := true, run := .readback (imageOf s.cal s.commitCount) s.now } else none := by
  intro s'
  have hs' : s' = s.endRun 0 0 .none := by
    simp only [s', State.readbackDone, State.readback_of_test h, firstDifference_none same]
  have hended := State.finishRun_ended (code := 0) (detail := 0) (m := .none) h true
  have hruns : (s.finishRun 0 0 .none true).runs = min 65535 (s.runs + 1) := by rw [State.finishRun_of_some h]; rfl
  clear_value s'
  cases c with
  | false =>
    obtain ⟨hend, hnone⟩ := State.endRun_last (code := 0) (detail := 0) (m := .none) h (by simp)
    rw [hs', hend]
    exact ⟨hended, hruns, hnone⟩
  | true =>
    have hagain := State.endRun_repeats (detail := 0) (m := .none) h rfl nofun
    have hkept : (s.finishRun 0 0 .none true).cal = s.cal ∧ (s.finishRun 0 0 .none true).commitCount = s.commitCount ∧
        (s.finishRun 0 0 .none true).now = s.now := by
      rw [State.finishRun_of_some h]
      exact ⟨rfl, rfl, rfl⟩
    obtain ⟨hcal, hcount, hnow⟩ := hkept
    rw [hs', hagain]
    generalize s.finishRun 0 0 .none true = a at *
    refine ⟨hended, hruns, ?_⟩
    rw [← hcal, ← hcount, ← hnow]
    rfl

theorem State.endRun_fails (h : s.test = some x) (failed : code ≠ 0) :
    s.RunEnded x.run.kind code detail m (s.endRun code detail m) ∧ (s.endRun code detail m).test = none := by
  obtain ⟨hend, hnone⟩ := State.endRun_last (code := code) (detail := detail) (m := m) h fun hpass => failed hpass.1
  rw [hend]
  exact ⟨State.finishRun_ended h true, hnone⟩

/-! ### The sensor scan -/

/-- A key judged before, by this run, is not judged again (R216). -/
theorem State.scanReading_again {c : Bool} {judged failing : KeySet} {key : KeyIx} {cal : KeyCal} {raw : Nat}
    (h : s.test = some { continuous := c, run := .sensorScan judged failing }) (again : KeySet.has judged key = true) :
    s.scanReading key cal raw = s := by
  simp only [State.scanReading, h]
  exact if_pos again

/-- The keys that fail once a key's first reading is judged (R216). -/
def failingAfter (failing : KeySet) (key : KeyIx) (cal : KeyCal) (raw : Nat) : KeySet :=
  if cal.span < 200 ∨ (raw : Int) < cal.r - 64 ∨ (cal.b : Int) + 64 < raw then KeySet.add failing key else failing

theorem KeyCal.plausible_eq_false {cal : KeyCal} {raw : Nat} :
    cal.plausible raw = false ↔ (raw : Int) < cal.r - 64 ∨ (cal.b : Int) + 64 < raw := by
  rw [KeyCal.plausible, Bool.and_eq_false_iff, decide_eq_false_iff_not, decide_eq_false_iff_not, Int.not_le, Int.not_le]
  rfl

theorem State.scanReading_judges {c : Bool} {judged failing : KeySet} {key : KeyIx} {cal : KeyCal} {raw : Nat}
    (h : s.test = some { continuous := c, run := .sensorScan judged failing }) (first : KeySet.has judged key = false) :
    let failing' := failingAfter failing key cal raw
    let s1 : State := { s with test := some { continuous := c, run := .sensorScan (KeySet.add judged key) failing' } }
    s.scanReading key cal raw =
      if KeySet.add judged key = BitVec.allOnes 88 then
        s1.endRun (KeySet.count failing') (((KeySet.keys failing').head?.map (fun j => j.val)).getD 0)
          (.scan (KeySet.count failing') (KeySet.keys failing').head?)
      else s1 := by
  intro failing' s1
  have hfailing : (if cal.span < Config.leastSpan ∨ cal.plausible raw = false then KeySet.add failing key else failing) = failing' := by
    simp only [KeyCal.plausible_eq_false]
    rfl
  simp only [State.scanReading, h, hfailing]
  exact if_neg (by rw [first]; nofun)

/-- The last key's first reading ends the run, with the number of failing keys and the first of them (R216). -/
theorem State.endScan_ends {c : Bool} {judged failing : KeySet} {n : Nat}
    (h : s.test = some { continuous := c, run := .sensorScan judged failing }) :
    let s' := s.endRun n detail m
    s'.lastResult = some { kind := .sensorScan, code := n, detail := detail, measure := m } ∧
      s'.runs = min 65535 (s.runs + 1) ∧
      s'.test = (if n = 0 ∧ c = true then some { continuous := true, run := .sensorScan 0#88 0#88 } else none) ∧
      s'.journal.getLast? = some { body := .test .sensorScan n detail, time := s.now } ∧
      ∀ j : Link, (s'.link j).latched.getLsbD 10 = true := by
  intro s'
  obtain ⟨hlast, hjournal, hlatched⟩ := State.finishRun_ended (code := n) (detail := detail) (m := m) h true
  have hruns : (s.finishRun n detail m true).runs = min 65535 (s.runs + 1) := by rw [State.finishRun_of_some h]; rfl
  have hnewest : (s.finishRun n detail m true).journal.getLast? = some { body := .test .sensorScan n detail, time := s.now } := by
    rw [hjournal, List.getLast?_concat]
    rfl
  by_cases hpass : n = 0 ∧ c = true
  · obtain ⟨rfl, rfl⟩ := hpass
    have hagain : s' = (s.finishRun 0 detail m true).beginRun .sensorScan true :=
      State.endRun_repeats (detail := detail) (m := m) h rfl nofun
    rw [hagain, if_pos ⟨rfl, rfl⟩]
    exact ⟨hlast, hruns, rfl, hnewest, hlatched⟩
  · obtain ⟨hend, hnone⟩ := State.endRun_last (code := n) (detail := detail) (m := m) h hpass
    change s' = _ at hend
    rw [hend, if_neg hpass]
    exact ⟨hlast, hruns, hnone, hnewest, hlatched⟩

/-- In RUNNING a reading reaches the tracker and the rail, and then the scan, by the calibration at its arrival (log entry 19). -/
theorem State.keyReading_scans (run : s.running = true) (key : KeyIx) (raw : Nat) :
    s.keyReading key raw = (s.restTold (s.trackerReading key raw) key).scanReading key (s.keyCal key) raw ∧
    (s.restTold (s.trackerReading key raw) key).test = s.test ∧ (s.restTold (s.trackerReading key raw) key).runs = s.runs ∧
    (s.restTold (s.trackerReading key raw) key).lastResult = s.lastResult ∧
    (s.restTold (s.trackerReading key raw) key).now = s.now := by
  have hphase : s.startUp.phase = .running := beq_iff_eq.mp run
  have htold := s.restTold_frame (s.trackerReading key raw) key
  have htracked := s.trackerReading_frame key raw
  unfold RailFrame at htold
  unfold StrokeFrame at htracked
  refine ⟨?_, ?_, ?_, ?_, ?_⟩
  · rcases s.keyReading_cases key raw with ⟨h, -⟩ | ⟨h, -⟩ | ⟨-, -, h⟩
    · cases hphase.symm.trans h
    · cases hphase.symm.trans h
    · exact h
  all_goals rw [htold, htracked]

end Tests

end Sys2Proof.Machine
end

section
/-! The rail cycle of a service test: its start, its turn, its end, its fault and its abort (R79 to R81, R216, R217). -/

namespace Sys2Proof.Machine

-- One declaration after another: side by side they open more threads than the check's memory limit holds.
set_option Elab.async false

section Cycle
variable {s : State} {c : Bool} {phase : Travel} {a b code detail : Nat} {m : Measure}

/-! ### Entries to TESTING -/

/-- A phase of a cycle is entered: its segment begins at once where quiet is yes (R80). -/
theorem State.enterTesting_goes (off : s.rail.drive = none) (p : Travel) (a b : Nat) : s.RailGoes
    { s.rail with
      state := .testing p a b
      drive := if s.rail.quiet.quiet then some { dir := p, start := s.now, lastEdge := s.now } else none
      segCount := if s.rail.quiet.quiet then some s.cal.cEng else s.rail.segCount }
    [(RailState.testing p a b).notice s.rail.votes] (s.enterRail (.testing p a b)).settle := by
  have hgoes := s.enterRail_goes (.testing p a b)
  have hframe := hgoes.frame
  unfold RailFrame at hframe
  have hnow : (s.enterRail (.testing p a b)).now = s.now := hgoes.notes.now
  have hcal : (s.enterRail (.testing p a b)).cal = s.cal := (congrArg State.cal hframe :)
  cases hquiet : s.rail.quiet.quiet with
  | false =>
    have hrule : (s.enterRail (.testing p a b)).railRule = none := by
      unfold State.railRule
      rw [hgoes.rail]
      exact if_neg (by simp [hquiet])
    rw [State.settle_of_none hrule]
    refine ⟨hgoes.frame, ?_, hgoes.notes⟩
    rw [hgoes.rail]
    simp only [off, Bool.false_eq_true, if_false]
  | true =>
    have hsettle := State.settle_drives (s := s.enterRail (.testing p a b)) (dir := p) (.inr (by rw [hgoes.rail]; rfl))
      (by rw [hgoes.rail]; rfl) (by rw [hgoes.rail]; exact hquiet) (by rw [hgoes.rail]; exact off)
    have hstart := hgoes.trans (State.setRail_goes (s.enterRail (.testing p a b)) { (s.enterRail (.testing p a b)).rail with
      drive := some { dir := p, start := (s.enterRail (.testing p a b)).now, lastEdge := (s.enterRail (.testing p a b)).now }
      segCount := some (s.enterRail (.testing p a b)).cal.cEng })
    rw [hsettle]
    refine ⟨hstart.frame, ?_, hstart.notes⟩
    change ({ (s.enterRail (.testing p a b)).rail with
      drive := some { dir := p, start := (s.enterRail (.testing p a b)).now, lastEdge := (s.enterRail (.testing p a b)).now }
      segCount := some (s.enterRail (.testing p a b)).cal.cEng } : Rail) = _
    rw [hnow, hcal, hgoes.rail]
    rfl

/-! ### RUN_TEST with the rail -/

theorem State.takeCycle_refused (h : s.rail.state ≠ .parked ∨ s.rail.votes.any = true) : s.takeCycle = none := by
  refine if_neg fun ⟨hst, hvotes⟩ => ?_
  rcases h with h | h
  · exact h hst
  · rw [hvotes] at h
    cases h

theorem State.takeCycle_taken (state : s.rail.state = .parked) (votes : s.rail.votes.any = false) :
    s.takeCycle = some (s.enterRail (.testing .inward 0 0)).settle := if_pos ⟨state, votes⟩

/-- A cycle that the rail takes begins inward; where the motor is driven already, no segment begins (R79, R80). -/
theorem State.beginCycle (s : State) : (s.enterRail (.testing .inward 0 0)).settle.rail.state = .testing .inward 0 0 ∧
    ((s.enterRail (.testing .inward 0 0)).settle.rail.drive.isSome = true ↔
      s.rail.quiet.quiet = true ∨ s.rail.drive.isSome = true) := by
  cases hdrive : s.rail.drive with
  | none =>
    have hgoes := State.enterTesting_goes hdrive .inward 0 0
    rw [hgoes.rail]
    refine ⟨rfl, ?_⟩
    cases s.rail.quiet.quiet <;> simp
  | some g =>
    have hgoes := s.enterRail_goes (.testing .inward 0 0)
    have hrule : (s.enterRail (.testing .inward 0 0)).railRule = none := by
      refine State.railRule_stands (.inr (.inr (.inr (.inr ⟨by rw [hgoes.rail]; rfl, ?_⟩))))
      rw [hgoes.rail, hdrive]
      rfl
    rw [State.settle_of_none hrule, hgoes.rail, hdrive]
    exact ⟨rfl, by simp⟩

/-! ### The turn at the stop switch -/

theorem State.testInwardDone_goes (hst : s.rail.state = .testing .inward a b) : s.RailGoes
    { s.rail with
      state := .testing .outward (a + s.rail.driven s.now) b
      count := match s.rail.segCount with | some n => (n : Int) | none => s.rail.count
      drive := if s.rail.quiet.quiet then some { dir := .outward, start := s.now, lastEdge := s.now } else none
      segCount := if s.rail.quiet.quiet then some s.cal.cEng else s.rail.segCount }
    [(RailState.testing .outward (a + s.rail.driven s.now) b).notice s.rail.votes] s.testInwardDone := by
  have hsegment := s.endSegment_goes
  rw [hst] at hsegment
  have hset := hsegment.trans (s.endSegment.setRail_goes { s.endSegment.rail with
    count := match s.endSegment.rail.segCount with | some n => (n : Int) | none => s.endSegment.rail.count })
  have hs' : s.testInwardDone = ((s.endSegment.setRail { s.endSegment.rail with
      count := match s.endSegment.rail.segCount with | some n => (n : Int) | none => s.endSegment.rail.count }).enterRail
      (.testing .outward (a + s.rail.driven s.now) b)).settle := by
    simp only [State.testInwardDone, State.setRail, hsegment.rail]
    rfl
  rw [hs']
  rw [hsegment.rail] at hset ⊢
  have hframe := hset.frame
  unfold RailFrame at hframe
  generalize s.endSegment.setRail _ = x at *
  have hnow : x.now = s.now := hset.notes.now
  have hcal : x.cal = s.cal := (congrArg State.cal hframe :)
  have hturn := State.enterTesting_goes (s := x) (by rw [hset.rail]) .outward (a + s.rail.driven s.now) b
  rw [hset.rail, hnow, hcal] at hturn
  exact hset.trans hturn

/-! ### A fault -/

theorem State.finishRun_notes {x : Test} (h : s.test = some x) (code detail : Nat) (m : Measure) (completed : Bool) :
    s.Notes [(.test x.run.kind code detail, .test)] (s.finishRun code detail m completed) := by
  rw [State.finishRun_of_some h]
  exact (s.report_notes (.test x.run.kind code detail) .test).trans (n := []) (.of_unchanged rfl rfl rfl)

/-- The phase that a fault's TEST record names (R216). -/
def travelDetail : Travel → Nat
  | .inward => 1
  | .outward => 2

/-- A fault in a cycle ends it with the fault's code, and counts the run (R76, R216). -/
theorem State.railFault_testing (htest : s.test = some { continuous := c, run := .railCycle })
    (hst : s.rail.state = .testing phase a b) (cause : RailFault) :
    let s' := s.railFault cause
    s'.rail.state = .fault cause ∧ s'.rail.drive = none ∧ s'.test = none ∧
      s'.lastResult = some { kind := .railCycle, code := cause.code, detail := (travelDetail phase), measure := .none } ∧
      s'.runs = min 65535 (s.runs + 1) ∧
      s.Notes [(RailState.fault cause).notice s.rail.votes, (.test .railCycle cause.code (travelDetail phase), .test)] s' := by
  intro s'
  have hsegment := s.endSegment_goes
  have hfault := (hsegment.trans (State.setRail_goes _ { s.endSegment.rail with segCount := none })).trans
    (State.enterRail_goes (s.endSegment.setRail { s.endSegment.rail with segCount := none }) (.fault cause))
  have hs' : s' = ((s.endSegment.setRail { s.endSegment.rail with segCount := none }).enterRail (.fault cause)).endRun
      cause.code (travelDetail phase) .none := by
    simp only [s', State.railFault, hst]
    cases phase <;> rfl
  have hvotes : (s.endSegment.setRail { s.endSegment.rail with segCount := none }).rail.votes = s.rail.votes := by
    change s.endSegment.rail.votes = _
    rw [hsegment.rail]
  have hdrive : s.endSegment.rail.drive = none := by rw [hsegment.rail]
  rw [hvotes] at hfault
  have hrail := hfault.rail
  have hframe := hfault.frame
  unfold RailFrame at hframe
  generalize State.enterRail _ _ = x at *
  have hxtest : x.test = some { continuous := c, run := .railCycle } := (congrArg State.test hframe :).trans htest
  have hruns : x.runs = s.runs := (congrArg State.runs hframe :)
  have hnonzero : cause.code ≠ 0 := by cases cause <;> nofun
  obtain ⟨hend, hnone⟩ := State.endRun_last (code := cause.code) (detail := (travelDetail phase)) (m := .none) hxtest fun h => hnonzero h.1
  have hended := State.finishRun_of_some hxtest cause.code (travelDetail phase) .none true
  have hkept := (State.finishRun_rail x cause.code (travelDetail phase) .none true).1
  rw [hs', hend]
  refine ⟨by rw [hkept, hrail], by rw [hkept, hrail]; exact hdrive, hnone, by rw [hended]; rfl, by rw [hended, hruns]; rfl, ?_⟩
  exact hfault.notes.trans (State.finishRun_notes hxtest _ _ _ _)

/-! ### The end at the park switch or the index -/

/-- With the stop switch open no chain of entries moves a count of 0. -/
theorem State.railRule_count {s' : State} (h : s.railRule = some s') (opened : s.rail.stop = false) (count : s.rail.count = 0) :
    s'.rail.stop = false ∧ s'.rail.count = 0 := by
  have hkept {r : Rail} {n : List Notice} {e : State} (hgoes : s.RailGoes r n e) (stop : r.stop = s.rail.stop)
      (same : r.count = s.rail.count ∨ r.count = 0) : e.rail.stop = false ∧ e.rail.count = 0 := by
    rw [hgoes.rail]
    exact ⟨stop.trans opened, same.elim (·.trans count) id⟩
  unfold State.railRule at h
  cases hst : s.rail.state <;> simp only [hst, opened, Bool.false_eq_true, if_false, reduceCtorEq] at h
  case engaged =>
    obtain ⟨-, he⟩ := Option.ite_none_left_eq_some.mp h
    exact Option.some.inj he ▸ hkept (s.enterRail_goes _) rfl (.inl rfl)
  all_goals obtain ⟨-, he⟩ := Option.ite_none_right_eq_some.mp h
  case movingOut => exact Option.some.inj he ▸ hkept s.arriveParked_goes rfl (.inr rfl)
  case parked => exact Option.some.inj he ▸ hkept (s.enterRail_goes _) rfl (.inl rfl)
  case pendingIn | pausedIn | pendingOut | pausedOut => exact Option.some.inj he ▸ hkept (s.beginMove_goes _) rfl (.inl rfl)
  case homing | testing => exact Option.some.inj he ▸ hkept (s.setRail_goes _) rfl (.inl rfl)

theorem State.settle_count (opened : s.rail.stop = false) (count : s.rail.count = 0) :
    s.settle.rail.stop = false ∧ s.settle.rail.count = 0 := by
  have hchain (n : Nat) : ∀ x : State, x.rail.stop = false → x.rail.count = 0 →
      (State.settleFor n x).rail.stop = false ∧ (State.settleFor n x).rail.count = 0 := by
    induction n with
    | zero => exact fun _ hstop hcount => ⟨hstop, hcount⟩
    | succ n ih =>
      intro x hstop hcount
      unfold State.settleFor
      split
      · obtain ⟨hstop', hcount'⟩ := State.railRule_count ‹_› hstop hcount
        exact ih _ hstop' hcount'
      · exact ⟨hstop, hcount⟩
  exact hchain 8 s opened count

/-- What a complete cycle leaves before the vote set is followed: a parked rail, and the run passed (R80, R216). -/
structure State.CycleEnds (s : State) (c : Bool) (m : Measure) (s' : State) : Prop where
  rail : s'.rail = { s.rail with state := .parked, drive := none, count := 0, segCount := none }
  test : s'.test = if c then some { continuous := true, run := .railCycle } else none
  result : s'.lastResult = some { kind := .railCycle, code := 0, detail := 0, measure := m }
  runs : s'.runs = min 65535 (s.runs + 1)
  notes : s.Notes [RailState.parked.notice s.rail.votes, (.test .railCycle 0 0, .test)] s'

theorem State.parkedAndPassed (htest : s.test = some { continuous := c, run := .railCycle }) (m : Measure) :
    s.CycleEnds c m (s.arriveParked.finishRun 0 0 m true) := by
  have hgoes := s.arriveParked_goes
  have hframe := hgoes.frame
  unfold RailFrame at hframe
  have hxtest : s.arriveParked.test = some { continuous := c, run := .railCycle } := (congrArg State.test hframe :).trans htest
  have hruns : s.arriveParked.runs = s.runs := (congrArg State.runs hframe :)
  have hkept := (State.finishRun_rail s.arriveParked 0 0 m true).1
  have hended := State.finishRun_of_some hxtest 0 0 m true
  have hnotes := hgoes.notes.trans (State.finishRun_notes hxtest 0 0 m true)
  have hrail := hgoes.rail
  generalize s.arriveParked = x at *
  refine ⟨hkept.trans hrail, ?_, by rw [hended]; rfl, by rw [hended, hruns]; rfl, hnotes⟩
  rw [hended]
  cases c <;> rfl

theorem State.testOutwardDone_eq (hst : s.rail.state = .testing .outward a b) : s.testOutwardDone =
    (s.arriveParked.finishRun 0 0 (.travel (a / 1000) ((b + s.rail.driven s.now) / 1000)) true).settle.nextRun := by
  have hsegment := s.endSegment_goes
  have hstate : s.endSegment.rail.state = .testing .outward a (b + s.rail.driven s.now) := by
    rw [hsegment.rail, hst]
    rfl
  unfold State.testOutwardDone
  rw [hstate]

/-! ### The next cycle -/

theorem State.nextRun_of_none (h : s.test = none) : s.nextRun = s := by rw [State.nextRun, h]

theorem State.nextRun_cycle (h : s.test = some { continuous := c, run := .railCycle }) :
    s.nextRun = s.takeCycle.getD (s.finishRun 5 0 .none false) := by
  simp only [State.nextRun, h, TestRun.kind]
  cases s.takeCycle <;> rfl

/-- What may follow the end of a cycle counts no run, and with the stop switch open moves no count of 0. -/
theorem State.followed_keeps (h : s.test = none ∨ ∃ c : Bool, s.test = some { continuous := c, run := .railCycle }) :
    s.settle.nextRun.runs = s.runs ∧ (s.rail.stop = false → s.rail.count = 0 → s.settle.nextRun.rail.count = 0) := by
  have hframe := s.settle_frame
  unfold RailFrame at hframe
  have htest : s.settle.test = s.test := (congrArg State.test hframe :)
  have hruns : s.settle.runs = s.runs := (congrArg State.runs hframe :)
  have hcount := State.settle_count (s := s)
  generalize s.settle = x at *
  rcases h with h | ⟨c, h⟩
  · rw [State.nextRun_of_none (htest.trans h)]
    exact ⟨hruns, fun hs hc => (hcount hs hc).2⟩
  · have hxtest := htest.trans h
    rw [State.nextRun_cycle hxtest]
    cases hcycle : x.takeCycle with
    | none =>
      refine ⟨?_, fun hs hc => ?_⟩
      · rw [Option.getD_none, State.finishRun_of_some hxtest]
        exact hruns
      · rw [Option.getD_none, (State.finishRun_rail _ _ _ _ _).1]
        exact (hcount hs hc).2
    | some e =>
      have heq : e = (x.enterRail (.testing .inward 0 0)).settle := by
        unfold State.takeCycle at hcycle
        split at hcycle
        · exact (Option.some.inj hcycle).symm
        · cases hcycle
      subst heq
      have hentered := x.enterRail_goes (.testing .inward 0 0)
      refine ⟨?_, fun hs hc => ?_⟩
      · have hall := hentered.frame.trans (State.settle_frame _)
        unfold RailFrame at hall
        exact (congrArg State.runs hall :).trans hruns
      · obtain ⟨hstop, hzero⟩ := hcount hs hc
        exact (State.settle_count (s := x.enterRail (.testing .inward 0 0)) (by rw [hentered.rail]; exact hstop)
          (by rw [hentered.rail]; exact hzero)).2

end Cycle

end Sys2Proof.Machine
end

section
/-! What follows the end of a rail cycle, and its abort (R80, R81, R217); O49 assembled. -/

namespace Sys2Proof.Machine

-- One declaration after another: side by side they open more threads than the check's memory limit holds.
set_option Elab.async false

section Ends
variable {s : State} {c : Bool} {phase : Travel} {a b : Nat} {m : Measure}

/-! ### The vote set followed, and the next cycle -/

/-- With no vote standing a parked rail stays, and a single run is over. -/
theorem State.followed_single {f : State} (h : s.CycleEnds false m f) : f.settle.nextRun.test = none ∧
    f.settle.nextRun.lastResult = some { kind := .railCycle, code := 0, detail := 0, measure := m } ∧
    (s.rail.votes.any = false → f.settle.nextRun = f) := by
  obtain ⟨hrail, htest, hresult, -, -⟩ := h
  have hframe := f.settle_frame
  unfold RailFrame at hframe
  have hkept : f.settle.test = none := (congrArg State.test hframe :).trans htest
  have hlast : f.settle.lastResult = f.lastResult := (congrArg State.lastResult hframe :)
  rw [State.nextRun_of_none hkept]
  refine ⟨hkept, hlast.trans hresult, fun hvotes => State.settle_of_none (State.railRule_stands (.inl ?_))⟩
  rw [hrail]
  exact ⟨rfl, hvotes⟩

/-- With no vote standing the next cycle of a continuous test begins (R217). -/
theorem State.followed_again {f : State} (h : s.CycleEnds true m f) (votes : s.rail.votes.any = false) :
    let s' := f.settle.nextRun
    s'.rail.state = .testing .inward 0 0 ∧ s'.test = some { continuous := true, run := .railCycle } ∧
      s'.lastResult = some { kind := .railCycle, code := 0, detail := 0, measure := m } ∧
      s.Notes [RailState.parked.notice s.rail.votes, (.test .railCycle 0 0, .test),
        (RailState.testing .inward 0 0).notice s.rail.votes] s' := by
  intro s'
  obtain ⟨hrail, htest, hresult, -, hnotes⟩ := h
  have hparked : f.rail.state = .parked ∧ f.rail.votes.any = false := by
    rw [hrail]
    exact ⟨rfl, votes⟩
  have hs' : s' = (f.enterRail (.testing .inward 0 0)).settle := by
    simp only [s']
    rw [State.settle_of_none (State.railRule_stands (.inl hparked)), State.nextRun_cycle htest,
      State.takeCycle_taken hparked.1 hparked.2]
    rfl
  have hgoes := State.enterTesting_goes (s := f) (by rw [hrail]) .inward 0 0
  have hframe := hgoes.frame
  unfold RailFrame at hframe
  rw [← hs'] at hgoes hframe
  clear_value s'
  have hall := hnotes.trans hgoes.notes
  rw [show f.rail.votes = s.rail.votes by rw [hrail]] at hall
  exact ⟨by rw [hgoes.rail], (congrArg State.test hframe :).trans htest, (congrArg State.lastResult hframe :).trans hresult, hall⟩

/-- A vote that stands refuses the next cycle, which is BLOCKED (R217). -/
theorem State.followed_blocked {f : State} (h : s.CycleEnds true m f) (votes : s.rail.votes.any = true)
    (quiet : s.rail.quiet.quiet = false) :
    let s' := f.settle.nextRun
    s'.rail.state = .pendingIn s.now false ∧ s'.test = none ∧
      s'.lastResult = some { kind := .railCycle, code := 5, detail := 0, measure := .none } ∧
      s.Notes [RailState.parked.notice s.rail.votes, (.test .railCycle 0 0, .test),
        (RailState.pendingIn s.now false).notice s.rail.votes, (.test .railCycle 5 0, .test)] s' := by
  intro s'
  obtain ⟨hrail, htest, -, -, hnotes⟩ := h
  have hnow : f.now = s.now := hnotes.now
  have hsettles := State.settle_parked_goes (s := f) (by rw [hrail]) (by rw [hrail]; exact fun _ => quiet)
  have hfvotes : f.rail.votes = s.rail.votes := by rw [hrail]
  rw [hfvotes, votes, hnow] at hsettles
  have hframe := hsettles.frame
  unfold RailFrame at hframe
  have hgtest : f.settle.test = some { continuous := true, run := .railCycle } := (congrArg State.test hframe :).trans htest
  have hstate : f.settle.rail.state = .pendingIn s.now false := by rw [hsettles.rail]; rfl
  have hs' : s' = f.settle.finishRun 5 0 .none false := by
    simp only [s']
    rw [State.nextRun_cycle hgtest, State.takeCycle_refused (.inl (by rw [hstate]; nofun))]
    rfl
  clear_value s'
  generalize f.settle = g at *
  have hall := (hnotes.trans hsettles.notes).trans (State.finishRun_notes hgtest 5 0 .none false)
  have hended := State.finishRun_of_some hgtest 5 0 .none false
  have hkept := (State.finishRun_rail g 5 0 .none false).1
  rw [hs']
  exact ⟨by rw [hkept, hstate], State.finishRun_test_of_failed g (by decide) _ _ _, by rw [hended]; rfl, hall⟩

/-! ### The abort -/

/-- The rail as an aborted cycle leaves it with no quiet: by the switches and the vote set (R81). -/
def Rail.cycleAborted (r : Rail) (now : Time) : Rail :=
  { r with
    drive := none
    state := match r.park, r.stop, r.votes.any with
      | true, _, true => .pendingIn now false
      | true, _, false => .parked
      | false, true, true => .engaged
      | false, true, false => .pendingOut now false
      | false, false, true => .pausedIn
      | false, false, false => .pausedOut
    count := if r.park then 0 else if r.stop then (match r.segCount with | some n => (n : Int) | none => r.count) else r.count
    segCount := if r.park || r.stop then none else r.segCount }

theorem State.abortCycle_rail (hst : s.rail.state = .testing phase a b) (quiet : s.rail.quiet.quiet = false) :
    s.abortCycle.rail = s.rail.cycleAborted s.now := by
  have hpaused {st : RailState} (h : st = .pausedIn ∨ st = .pausedOut) :
      (s.endSegment.enterRail st).settle.rail = { s.rail with state := st, drive := none } := by
    have hgoes := s.endSegment_goes.trans (s.endSegment.enterRail_goes st)
    rw [s.endSegment_goes.rail] at hgoes
    have hrule : (s.endSegment.enterRail st).railRule = none := by
      unfold State.railRule
      rw [hgoes.rail]
      rcases h with rfl | rfl <;> exact if_neg (by simp [quiet])
    rw [State.settle_of_none hrule, hgoes.rail]
  unfold State.abortCycle Rail.cycleAborted
  rw [hst]
  cases hpark : s.rail.park with
  | true =>
    have hsettles := s.arriveParked_settles fun _ => quiet
    simp only [if_true]
    rw [hsettles.rail]
    cases s.rail.votes.any <;> simp [hpark]
  | false =>
    cases hstop : s.rail.stop with
    | true =>
      have harrives := s.arriveEngaged_goes
      have hsettles := harrives.trans
        (State.settle_engaged_goes (s := s.arriveEngaged) (by rw [harrives.rail]) (by rw [harrives.rail]; exact fun _ => quiet))
      have hnow : s.arriveEngaged.now = s.now := harrives.notes.now
      simp only [Bool.false_eq_true, if_false, if_true]
      rw [hsettles.rail, harrives.rail, hnow]
      cases s.rail.votes.any <;> simp [hpark, hstop] <;> rfl
    | false =>
      simp only [Bool.false_eq_true, if_false]
      cases hvotes : s.rail.votes.any with
      | true =>
        simp only [if_true]
        rw [hpaused (.inl rfl)]
        simp [hpark, hstop]
      | false =>
        simp only [Bool.false_eq_true, if_false]
        rw [hpaused (.inr rfl)]
        simp [hpark, hstop]

/-- An aborted cycle leaves the rail to the switches and the vote set, and its TEST record comes last (R81, R217). -/
theorem State.abortTest_cycle (htest : s.test = some { continuous := c, run := .railCycle })
    (hst : s.rail.state = .testing phase a b) (detail : Nat) :
    let s' := s.abortTest detail
    s'.rail = s.abortCycle.rail ∧ s'.test = none ∧ s'.runs = s.runs ∧
      s'.lastResult = some { kind := .railCycle, code := 255, detail := detail, measure := .none } ∧
      s'.journal.getLast? = some { body := .test .railCycle 255 detail, time := s.now } := by
  intro s'
  have hframe := s.abortCycle_railOnly.1
  unfold RailFrame at hframe
  have hs' : s' = s.abortCycle.finishRun 255 detail .none false := by simp only [s', State.abortTest, htest]
  have hxtest : s.abortCycle.test = some { continuous := c, run := .railCycle } := (congrArg State.test hframe :).trans htest
  have hruns : s.abortCycle.runs = s.runs := (congrArg State.runs hframe :)
  have hnow : s.abortCycle.now = s.now := (congrArg State.now hframe :)
  clear_value s'
  generalize s.abortCycle = x at *
  have hended := State.finishRun_of_some hxtest 255 detail .none false
  obtain ⟨hlast, hjournal, -⟩ := State.finishRun_ended (code := 255) (detail := detail) (m := .none) hxtest false
  rw [hs']
  refine ⟨(State.finishRun_rail x 255 detail .none false).1, State.finishRun_test_of_failed x (by decide) _ _ _, ?_, hlast, ?_⟩
  · rw [hended]
    exact hruns
  · rw [hjournal, List.getLast?_concat, hnow]
    rfl

end Ends

end Sys2Proof.Machine
end

section
/-! O49 assembled: the commands of a rail cycle, and the service tests by their rules. -/

namespace Sys2Proof.Machine

-- One declaration after another: side by side they open more threads than the check's memory limit holds.
set_option Elab.async false

section Commands
variable {s : State} {t : Time} {l : Link} {c : Bool} {phase : Travel} {a b : Nat}

/-! ### The requests -/

theorem runTest_length (k : TestKind) (x : Bool) : (u1 k.code ++ yesNo x).length ≤ 60 := by
  rw [runTestPayload_length]
  decide

theorem execRunTest_busy {k : TestKind} (h : s.receiving l = true) (run : s.running = true) (seat : s.seat = some l) (x : Bool)
    (busy : s.test.isSome = true ∨ k = .readback ∧ s.commit.isSome = true) :
    exec (.runTest t l (u1 k.code ++ yesNo x)) s = .next ((s.stamp t).denied l 0x60 (u1 k.code ++ yesNo x) .busy) :=
  State.request_denied (rule := ruleRunTest l (u1 k.code ++ yesNo x)) h (runTest_length k x)
    (ruleRunTest_busy (s := s.stamp t) run seat x busy)

theorem execRunTest_starts {k : TestKind} {x : Bool} {e : State} (h : s.receiving l = true) (run : s.running = true)
    (seat : s.seat = some l) (idle : s.test = none) (free : k = .readback → s.commit = none)
    (starts : (s.stamp t).startTest k x = some e) :
    exec (.runTest t l (u1 k.code ++ yesNo x)) s = .next (e.replied l 0x60 (u1 k.code ++ yesNo x) (u1 k.code ++ yesNo x)) :=
  State.request_replied (rule := ruleRunTest l (u1 k.code ++ yesNo x)) h (runTest_length k x)
    (ruleRunTest_starts (s := s.stamp t) run seat idle free starts)

/-- RUN_TEST of a rail cycle that the rail takes (R79, R215). -/
theorem execRunTest_cycle {x : Bool} (h : s.receiving l = true) (run : s.running = true) (seat : s.seat = some l)
    (idle : s.test = none) (state : s.rail.state = .parked) (votes : s.rail.votes.any = false) : ∃ s' : State,
      exec (.runTest t l (u1 1 ++ yesNo x)) s = .next (s'.replied l 0x60 (u1 1 ++ yesNo x) (u1 1 ++ yesNo x)) ∧
      s'.test = some { continuous := x, run := .railCycle } ∧ s'.runs = 0 ∧ s'.rail.state = .testing .inward 0 0 ∧
      (s'.rail.drive.isSome = true ↔ s.rail.quiet.quiet = true ∨ s.rail.drive.isSome = true) := by
  let begun : State := State.beginRun { s.stamp t with runs := 0 } .railCycle x
  have htaken : (s.stamp t).startTest .railCycle x = some (begun.enterRail (.testing .inward 0 0)).settle :=
    State.takeCycle_taken (s := begun) state votes
  obtain ⟨hstate, hdrive⟩ := begun.beginCycle
  have hframe := (begun.enterRail_frame (.testing .inward 0 0)).trans (State.settle_frame _)
  unfold RailFrame at hframe
  refine ⟨_, execRunTest_starts (k := .railCycle) h run seat idle nofun htaken, (congrArg State.test hframe :),
    (congrArg State.runs hframe :), hstate, hdrive⟩

theorem execStopTest_stops {x : Test} (h : s.receiving l = true) (run : s.running = true) (seat : s.seat = some l)
    (hx : s.test = some x) : exec (.stopTest t l []) s =
      .next (((s.stamp t).abortTest 1).replied l 0x61 [] (u2 ((s.stamp t).abortTest 1).runs)) :=
  State.request_replied (rule := ruleStopTest l []) (p := []) h (by simp) (ruleStopTest_stops (s := s.stamp t) run seat hx)

/-! ### The events of a rail cycle -/

/-- The rail of the command is that of a cycle, and what is told is told now. -/
structure State.InCycle (s : State) (t : Time) (c : Bool) (phase : Travel) (a b : Nat) (y : State) : Prop where
  test : y.test = some { continuous := c, run := .railCycle }
  state : y.rail.state = .testing phase a b
  votes : y.rail.votes = s.rail.votes
  journal : y.journal = s.journal
  runs : y.runs = s.runs
  now : y.now = t

/-- The events that fault a cycle (R67, R74 to R76). -/
def State.Faults (s : State) (t : Time) (i : Instr) (cause : RailFault) : Prop :=
  i = .stall t ∧ cause = .stall ∧ (∃ g : Segment, s.rail.drive = some g ∧ 40000 ≤ (t - g.lastEdge).toNat) ∨
  i = .timeout t ∧ cause = .timeout ∧ (∃ g : Segment, s.rail.drive = some g ∧ 1500000 ≤ (t - g.start).toNat) ∨
  i = .encoderEdge t .inward ∧ cause = .overtravel ∧ s.rail.drive.isSome = true ∧ s.rail.stop = false ∧
    s.rail.count < 32767 ∧ (∃ n : Nat, s.rail.segCount = some n ∧ (n : Int) + 200 ≤ s.rail.count) ∨
  i = .endSwitchDebounced t .park ∧ cause = .switches ∧ ((s.rail.rawSwitch .park).on = true ∧ s.rail.madeSwitch .park = false ∧
    5000 ≤ (t - (s.rail.rawSwitch .park).since).toNat) ∧ s.rail.stop = true

theorem exec_faults {i : Instr} {cause : RailFault} (h : s.Faults t i cause) (htest : s.test = some { continuous := c, run := .railCycle })
    (hst : s.rail.state = .testing phase a b) (decided : s.rail.decided = true) :
    ∃ y : State, exec i s = .next (y.railFault cause) ∧ s.InCycle t c phase a b y := by
  have hstamped : s.InCycle t c phase a b (s.stamp t) := ⟨htest, hst, rfl, rfl, rfl, rfl⟩
  rcases h with ⟨rfl, rfl, g, hg, hdue⟩ | ⟨rfl, rfl, g, hg, hdue⟩ | ⟨rfl, rfl, hdrive, hopen, hhigh, n, hseg, hbeyond⟩ |
    ⟨rfl, rfl, ⟨hon, hopened, hdue⟩, hstop⟩
  · have hyes : (s.stamp t).rail.stalled t = true := (Rail.stalled_eq hg t).trans ((reached_iff _ _ _).mpr hdue)
    refine ⟨s.stamp t, ?_, hstamped⟩
    simp only [exec, execStall, State.whenDue, hyes, if_true]
  · have hyes : (s.stamp t).rail.timedOut t = true := (Rail.timedOut_eq hg t).trans ((reached_iff _ _ _).mpr hdue)
    refine ⟨s.stamp t, ?_, hstamped⟩
    simp only [exec, execTimeout, State.whenDue, hyes, if_true]
  · obtain ⟨g, hg⟩ := Option.isSome_iff_exists.mp hdrive
    have hcount : ((s.stamp t).edgeCounted .inward).rail.count = s.rail.count + 1 := by
      change countEdge s.rail.count .inward = _
      have hbound : (-32768 : Int) ≤ s.rail.count := by omega
      rw [countEdge_eq]
      simp only []
      omega
    have hover : ((s.stamp t).edgeCounted .inward).rail.overtravelled = true :=
      Rail.overtravelled_eq_true (m := n) hseg (.inr ⟨by rw [hcount]; omega, hopen⟩)
    have hjudges : (s.stamp t).rail.state.judgesTravel = true := by
      change s.rail.state.judgesTravel = true
      rw [hst]
      rfl
    exact ⟨(s.stamp t).edgeCounted .inward, congrArg Host.Outcome.next (State.edgeSeen_faults (s := s.stamp t) hg hjudges hover),
      ⟨htest, hst, rfl, rfl, rfl, rfl⟩⟩
  · have hexec := execEndSwitchDebounced_due (s := s) (x := .park) (t := t) (by rw [hon, hopened]; nofun) hdue
    rw [hon] at hexec
    have hfault : s.rail.state.isFault = false := by rw [hst]; rfl
    have hswitch := State.switchChanged_faults (s := (s.stamp t).setRail (s.rail.putMade .park true)) (x := .park) (made := true)
      decided hfault (by change (true && s.rail.stop) = true; rw [hstop]; rfl)
    rw [hswitch] at hexec
    exact ⟨_, hexec, ⟨htest, hst, rfl, rfl, rfl, rfl⟩⟩

/-- The events that end a cycle's outward phase (R66, R80). -/
def State.EndsOutward (s : State) (t : Time) (i : Instr) : Prop :=
  i = .indexPulse t ∨ i = .endSwitchDebounced t .park ∧ ((s.rail.rawSwitch .park).on = true ∧ s.rail.madeSwitch .park = false ∧
    5000 ≤ (t - (s.rail.rawSwitch .park).since).toNat) ∧ s.rail.stop = false

theorem exec_endsOutward {i : Instr} (h : s.EndsOutward t i) (htest : s.test = some { continuous := c, run := .railCycle })
    (hst : s.rail.state = .testing .outward a b) (decided : s.rail.decided = true) :
    ∃ y : State, exec i s = .next y.testOutwardDone ∧ s.InCycle t c .outward a b y ∧ y.rail.stop = s.rail.stop ∧
      y.rail.quiet = s.rail.quiet ∧ y.rail.drive = s.rail.drive := by
  rcases h with rfl | ⟨rfl, ⟨hon, hopened, hdue⟩, hstop⟩
  · have hindex : (s.stamp t).indexSeen = ((s.stamp t).setRail { s.rail with count := 0 }).testOutwardDone := by
      unfold State.indexSeen
      refine (if_pos decided).trans ?_
      simp only [State.setRail, State.stamp_rail, hst]
    exact ⟨_, congrArg Host.Outcome.next hindex, ⟨htest, hst, rfl, rfl, rfl, rfl⟩, rfl, rfl, rfl⟩
  · have hexec := execEndSwitchDebounced_due (s := s) (x := .park) (t := t) (by rw [hon, hopened]; nofun) hdue
    rw [hon] at hexec
    have hswitch : State.switchChanged ((s.stamp t).setRail (s.rail.putMade .park true)) .park true =
        ((s.stamp t).setRail (s.rail.putMade .park true)).testOutwardDone := by
      unfold State.switchChanged
      refine (if_pos decided).trans ?_
      simp only [State.setRail, Rail.putMade, hst, hstop, Bool.and_false, Bool.false_eq_true, if_false]
    rw [hswitch] at hexec
    exact ⟨_, hexec, ⟨htest, hst, rfl, rfl, rfl, rfl⟩, rfl, rfl, rfl⟩

/-- The turn of a cycle at the stop switch (R80). -/
theorem exec_turns (made : (s.rail.rawSwitch .stop).on = true ∧ s.rail.madeSwitch .stop = false ∧
    5000 ≤ (t - (s.rail.rawSwitch .stop).since).toNat) (opened : s.rail.park = false) (decided : s.rail.decided = true)
    (hst : s.rail.state = .testing .inward a b) :
    exec (.endSwitchDebounced t .stop) s = .next ((s.stamp t).setRail { s.rail with stop := true }).testInwardDone := by
  obtain ⟨hon, hopened, hdue⟩ := made
  have hexec := execEndSwitchDebounced_due (s := s) (x := .stop) (t := t) (by rw [hon, hopened]; nofun) hdue
  rw [hon] at hexec
  rw [hexec]
  unfold State.switchChanged
  refine congrArg Host.Outcome.next ((if_pos decided).trans ?_)
  simp only [State.setRail, Rail.putMade, hst, opened, Bool.false_and, Bool.false_eq_true, if_false]

end Commands

/-- Settles O49: the requests by their rules, the readback and the scan by the end of their run, and a rail cycle by the chain of
entries that each of its events begins. -/
theorem testsRunAndEnd : Obligations.TestsRunAndEnd := by
  intro t l s ended
  refine ⟨fun h run seat => ⟨fun k x busy => execRunTest_busy h run seat x (.inl busy), fun x idle => ⟨?_, ?_, ?_, ?_⟩, fun idle => ?_,
    fun x hx hkind => ?_⟩, fun x image since hx => ⟨fun n hn hsame hdiffer => ?_, fun hsame => ?_, fun early => ?_, fun due => ?_⟩,
    fun hother => ⟨?_, ?_⟩, fun x phase a b htest hst decided room => ?cycle, fun k r x judged failing run htest => ?scan⟩
  · exact execRunTest_starts (k := .sensorScan) h run seat idle nofun rfl
  · exact execRunTest_starts (k := .tone) h run seat idle nofun rfl
  · exact ⟨fun hcommit => execRunTest_busy (k := .readback) h run seat x (.inr ⟨rfl, hcommit⟩),
      fun hcommit => execRunTest_starts (k := .readback) h run seat idle (fun _ => hcommit) rfl⟩
  · refine ⟨fun hrefused => ?_, fun state votes => execRunTest_cycle h run seat idle state votes⟩
    exact State.request_denied (rule := ruleRunTest l (u1 1 ++ yesNo x)) h (runTest_length .railCycle x)
      (ruleRunTest_refused (s := s.stamp t) (k := .railCycle) run seat idle nofun
        (State.takeCycle_refused (s := State.beginRun { s.stamp t with runs := 0 } .railCycle x) hrefused))
  · exact State.request_denied (rule := ruleStopTest l []) (p := []) h (by simp) (ruleStopTest_idle (s := s.stamp t) run seat idle)
  · obtain ⟨hnone, hruns, htone, hended⟩ := State.abortTest_aborts (s := s.stamp t) (detail := 1) hx hkind
    have hexec := execStopTest_stops h run seat (t := t) hx
    rw [hruns] at hexec
    exact ⟨_, hexec, hnone, hruns, htone, hended⟩
  · have hdone : (s.stamp t).readbackDone = (s.stamp t).endRun 1 (n / 16) (.offset n) := by
      simp only [State.readbackDone, State.readback_of_test (s := s.stamp t) hx,
        show firstDifference image (s.stamp t).eeprom = some n from firstDifference_some hn hsame hdiffer]
      rfl
    have hfails := State.endRun_fails (s := s.stamp t) (code := 1) (detail := n / 16) (m := .offset n) hx (by decide)
    rw [← hdone] at hfails
    exact ⟨_, rfl, hfails⟩
  · exact ⟨_, rfl, State.readbackDone_passes (s := s.stamp t) hx hsame⟩
  · refine congrArg Host.Outcome.next ?_
    simp only [State.readbackExpires, State.readback_of_test (s := s.stamp t) hx]
    exact if_neg (Bool.not_eq_true _ ▸ (reached_eq_false _ _ _).mpr early)
  · have hdone : (s.stamp t).readbackExpires = (s.stamp t).endRun 2 0 .none := by
      simp only [State.readbackExpires, State.readback_of_test (s := s.stamp t) hx]
      exact if_pos ((reached_iff _ _ _).mpr due)
    have hfails := State.endRun_fails (s := s.stamp t) (code := 2) (detail := 0) (m := .none) hx (by decide)
    rw [← hdone] at hfails
    exact ⟨_, rfl, hfails⟩
  · refine congrArg Host.Outcome.next ?_
    simp only [State.readbackDone, State.readback_of_other (s := s.stamp t) hother]
    rfl
  · refine congrArg Host.Outcome.next ?_
    simp only [State.readbackExpires, State.readback_of_other (s := s.stamp t) hother]
    rfl
  case cycle =>
    intro driven railRecord testRecord result becomesMade reached
    refine ⟨fun hphase hmade hopened => ?turn, fun i hphase hi => ?ends, fun i cause hi => ?fault, fun h run seat => ?stop⟩
    case turn =>
      subst hphase
      have hexec := exec_turns hmade hopened decided hst
      have hgoes := State.testInwardDone_goes (s := (s.stamp t).setRail { s.rail with stop := true }) hst
      have hframe := hgoes.frame
      unfold RailFrame at hframe
      refine ⟨_, hexec, (congrArg State.test hframe :), (congrArg State.runs hframe :), (congrArg State.lastResult hframe :), ?_, ?_⟩
      · exact hgoes.notes.journal_of_room (Nat.le_trans (Nat.add_le_add_right room 1) (by decide))
      · rw [hgoes.rail]
        rfl
    case ends =>
      subst hphase
      intro passed
      obtain ⟨y, hexec, hy, hstop, hquiet, hdrive⟩ := exec_endsOutward hi htest hst decided
      have hends := State.parkedAndPassed hy.test (.travel (a / 1000) ((b + y.rail.driven y.now) / 1000))
      have hdriven : y.rail.driven y.now = driven := by
        rw [Rail.driven, hdrive, hy.now]
        rfl
      have hroom {n : Nat} (hn : n ≤ 4) : y.journal.length + n ≤ 512 := by
        rw [hy.journal]
        omega
      rw [State.testOutwardDone_eq hy.state] at hexec
      rw [hdriven] at hends hexec
      obtain ⟨hruns, hcount⟩ := State.followed_keeps (s := y.arriveParked.finishRun 0 0 (.travel (a / 1000) ((b + driven) / 1000)) true)
        (by rw [hends.test]; cases x <;> simp)
      refine ⟨_, hexec, ?_, fun hopened => ?_, fun hx => ?_, fun hx hvotes => ?_, fun hx hvotes => ?_, fun hx hvotes hbusy => ?_⟩
      · rw [hruns, hends.runs, hy.runs]
      · exact hcount (by rw [hends.rail]; exact hstop.trans hopened) (by rw [hends.rail])
      · subst hx
        obtain ⟨hnone, hlast, -⟩ := State.followed_single hends
        exact ⟨hnone, hlast⟩
      · subst hx
        obtain ⟨-, -, hkept⟩ := State.followed_single hends
        rw [hkept (by rw [hy.votes]; exact hvotes), hends.rail, hends.notes.journal_of_room (hroom (by simp)), hy.journal, hy.now,
          hy.votes]
        exact ⟨rfl, rfl, rfl⟩
      · subst hx
        obtain ⟨hstate, hagain, hlast, hnotes⟩ := State.followed_again hends (by rw [hy.votes]; exact hvotes)
        have hjournal := hnotes.journal_of_room (hroom (by simp))
        rw [hy.journal, hy.now, hy.votes] at hjournal
        exact ⟨hstate, hagain.trans htest.symm, hlast, hjournal⟩
      · subst hx
        obtain ⟨hstate, hnone, hlast, hnotes⟩ := State.followed_blocked hends (by rw [hy.votes]; exact hvotes) (by rw [hquiet]; exact hbusy)
        have hjournal := hnotes.journal_of_room (hroom (by simp))
        rw [hy.journal, hy.now, hy.votes] at hjournal
        rw [hy.now] at hstate
        exact ⟨hstate, hnone, hlast, hjournal⟩
    case fault =>
      obtain ⟨y, hexec, hy⟩ := exec_faults hi htest hst decided
      obtain ⟨hfault, hdrive, hnone, hlast, hruns, hnotes⟩ := State.railFault_testing hy.test hy.state cause
      intro code detail
      have hcode : cause.code = code := by cases cause <;> rfl
      have hdetail : travelDetail phase = detail := by cases phase <;> rfl
      have hjournal := hnotes.journal_of_room (by rw [hy.journal]; exact Nat.le_trans (Nat.add_le_add_right room 2) (by decide))
      rw [hy.journal, hy.now, hy.votes] at hjournal
      rw [hcode, hdetail] at hlast hjournal
      rw [hy.runs] at hruns
      exact ⟨_, hexec, hfault, hdrive, hnone, hlast, hruns, hjournal⟩
    case stop =>
      obtain ⟨hrail, hnone, hruns, hlast, hnewest⟩ := State.abortTest_cycle (s := s.stamp t) htest hst 1
      have hexec := execStopTest_stops h run seat (t := t) htest
      rw [hruns] at hexec
      refine ⟨_, hexec, hnone, hruns, hlast, hnewest, fun hmotor => ?_, fun hquiet => ?_⟩
      · have hvote : VoteLaw s.rail := by
          unfold VoteLaw
          rw [hst]
          trivial
        rw [hrail]
        obtain ⟨⟨hmotor', hvote'⟩, -⟩ := State.abortCycle_fit (s := s.stamp t) ⟨hmotor, hvote⟩ (by
          change s.rail.state.name = .testing
          rw [hst]
          rfl)
        exact ⟨hvote', hmotor'⟩
      · rw [hrail, State.abortCycle_rail (s := s.stamp t) hst hquiet]
        rfl
  case scan =>
    intro cal judged' failing' n first detail
    obtain ⟨hscan, hytest, hruns, hlast, hnow⟩ := State.keyReading_scans (s := s.stamp t) run k r.val
    have hexec : exec (.keyDepthReading t k r) s = .next ((s.stamp t).keyReading k r.val) := rfl
    rw [hscan] at hexec
    generalize (s.stamp t).restTold ((s.stamp t).trackerReading k r.val) k = y at *
    have hy : y.test = some { continuous := x, run := .sensorScan judged failing } := hytest.trans htest
    refine ⟨_, hexec, fun hagain => ?_, fun hfirst hmore => ?_, fun hfirst hall => ?_⟩
    · rw [State.scanReading_again hy hagain]
      exact ⟨hytest, hlast, hruns⟩
    · rw [State.scanReading_judges hy hfirst, if_neg hmore]
      exact ⟨rfl, hlast, hruns⟩
    · rw [State.scanReading_judges hy hfirst, if_pos hall]
      have hends := State.endScan_ends (s := { y with test := some { continuous := x, run := .sensorScan judged' failing' } })
        (n := n) (detail := detail) (m := .scan n first) rfl
      obtain ⟨hresult, hcounted, hnext, hnewest, hlatched⟩ := hends
      refine ⟨hresult, ?_, hnext, ?_, hlatched⟩
      · exact hcounted.trans (by rw [show y.runs = s.runs from hruns])
      · exact hnewest.trans (by rw [show y.now = t from hnow])

end Sys2Proof.Machine
end
